-- ==== Sys2Proof/Word.lean ====
section
/-! DEFINITION. Bytes, little-endian words (R74), two's complement numbers and saturating counters: the plainest
arithmetic the rest of the model is written with. -/

namespace Sys2Proof

/-- One byte of a container, a page, a record or host memory. -/
abbrev Byte := BitVec 8

/-- A register field's address: its unit address (R46), window offset and lowest bit, as one number. -/
abbrev RegKey := Nat

/-- A sparse table: pairs of a key and a value, in rising order of key, no pair holding the table's default value. -/
abbrev Bank (V : Type) := List (Nat × V)

/-- The low `n` bytes of `v`, lowest first (R74). -/
def leBytes : Nat → Nat → List Byte
  | 0, _ => []
  | n + 1, v => BitVec.ofNat 8 v :: leBytes n (v / 256)

/-- The number that a little-endian byte string spells (R74). -/
def leVal : List Byte → Nat
  | [] => 0
  | b :: bs => b.toNat + 256 * leVal bs

/-- `v` read as a signed number of `w` bits. -/
def signed (w v : Nat) : Int :=
  if v < 2 ^ (w - 1) then (v : Int) else (v : Int) - 2 ^ w

/-- The `w`-bit two's complement code of `x`. -/
def codeOf (w : Nat) (x : Int) : Nat := (x % (2 ^ w : Int)).toNat

/-- `x` held between `lo` and `hi`. -/
def clamp (lo hi x : Int) : Int := max lo (min hi x)

/-- Bit `i` of `v`. -/
def bit (v i : Nat) : Bool := v.testBit i

/-- 1 for true, 0 for false. -/
def b2n (b : Bool) : Nat := if b then 1 else 0

/-- The quotient rounded up. -/
def ceilDiv (a b : Nat) : Nat := (a + b - 1) / b

/-- A device that discovery of the medium finds on a channel and chip select (R376, R378, R380, R388): the highest 8D-8D-8D clock in
MHz, 4-byte addressing, density in bytes and writes in place as its SFDP tables declare them, whether the SFDP signature read the same
after the switch, its two label frames as read, and the factory defect list as first and last byte addresses. -/
structure FoundDevice where
  ch : Nat
  cs : Nat
  mhz : Nat
  addr4 : Bool
  density : Nat
  inPlace : Bool
  confirmed : Bool
  frames : List (List Byte)
  defects : List (Nat × Nat)
  deriving DecidableEq, Repr

/-- Where an SRAM word lies (R34, R37): its region, and what of it the word concerns. -/
inductive SramWord where
  /-- elastic buffer of a link -/
  | link (u : Nat)
  /-- state of a band cell -/
  | cell (c : Nat)
  /-- alignment buffer of a band cell or a Combiner -/
  | align (u : Nat)
  /-- Damper state of path `p` of section `s` -/
  | damper (s p : Nat)
  /-- Capture Ring of section `s` -/
  | ring (s : Nat)
  /-- bit-stream shadow -/
  | shadow
  /-- zone map -/
  | zoneMap
  /-- record queue slot -/
  | record (slot : Nat)
  /-- capture staging -/
  | captures
  /-- general media staging, with a command's data -/
  | media (tag : Nat)
  /-- descriptors and state of a queue pair -/
  | queues (q : Nat)
  deriving DecidableEq, Repr

/-- What a datapath check has compared (R475 to R477). -/
inductive Finding where
  /-- an array's residue modulo 3, and the one predicted for it (R476) -/
  | residue (a b : Nat)
  /-- one group of 64 cell samples: the power sums of the gain stage and the squelch gate, and of their reduced-precision shadow, in
  units of 2^−46 -/
  | shadow (p q : Nat)
  /-- a cell output sample, in units of 2^−23 -/
  | output (re im : Int)
  /-- a word between Combiner and framer with its parity, or the framer's output and what the local 8b/10b decode returns: what stood
  there, and what should have -/
  | word (a b : Nat)
  deriving DecidableEq, Repr

end Sys2Proof
end

