-- ==== Sys2Proof/Syntax.lean ====
section
/-! DEFINITION. The block's commands: one constructor per row of spec/opcode_table.json, with the row's operands. `t` is the
Device Time of a hardware event, `u` a unit address (R46), `s` a section, `k` a group, carrier or entry index. -/

namespace Sys2Proof

/-- A command from outside the block or an event of its hardware, as the opcode table lists them. -/
inductive Instr where
  /-- R80: Assertion of PORST_N takes the device to Cold at once and ends every command without completion. -/
  | porstNAssert (ns : Nat)
  /-- R484: Deassertion of PORST_N starts the variant record read, the identity derivation and the AUTOBOOT sampling. -/
  | porstNDeassert (autoboot : Bool)
  /-- R80: Assertion of RESET_N takes the device to Cold without repeating the identity derivation. -/
  | resetNAssert (ns : Nat)
  /-- R493: Deassertion of RESET_N samples AUTOBOOT and restarts the device from Cold. -/
  | resetNDeassert (autoboot : Bool)
  /-- R505: The internal detector treats VDD_CORE or VDD_IO below its threshold as PORST_N asserted within 2 µs. -/
  | supplyLossDetect (coreMv : Nat) (ioMv : Nat)
  /-- R326: The PUF seed recovery and key derivation ends, setting ID_DONE and ID_OK, or activating the identity source. -/
  | identityDerivationDone (seed : List Byte)
  /-- R20: The root PLL locks on the classified REFCLK, and the control domain switches glitch-free off the RC oscillator. -/
  | rootLock (khz : Nat)
  /-- R24: PLL loss of lock or a root monitor trip mutes the device, moves control to the RC oscillator and enters Ember with clock cause. -/
  | rootFailure (t : Nat) (lostLock : Bool) (count : Nat) (khz : Nat)
  /-- R31: After a root failure the root relocks at the newly classified multiplier, and the Time Base arms alignment. -/
  | rootRelock (cycles : Nat) (khz : Nat)
  /-- R23: A 3,200-root-cycle monitor window ends and each divided clock count is checked against its expectation. -/
  | clockMonitorWindow (t : Nat) (counts : List Nat)
  /-- R44: The RC oscillator frequency is measured against the root every 1 ms and stored in RC_FREQ. -/
  | rcFreqMeasure (t : Nat) (freq : Nat)
  /-- R28: A SYSREF edge is sampled, counted, stamped, repeated on SYSREF_OUT and used for alignment or the phase check. -/
  | sysrefEdge (t : Nat) (high : Nat)
  /-- R28: A write of TB.ALIGN_CTRL.ARM arms SYSREF alignment in Banked or Service. -/
  | alignArm
  /-- R33: A read of TB.DT_LO latches DT_HI and the wall time fields from the same dt. -/
  | dtLoRead
  /-- R33: A read of TB.EDGE_DT_LO latches EDGE_DT_HI. -/
  | edgeDtLoRead
  /-- R93: A read of MC.MODE_DT_LO latches MODE_DT_HI. -/
  | modeDtLoRead
  /-- R142: A read of a band cell SYNC_DT_LO latches SYNC_DT_HI. -/
  | syncDtLoRead (c : Nat)
  /-- R142: A read of BLK_RX_LO latches the other block stamp words of the same block. -/
  | blkRxLoRead (c : Nat)
  /-- R160: A read of the band cell power word latches the other power and average words of the same block. -/
  | pRawRead (c : Nat)
  /-- R114: A read of a lane checker WORDS_LO latches WORDS_HI. -/
  | wordsLoRead (u : Nat) (lane : Nat)
  /-- R274: A read of a Sync Detector carrier MARK_LO latches MARK_HI. -/
  | markLoRead (sec : Nat) (k : Nat)
  /-- R321: A read of CC.DIR_SEQ_LO latches DIR_SEQ_HI. -/
  | dirSeqLoRead
  /-- R321: A read of a slot block VER_LO latches VER_HI. -/
  | verLoRead (role : Nat)
  /-- R298: A read of CE.SET_SEQ_LO latches SET_SEQ_HI. -/
  | setSeqLoRead
  /-- R348: A read of CY.NONCE_DT_LO latches NONCE_DT_HI. -/
  | nonceDtLoRead
  /-- R374: A read of HP.ERR_ADDR_LO latches ERR_ADDR_HI. -/
  | errAddrLoRead
  /-- R405: A read of WS.JSEQ_LO latches JSEQ_HI. -/
  | jseqLoRead
  /-- R434: A read of EV.NEXT_SEQ_LO latches NEXT_SEQ_HI. -/
  | nextSeqLoRead
  /-- R434: A read of EV.HW_SEQ_LO latches HW_SEQ_HI. -/
  | hwSeqLoRead
  /-- R434: A read of AUD_HEAD_SEQ_LO or OP_HEAD_SEQ_LO latches its high word. -/
  | headSeqLoRead (operational : Bool)
  /-- R463: A read of a Housekeeping ADC result's first word latches its other words. -/
  | hkResultRead (e : Nat)
  /-- R54: A host write to a register without behaviour of its own sets its fields or is rejected as a whole with a cause. -/
  | registerWrite (u : Nat) (off : Nat) (v : Nat) (be : Nat)
  /-- R49: A write to an offset outside any present unit window, or to BAR4, is discarded and counted in UNMAPPED_WR. -/
  | unmappedWrite (bar : Nat) (a : Nat)
  /-- R60: A write of 1 to UNIT_STATUS.WRITE_REJECT clears it and REJECT_CNT. -/
  | writeRejectClear (u : Nat) (v : Nat) (be : Nat)
  /-- R65: A W1C write to ERR_PEND or ERR_PEND_HI clears pending bits, re-arms ERR_FIRST and may release W1C mutes. -/
  | errPendClear (u : Nat) (hi : Bool) (bits : Nat) (be : Nat)
  /-- R69: A write of ERR_ACK.ACK stops the grace timer and acknowledges all Degrade events so far. -/
  | errAck (u : Nat) (v : Nat) (be : Nat)
  /-- R59: A write of UNIT_CTRL.CNT_CLEAR zeroes every counter that the unit marks as cleared by CNT_CLEAR. -/
  | cntClear (u : Nat) (v : Nat) (be : Nat)
  /-- R70: The grace timer expires and every unacknowledged Degrade event is escalated to a mute. -/
  | graceExpiry (u : Nat)
  /-- R472: The FAULT_N hardware phase runs out, and the pin then follows FAULT_PIN_SW.SW. -/
  | faultPhaseEnd
  /-- R472: A write of FAULT_PIN_SW.SW sets the FAULT_N level outside the hardware phase. -/
  | faultPinSwWrite (v : Nat) (be : Nat)
  /-- R87: The MODE-REQUEST command is checked in order and either refused with a result or carries out its transition. -/
  | modeRequest (tag : Nat) (data : List Byte)
  /-- R80: With AUTOBOOT high, the device leaves Cold for Kindling once the root is locked and the medium is discovered. -/
  | autobootKindling
  /-- R312: On entry to Kindling the Config Controller reads the directory, chooses a slot and writes BOOT_TRIES. -/
  | kindlingEntry
  /-- R313: The chosen slot has been read into the shadow and is validated, applied, or fails the attempt. -/
  | kindleSlotLoaded (ok : Bool)
  /-- R209: The Protection Engines' built-in test ends, passing or failing the Kindling attempt. -/
  | peSelftestDone (failed : List Nat) (other : Bool) (okA : Bool) (okB : Bool)
  /-- R80: With the configuration applied, links synchronised and alignment achieved, Kindling ends in Banked. -/
  | kindlingComplete
  /-- R91: KINDLE_TIMEOUT expires, and the failure reverts to the other slot or goes to Cold with cause 0x18. -/
  | kindleTimeout
  /-- R83: The Ember holdoff runs out, and the device retries if no Ember cause is active. -/
  | emberHoldoffExpiry
  /-- R83: After the holdoff, the last active Ember cause clears and the device returns to its return mode. -/
  | emberRetry
  /-- R93: All Backoff causes stay clear for BACKOFF_DWELL, and the device returns from Backoff to Carry. -/
  | backoffDwellExpiry
  /-- R195: The SURVEY command enters Survey, zeroes paths where set and starts the Survey timer. -/
  | survey (tag : Nat)
  /-- R197: The Survey timer expires, and the Survey ends with cause 0x21 and raises the unsettled source. -/
  | surveyTimerExpiry
  /-- R339: Device Time reaches the Service token EXPIRY_DT, and the device leaves Service for Banked with cause 0x28. -/
  | serviceTokenExpiry
  /-- R311: The STAGE command writes container bytes into the Staging slot and may start validation. -/
  | stage (tag : Nat) (data : List Byte) (ok : Bool)
  /-- R311: Validation of a staged slot ends, and the directory marks it STAGED or EMPTY. -/
  | stageValidationDone
  /-- R311: The COMMIT command rotates the slot roles by a directory write and puts the new Current on probation. -/
  | commit (tag : Nat)
  /-- R315: The CONFIRM command stops probation, writes the directory, then burns a pending profile and raises the floor. -/
  | confirm (tag : Nat)
  /-- R311: The REVERT command swaps Current and Previous by a directory write and enters Kindling. -/
  | revert (tag : Nat)
  /-- R310: A directory page write completes verified or failed, and the operation that needed it completes. -/
  | directoryWriteDone (ok : Bool) (okA : Bool) (okB : Bool)
  /-- R314: The probation timer reaches zero, and the device reverts automatically when Previous is usable. -/
  | probationExpiry
  /-- R314: A failed automatic revert directory write is retried every 1 s until it verifies. -/
  | revertWriteRetry
  /-- R317: A configuration scrub pass compares every configuration cell with the shadow and checks the shadow digest. -/
  | scrubPass (us : Nat) (words : List (Nat×Nat×Nat)) (digestBad : Bool)
  /-- R317: A reload of the shadow from the Current slot ends, passing or raising the Halt reload-failure source. -/
  | shadowReloadDone (ok : Bool)
  /-- R318: A triple-modular copy that disagrees is rewritten from the majority and the disagreement source is raised. -/
  | tmrDisagreement
  /-- R37: An SRAM read finds a single-bit error, which is corrected and counted, or a double-bit error, which draws its region's reaction. -/
  | sramEccError (w : SramWord) (double : Bool) (gaps : List (Nat×Nat×Nat×Nat))
  /-- R337: A write of CY.NONCE_CTRL.NEW replaces the nonce with fresh random bits and stamps NONCE_DT. -/
  | nonceNew
  /-- R334: The OWNER-ENROL command burns a new owner key into the lowest empty owner slot. -/
  | ownerEnrol (tag : Nat) (data : List Byte)
  /-- R334: The OWNER-REVOKE command burns the revoke marker of an owner slot. -/
  | ownerRevoke (tag : Nat) (data : List Byte)
  /-- R324: An OTP burn and its read-back end, verified or failed. -/
  | otpBurnDone (got : List Byte) (okA : Bool) (okB : Bool)
  /-- R342: The PROFILE-INSTALL command writes a profile object to PENDING, or restores it to ACTIVE. -/
  | profileInstall (tag : Nat) (data : List Byte) (ok : Bool)
  /-- R344: The ATTEST command queues a signed attestation statement over a sample of device state. -/
  | attest (tag : Nat)
  /-- R332: The signing engine completes a signature or verification and serves the next queued request. -/
  | signatureDone (ok : Bool)
  /-- R362: The SET-WALLCLOCK command is accepted and waits for its effective dt. -/
  | setWallclock (tag : Nat)
  /-- R32: At t_eff, wall time takes the new value, the epoch increments and a CLOCK_SET record is written. -/
  | wallclockApply
  /-- R354: A write to a submission queue tail doorbell advances the tail, or stops a queue pair on an out-of-range value. -/
  | sqDoorbell (q : Nat) (v : Nat)
  /-- R354: A write to a completion queue head doorbell frees completion entries. -/
  | cqDoorbell (q : Nat) (v : Nat)
  /-- R354: ENABLE rising latches a queue pair's bases, sizes and vector and resets its head, tail and phase. -/
  | queueEnable (q : Nat)
  /-- R371: ENABLE falling on a queue pair acts as a function level reset for that queue pair. -/
  | queueDisable (q : Nat)
  /-- R360: The Host Port fetches a command round-robin and checks it in order before passing it to its unit. -/
  | commandFetch (e : List Byte)
  /-- R364: A completed command's data, completion entry and MSI-X message are written to the host in order. -/
  | completionWrite
  /-- R374: The COAL_US delay of a queue pair runs out and its completion interrupt is sent. -/
  | coalesceTimerExpiry (q : Nat)
  /-- R365: A host memory access fails, ending its command with DMA_ERROR or stopping its queue pair. -/
  | dmaAccessFail (what : Nat) (n : Nat) (kind : Nat) (a : Nat)
  /-- R350: The UCIe link goes down, retrains or enters D3hot, and DMA and fetching are held. -/
  | ucieLinkDown (kind : Nat) (replays : Nat)
  /-- R350: The link returns to D0 with Bus Master Enable set, and held completions are written in completion order. -/
  | ucieLinkUp (width : Nat) (speed : Nat) (repaired : Nat)
  /-- R350: A Function Level Reset resets the Host Port only: queues are disabled and taps are closed. -/
  | flr
  /-- R367: The TAP-OPEN command opens a tap into a host ring after its bandwidth check. -/
  | tapOpen (tag : Nat)
  /-- R370: The TAP-CLOSE command writes the last complete segment and a closed status block. -/
  | tapClose (tag : Nat)
  /-- R368: A tap segment completes and is written with its header and status block, or skipped and counted LOST. -/
  | tapSegment (t : Nat) (feed : List (Nat×List Nat×List Nat))
  /-- R368: A write of a tap consumer count frees ring space. -/
  | tapConsumerDoorbell (t : Nat) (v : Nat)
  /-- R136: The SYNC-DECIMATORS command schedules a sync event at a SYSREF edge at least 64 dt later. -/
  | syncDecimators (tag : Nat)
  /-- R136: No SYSREF edge arrives within 2 × SYSREF_PERIOD, and the command completes with TIMEOUT. -/
  | syncDecimatorsTimeout (tag : Nat)
  /-- R136: A synchronised rising edge on SYNC_IN gives a sync event, or is counted as ignored in Survey, Carry and Backoff. -/
  | syncInEdge (t : Nat)
  /-- R135: The settling interval after a sync event ends, and SETTLING and any Service sync mute clear. -/
  | settlingEnd (c : Nat)
  /-- R107: A write of RXL.CTRL.RESYNC restarts a link from code-group synchronisation. -/
  | resync (u : Nat) (v : Nat) (be : Nat)
  /-- R104: The lanes of a link reach code-group synchronisation, and SYNC~ is deasserted at the next LMFC boundary. -/
  | cgsAchieved (u : Nat) (t : Nat)
  /-- R104: A received ILAS is checked for structure, configuration, FCHK, lane agreement and arrival against release. -/
  | ilasReceived (u : Nat) (t : Nat) (c0 : List Nat) (c1 : List Nat) (a0 : Nat) (a1 : Nat)
  /-- R104: 1 ms after an ILAS failure the link reasserts SYNC~ and starts again. -/
  | ilasRetryTimer (u : Nat)
  /-- R105: A lane detects a disparity, not-in-table, unexpected-K or misplaced alignment character, or loses synchronisation. -/
  | laneCharError (u : Nat) (t : Nat) (lane : Nat) (kind : Nat) (pos : Nat)
  /-- R106: LINK_HOLD runs out after a link has been back in the data phase, and the link mute releases. -/
  | linkHoldExpiry (u : Nat)
  /-- R108: A SYNC~ low run reaches N_REQ samples, and the TX link mutes its cells and restarts. -/
  | txSyncRequest (u : Nat) (t : Nat) (run : Nat)
  /-- R108: A SYNC~ low run shorter than N_REQ counts as an error report and may raise the Degrade source. -/
  | syncErrReport (u : Nat) (t : Nat) (run : Nat)
  /-- R111: A write to a lane's PAT_CFG selects a pattern and clears the checker and injection counters. -/
  | patCfgWrite (u : Nat) (lane : Nat) (v : Nat) (be : Nat)
  /-- R127: A write of STR_CTRL.RESP_SEL requests, replaces or cancels a response set switch. -/
  | respSelWrite (c : Nat) (v : Nat) (be : Nat)
  /-- R127: At a block boundary or sync event, both chains take the new response set at the same dt. -/
  | respSwitch (c : Nat)
  /-- R128: A cell completes a block of 256 samples, and the block's measurements and updates fall due. -/
  | blockEnd (c : Nat) (feed : List (Nat×List Nat×List Nat))
  /-- R161: A write to MEAS_CFG restarts both spectral averages at the next block boundary. -/
  | measCfgWrite (c : Nat) (v : Nat) (be : Nat)
  /-- R152: A write of GAIN_SET changes a cell's setpoint, which enters g_target within 1 µs. -/
  | gainSetWrite (c : Nat) (v : Nat) (be : Nat)
  /-- R151: The upward slew interval runs out, and G_APPLIED rises by 0.01 dB towards g_target. -/
  | gainSlewStep (c : Nat)
  /-- R155: The detector power stays at or above SQ_OPEN for SQ_ATTACK samples, and the squelch gate opens. -/
  | squelchOpen (c : Nat) (t : Nat) (feed : List (Nat×List Nat×List Nat))
  /-- R155: The detector power stays below SQ_CLOSE for SQ_RELEASE, and the squelch gate closes. -/
  | squelchReleaseExpiry (c : Nat) (t : Nat) (feed : List (Nat×List Nat×List Nat))
  /-- R162: A 4,096 dt window of power monitors A and B ends and the two readings are compared for mismatch. -/
  | powerMonitorWindow (u : Nat) (t : Nat) (a : Nat) (b : Nat)
  /-- R167: A Combiner interval of 65,536 link samples ends and PAR_IN, PAR_OUT and CFR_EVM update. -/
  | parIntervalEnd (u : Nat) (t : Nat) (feed : List (Nat×List Nat×List Nat))
  /-- R168: A 1 ms window in which a saturation count rose ends, and the saturation source fires once. -/
  | saturationWindow (u : Nat) (t : Nat) (feed : List (Nat×List Nat×List Nat))
  /-- R18: A Damper Slice receives a reference or probe word that fails parity, and mutes the affected receiving cells. -/
  | xbusParityFail (sec : Nat) (src : Nat)
  /-- R183: A hop of 32 cell samples ends and the Slice forms gradients and updates the taps and measurement averages. -/
  | damperHop (sec : Nat) (p : Nat) (h : Nat) (feed : List (Nat×List Nat×List Nat)) (residue : Bool)
  /-- R191: At each 1 ms multiple every path reports COUPLING, RESID, DEPTH and its other measures, and states are moved. -/
  | damperMeasurementUpdate (t : Nat)
  /-- R187: REFINE_HOLD runs out after a suspension, and the path returns to PROBE. -/
  | refineHoldExpiry (sec : Nat) (p : Nat)
  /-- R190: A write of DS.CTRL.ZERO_ALL zeroes every path of the Slice. -/
  | zeroAll (sec : Nat) (v : Nat) (be : Nat)
  /-- R202: A write of PATH_SEL selects the path shown in the path window and latches its snapshot. -/
  | pathSelWrite (sec : Nat) (v : Nat) (be : Nat)
  /-- R208: The Protection Engine comparator finds the two copies differing and mutes the whole section. -/
  | lockstepMismatch (sec : Nat)
  /-- R218: A 4 µs growth detector window ends and the detector trips on sustained narrowband growth. -/
  | growthWindowEnd (c : Nat) (t : Nat) (n : Nat) (sum : Nat) (re : Int) (im : Int)
  /-- R218: TRIP_HOLD runs out, and a growth, spectral or ceiling mute releases. -/
  | tripHoldExpiry (c : Nat) (k : Nat)
  /-- R216: MARGIN_HOLD runs out after a margin mute, allowing its release at the next delivery. -/
  | marginHoldExpiry (c : Nat)
  /-- R219: SPK_HOLD runs out, and the spectral gain cut g_spk is lifted. -/
  | spkHoldExpiry (c : Nat)
  /-- R229: Every 4,096 dt the band port power average and each cell's ceiling term are recomputed. -/
  | ceilingAvgUpdate (t : Nat)
  /-- R230: Every 256 dt the fast band power is checked, and the band's cells are muted above P_MAX + CEIL_FAST. -/
  | ceilingFastUpdate (t : Nat) (sums : List (Nat×Nat×Nat))
  /-- R221: No valid detection arrives for DONOR_HOLD, and the carrier becomes LOST and mutes its cells. -/
  | donorHoldExpiry (sec : Nat) (k : Nat)
  /-- R226: Frame lock has been absent, or present again, for SYNC_HOLD, and the TDD sync mute sets or releases. -/
  | syncHoldExpiry (sec : Nat) (car : Nat)
  /-- R225: Every 1 ms the uplink duty is recomputed, and the duty mute sets or releases. -/
  | dutyUpdate (t : Nat)
  /-- R228: Every 1 ms each cell's RF band is recomputed from live words and checked against the allow-list. -/
  | allowRecheck (t : Nat)
  /-- R242: A PSS correlation peak is detected and its time, power and peak value are delivered to the Protection Engines. -/
  | pssDetection (sec : Nat) (k : Nat) (t : Nat) (feed : List (Nat×List Nat×List Nat)) (residue : Bool)
  /-- R243: A carrier's search span ends and its flywheel updates lock, prediction and rate. -/
  | syncSearchEnd (sec : Nat) (k : Nat) (t : Nat)
  /-- R244: A frame mark of a carrier falls due from the flywheel and times the TDD tables. -/
  | frameMark (sec : Nat) (k : Nat)
  /-- R246: Once all its groups are outside Send and Switch, a carrier's new timeline is adopted and a held request is cancelled. -/
  | markJumpAdopt (sec : Nat) (k : Nat)
  /-- R252: A group enters radio operation and starts power-up with VDD_EN asserted. -/
  | groupPowerUp (sec : Nat) (k : Nat)
  /-- R252: 24,576 dt after VDD_EN, an FDD group asserts bias and moves through Switch into Send. -/
  | fddSendStart (sec : Nat) (k : Nat)
  /-- R252: 492 dt before a SEND entry, a TDD group enters Switch with BIAS_EN and TRSW asserted. -/
  | tddBiasLead (sec : Nat) (k : Nat) (e : Nat) (n : Nat)
  /-- R252: A group enters SendDL or SendUL, and its digital ramp-up begins. -/
  | sendStart (sec : Nat) (k : Nat)
  /-- R252: A SEND entry ends, and the group ramps down and enters Switch with bias released. -/
  | sendEnd (sec : Nat) (k : Nat)
  /-- R252: SWITCH_DT after a SEND entry ends, the group enters its Listen or rest state. -/
  | switchEnd (sec : Nat) (k : Nat)
  /-- R252: A LISTEN entry starts, and a TDD group enters its Listen state. -/
  | listenStart (sec : Nat) (k : Nat) (e : Nat) (n : Nat)
  /-- R252: A LISTEN entry ends, and a TDD group returns to its rest state. -/
  | listenEnd (sec : Nat) (k : Nat) (e : Nat) (n : Nat)
  /-- R254: A write of OFF_REQ starts an orderly power-down, or with 0 returns the group to power-up. -/
  | offReqWrite (sec : Nat) (k : Nat) (v : Nat) (be : Nat)
  /-- R254: A timed step of the orderly power-down falls due: ramp end, bias release or VDD_EN release. -/
  | powerDownStep (sec : Nat) (k : Nat)
  /-- R256: A qualified PA_ALARM input holds the group's cells muted. -/
  | paAlarm (sec : Nat) (p : Nat) (level : Bool)
  /-- R259: A synthesiser starts PROG, RECAL or RECOVER, and its dependent groups enter Settle. -/
  | synSequenceStart (sec : Nat) (y : Nat)
  /-- R259: A write of SYN_CTRL.RECAL requests a RECAL sequence on the selected synthesisers. -/
  | synRecalWrite (sec : Nat) (v : Nat) (be : Nat)
  /-- R258: A CSPI frame completes and the master proceeds to the next sequence entry or host transfer. -/
  | cspiFrameDone (sec : Nat) (m : Nat) (miso : Nat)
  /-- R259: A WAIT entry of a synthesiser sequence runs out and the sequence continues. -/
  | sequenceWaitExpiry (sec : Nat) (y : Nat)
  /-- R272: A write of the host CSPI GO bit starts one host frame on the named chip select. -/
  | cspiHostGo (sec : Nat) (v : Nat) (be : Nat)
  /-- R260: A synthesiser's settle timer expires, and the synthesiser becomes ready if lock is confirmed. -/
  | settleTimerExpiry (sec : Nat) (y : Nat)
  /-- R260: LD stays high for LD_QUAL, and lock is confirmed. -/
  | ldQualified (sec : Nat) (y : Nat)
  /-- R261: LD low for 104 ns declares loss of lock, mutes dependent cells and runs RECOVER. -/
  | ldLoss (sec : Nat) (y : Nat)
  /-- R262: A held transmit request proceeds at the first legal boundary after its synthesiser is ready. -/
  | heldRequestProceed (sec : Nat) (k : Nat)
  /-- R262: A skipped FDD request is made again at S + SETTLE_BUDGET. -/
  | fddRequestRepeat (sec : Nat) (k : Nat)
  /-- R264: An RFFE transfer completes with parity and read-back checked, retried once on failure. -/
  | rffeTransferDone (sec : Nat) (m : Nat) (parityOk : Bool) (got : Nat)
  /-- R266: MM_HOLD runs out, and the mismatch mute releases. -/
  | mmHoldExpiry (sec : Nat) (k : Nat)
  /-- R267: Every TUNE_PERIOD a group starts a tuner code search over its enabled axes. -/
  | tunePeriod (sec : Nat) (k : Nat) (t : Nat)
  /-- R278: The CAL-RUN command starts a calibration run in a free run slot, or refuses it. -/
  | calRun (tag : Nat)
  /-- R278: Every AUTO_MIN minutes the Calibration Engine starts automatic runs on its configured targets. -/
  | autoCalStart
  /-- R280: Half A of a run ends and its estimate is formed, and half B begins. -/
  | calHalfEnd (k : Nat) (feed : List (Nat×List Nat×List Nat)) (parity : Bool)
  /-- R280: Half B ends and the run is checked in order and accepted, estimated or rejected with a reason. -/
  | calRunEnd (k : Nat) (feed : List (Nat×List Nat×List Nat)) (parity : Bool)
  /-- R285: At each 1 ms multiple the Steep moves each live value one step towards its target. -/
  | steepTick (t : Nat)
  /-- R288: Every 1 s the reference discipline forms two half-second errors and updates VT_TGT or discards the second. -/
  | refSecond (t : Nat)
  /-- R289: No second is accepted for DISC_HOLD, and REF_STATE goes to HOLD with temperature compensation. -/
  | refHoldEntry
  /-- R294: Once the Steep has reached an accepted target, a calibration set commit starts into the other slot. -/
  | calSetCommit
  /-- R293: A calibration set commit ends with its marker verified, or fails and sets STORE_ERR. -/
  | calSetCommitDone (ok : Bool)
  /-- R294: A failed calibration set commit is retried every 1 s. -/
  | calCommitRetry
  /-- R379: Medium discovery ends and the device set is classified, formatted or rebuilt, and READY sets. -/
  | discoveryDone (found : List FoundDevice) (setId : List Byte)
  /-- R383: A medium page read decodes Clean, Corrected or Lost. -/
  | pageRead (lz : Nat) (p : Nat) (e : List (Nat×Nat))
  /-- R383: A page write and its read-back verify end, with one retry before a grown defect. -/
  | pageWriteVerify (lz : Nat) (p : Nat) (refresh : Bool) (data : List Byte) (e1 : List (Nat×Nat)) (e2 : List (Nat×Nat)) (dest : Nat)
  /-- R399: A migration's pages are all verified at the destination and its journal page commits it. -/
  | migrationDone (src : Nat) (dest : Nat) (lost : List Nat)
  /-- R389: A medium command does not complete within 1 ms; three in a row declare the device failed. -/
  | mediaCommandTimeout (c : Nat) (k : Nat)
  /-- R391: The patrol reads the next in-use frame at its even pace. -/
  | patrolRead (z : Nat) (p : Nat) (e : List (Nat×Nat))
  /-- R398: A zone-map journal page of changes and snapshots is written to copy A and then copy B. -/
  | journalPageWrite (okA : Bool) (okB : Bool)
  /-- R513: Every 1 s, in idle bus time, the xSPI data strobe capture delay is retrained. -/
  | xspiDsRetrain (c : Nat) (delay : Nat)
  /-- R361: The MEDIA-READ command copies P4 pages to host memory. -/
  | mediaRead (tag : Nat) (es : List (Nat×List (Nat×Nat)))
  /-- R361: The MEDIA-WRITE command writes host data to P4 pages, write-verified. -/
  | mediaWrite (tag : Nat) (bytes : List Byte) (bad : List Nat)
  /-- R412: An open record's 1 s window ends, and it closes, is chained and is placed for commit. -/
  | recordClose
  /-- R413: When the queue allows a new record again, a LOSS record carrying the lost counts is created. -/
  | lossRecord
  /-- R414: After 4,096 closed records or 1 s a seal of the class is requested from the Caddy and placed in three slots. -/
  | sealDue (audit : Bool)
  /-- R417: At most every 100 ms a partial tail page is written to the alternate tail shadow. -/
  | tailShadowWrite (audit : Bool) (ok : Bool)
  /-- R417: A full page of records is written and verified into P1 or P2, and HW_SEQ rises. -/
  | recordPageCommit (audit : Bool) (ok : Bool) (parity : Bool)
  /-- R418: The P1 and P2 scan after reset ends, sets HW_SEQ, SEQ_BASE and the chain heads, and writes RESTART. -/
  | recordScanDone (lostPages : Nat)
  /-- R419: The READ-RECORDS command returns records of a partition from FROM_SEQ in SEQ order. -/
  | readRecords (tag : Nat)
  /-- R420: The FREEZE command with bit 0 set stops commits to P1 and P2 and starts the 10 s thaw timer. -/
  | freeze (tag : Nat)
  /-- R420: The FREEZE command with bit 0 clear thaws the recorder at once. -/
  | thaw (tag : Nat)
  /-- R420: 10 s after the last FREEZE the recorder thaws by itself. -/
  | freezeAutoThaw
  /-- R421: The CLEAR-RECORDS command with an accepted token clears the masked partitions behind a CLEAR record. -/
  | clearRecords (tag : Nat) (data : List Byte)
  /-- R421: A closed CLEAR record is written alone on page 0 of its partition and verified. -/
  | clearPageWritten (audit : Bool) (ok : Bool)
  /-- R363: The CAPTURE command reserves P3 pages and waits for its trigger. -/
  | capture (tag : Nat) (data : List Byte)
  /-- R440: A synchronised rising edge on a TRIG pin may start a housekeeping pass and trigger a capture. -/
  | trigEdge (p : Nat) (t : Nat)
  /-- R426: A 1,024-sample chunk of a capture falls due and is kept in staging, or entered in a gap. -/
  | captureChunk (tag : Nat) (j : Nat) (drained : Nat) (feed : List (Nat×List Nat×List Nat))
  /-- R427: With every sample taken or gapped and staging drained, the gap list and header are written and a CAPTURE record follows. -/
  | captureComplete (tag : Nat)
  /-- R363: No trigger arrives within TRIG_WAIT_S, and the capture completes with TIMEOUT. -/
  | captureTimeout (tag : Nat)
  /-- R430: A write of EV GO starts copying stored capture pages to capture staging. -/
  | captureReadGo
  /-- R430: A capture read copy ends and RD_STATE reads DONE or an error. -/
  | captureCopyDone (lost : Bool)
  /-- R424: A write to a Capture Ring RING_SRC entry changes its sources and discards the ring history. -/
  | ringSrcWrite (u : Nat) (k : Nat) (v : Nat) (be : Nat)
  /-- R439: At each 100 µs multiple a system sweep of VREF, ground, rails and on-die sensors starts. -/
  | systemSweep (t : Nat)
  /-- R440: At each TMR_US multiple a housekeeping sequence pass starts, or counts an overrun. -/
  | hkPassTimer (t : Nat)
  /-- R441: A write of URG_REQ requests urgent housekeeping slots, which abort a running sequence conversion. -/
  | urgReq (v : Nat) (be : Nat)
  /-- R441: DET_SETTLE after a Send start, an urgent slot with SRC 2 is requested. -/
  | urgentSendRequest (k : Nat)
  /-- R443: A housekeeping conversion ends, is corrected and converted, stamped and delivered. -/
  | hkConversionDone (raw : Nat)
  /-- R449: The remote-diode interface completes the measurement of one pair every 2 ms. -/
  | diodeMeasurement (p : Nat) (t : Nat) (isOpen : Bool) (isShort : Bool) (v1 : Int) (v2 : Int) (w1 : Int) (w2 : Int)
  /-- R453: NB_HOT stays at or above a threshold for 100 ms, and the neighbourhood enters the higher level. -/
  | throttleDwellExpiry (n : Nat) (l : Nat)
  /-- R454: FALL_HOLD runs out 10 s after a hot sensor failed, and the level may fall again. -/
  | fallHoldExpiry
  /-- R455: Every 100 ms the neighbourhood rate of rise is evaluated against RISE_LIM. -/
  | riseEval (t : Nat)
  /-- R456: Every 125 µs the native and external shutdown levels are evaluated. -/
  | shutdownEval (t : Nat)
  /-- R496: Loading an EXTEST-family instruction in Cold holds the device in Cold; in other modes BYPASS loads. -/
  | jtagExtestLoad
  /-- R104: The DAC deasserts the SYNC~ input of a TX link, which then sends ILAS from the next LMFC boundary and enters the data phase. -/
  | txSyncDeassert (u : Nat) (t : Nat)
  /-- R112: A lane pattern checker locks after 64 clean words, or loses lock on 16 errored words of 64, incrementing LOCK_LOSS and relocking. -/
  | patternCheckerLock (u : Nat) (lane : Nat) (words : List (Nat×Nat))
  /-- R346: The Caddy's random generator passes or fails its health tests, changing RNG_OK and raising or clearing the health condition source. -/
  | randomGeneratorHealth (ok : Bool)
  /-- R353: A host write that unmasks an MSI-X vector whose pending bit is set sends the pending message. -/
  | msixVectorUnmask (v : Nat)
  /-- R364: A configuration write clears Bus Master Enable, holding all DMA and command fetching under R350. -/
  | busMasterEnableClear
  /-- R496: Loading BYPASS or another non-EXTEST instruction, or resetting the TAP, ends the hold in Cold and lets the AUTOBOOT transition proceed. -/
  | jtagBypassLoad
  /-- R477: A residue failure, a shadow mismatch over 64-sample groups, or a Combiner-to-framer parity or decode mismatch fires BC 21, CB 18 or TXL 4 and mutes the affected cells. -/
  | datapathCheckFail (u : Nat) (f : Finding)
  /-- R475: The two mute fabric rails disagree at a band cell, TX link or Radio Control unit and fire its datapath check or pin readback source. -/
  | muteRailDisagreement (u : Nat) (k : Nat) (a : Bool) (b : Bool)
  /-- R477: A PAC pin's read-back level differs from its commanded level for 64 control-clock cycles, firing RC 8 and muting the group's cells. -/
  | pinReadbackMismatch (sec : Nat) (p : Nat) (level : Bool) (n : Nat)
  deriving DecidableEq, Repr

end Sys2Proof
end

