-- ==== Sys2Proof/Decode.lean ====
section
/-! DEFINITION. The commands that a word spells. The opcode table gives its rows no bits (every row's list of fields is
empty), so no word spells a command. -/

namespace Sys2Proof

/-- The command that the `nbits` bits of `w` spell by the opcode table: none, since no row of it has bits. -/
def decodeTableWord (_nbits _w : Nat) : Option Instr := none

end Sys2Proof
end

