-- ==== Sys2Proof/Config.lean ====
section
/-! DEFINITION. What the spec leaves open: the free values, as constants without a body, and the cryptography that the
spec names but does not define. -/

namespace Sys2Proof.Config

/-- The RC oscillator's frequency in units of 10 kHz that the fused RC trim gives (R23, R30), less 1. The spec gives the trim no
value. -/
opaque rcTrim : Nat

/-- The n-th value the block draws where the spec states no value. -/
opaque freeValue : Nat → Nat

/-- SHAKE256 of a byte string with `n` bytes of output. The spec names the function and does not define it. -/
opaque shake256 : List Byte → Nat → List Byte

/-- Ed448 verification: public key, context string, message, signature, under the scheme that R330 gives the context. Named by
the spec, not defined in it. -/
opaque ed448Verify : List Byte → List Byte → List Byte → List Byte → Bool

/-- Ed448 signature by a seed: seed, context string, message. -/
opaque ed448Sign : List Byte → List Byte → List Byte → List Byte

/-- The Ed448 public key of a seed. -/
opaque ed448Public : List Byte → List Byte

/-- The number by which a link-mute record names its condition (R106 asks for the condition and gives it no number). -/
opaque linkCondition : Nat → Int

/-- The number by which a PATH_ZEROED record names its cause (R471 asks for the cause and gives it no number). -/
opaque zeroCause : Nat → Nat

/-- How a coefficient update is rounded: whether component `i` of the `n`-th draw takes the upper neighbour (R176 fixes the
format of a tap and no rounding of its updates). -/
opaque updateRoundsUp : Nat → Nat → Bool

/-- Whether a level whose rounding the spec does not state is rounded up, for the ratio `p / q` (R160, R162, R167, R219). -/
opaque roundsUp : Nat → Nat → Bool

/-- The octet that the decoder takes in place of a code group in no column or of the wrong disparity (R105 says only that the
frame's samples are zero). -/
opaque badOctet : Nat → Nat

/-- The characters of JSPAT, which the spec leaves to the JESD204B standard and names no further (R110). -/
opaque jspat : List Nat

/-- Running disparity (bit 15) and scrambler history (bits 0 to 14) of a lane at the start of a data phase, by link and lane, which
the spec does not state. -/
opaque laneStart : Nat → Nat → Nat

/-- The sample that a link delivers at a Device Time outside the data phase, which the spec does not state: I is 0, Q is 1. -/
opaque idleSample : Nat → Nat → Nat → Nat

/-- The low-pass filter in front of a donor carrier's correlator (R241 gives it no taps), by the number of link samples to one
decimated sample. -/
opaque pssFilter : Nat → List Int

/-- The power gain of that filter, less 1, and its delay in dt. -/
opaque pssGain : Nat → Nat
/-- See `pssGain`. -/
opaque pssDelay : Nat → Nat

/-- The word at an offset of a section's Capture Ring as BAR4 shows it (R352), whose layout the spec does not give. -/
opaque ringWord : Nat → Nat → Nat

/-- C(b) of a FLAT estimate in units of 2^−64 for an in-band bin whose spectrum is empty, for which R283 states no value. -/
opaque emptyBinGain : Nat → Int

/-- The estimate of a calibration run of a KIND whose denominator is 0, in Q1.30: its real part is 0, its imaginary part 1. R283
states none. -/
opaque zeroEstimate : Nat → Nat → Int

/-- EQ_BOUND of a tap set that is all zeros, for which R148 states no value. -/
opaque zeroBound : Int

/-- The fused trims of the Housekeeping ADC (R443), OFS_F, G_F and TC_F, as fractions with denominator `adcDen + 1`. The spec
names them and gives no values. -/
opaque adcOfs : Int
/-- See `adcOfs`. -/
opaque adcGain : Int
/-- See `adcOfs`; per °C. -/
opaque adcTempco : Int
/-- See `adcOfs`. -/
opaque adcDen : Nat

/-- T_D0 before the first valid reading of D0, in 0.01 °C, for which R443 states no value. -/
opaque firstD0 : Int

/-- The fused expected VREF code (R446). -/
opaque vrefExpected : Nat

/-- mV at a pin of a corrected code, from the fused VREF trim (R444). -/
opaque pinMv : Nat → Int

/-- mV at rail `r` of a corrected code (R437). -/
opaque railMv : Nat → Nat → Nat

/-- The temperature of on-die sensor `i` in 0.01 °C of a corrected code (R448 names the sensors and gives no function). -/
opaque dieTemp : Nat → Nat → Int

/-- The code of the audit Mute record of a detector-comparator mute, which R445 asks for and gives no code. -/
opaque windowMuteCode : Nat

/-- The Hartos JEP106 identity in the 11-bit manufacturer field of IDCODE (R495), which the spec does not number. -/
opaque jep106 : Nat

end Sys2Proof.Config
end

