-- ==== Sys2Proof/Machine/State.lean ====
section
/-! DEFINITION. The block's whole state as plain data: the register file of every unit, the timers, the time base, and
the state behind the registers (recorder, medium, identity store, host queues, links, cells, Damper paths, radio groups,
calibration), with the queue of waiting commands; and the state right after reset. -/

namespace Sys2Proof.Machine

/-- What stops the block with a fault. The spec gives every command an effect (R38, R49 and R481 say that an absent unit
ignores it), so no meaning raises a fault and the type has no constructor. -/
inductive Fault where
  deriving DecidableEq, Repr

/-- Why the model has no next state. -/
inductive Refusal where
  /-- Raised by the dispatcher alone, for a command without a meaning in this model; safe, since nothing is claimed. -/
  | notModelled (mnemonic : String)
  deriving DecidableEq, Repr

/-- Access codes of register fields (R51). -/
inductive Acc where
  | ro | rw | w1c | wo | sc | lk
  deriving DecidableEq, Repr

/-- One register field of a unit type, or an array of such fields, as the spec's register tables give it. -/
structure Fld where
  /-- unit type code of R10; 0 for the common header of R57 -/
  unit : Nat
  /-- window offset of the first instance; the path window of R206 stands at 0x1000 + 0x40 × path -/
  off : Nat
  lo : Nat
  width : Nat
  acc : Acc
  /-- reset value -/
  rst : Nat
  /-- reset values of the first instances, where they differ -/
  rsts : List Nat := []
  stride : Nat := 0
  count : Nat := 1
  stride2 : Nat := 0
  count2 : Nat := 1
  /-- the range the description states, in the field's own units -/
  range : Option (Int × Int) := none
  /-- the description says "0 rejected" -/
  zeroRejected : Bool := false
  /-- the description says "cleared by CNT_CLEAR" -/
  cntClear : Bool := false
  deriving DecidableEq, Repr

/-- One field of one unit instance. -/
structure Ref where
  key : RegKey
  width : Nat
  rst : Nat
  deriving DecidableEq, Repr


/-! ### Time -/

/-- A wall time (R72): seconds and nanoseconds. -/
structure Wall where
  sec : Nat := 0
  ns : Nat := 0
  deriving DecidableEq, Repr

/-- Device Time and wall time as they run (R27, R32); the registers show snapshots of them (R33). -/
structure Clock where
  /-- Device Time in dt; saturates at 2^64 − 1 -/
  dt : Nat := 0
  wall : Wall := {}
  /-- remainder of wall time in units of 1/1,536 ns -/
  rem : Nat := 0
  epoch : Nat := 0
  deriving DecidableEq, Repr

/-- A SET-WALLCLOCK that waits for its effective dt (R362). -/
structure WallPending where
  tag : Nat
  wall : Wall
  tEff : Nat
  deriving DecidableEq, Repr

/-- What the Time Base and the Clock Root keep behind their registers (R27 to R33, R23). -/
structure TimeBase where
  /-- the root has locked at least once since reset, so Device Time counts (R27) -/
  counting : Bool := false
  /-- the root has failed and not relocked: Device Time runs from the RC oscillator (R30) -/
  rootFailed : Bool := false
  /-- while the root is failed: Device Time at the failure, and RC-oscillator cycles since (R30) -/
  failDt : Nat := 0
  rcCycles : Nat := 0
  /-- Device Time of the edge before the last one while alignment is armed -/
  prevEdge : Option Nat := none
  /-- the armed alignment is that of R31, so its completion brings the automatic sync event of R136 -/
  relockAlign : Bool := false
  /-- SET-WALLCLOCKs that wait for their effective dt, in order of acceptance -/
  pendingWall : List WallPending := []
  /-- divided clocks whose monitor has declared them failed (R23): bits LANE_A to HK -/
  bad : Nat := 0
  /-- a sync event is due at the next SYSREF edge (R136) -/
  autoSync : Bool := false
  /-- SYNC-DECIMATORS that wait: tag, earliest Device Time of their edge, and of their timeout (R136) -/
  syncWait : List (Nat × Nat × Nat) := []
  /-- t_s of the last sync event (R138) -/
  lastSync : Option Nat := none
  deriving DecidableEq, Repr

/-! ### Errors -/

/-- What a firing concerns (R467, R470): the address its record names, the index byte, the cells it mutes, and whether
its scope is the device. -/
structure Scope where
  addr : Nat := 0
  idx : Nat := 0xFF
  cells : List Nat := []
  device : Bool := false
  deriving DecidableEq, Repr

/-- One instance of a condition source whose condition holds (R64). -/
structure CondInst where
  unit : Nat
  src : Nat
  inst : Nat
  sev : Nat
  scope : Scope
  deriving DecidableEq, Repr

/-- A mute that holds until its source's pending bit is 0 (R468), and after an escalation until ACK as well. -/
structure MuteHold where
  unit : Nat
  src : Nat
  cells : List Nat
  device : Bool
  needAck : Bool
  deriving DecidableEq, Repr

/-- A Degrade event not yet acknowledged (R69). -/
structure Unacked where
  unit : Nat
  src : Nat
  scope : Scope
  /-- the event that ERR_FIRST holds (R70) -/
  latched : Bool := false
  deriving DecidableEq, Repr

/-! ### Records -/

/-- A record before its chain is computed (R407). -/
structure Rec where
  audit : Bool
  sev : Nat
  esc : Bool := false
  diverted : Bool := false
  code : Nat
  source : Nat
  payload : List Byte := []
  rept : Nat := 1
  epoch : Nat := 0
  dt : Nat := 0
  wall : Wall := {}
  /-- none until the scan of R418 ends -/
  seq : Option Nat := none
  deriving DecidableEq, Repr

/-- What an occupied queue slot holds: an open record, a placed record with its CHAIN, or one part of a seal. -/
inductive SlotKind where
  | opened
  | placed (chain : List Byte)
  | sealPart (part : Nat) (bytes : List Byte)
  deriving DecidableEq, Repr

/-- One occupied slot of the record queue (R411). -/
structure QSlot where
  slot : Nat
  r : Rec
  kind : SlotKind := .opened
  deriving DecidableEq, Repr

/-- One stored slot of P1 or P2. -/
structure Stored where
  r : Rec
  /-- 0 for a record, 1 to 3 for a seal part -/
  part : Nat
  bytes : List Byte
  deriving DecidableEq, Repr

/-- The state of one record chain (R410, R414). -/
structure Chain where
  head : List Byte := []
  headSeq : Nat := 0
  /-- records of the class closed since its last seal -/
  closed : Nat := 0
  /-- Device Time at which the first of those closed -/
  firstClosed : Nat := 0
  /-- a seal is due and waits for its signature or for room -/
  sealDue : Bool := false
  /-- the covered record of the seal that is due -/
  covered : Option Rec := none
  coveredChain : List Byte := []
  /-- the last record of the class closed -/
  lastRec : Option Rec := none
  /-- Device Time at which the due seal was signed, or fell due unsigned -/
  signedAt : Option Nat := none
  /-- the due seal stays unsigned (R328) -/
  blank : Bool := false
  deriving DecidableEq, Repr


/-- One gap entry of a capture (R426). -/
structure Gap where
  stamp : Nat
  samples : Nat
  src : Nat
  cause : Nat
  deriving DecidableEq, Repr

/-- A chunk of a capture held in capture staging until it drains to P3 (R426). -/
structure StagedChunk where
  src : Nat
  index : Nat
  bytes : List Byte
  deriving DecidableEq, Repr

/-- A capture accepted and not complete (R425 to R429). -/
structure Capture where
  tag : Nat
  trig : Nat
  trigUnit : Nat
  trigCode : Nat
  pre : Nat
  post : Nat
  /-- sources: unit address and capture point -/
  sources : List (Nat × Nat)
  /-- reserved pages of P3 (R429) -/
  pages : Nat
  number : Nat := 0
  /-- none until the trigger -/
  tTrig : Option Nat := none
  wall : Wall := {}
  epoch : Nat := 0
  wallValid : Bool := false
  /-- per source, chunks taken or gapped so far -/
  done : List Nat := []
  /-- per source, the data kept so far, with gapped samples as 0x8000_8000 -/
  kept : List (List Byte) := []
  /-- per source, the stamp of sample −PRE -/
  stamp0 : List Nat := []
  gaps : List Gap := []
  staged : List StagedChunk := []
  deriving DecidableEq, Repr

/-- A capture stored in P3 (R428): its pages, first page first. -/
structure StoredCapture where
  number : Nat
  pages : List (List Byte)
  deriving DecidableEq, Repr

/-- A CLEAR-RECORDS in progress (R421). -/
structure ClearOp where
  tag : Nat
  mask : Nat
  /-- SEQ of the P1 CLEAR record and of the P2 CLEAR record, until each is on page 0 -/
  p1Seq : Option Nat := none
  p2Seq : Option Nat := none
  deriving DecidableEq, Repr

/-- A READ through CAP_RD (R430). -/
structure RdCopy where
  number : Nat
  page : Nat
  len : Nat
  deriving DecidableEq, Repr

/-- The Event Recorder behind its registers. -/
structure Recorder where
  /-- occupied slots, oldest first -/
  queue : List QSlot := []
  tail : Nat := 0
  nextSeq : Nat := 0
  hwSeq : Nat := 0
  seqBase : Nat := 0
  /-- the scan of R418 has ended since reset -/
  scanned : Bool := false
  lostAud : Nat := 0
  lostOp : Nat := 0
  firstLoss : Nat := 0
  /-- the records-lost source has fired since the last LOSS record (R413) -/
  lossFired : Bool := false
  /-- the records-lost source is about to fire -/
  lossPend : Bool := false
  aud : Chain := {}
  op : Chain := {}
  /-- unreserved P1 slots (R415) -/
  p1Left : Nat := 0
  /-- CHAIN and SEQ of the last record placed, of either class (R412) -/
  placedChain : List Byte := []
  placedSeq : Nat := 0
  /-- Device Time from which P1 and P2 may write their tail shadow again (R417) -/
  tailAt1 : Nat := 0
  tailAt2 : Nat := 0
  /-- P2 commits are held while the victim index is rebuilt (R416) -/
  p2Held : Bool := false
  clear : Option ClearOp := none
  captures : List Capture := []
  rdCopy : Option RdCopy := none
  /-- capture staging as a capture read fills it -/
  staging : List Byte := []
  /-- the reset that the RESTART record names: 1 PORST_N, 2 RESET_N -/
  resetKind : Nat := 1
  deriving DecidableEq, Repr

/-- P1 to P3 as the medium holds them: kept through every reset. -/
structure RecordStore where
  /-- what the log and its valid tail shadow hold, in the order written -/
  p1 : List Stored := []
  p2 : List Stored := []
  /-- slots of page 0 that a CLEAR record leaves empty (R421) -/
  skip1 : Nat := 0
  skip2 : Nat := 0
  /-- P2 is in its overwrite phase (R416) -/
  p2Full : Bool := false
  captures : List StoredCapture := []
  deriving DecidableEq, Repr


/-! ### Modes and commands -/

/-- The eight modes (R75). -/
inductive Mode where
  | cold | kindling | banked | survey | carry | backoff | ember | service
  deriving DecidableEq, Repr

/-- What the Mode Controller keeps behind its registers. -/
structure ModeCtl where
  /-- Device Times of the retries counted by R83, newest first -/
  retries : List Nat := []
  /-- Ember was entered and its holdoff has run out -/
  holdoffDone : Bool := false
  /-- causes of which CK conditions hold in the RF path, or the sync event of R31 is awaited -/
  awaitSync : Bool := false
  /-- a Halt event of the step in progress -/
  halt : Bool := false
  /-- amounts of the Backoff causes 0x30, 0x31 and 0x32 in 0.01 dB; none while a cause is inactive -/
  boThermal : Option Nat := none
  boMargin : Option Nat := none
  boDroop : Option Nat := none
  /-- the sync event after the DSP clock's return from its divided state is awaited (R136, R457) -/
  dspSync : Bool := false
  /-- latched AUTOBOOT strap (R493) -/
  autoboot : Bool := false
  /-- Ember causes, as a mask of EMBER_CAUSE, that have already been answered while they hold (R84) -/
  emberSeen : Nat := 0
  /-- cause of a lockout marker that waits to be written into P0 (R84) -/
  markerDue : Option Nat := none
  /-- EXTEST-family instruction loaded in Cold (R495) -/
  extest : Bool := false
  /-- an entry to Kindling in this step, whose effects on host commands and taps are due (R371) -/
  kindled : Bool := false
  /-- cause of a Survey's end in this step, for the command that waits for it (R197) -/
  surveyEnd : Option Nat := none
  deriving DecidableEq, Repr

/-- The variant record held from PORST_N on (R483, R484). -/
structure Variant where
  index : Nat := 0
  sectMask : Nat := 0x0F
  half : Bool := false
  bondS : Bool := false
  consistent : Bool := true
  deriving DecidableEq, Repr

/-- How far a host command has come (R357 to R360). -/
inductive CmdState where
  /-- fetched, and waits for its turn to start (R355, R358) -/
  | waiting
  /-- passed steps 1 to 7 of R360 and handed to its unit -/
  | passed
  /-- taken up by its unit, which will complete it -/
  | running
  /-- completed, its entry not yet written: status, detail, result -/
  | done (status detail result : Nat)
  deriving DecidableEq, Repr

/-- One outstanding command, or one that a check of R360 ended. -/
structure Cmd where
  tag : Nat
  q : Nat
  sqHead : Nat
  /-- the 64-byte entry of R355 -/
  entry : List Byte
  state : CmdState := .passed
  /-- data that goes to host memory before the completion entry -/
  data : List Byte := []
  /-- completed under a tag that another command holds (R357) -/
  conflict : Bool := false
  /-- its completion is discarded: queue disabled or stopped, or FLR (R350, R365) -/
  discard : Bool := false
  /-- number in the order of completion (R350) -/
  order : Nat := 0
  deriving DecidableEq, Repr

/-- The commands that an RFFE master uses (R264). -/
inductive RffeCmd where
  | reg0Write | regWrite | extWrite | longWrite | regRead | extRead | longRead
  deriving DecidableEq, Repr

/-- What the block sends out: completions, interrupts, host memory writes, bus frames, pins. -/
inductive Output where
  /-- a value returned by a register read -/
  | readData (unit off value : Nat)
  | hostWrite (addr : Nat) (bytes : List Byte)
  | completion (q slot tag status detail sqHead phase result : Nat)
  | msix (vector : Nat)
  | cspi (section_ master cs frame len : Nat)
  | rffe (section_ master : Nat) (cmd : RffeCmd) (usid addr data : Nat)
  | sysrefOut (edgeDt high : Nat)
  /-- SYNC~ of an RX link pulsed low from a Device Time for a number of dt (R105) -/
  | syncPulse (link at' dts : Nat)
  /-- the characters of ILAS that a TX link sends on a lane from a Device Time (R104): octets, plus 256 for control characters -/
  | ilasSent (link lane at' : Nat) (chars : List Nat)
  /-- the code groups of a TX link's frames on a physical lane, from the Device Time at which the first sample was taken -/
  | laneSent (link lane at' : Nat) (groups : List Nat)
  /-- words of a lane's test pattern, as the generator sends them (R111) -/
  | patternSent (link lane : Nat) (words : List Nat)
  /-- bytes written to a device of the medium, by channel × 2 + chip select, from a byte address on (R380, R381, R384) -/
  | mediaWrite (device addr : Nat) (bytes : List Byte)
  /-- a page written to a copy of the zone-map journal, 0 for A and 1 for B, at its place in the ring (R397, R398) -/
  | journalWrite (copy page : Nat) (bytes : List Byte)
  deriving DecidableEq, Repr

/-! ### The signal plane: what stands in the delay lines and buffers of R34 -/

/-- A complex sample as a pair of numbers in the units of the place where it stands. -/
abbrev Cx : Type := Int × Int

/-- A stream of samples: Device Time of the first, dt from one to the next, and the samples, oldest first. -/
structure Tape where
  start : Nat := 0
  per : Nat := 1
  xs : List Cx := []
  deriving DecidableEq, Repr

/-- One reference word of the Cross-Section Bus with its probe word (R14, R181), and the signs of the chip that the Damper Slices
regenerate (R179). -/
structure RefWord where
  /-- the sample, 20 bits a component -/
  i : Int := 0
  q : Int := 0
  parI : Bool := false
  parQ : Bool := false
  sec : Nat := 0
  cell : Nat := 0
  /-- P_pr in 0.01 dBFS as a 16-bit code; 0x8000 for none -/
  probe : Nat := 0x8000
  parP : Bool := false
  /-- the output bits d0 and d1 of the chip -/
  chip : Bool × Bool := (false, false)
  deriving DecidableEq, Repr

/-- A block of a cell: its number since the last sync event, the grid instant of its first sample, the samples at the Strainer
output, the cell input sum and the cell output, newest first, the sums of |y|² at the gain-stage input and of the traffic behind
the squelch gate. -/
structure BlockSum where
  num : Nat := 0
  g : Nat := 0
  raw : List Cx := []
  xin : List Cx := []
  out : List Cx := []
  eqE : Nat := 0
  traffic : Nat := 0
  deriving DecidableEq, Repr

/-- A sample on its way through the core (R145): the Device Time at which it reaches its next stage, its number m since the sync
event (below 0 before the first), its value there, and what it was at the Strainer output, after the cell input sum and before
the gain stage. -/
structure InFlight where
  due : Nat
  m : Int
  x : Cx
  raw : Cx := (0, 0)
  xin : Cx := (0, 0)
  y : Cx := (0, 0)
  deriving DecidableEq, Repr

/-- A sample as a tap, a Capture Ring or a capture takes it (R366, R423): the Device Time at which it is there, its stamp (R368),
the grid instant of a cell's sample, whether it starts a block (R128), its word, and whether an uncorrectable error of the ring
has spoilt it (R37). -/
structure Heard where
  there : Nat := 0
  stamp : Nat := 0
  g : Nat := 0
  first : Bool := false
  x : Cx := (0, 0)
  bad : Bool := false
  deriving DecidableEq, Repr

/-- What one taker keeps of a source's samples: the Device Time from which it takes them, how many it has taken, the stamp of the
first, and those it still holds, newest first. -/
structure Track where
  since : Nat := 0
  n : Nat := 0
  stamp0 : Nat := 0
  xs : List Heard := []
  deriving DecidableEq, Repr

/-- The delay lines and pipelines of a band cell (R118 to R123, R145 to R157, R179). -/
structure CellSig where
  /-- delay lines of the receive and transmit stages, position 1 first, newest sample first -/
  down : List (List Cx) := []
  up : List (List Cx) := []
  /-- samples before the cell input sum, before the gain stage and before the cell output, oldest first -/
  inQ : List InFlight := []
  midQ : List InFlight := []
  outQ : List InFlight := []
  /-- the last 16 samples of the cell input sum and the last 8 before it, newest first (R147) -/
  eqLine : List Cx := []
  rawLine : List Cx := []
  /-- |y|² of the last samples at the gain-stage input, newest first; consecutive samples with p_sq at or above SQ_OPEN; Device
  Time since which p_sq has been below SQ_CLOSE (R155) -/
  sq : List Nat := []
  openRun : Nat := 0
  lowFrom : Option Nat := none
  /-- eighths of the squelch ramp, and whether the cell was Passing or Limited at the sample before -/
  ramp : Nat := 0
  was : Bool := false
  /-- the two shift registers of the probe (R179) -/
  lfsrA : Nat := 0x7FFFFFFF
  lfsrB : Nat := 1
  /-- the reference words published, newest first, and the instant t_c of the newest (R14, R132) -/
  refs : List RefWord := []
  refAt : Nat := 0
  /-- what the transmit chain has handed to the Combiner: samples by the Device Time at which they enter it -/
  tx : Tape := {}
  /-- the block in progress, and blocks completed whose end has not been taken up, oldest first -/
  blk : BlockSum := {}
  done : List BlockSum := []
  /-- outputs of the cell input sum with their numbers m, newest first -/
  eps : List (Int × Cx) := []
  /-- saturations not yet in the counters: RX NCO, RX positions 1 to 7, TX NCO, TX positions 1 to 7, input sum, equaliser, gain -/
  cnt : List Nat := []
  /-- samples of the slice in progress for taps, Capture Rings and captures, newest first, each with its point (R366, R423) -/
  heard : List (Nat × Heard) := []
  deriving DecidableEq, Repr

/-- A peak that crest-factor reduction cancels (R165): its instant, c_k in units of 2^−40, and the cells whose gates were 1 with
their weights. -/
structure Peak where
  t : Nat
  c : Cx
  parts : List (Nat × Nat)
  deriving DecidableEq, Repr

/-- What a Combiner sums over an interval (R167): samples, largest and sum of |s|² (2^−46) and of |y|² (2^−38), sum of the
cancellation (2^−80), and whether a peak was cancelled. -/
structure CombSums where
  n : Nat := 0
  maxIn : Nat := 0
  sumIn : Nat := 0
  maxOut : Nat := 0
  sumOut : Nat := 0
  canc : Nat := 0
  any : Bool := false
  deriving DecidableEq, Repr

/-- The buffers and interval sums of a Combiner (R163 to R167). -/
structure CombSig where
  /-- the working copy z in units of 2^−40 -/
  z : Tape := {}
  peaks : List Peak := []
  /-- the interval in progress, and the last one ended until it is reported -/
  sums : CombSums := {}
  report : Option CombSums := none
  /-- counts not yet in the counters: SUM_SAT, OUT_SAT, CFR_PEAKS, CFR_RESID -/
  cnt : List Nat := []
  /-- output samples, 20 bits a component, that the TX link has not framed -/
  y : Tape := {}
  deriving DecidableEq, Repr

/-- One output of a donor carrier's correlator (R242): Device Time of the decimated sample that completes it, N_ID2, the
correlations over the first and the second half of the replica, and the energy of the samples. -/
structure Corr where
  t : Nat
  nid2 : Nat
  a : Cx
  b : Cx
  ex : Nat
  deriving DecidableEq, Repr

/-- The filter and correlator lines of a donor carrier (R241). -/
structure PssSig where
  line : List Cx := []
  dec : List Cx := []
  corr : List Corr := []
  deriving DecidableEq, Repr

/-- The signal plane: everything up to one Device Time has passed. -/
structure Plane where
  upTo : Nat := 0
  cells : Bank CellSig := []
  combs : Bank CombSig := []
  pss : Bank PssSig := []
  /-- the Capture Rings by 8 × section + entry, the open taps, and the captures by 16 × tag + source (R34, R366, R424, R426) -/
  rings : Bank Track := []
  taps : Bank Track := []
  caps : Bank Track := []
  deriving DecidableEq, Repr

/-- What controls a band cell's samples from a Device Time on: grid origin, G_APPLIED, whether the cell is Passing or Limited,
whether the squelch gate is open, P_pr, and the response set. -/
structure Ctl where
  start : Nat
  tg : Option Nat
  gain : Nat
  live : Bool
  gate : Bool
  probe : Nat
  resp : Nat
  deriving DecidableEq, Repr


/-! ### Links -/

/-- One lane's pattern checker or generator (R112). -/
structure Checker where
  /-- consecutive words without an unexpected error while unlocked -/
  clean : Nat := 0
  /-- which of the last 64 words since lock carried an unexpected error, newest first -/
  recent : List Bool := []
  /-- the first marker after lock has come -/
  counting : Bool := false
  /-- running disparity at the last marker of a pattern of 8b/10b characters: plus -/
  rd : Bool := false
  /-- the generator's next word, counted from the marker (R111) -/
  word : Nat := 0
  deriving DecidableEq, Repr

/-- What one lane's coding carries from frame to frame (R94). -/
structure LaneCtx where
  /-- running disparity: plus -/
  rd : Bool := false
  /-- the last fifteen scrambled bits, newest lowest -/
  scr : Nat := 0
  /-- the last octet of the frame before -/
  last : Nat := 0
  /-- an alignment character stood in the frame before -/
  sent : Bool := false
  deriving DecidableEq, Repr

/-- What a link keeps behind its registers (R99 to R113). -/
structure Link where
  /-- the link has been in the data phase since the last entry to Kindling (R106) -/
  reached : Bool := false
  /-- the 1 ms window in which errors are totalled, and the total (R105, R108) -/
  errWin : Nat := 0
  errTot : Nat := 0
  /-- position of the last misplaced /A/ of each lane (R105) -/
  lastA0 : Option Nat := none
  lastA1 : Option Nat := none
  /-- the pattern checkers of lanes 0 and 1 (R112) -/
  chk0 : Checker := {}
  chk1 : Checker := {}
  /-- the frame of the last SYNC~ pulse (R105) -/
  pulseFrame : Option Nat := none
  /-- Device Time of the last restart (R107) -/
  restartedAt : Option Nat := none
  /-- LMFC boundary at which a TX link's ILAS starts (R104) -/
  ilasAt : Option Nat := none
  /-- the coding of lanes 0 and 1 in the data phase -/
  lane0 : LaneCtx := {}
  lane1 : LaneCtx := {}
  /-- elastic buffer (R34): the samples of the data phase, 20 bits a component, by the Device Time at which an RX link delivers
  them, or a TX link takes them from its Combiner -/
  buf : Tape := {}
  /-- Device Times of the samples that were zeroed under R105, newest first -/
  zeroed : List Nat := []
  /-- the corrections in force, newest first: from when, α or β, and d, in Q1.30 (R276) -/
  cors : List (Nat × Cx × Cx) := []
  /-- frames of the data phase sent or received -/
  frames : Nat := 0
  /-- TX_SAT rose in this 1 ms window (R168) -/
  satSeen : Bool := false
  deriving DecidableEq, Repr

/-! ### Cells, Damper paths, donors and the radio -/

/-- What a band cell keeps behind its registers (R135 to R162), and what its Protection Engine keeps for it (R216 to
R230). -/
structure Cell where
  /-- grid origin t_g of R135; none before the first sync event -/
  tg : Option Nat := none
  /-- G_APPLIED holds at −40.00 dB until the group's first digital ramp-up ends (R82) -/
  rampHold : Bool := false
  /-- muted in Service until SETTLING clears (R137) -/
  syncMute : Bool := false
  /-- the settling flags of R135 and R127 hold for blocks that begin before these Device Times -/
  settleEnd : Nat := 0
  respFrom : Nat := 0
  respEnd : Nat := 0
  /-- what has controlled the cell's samples, newest first -/
  ctl : List Ctl := []
  /-- blocks completed since the last sync event, not wrapped (R128) -/
  blocks : Nat := 0
  /-- an equaliser set that the Steep delivered, taken up at the next block boundary (R148): (I, Q) codes -/
  taps : Option (List (Nat × Nat)) := none
  /-- block sums of |y|² at the gain-stage input, newest first (R154) -/
  agc : List Nat := []
  /-- block sums at P_RAW, P_IN, P_OUT and the block's PK_OUT, newest first (R160) -/
  powers : List (Nat × Nat × Nat × Nat) := []
  /-- spectral sums and the blocks in them (R161) -/
  specIn : List Nat := []
  specOut : List Nat := []
  specCnt : Nat := 0
  /-- grid instant of the block boundary at which both spectral averages restart -/
  measRestart : Option Nat := none
  /-- traffic sums after the gate of the last 16 blocks (R180) -/
  traffic : List Nat := []
  /-- registers 0x134 to 0x140 as the last block left them, until a read of 0x130 latches them (R160): P_OUT, PK_OUT,
  PWR_BLK, AVG_RAW, AVG_IN, AVG_OUT, AVG_PK -/
  latest : List Nat := []
  /-- RX and TX stamps of the last block, until a read of BLK_RX_LO latches them -/
  stampRx : Nat := 0
  stampTx : Nat := 0
  /-- consecutive mismatching and agreeing monitor windows (R162) -/
  monBad : Nat := 0
  monGood : Nat := 0
  /-- a gain-path saturation count (R168), a Strainer saturation count (R141) rose in this 1 ms window -/
  satSeen : Bool := false
  strSeen : Bool := false
  /-- edges of the squelch gate within the last second or the duty window, newest first: time and whether it opened -/
  sqEdges : List (Nat × Bool) := []
  /-- radiating edges for R225: time and whether the gate was open while the cell was Passing or Limited -/
  dutyEdges : List (Nat × Bool) := []
  /-- Device Times of the trips, newest first (R220) -/
  trips : List Nat := []
  /-- growth windows while the cell passes traffic, newest first: sum of |y|² and samples (R218) -/
  grow : List (Nat × Nat) := []
  /-- Device Time since which the cell has been Passing or Limited -/
  liveFrom : Option Nat := none
  /-- peak bins of the consecutive blocks whose ratio reaches SPK_THRESH, newest first (R219) -/
  spkRun : List Nat := []
  /-- PE hold timers set these mutes: growth, spectral, ceiling, margin -/
  heldGrowth : Bool := false
  heldSpectral : Bool := false
  heldCeiling : Bool := false
  heldMargin : Bool := false
  /-- P_IN of the last 64 blocks inside Listen, newest first; none for a mean of zero (R223) -/
  noise : List (Option Int) := []
  /-- G_APPLIED of the 4,096 dt segments of R229, newest first: sum of gain × dt and dt counted -/
  gSegs : List (Int × Nat) := []
  gAcc : Int := 0
  gDt : Nat := 0
  gSince : Nat := 0
  /-- the larger monitor sum of the last 120 windows, newest first (R229) -/
  monSegs : List Nat := []
  /-- the larger monitor sum of the last 256 dt intervals, newest first: four for R230, more for the sum check (R477) -/
  fastSegs : List Nat := []
  /-- consecutive groups of 64 samples in which the shadow of the gain stage and the gate disagreed (R477) -/
  shadowBad : Nat := 0
  /-- Device Times of the last corrections in the cell's SRAM, newest first (R465) -/
  eccAt : List Nat := []
  /-- verdict of the allow-list check in Kindling: the range that held the band, in kHz (R228) -/
  range : Option (Nat × Nat) := none
  deriving DecidableEq, Repr

/-- What a Combiner keeps behind its registers (R162, R168). -/
structure Comb where
  /-- a saturation count rose in this 1 ms window -/
  satSeen : Bool := false
  monBad : Nat := 0
  monGood : Nat := 0
  /-- consecutive windows in which monitor A stood above the sum of the cells (R477) -/
  sumBad : Nat := 0
  deriving DecidableEq, Repr

/-- A Damper path behind its window (R176 to R196). -/
structure Path where
  /-- taps 0 upward in units of 2^−24; taps beyond the list are 0 -/
  w : List (Int × Int) := []
  /-- measured lags from kmin upward in units of 2^−48 -/
  m : List (Int × Int) := []
  rBase : Int := 0
  /-- consecutive updates above R_base + BIAS_TOL -/
  past : Nat := 0
  /-- consecutive updates that met R196 -/
  met : Nat := 0
  /-- hops ended and hops used since the last measurement update -/
  hops : Nat := 0
  used : Nat := 0
  /-- sum of |ε|² over the used hops (2^−46), and of the probe powers A² of the source over them (2^−46) -/
  eps : Nat := 0
  probe : Nat := 0
  /-- Ŝ of each partition, by bin, in units of 2^−60 (R185) -/
  spec : List (List Nat) := []
  /-- the values of the path window as the last measurement update left them: COUPLING, RESID, RESID_NF, DEPTH, LOOP_C,
  EDGE_DB, and the state bits SETTLED, EDGE_HI, STALE, FROZEN, ADAPT_STATE -/
  shown : List Nat := []
  /-- the snapshot that the last write of PATH_SEL latched (R202) -/
  latched : List Nat := []
  deriving DecidableEq, Repr

/-- A donor carrier behind its registers (R241 to R246), and what its engine keeps (R221, R222). -/
structure Carrier where
  /-- predicted occurrence t_p in units of 2^−16 dt -/
  tp : Int := 0
  good : Nat := 0
  miss : Nat := 0
  /-- the latest detection of the present search span: its t_det -/
  det : Option Nat := none
  /-- NID2_FOUND is fixed by a first detection (R241) -/
  fixed : Bool := false
  /-- P_pss of the last 16 valid detections, newest first -/
  pss : List Int := []
  /-- the last 16 phase advances of R245 in units of 2^−48 turn, newest first -/
  cfos : List Int := []
  /-- the prediction on the timeline of the marks, in 2^−16 dt, and its rate while it does not follow t_p (R246) -/
  fly : Int := 0
  flyRate : Int := 0
  /-- the latest mark of that timeline -/
  mark : Nat := 0
  /-- a new timeline waits for adoption: its prediction in 2^−16 dt (R246) -/
  next : Option Int := none
  deriving DecidableEq, Repr

/-- How far an orderly power-down, or an orderly stop for a RECAL, has come (R254, R259). -/
inductive Down where
  | none
  /-- digital ramp-down in progress, then bias, then supply -/
  | ramp | bias | supply
  deriving DecidableEq, Repr

/-- A search of R267 in progress. -/
structure TuneRun where
  /-- axis and direction on trial -/
  axis : Nat := 0
  neg : Bool := false
  /-- the code on trial, and whether its write has been made -/
  trial : Option Nat := none
  written : Bool := false
  /-- the sum of the TUNE_AVG readings of the base, and the readings of the present mean -/
  base : Option Int := none
  reads : List Int := []
  deriving DecidableEq, Repr

/-- A write to a tuner axis: axis, code, and whether it is the code on trial (R267). -/
structure TuneWrite where
  axis : Nat
  code : Nat
  onTrial : Bool
  deriving DecidableEq, Repr

/-- An antenna group behind its registers (R247 to R267). -/
structure Group where
  /-- Device Time at which VDD_EN was asserted; none while it is not -/
  vddAt : Option Nat := none
  /-- BIAS_EN and TRSW -/
  bias : Bool := false
  down : Down := .none
  /-- the orderly stop in progress ends in Settle, not in Off -/
  forRecal : Bool := false
  /-- end E of the SEND entry in progress, and start of the present Send state -/
  sendEnd : Option Nat := none
  sendFrom : Option Nat := none
  /-- start of the last Send state (R441) -/
  sentAt : Option Nat := none
  /-- a LISTEN entry covers the instant -/
  listening : Bool := false
  /-- held transmit request: S and E (R262); E is 0 for an FDD group -/
  held : Option (Nat × Nat) := none
  /-- start S of the Send state whose bias lead runs -/
  nextS : Option Nat := none
  /-- the qualified PA_ALARM input is active -/
  alarm : Bool := false
  /-- the skip-run condition holds -/
  skipMute : Bool := false
  /-- runs of R266 -/
  muteRun : Nat := 0
  boRun : Nat := 0
  okRun : Nat := 0
  /-- Device Time since which the group listens (R249), and the last interval in which it listened -/
  lstFrom : Option Nat := none
  lstPrev : Nat × Nat := (0, 0)
  /-- as these two, for the Send state -/
  sndFrom : Option Nat := none
  sndPrev : Nat × Nat := (0, 0)
  /-- intervals in which the group was in a Send state or a PA ramp, newest first; one still open has no end (R283) -/
  loud : List (Nat × Option Nat) := []
  /-- the latest forward and reflected readings, each with its first and last conversion's stamps, until they pair (R265) -/
  fwd : Option (Int × Nat × Nat) := none
  ref : Option (Int × Nat × Nat) := none
  /-- tuner steps (R267) -/
  step0 : Nat := 8
  step1 : Nat := 8
  tune : Option TuneRun := none
  /-- tuner writes that wait for a write point, in order -/
  writes : List TuneWrite := []
  deriving DecidableEq, Repr

/-- A transfer of a CSPI or RFFE master (R258, R259, R264). -/
inductive BusOp where
  /-- the CSPI frame at a synthesiser's place in its sequence -/
  | cspiSeq (y : Nat)
  /-- a host frame: whether MISO is captured, chip select, data, bits -/
  | cspiHost (read : Bool) (cs data len : Nat)
  /-- the RFFE write at a synthesiser's place in its sequence -/
  | rffeSeq (y : Nat)
  /-- a tuner write of group `k` -/
  | tuner (k : Nat) (w : TuneWrite)
  deriving DecidableEq, Repr

/-- A CSPI or RFFE master. -/
structure Bus where
  /-- the transfer in progress, and whether it is a retry -/
  cur : Option BusOp := none
  retried : Bool := false
  /-- the read-back of a tuner write is in progress (R264) -/
  reading : Bool := false
  queue : List BusOp := []
  deriving DecidableEq, Repr

/-- Which sequence a synthesiser runs (R259). -/
inductive SeqKind where
  | prog | recal | recover
  deriving DecidableEq, Repr

/-- A synthesiser behind its registers (R258 to R263). -/
structure Synth where
  run : Option SeqKind := none
  /-- entry of the sequence RAM that is next -/
  pc : Nat := 0
  /-- Kindling's PROG waits to start (R259) -/
  prog : Bool := false
  /-- a RECAL for a changed temperature, or a RECOVER, waits to start; a RECAL that the host asked for waits in SYN_CTRL -/
  want : Option SeqKind := none
  /-- LD has been high for LD_QUAL (R260) -/
  locked : Bool := false
  /-- the settle timer has expired since the last sequence -/
  settled : Bool := false
  /-- the mute of a loss of lock holds (R261) -/
  lossMute : Bool := false
  /-- the section's reading at the last sequence, 0.01 °C (R259) -/
  temp : Option Int := none
  deriving DecidableEq, Repr


/-! ### Housekeeping -/

/-- What the Housekeeping ADC converts (R442). -/
inductive HkWork where
  /-- conversion `j` of the system sweep, 0 to 15 (R439) -/
  | sweep (j : Nat)
  /-- entry `e` of the pass (R440) -/
  | entry (e : Nat)
  /-- urgent slot `k`: ENT_A, or ENT_B (R441) -/
  | urgent (k : Nat) (second : Bool)
  deriving DecidableEq, Repr

/-- What the Housekeeping ADC keeps behind its registers (R436 to R447). -/
structure Hk where
  /-- the conversion in progress, and the Device Time at which it ends -/
  cur : Option HkWork := none
  endAt : Nat := 0
  sweepDue : Bool := false
  /-- the next conversion of the sweep in progress -/
  sweepNext : Option Nat := none
  /-- the urgent conversion that follows without a break: slot, and ENT_B or ENT_A -/
  urg : Option (Nat × Bool) := none
  /-- raw codes and sampling instants of the pass's current entry, and of the urgent entry, first to last -/
  part : List (Nat × Nat) := []
  urgPart : List (Nat × Nat) := []
  /-- the VREF conversion of this sweep lay in its tolerance (R446) -/
  vrefOk : Bool := false
  /-- consecutive sweeps that failed and passed the check of R446 -/
  vrefBad : Nat := 0
  vrefGood : Nat := 0
  /-- consecutive sweeps with every rail inside its droop and its failure window (R447) -/
  droopGood : Nat := 0
  failGood : Nat := 0
  /-- Device Time at which the overrun source last fired, and the window source of each entry (R440, R445) -/
  ovrAt : Option Nat := none
  winAt : List (Nat × Nat) := []
  /-- entries of WIN_ACT 2 whose latest result lies outside its window (R445) -/
  winMute : List Nat := []
  deriving DecidableEq, Repr

/-- The words of an entry's result that a read of the first one latches (R463). -/
structure HkResult where
  valid : Bool := false
  winOut : Bool := false
  isOpen : Bool := false
  isShort : Bool := false
  span : Nat := 0
  stamp : Nat := 0
  deriving DecidableEq, Repr

/-- What the Thermal Monitor keeps behind its registers (R448 to R458). -/
structure Thermal where
  /-- the latest valid reading of D0 (R443) -/
  d0 : Option Int := none
  /-- consecutive evaluations at or above the native and the external level (R456) -/
  natRun : Nat := 0
  extRun : Nat := 0
  natTrip : Bool := false
  extTrip : Bool := false
  /-- Device Time of the first of the evaluations that meet the restart condition (R457) -/
  coolFrom : Option Nat := none
  deriving DecidableEq, Repr

/-- A sensor behind its registers (R450, R454, R477). -/
structure Sensor where
  /-- consecutive updates outside LIMIT of the median -/
  medRun : Nat := 0
  /-- its TEMP was its neighbourhood's NB_HOT at its last valid update -/
  wasHot : Bool := false
  /-- failed by the check of TM 6 alone -/
  byCheck : Bool := false
  deriving DecidableEq, Repr

/-- A neighbourhood behind its registers (R453, R455). -/
structure Nbhd where
  /-- bit L: NB_HOT has been at or above TH_L for 100 ms -/
  past : Nat := 0
  /-- level by temperature alone -/
  base : Nat := 0
  rise : Bool := false
  /-- consecutive evaluations below RISE_LIM -/
  riseOk : Nat := 0
  /-- NB_HOT at the last ten evaluations, newest first -/
  hist : List (Option Int) := []
  deriving DecidableEq, Repr

/-! ### Host Port -/

/-- One queue pair behind its registers (R354): what ENABLE latched, and the rings' positions. -/
structure Queue where
  sqBase : Nat := 0
  cqBase : Nat := 0
  sqSize : Nat := 0
  cqSize : Nat := 0
  vec : Nat := 0
  sqTail : Nat := 0
  cqHead : Nat := 0
  phase : Bool := true
  /-- completions written since the last completion interrupt (R374) -/
  coal : Nat := 0
  deriving DecidableEq, Repr

/-- One tap behind its registers (R366 to R370). -/
structure Tap where
  ring : Nat := 0
  statusAt : Nat := 0
  /-- bytes written since the tap opened -/
  prod : Nat := 0
  /-- segments since the tap opened, skipped ones included -/
  seg : Nat := 0
  /-- segments skipped since the last one written, and whether a pause skipped them -/
  skipped : Nat := 0
  paused : Bool := false
  /-- Device Time at which the tap-loss source last fired for this tap -/
  lossAt : Option Nat := none
  deriving DecidableEq, Repr

/-- What the Host Port keeps behind its registers (R353). -/
structure HostPort where
  /-- MSI-X mask bits; all set at reset, as the PCIe standard has them -/
  masked : Nat := 2 ^ 128 - 1
  /-- MSI-X pending bits -/
  pba : Nat := 0
  /-- the queue pair fetched last (R358) -/
  lastQ : Nat := 15
  /-- commands completed since reset: each completion takes the next number -/
  doneCnt : Nat := 0
  /-- writes to host memory that DMA holds (R350): address and bytes, oldest first -/
  heldWrites : List (Nat × List Byte) := []
  deriving DecidableEq, Repr

/-! ### Calibration (R275 to R294) -/

/-- One entry of a calibration set (R292). -/
structure CalEntry where
  unit : Nat
  kind : Nat
  runId : Nat
  payload : List Byte
  deriving DecidableEq, Repr

/-- A calibration set as a slot of P0 holds it (R292). -/
structure CalSet where
  seq : Nat := 0
  dt : Nat := 0
  wall : Wall := {}
  epoch : Nat := 0
  entries : List CalEntry := []
  deriving DecidableEq, Repr

/-- What one half of a calibration run came to (R280, R283): samples, hops or blocks counted and those possible, the mean power as a
fraction of full scale, the powers of the in-band bins, and the estimate as fractions with one denominator. -/
structure HalfStat where
  held : Nat := 0
  possible : Nat := 0
  power : Nat × Nat := (0, 1)
  bins : List Nat := []
  /-- the estimate: one complex number for link kinds, in full-scale units; 16 taps for FLAT -/
  num : List Cx := []
  den : Nat := 1
  /-- |H|² of the estimated taps at each in-band bin, for FLAT -/
  mags : List Nat := []
  /-- detector inputs, for DET: HK input, sum of raw codes, conversions -/
  det : List (Nat × Int × Nat) := []
  deriving DecidableEq, Repr

/-- What the half in progress has gathered (R280, R283), of samples, hops, blocks and conversions after Device Time `since`. -/
structure CalAcc where
  since : Nat := 0
  /-- samples, hops or blocks counted -/
  held : Nat := 0
  /-- Σ y² of RX_IQ, Σ x of RX_DC, and of TX_LO the sum of the correlation -/
  sum : Cx := (0, 0)
  /-- Σ |x|² -/
  pow : Nat := 0
  /-- Σ |X|² by bin, and the samples of the spectrum in progress, newest first -/
  bins : List Nat := []
  line : List Cx := []
  /-- the image accumulator by tap, in units of 2^−48, and Σ w_q, in units of 2^−24 -/
  img : List Cx := []
  wq : List Cx := []
  /-- HK input, sum of raw codes, conversions -/
  det : List (Nat × Int × Nat) := []
  deriving DecidableEq, Repr

/-- One calibration run in its slot (R278 to R280). -/
structure CalRun where
  kind : Nat := 0
  target : Nat := 0
  runMs : Nat := 0
  noApply : Bool := false
  auto : Bool := false
  /-- the CAL-RUN command that started it -/
  tag : Option Nat := none
  runId : Nat := 0
  /-- half A, once it has ended -/
  half : Option HalfStat := none
  /-- COUPLING of the named path at the end of half A, and whether DEPTH and STALE passed there (R280) -/
  coup : Nat := 0x8000
  model : Bool := true
  /-- the half in progress -/
  acc : CalAcc := {}
  /-- the live value at the start, in Q1.30 -/
  live0 : Int × Int := (0, 0)
  deriving DecidableEq, Repr

/-- A quantity that the Steep moves towards its target (R285, R286). -/
structure Ramp where
  /-- KIND of R275; 7 is VTUNE -/
  kind : Nat := 0
  /-- link index L, cell, Housekeeping input; 0 for VTUNE -/
  idx : Nat := 0
  /-- start and target, in LSBs: one complex value, or 16 taps -/
  start : List (Int × Int) := []
  goal : List (Int × Int) := []
  /-- ticks so far -/
  i : Nat := 0
  deriving DecidableEq, Repr

/-- The Calibration Engine behind its registers. -/
structure CalEngine where
  /-- runs in progress by slot -/
  runs : List (Nat × CalRun) := []
  nextRun : Nat := 0
  ramps : List Ramp := []
  /-- the last accepted values, in the order of R292, and those of the stored set -/
  entries : List CalEntry := []
  stored : List CalEntry := []
  /-- an accepted target has been reached since the last commit started -/
  due : Bool := false
  /-- the set that is being committed -/
  committing : Option CalSet := none
  /-- targets of automatic runs that wait: KIND and unit -/
  autoQ : List (Nat × Nat) := []
  /-- VTUNE codes and the Device Times at which they took effect, newest first (R289) -/
  vtLog : List (Nat × Nat) := []
  /-- a second has been accepted since Kindling, and consecutive accepted seconds in HOLD -/
  accepted : Bool := false
  inRow : Nat := 0
  /-- detections of the carrier REF_CAR that no second has counted yet, newest first: Device Time and phase advance (R288) -/
  refDet : List (Nat × Int) := []
  /-- Device Time since which REF_STATE has been DISC with no commit (R294) -/
  discAt : Nat := 0
  deriving DecidableEq, Repr

/-! ### Configuration, identity and slots -/

/-- What the directory says of a physical slot (R308); STATE is 0 EMPTY, 1 WRITING, 2 STAGED, 3 VALID. -/
structure SlotRec where
  state : Nat := 0
  confirmed : Bool := false
  secVer : Nat := 0
  length : Nat := 0
  configVer : Nat := 0
  digest : List Byte := []
  deriving DecidableEq, Repr

/-- A directory page (R308); the default is the initial directory of R309. -/
structure Directory where
  seq : Nat := 0
  cur : Option Nat := none
  prev : Option Nat := none
  stg : Nat := 0
  probation : Bool := false
  lockout : Bool := false
  bootTries : Nat := 0
  lockoutCause : Nat := 0
  dt : Nat := 0
  wall : Wall := {}
  epoch : Nat := 0
  slots : List SlotRec := [{}, {}, {}]
  deriving DecidableEq, Repr

/-- Partition P0 as the medium holds it, kept through every reset: directory pages, slots, profile areas. -/
structure Parcel where
  dirA : Option Directory := none
  dirB : Option Directory := none
  /-- bytes of the physical slots S0 to S2 -/
  slot0 : List Byte := []
  slot1 : List Byte := []
  slot2 : List Byte := []
  /-- profile objects in ACTIVE and PENDING; no bytes where none is held (R341) -/
  active : List Byte := []
  waiting : List Byte := []
  /-- the slots CAL_A and CAL_B; none for one that is not valid (R292) -/
  calA : Option CalSet := none
  calB : Option CalSet := none
  /-- the copies of the device certificate (R327) -/
  certA : List Byte := []
  certB : List Byte := []
  deriving DecidableEq, Repr

/-- An operation that waits for its directory write (R310). -/
inductive DirOp where
  /-- `ok`: the data that follows is written and verified -/
  | stageBegin (tag : Nat) (bytes : List Byte) (final : Bool) (ok : Bool)
  | stageEnd (tag : Nat) (ok : Bool)
  | commit (tag : Nat)
  | promote
  | bootTry
  | confirm (tag : Nat)
  | revert (tag : Nat)
  | autoRevert
  | kindleRevert (cause : Nat)
  | lockoutSet (cause : Nat)
  | lockoutClear (tag : Nat) (fromService : Bool)
  deriving DecidableEq, Repr

/-- Where a Kindling stands (R312, R313). -/
inductive KindlePhase where
  | idle
  /-- the Config Controller is to read the directory and choose a slot -/
  | entry
  /-- a directory write of the loop is in progress -/
  | writing
  /-- the chosen slot is being read into the shadow -/
  | loading
  /-- the engines' built-in tests run -/
  | selftest
  /-- links and alignment are awaited -/
  | links
  deriving DecidableEq, Repr

/-- The Config Controller behind its registers. -/
structure ConfigCtl where
  /-- the directory in force: the valid page with the higher SEQ, once it has been read -/
  dir : Option Directory := none
  /-- operations whose directory writes wait, first in progress -/
  ops : List DirOp := []
  phase : KindlePhase := .idle
  /-- slots tried in this Kindling loop -/
  tried : List Nat := []
  /-- no pass of this Kindling loop has reached its head yet (R312) -/
  firstPass : Bool := true
  /-- the attempt that led here ended on the Kindling timeout -/
  timedOut : Bool := false
  /-- the shadow: the container that the last Kindling loaded (R313) -/
  shadow : List Byte := []
  /-- tag of the STAGE whose slot is being validated (R311) -/
  validating : Option Nat := none
  /-- time left of the probation window in dt (R314) -/
  probLeft : Nat := 0
  /-- words corrected within the last second: unit, offset with the Damper path above bit 12, Device Time (R317) -/
  fixed : List (Nat × Nat × Nat) := []
  /-- a reload of the shadow is in progress -/
  reloading : Bool := false
  deriving DecidableEq, Repr

/-- A request to the signing engine (R332). -/
inductive SignReq where
  /-- a record seal of the audit or the operational chain -/
  | seal (audit : Bool)
  /-- an attestation; its statement is sampled when the engine starts it -/
  | attest (tag : Nat) (statement : List Byte)
  /-- verification of the token that the command of this tag carries -/
  | token (tag : Nat) (bytes : List Byte)
  /-- verification of the owner's signature of a container being validated (R307) -/
  | container
  /-- verification of the owner's signature of the profile object that the command of this tag carries (R342), with what follows it in
  the command's data -/
  | profile (tag : Nat) (token : List Byte)
  deriving DecidableEq, Repr

/-- A burn in progress or waiting (R324, R334, R343, R325). -/
inductive Burn where
  | enrol (tag slot : Nat) (key : List Byte)
  | revoke (tag slot : Nat)
  /-- a profile slot; the tag of the CONFIRM that asked for it, if one did -/
  | profile (tag : Option Nat) (slot : Nat) (digest : List Byte) (version : Nat)
  | floor (tag : Option Nat) (target : Nat)
  deriving DecidableEq, Repr

/-- The Caddy behind its registers. -/
structure Caddy where
  /-- identity seed and public key, held until the next PORST_N (R326) -/
  seed : List Byte := []
  pub : List Byte := []
  devId : List Byte := []
  nonce : List Byte := []
  /-- requests to the signing engine, the one in service first -/
  queue : List SignReq := []
  burns : List Burn := []
  deriving DecidableEq, Repr

/-! ### The medium (R375 to R399) -/

/-- A device of the set as its label names it (R380): channel, chip select and density in GiB. -/
structure MedDevice where
  ch : Nat
  cs : Nat
  gib : Nat
  deriving DecidableEq, Repr

/-- A physical zone that differs from a fresh one (R384 to R390). -/
structure Zone where
  /-- STATE of R397: 0 free or spare, 1 in use, 3 retired, 4 bad, 5 worn in use -/
  state : Nat := 0
  /-- owner in the tag form of R381, of a zone in use -/
  lzone : Nat := 0
  wear : Nat := 0
  /-- frame writes since WEAR last rose -/
  frames : Nat := 0
  /-- WEAR as the journal last kept it -/
  saved : Nat := 0
  start : Nat := 0
  gap : Nat := 256
  /-- page writes since the last gap move -/
  moves : Nat := 0
  wseq : Nat := 0
  /-- an OPEN entry has been journalled since the zone's last SNAP, and the Device Time of its last write -/
  isOpen : Bool := false
  lastWrite : Nat := 0
  deriving DecidableEq, Repr

/-- A journal entry (R397). -/
structure JEntry where
  kind : Nat
  state : Nat := 0
  cause : Nat := 0
  pzone : Nat := 0
  lzone : Nat := 0
  wear : Nat := 0
  start : Nat := 0
  gap : Nat := 0
  wseq : Nat := 0
  deriving DecidableEq, Repr

/-- What the medium holds of one channel, as the journal keeps it (R388 to R390, R406). -/
structure Channel where
  zones : Nat := 0
  bad : Nat := 0
  sparesInit : Nat := 0
  spares : Nat := 0
  retired : Nat := 0
  deriving DecidableEq, Repr

/-- The medium: what its labels, journal and pages hold, kept through resets, and what the controller keeps of it while it
runs. -/
structure Medium where
  /-- SET_ID; no bytes on a blank medium -/
  setId : List Byte := []
  /-- the devices that the labels name -/
  devices : List MedDevice := []
  channels : List Channel := [{}, {}, {}, {}, {}, {}, {}, {}]
  cap : Nat := 0
  p1 : Nat := 0
  p2 : Nat := 0
  p3 : Nat := 0
  p4 : Nat := 0
  shrinks : Nat := 0
  wearRetired : Nat := 0
  defectRetired : Nat := 0
  audStopped : Bool := false
  jseq : Nat := 0
  zones : Bank Zone := []
  /-- pages of P4 that were ever written, by page number; no bytes for one that reads Lost -/
  user : Bank (List Byte) := []
  /-- zones that wait for a migration: physical zone, and 0 levelling, 1 WEAR, 2 DEFECT, 3 DEVICE -/
  due : List (Nat × Nat) := []
  /-- devices declared failed, as channel × 2 + chip select -/
  failed : List Nat := []
  /-- commands in a row that did not complete, by channel × 2 + chip select (R389) -/
  late : Bank Nat := []
  /-- frames the patrol has read in this pass, and the Device Time at which it began -/
  patrol : Nat := 0
  patrolAt : Nat := 0
  /-- change entries that wait for a journal page, oldest first, and the PZONE at which the snapshot continues (R397, R398) -/
  changes : List JEntry := []
  snapNext : Nat := 0
  /-- pages that wait for their refresh: logical zone and page (R391) -/
  refresh : List (Nat × Nat) := []
  /-- devices that discovery found UNSUPPORTED, as channel × 2 + chip select (R376) -/
  unsup : List Nat := []
  /-- the zone map is being rebuilt under R37 -/
  rebuilding : Bool := false
  /-- trained data strobe delay of each channel (R513) -/
  strobe : Bank Nat := []
  deriving DecidableEq, Repr

/-- What a reset leaves of the medium: the map as the open-zone scan and the last SNAP give it (R398, R399). -/
def Medium.kept (m : Medium) : Medium :=
  { m with
    zones := m.zones.map fun e => (e.1, { e.2 with wear := e.2.saved, frames := 0, isOpen := false, lastWrite := 0 })
    due := m.due.filter fun x => x.2 != 0, late := [], patrol := 0, patrolAt := 0, changes := []
    snapNext := 0, refresh := [], unsup := []
    rebuilding := false, strobe := [] }

/-! ### The device -/

/-- What the block times (R71): each running timer has one entry in `Dev.timers`, its deadline in Device Time. -/
inductive Timer where
  /-- LINK_HOLD of link u (R106, R108) -/
  | linkHold (u : Nat)
  /-- 1 ms after a failed ILAS of link u (R104) -/
  | ilasRetry (u : Nat)
  /-- grace timer of unit u (R69) -/
  | grace (u : Nat)
  /-- hardware phase of FAULT_N (R472) -/
  | faultPhase
  /-- trigger wait of the capture of tag u (R363) -/
  | capWait (u : Nat)
  /-- settling interval of cell u (R135) -/
  | settle (u : Nat)
  /-- upward slew of cell u (R151) -/
  | gainSlew (u : Nat)
  /-- REFINE_HOLD of path k of section u (R187) -/
  | refineHold (u : Nat) (k : Nat)
  /-- Survey timer (R195) -/
  | survey
  /-- TRIP_HOLD of cell u: k is 1 growth, 2 spectral, 3 ceiling (R218, R219, R230) -/
  | tripHold (u : Nat) (k : Nat)
  /-- MARGIN_HOLD of cell u (R216) -/
  | marginHold (u : Nat)
  /-- SPK_HOLD of cell u (R219) -/
  | spkHold (u : Nat)
  /-- DONOR_HOLD of carrier k of section u (R221) -/
  | donorHold (u : Nat) (k : Nat)
  /-- SYNC_HOLD in section u for carrier k, counted over all sections (R226) -/
  | syncHold (u : Nat) (k : Nat)
  /-- next timed step of group k of section u (R252, R254) -/
  | groupStep (u : Nat) (k : Nat)
  /-- WAIT entry of synthesiser k of section u (R259) -/
  | seqWait (u : Nat) (k : Nat)
  /-- settle timer of synthesiser k of section u (R260) -/
  | synSettle (u : Nat) (k : Nat)
  /-- MM_HOLD of group k of section u (R266) -/
  | mmHold (u : Nat) (k : Nat)
  /-- repeat of a skipped FDD request of group k of section u (R262) -/
  | fddRepeat (u : Nat) (k : Nat)
  /-- Ember holdoff (R83) -/
  | holdoff
  /-- BACKOFF_DWELL (R80) -/
  | backoffDwell
  /-- Kindling timeout (R91) -/
  | kindle
  /-- EXPIRY_DT of the Service token (R339) -/
  | serviceToken
  /-- probation window (R314) -/
  | probation
  /-- COAL_US of queue pair u (R374) -/
  | coalesce (u : Nat)
  /-- automatic thaw of the recorder (R420) -/
  | thaw
  /-- half of the calibration run in slot u (R280) -/
  | calHalf (u : Nat)
  /-- AUTO_MIN of automatic runs (R278) -/
  | autoCal
  /-- retry of a failed set commit (R294) -/
  | calRetry
  /-- DISC_HOLD of the reference (R289) -/
  | refHold
  /-- retry of an automatic revert (R315) -/
  | revertRetry
  /-- 100 ms dwell of threshold k of neighbourhood u (R453) -/
  | dwell (u : Nat) (k : Nat)
  /-- FALL_HOLD (R454) -/
  | fallHold
  deriving DecidableEq, Repr

/-- The block: everything but the queue of waiting commands. -/
structure Dev where
  /-- register fields by address; a field not listed holds its reset value -/
  regs : Bank Nat := []
  /-- live 64-bit values of the counters that are read as a _LO and _HI pair, by the address of the _LO field -/
  wide : Bank Nat := []
  /-- running timers: code and deadline in Device Time -/
  timers : Bank Nat := []
  /-- Device Time and wall time -/
  clock : Clock := {}
  /-- one-time-programmable bytes (R323); a byte not listed reads 0 -/
  otp : Bank Nat := []
  /-- the MODEL's own: how many free values the block has drawn (`Config.freeValue`) -/
  drawn : Nat := 0
  /-- the MODEL's own: what the block has sent out, newest first -/
  out : List Output := []
  /-- PORST_N is asserted -/
  porst : Bool := true
  /-- RESET_N is asserted -/
  resetn : Bool := false
  /-- Time Base and Clock Root behind their registers -/
  base : TimeBase := {}
  /-- condition instances that hold (R64) -/
  conds : List CondInst := []
  /-- mutes that hold until W1C (R468) -/
  mutes : List MuteHold := []
  /-- Degrade events not acknowledged (R69) -/
  unacked : List Unacked := []
  /-- the Event Recorder -/
  ev : Recorder := {}
  /-- partitions P1 to P3 on the medium; kept through resets -/
  store : RecordStore := {}
  /-- the Mode Controller -/
  mc : ModeCtl := {}
  /-- majority variant record (R484) -/
  variant : Variant := {}
  /-- the signal plane: delay lines, pipelines and buffers of the sample streams -/
  plane : Plane := {}
  /-- links behind their registers, by unit address -/
  link : Bank Link := []
  /-- band cells behind their registers, by unit address -/
  cell : Bank Cell := []
  /-- Combiners behind their registers, by unit address -/
  comb : Bank Comb := []
  /-- Damper paths, by section × 256 + path -/
  path : Bank Path := []
  /-- donor carriers, by section × 8 + carrier -/
  carrier : Bank Carrier := []
  /-- antenna groups, by section × 4 + group -/
  group : Bank Group := []
  /-- synthesisers, by section × 8 + synthesiser -/
  synth : Bank Synth := []
  /-- the Housekeeping ADC -/
  hk : Hk := {}
  /-- results of the sequence entries -/
  hkRes : Bank HkResult := []
  /-- the Thermal Monitor -/
  tm : Thermal := {}
  /-- temperature sensors -/
  sensor : Bank Sensor := []
  /-- neighbourhoods -/
  nbhd : Bank Nbhd := []
  /-- CSPI and RFFE masters, by section × 4: CSPI 0 and 1, RFFE 0 and 1 -/
  bus : Bank Bus := []
  /-- Device Time at which a section's Capture Ring started afresh -/
  ring : Bank Nat := []
  /-- the medium behind the Woodshed Controller; its contents are kept through resets -/
  med : Medium := {}
  /-- partition P0; kept through resets -/
  p0 : Parcel := {}
  /-- the Config Controller -/
  cc : ConfigCtl := {}
  /-- the Caddy -/
  cy : Caddy := {}
  /-- the Host Port -/
  hp : HostPort := {}
  /-- queue pairs -/
  queue : Bank Queue := []
  /-- taps -/
  tap : Bank Tap := []
  /-- the Calibration Engine -/
  ce : CalEngine := {}
  /-- for each kind of periodic event, one more than the Device Time of the last one -/
  ticks : Bank Nat := []
  /-- outstanding and unwritten commands, oldest first -/
  cmds : List Cmd := []
  deriving DecidableEq, Repr

/-- The block with the queue of the commands that wait, first in, first out. -/
structure State where
  pending : List Instr := []
  dev : Dev := {}
  deriving DecidableEq, Repr

/-- One update of the block. Every meaning is a list of these, so what no update can do, no command does. -/
inductive Upd where
  /-- a register field takes a value -/
  | reg (r : Ref) (v : Nat)
  /-- a live 64-bit value -/
  | wide (k : RegKey) (v : Nat)
  | arm (code deadline : Nat)
  | disarm (code : Nat)
  /-- every timer but those listed stops -/
  | keepTimers (codes : List Nat)
  /-- Device Time and wall time run on by `n` dt -/
  | advance (n : Nat)
  /-- Device Time jumps forward by `n` dt, and wall time with it (R28, R32); running intervals keep their length -/
  | jump (n : Nat)
  /-- a SET-WALLCLOCK takes effect (R32) -/
  | setWall (w : Wall)
  /-- OTP bits of one byte are burned (R324) -/
  | burn (addr bits : Nat)
  | draw
  | emit (o : Output)
  /-- every register field of a unit whose window offset lies in a range returns to its reset value -/
  | clearRegs (unit lo hi : Nat)
  /-- as `wide`, for a unit -/
  | clearWide (unit lo hi : Nat)
  | base (v : TimeBase)
  | conds (v : List CondInst)
  | mutes (v : List MuteHold)
  | unacked (v : List Unacked)
  | ev (v : Recorder)
  | store (v : RecordStore)
  | mc (v : ModeCtl)
  | variant (v : Variant)
  | plane (v : Plane)
  | link (k : Nat) (v : Link)
  | linkClear
  | cell (k : Nat) (v : Cell)
  | cellClear
  | comb (k : Nat) (v : Comb)
  | combClear
  | path (k : Nat) (v : Path)
  | pathClear
  | carrier (k : Nat) (v : Carrier)
  | carrierClear
  | group (k : Nat) (v : Group)
  | groupClear
  | synth (k : Nat) (v : Synth)
  | synthClear
  | hk (v : Hk)
  | hkRes (k : Nat) (v : HkResult)
  | hkResClear
  | tm (v : Thermal)
  | sensor (k : Nat) (v : Sensor)
  | sensorClear
  | nbhd (k : Nat) (v : Nbhd)
  | nbhdClear
  | bus (k : Nat) (v : Bus)
  | busClear
  | ring (k : Nat) (v : Nat)
  | ringClear
  | med (v : Medium)
  | p0 (v : Parcel)
  | cc (v : ConfigCtl)
  | cy (v : Caddy)
  | hp (v : HostPort)
  | queue (k : Nat) (v : Queue)
  | queueClear
  | tap (k : Nat) (v : Tap)
  | tapClear
  | ce (v : CalEngine)
  | ticks (k : Nat) (v : Nat)
  | ticksClear
  | cmds (v : List Cmd)
  deriving DecidableEq, Repr

/-- OTP as it leaves Hartos (R483): three copies of the record of a DV96-4FA, and the test-lock marker of R329. The
trims, the identity and the owner and profile slots read 0. DESIGN CHOICE: one variant of R4 is named. -/
def otpReset : Bank Nat :=
  [(0x01, 0x0F), (0x11, 0x0F), (0x21, 0x0F), (0x30, 0x5A), (0x31, 0xA5)]

/-- The block as PORST_N holds it: Cold, every register at its reset value, nothing queued (R80, R505). -/
def State.reset : State := { pending := [], dev := { otp := otpReset } }

end Sys2Proof.Machine
end

