-- ==== Sys2Proof/Machine/Ops.lean ====
section
/-! DEFINITION. The named operations over the state: sparse tables, updates and the scripts built of them, register
fields, timers, Device Time, and the free values. -/

namespace Sys2Proof.Machine

/-! ### Sparse tables -/

/-- The value at a key; an absent key holds the default. -/
def bankGet {V : Type} (dflt : V) : List (Nat × V) → Nat → V
  | [], _ => dflt
  | (k', v) :: b, k => if k' = k then v else bankGet dflt b k

/-- Remove a key. -/
def bankErase {V : Type} : List (Nat × V) → Nat → List (Nat × V)
  | [], _ => []
  | (k', v) :: b, k => if k' = k then bankErase b k else (k', v) :: bankErase b k

/-- Place a value at a key that the table does not hold, in order of key. -/
def bankInsert {V : Type} : List (Nat × V) → Nat → V → List (Nat × V)
  | [], k, v => [(k, v)]
  | (k', v') :: b, k, v =>
    if k < k' then (k, v) :: (k', v') :: b else (k', v') :: bankInsert b k v

end Sys2Proof.Machine

namespace Sys2Proof

/-- The value at a key of a sparse table. -/
def Bank.get {V : Type} (b : Bank V) (dflt : V) (k : Nat) : V := Machine.bankGet dflt b k

/-- Write a value at a key; writing the default removes the entry, so equal tables are equal lists. -/
def Bank.put {V : Type} [DecidableEq V] (b : Bank V) (dflt : V) (k : Nat) (v : V) : Bank V :=
  if v = dflt then Machine.bankErase b k else Machine.bankInsert (Machine.bankErase b k) k v

/-- Keep the entries whose keys pass a test. -/
def Bank.keep {V : Type} (b : Bank V) (p : Nat → Bool) : Bank V := b.filter (fun e => p e.1)

/-- The canonical form: keys strictly rising. -/
def Bank.sorted {V : Type} (b : Bank V) : Prop := b.Pairwise (fun x y => x.1 < y.1)

end Sys2Proof

namespace Sys2Proof.Machine

/-! ### Time -/

/-- The largest Device Time (R27). -/
def dtMax : Nat := 2 ^ 64 - 1

/-- Device Time and wall time after `n` more dt: one dt is 3,125/1,536 ns, and the remainder is kept (R27, R32). -/
def Clock.advance (c : Clock) (n : Nat) : Clock :=
  let t := c.rem + 3125 * n
  let ns := c.wall.ns + t / 1536
  { c with
    dt := min dtMax (c.dt + n)
    rem := t % 1536
    wall := { sec := (c.wall.sec + ns / 1000000000) % 2 ^ 32, ns := ns % 1000000000 } }

/-- dt in `n` µs, rounded up to the next whole dt (R71). -/
def dtOfUs (n : Nat) : Nat := ceilDiv (n * 49152) 100

/-- dt in `n` ms (R71). -/
def dtOfMs (n : Nat) : Nat := n * 491520

/-- dt in `n` s (R71). -/
def dtOfS (n : Nat) : Nat := n * 491520000

/-- dt in `n` ns, rounded up (R71). -/
def dtOfNs (n : Nat) : Nat := ceilDiv (n * 1536) 3125

/-! ### Register addresses -/

/-- The key of the field of unit `u` at window offset `off`, lowest bit `lo`. -/
def regKey (u off lo : Nat) : RegKey := (u * 0x8000 + off) * 32 + lo

/-- The key lies in unit `u`'s window between offsets `a` and `b`, both included. -/
def inWindow (u a b : Nat) (k : RegKey) : Bool :=
  decide (regKey u a 0 ≤ k) && decide (k ≤ regKey u b 31)

/-- Field `f` of unit `u`, instance `i` (and `j` in the second dimension). -/
def Fld.at (f : Fld) (u : Nat) (i : Nat := 0) (j : Nat := 0) : Ref :=
  { key := regKey u (f.off + f.stride * i + f.stride2 * j) f.lo
    width := f.width
    rst := f.rsts.getD i f.rst }

/-- Where each timer's deadline stands in `Dev.timers`. -/
def Timer.code : Timer → Nat
  | .linkHold u => 0 + 128 * u
  | .ilasRetry u => 1 + 128 * u
  | .grace u => 2 + 128 * u
  | .faultPhase => 3
  | .capWait u => 4 + 128 * u
  | .settle u => 5 + 128 * u
  | .gainSlew u => 6 + 128 * u
  | .refineHold u k => 7 + 128 * (u + 65536 * k)
  | .survey => 8
  | .tripHold u k => 9 + 128 * (u + 65536 * k)
  | .marginHold u => 10 + 128 * u
  | .spkHold u => 11 + 128 * u
  | .donorHold u k => 12 + 128 * (u + 65536 * k)
  | .syncHold u k => 13 + 128 * (u + 65536 * k)
  | .groupStep u k => 14 + 128 * (u + 65536 * k)
  | .seqWait u k => 15 + 128 * (u + 65536 * k)
  | .synSettle u k => 16 + 128 * (u + 65536 * k)
  | .mmHold u k => 17 + 128 * (u + 65536 * k)
  | .fddRepeat u k => 18 + 128 * (u + 65536 * k)
  | .holdoff => 19
  | .backoffDwell => 20
  | .kindle => 21
  | .serviceToken => 22
  | .probation => 23
  | .coalesce u => 24 + 128 * u
  | .thaw => 25
  | .calHalf u => 26 + 128 * u
  | .autoCal => 27
  | .calRetry => 28
  | .refHold => 29
  | .revertRetry => 30
  | .dwell u k => 31 + 128 * (u + 65536 * k)
  | .fallHold => 32

/-- The effect of one update. -/
def Dev.apply (d : Dev) : Upd → Dev
  | .reg r v => { d with regs := d.regs.put r.rst r.key (v % 2 ^ r.width) }
  | .wide k v => { d with wide := d.wide.put 0 k (v % 2 ^ 64) }
  | .arm c t => { d with timers := d.timers.put 0 c t }
  | .disarm c => { d with timers := d.timers.put 0 c 0 }
  | .keepTimers cs => { d with timers := d.timers.keep (fun c => cs.contains c) }
  | .advance n => { d with clock := d.clock.advance n }
  | .jump n => { d with
      clock := d.clock.advance n
      timers := d.timers.map fun e => if e.1 = Timer.serviceToken.code then e else (e.1, e.2 + n) }
  | .setWall w => { d with clock := { d.clock with wall := w, rem := 0, epoch := (d.clock.epoch + 1) % 65536 } }
  | .burn a b => { d with otp := d.otp.put 0 a ((d.otp.get 0 a) ||| (b % 256)) }
  | .draw => { d with drawn := d.drawn + 1 }
  | .emit x => { d with out := x :: d.out }
  | .clearRegs u lo hi => { d with regs := d.regs.keep (fun k => !(inWindow u lo hi k)) }
  | .clearWide u lo hi => { d with wide := d.wide.keep (fun k => !(inWindow u lo hi k)) }
  | .base v => { d with base := v }
  | .conds v => { d with conds := v }
  | .mutes v => { d with mutes := v }
  | .unacked v => { d with unacked := v }
  | .ev v => { d with ev := v }
  | .store v => { d with store := v }
  | .mc v => { d with mc := v }
  | .variant v => { d with variant := v }
  | .plane v => { d with plane := v }
  | .link k v => { d with link := d.link.put {} k v }
  | .linkClear => { d with link := [] }
  | .cell k v => { d with cell := d.cell.put {} k v }
  | .cellClear => { d with cell := [] }
  | .comb k v => { d with comb := d.comb.put {} k v }
  | .combClear => { d with comb := [] }
  | .path k v => { d with path := d.path.put {} k v }
  | .pathClear => { d with path := [] }
  | .carrier k v => { d with carrier := d.carrier.put {} k v }
  | .carrierClear => { d with carrier := [] }
  | .group k v => { d with group := d.group.put {} k v }
  | .groupClear => { d with group := [] }
  | .synth k v => { d with synth := d.synth.put {} k v }
  | .synthClear => { d with synth := [] }
  | .hk v => { d with hk := v }
  | .hkRes k v => { d with hkRes := d.hkRes.put {} k v }
  | .hkResClear => { d with hkRes := [] }
  | .tm v => { d with tm := v }
  | .sensor k v => { d with sensor := d.sensor.put {} k v }
  | .sensorClear => { d with sensor := [] }
  | .nbhd k v => { d with nbhd := d.nbhd.put {} k v }
  | .nbhdClear => { d with nbhd := [] }
  | .bus k v => { d with bus := d.bus.put {} k v }
  | .busClear => { d with bus := [] }
  | .ring k v => { d with ring := d.ring.put 0 k v }
  | .ringClear => { d with ring := [] }
  | .med v => { d with med := v }
  | .p0 v => { d with p0 := v }
  | .cc v => { d with cc := v }
  | .cy v => { d with cy := v }
  | .hp v => { d with hp := v }
  | .queue k v => { d with queue := d.queue.put {} k v }
  | .queueClear => { d with queue := [] }
  | .tap k v => { d with tap := d.tap.put {} k v }
  | .tapClear => { d with tap := [] }
  | .ce v => { d with ce := v }
  | .ticks k v => { d with ticks := d.ticks.put 0 k v }
  | .ticksClear => { d with ticks := [] }
  | .cmds v => { d with cmds := v }

/-- The effect of a list of updates, first to last. -/
def Dev.applyAll (d : Dev) (us : List Upd) : Dev := us.foldl Dev.apply d

/-! ### Scripts -/

/-- What a command or a rule does: the updates it makes in a given state of the block. -/
abbrev Script := Dev → List Upd

/-- The block after a script. -/
def Script.run (p : Script) (d : Dev) : Dev := d.applyAll (p d)

/-- Do nothing. -/
def skip : Script := fun _ => []

/-- Make one update. -/
def upd (u : Upd) : Script := fun _ => [u]

/-- One script, then another that sees what the first did. -/
def andThen (p q : Script) : Script := fun d => let us := p d; us ++ q (d.applyAll us)

/-- Scripts one after another. -/
def seqs : List Script → Script
  | [] => skip
  | p :: ps => andThen p (seqs ps)

/-- A script that depends on the state it starts from. -/
def withDev (k : Dev → Script) : Script := fun d => k d d

/-- A script under a condition. -/
def when (c : Bool) (p : Script) : Script := if c then p else skip

/-- One script for each element, in order. -/
def forEach {α : Type} (xs : List α) (f : α → Script) : Script := seqs (xs.map f)

/-! ### Registers -/

/-- A field's current value. -/
def Dev.get (d : Dev) (r : Ref) : Nat := d.regs.get r.rst r.key

/-- The value of field `f` of unit `u`. -/
def Dev.rd (d : Dev) (u : Nat) (f : Fld) (i : Nat := 0) (j : Nat := 0) : Nat := d.get (f.at u i j)

/-- The value of field `f` of unit `u` as a signed number. -/
def Dev.rdS (d : Dev) (u : Nat) (f : Fld) (i : Nat := 0) (j : Nat := 0) : Int := signed f.width (d.rd u f i j)

/-- A one-bit field as a truth value. -/
def Dev.is (d : Dev) (u : Nat) (f : Fld) (i : Nat := 0) (j : Nat := 0) : Bool := d.rd u f i j != 0

/-- Write field `f` of unit `u`. -/
def put (u : Nat) (f : Fld) (v : Nat) (i : Nat := 0) (j : Nat := 0) : Script := upd (.reg (f.at u i j) v)

/-- Write a signed value. -/
def putS (u : Nat) (f : Fld) (v : Int) (i : Nat := 0) (j : Nat := 0) : Script := put u f (codeOf f.width v) i j

/-- Write a one-bit field. -/
def putB (u : Nat) (f : Fld) (b : Bool) (i : Nat := 0) (j : Nat := 0) : Script := put u f (b2n b) i j

/-- Add to a counter that saturates. -/
def incBy (u : Nat) (f : Fld) (n : Nat) (i : Nat := 0) (j : Nat := 0) : Script :=
  fun d => put u f (min (2 ^ f.width - 1) (d.rd u f i j + n)) i j d

/-- Count one in a counter that saturates. -/
def inc (u : Nat) (f : Fld) (i : Nat := 0) (j : Nat := 0) : Script := incBy u f 1 i j

/-- Count one in a counter that wraps. -/
def incWrap (u : Nat) (f : Fld) (i : Nat := 0) (j : Nat := 0) : Script :=
  fun d => put u f (d.rd u f i j + 1) i j d

/-- The live 64-bit value whose low half field `f` shows. -/
def Dev.live (d : Dev) (u : Nat) (f : Fld) (i : Nat := 0) (j : Nat := 0) : Nat := d.wide.get 0 (f.at u i j).key

/-- Give a 64-bit pair a new live value: its _LO field shows the low half at once, its _HI field at the next read of the
_LO field. -/
def putLive (u : Nat) (lo : Fld) (v : Nat) (i : Nat := 0) (j : Nat := 0) : Script :=
  seqs [upd (.wide (lo.at u i j).key v), put u lo (v % 2 ^ 32) i j]

/-- A read of a _LO field latches the high half into its _HI field and returns the low half. -/
def readLive (u : Nat) (lo hi : Fld) (i : Nat := 0) (j : Nat := 0) : Script := fun d =>
  let v := d.live u lo i j
  seqs [put u lo (v % 2 ^ 32) i j, put u hi (v / 2 ^ 32) i j,
    upd (.emit (.readData u (lo.off + lo.stride * i + lo.stride2 * j) (v % 2 ^ 32)))] d

/-! ### Timers and Device Time -/

/-- Device Time. -/
abbrev Dev.dt (d : Dev) : Nat := d.clock.dt

/-- The deadline of a timer that runs. A deadline is at least 1, so 0 says that it does not run. -/
def Dev.deadline (d : Dev) (t : Timer) : Option Nat :=
  let v := d.timers.get 0 t.code
  if v = 0 then none else some (v - 1)

/-- The timer runs. -/
def Dev.running (d : Dev) (t : Timer) : Bool := (d.deadline t).isSome

/-- Start or restart a timer that runs out `n` dt from now. -/
def startTimer (t : Timer) (n : Nat) : Script := fun d => [.arm t.code (d.dt + n + 1)]

/-- Start or restart a timer that runs out at Device Time `t0`. -/
def startTimerAt (t : Timer) (t0 : Nat) : Script := upd (.arm t.code (t0 + 1))

/-- Stop a timer. -/
def stopTimer (t : Timer) : Script := upd (.disarm t.code)

/-- Start a timer only when it does not run. -/
def startIfIdle (t : Timer) (n : Nat) : Script := fun d => when (!d.running t) (startTimer t n) d

/-- Device Time reaches `t0`, if it counts and has not passed it. -/
def advanceTo (t0 : Nat) : Script := fun d =>
  if d.base.counting then (if d.dt < t0 then [.advance (t0 - d.dt)] else []) else []

/-- What a timer's running out does: nothing when it does not run; else Device Time reaches its deadline, the timer
stops, and the script follows. -/
def onExpiry (t : Timer) (p : Script) : Script := fun d =>
  match d.deadline t with
  | none => []
  | some t0 => seqs [advanceTo t0, stopTimer t, p] d

/-! ### Free values -/

/-- Draw a fresh free value below `n` and go on with it. -/
def drawBelow (n : Nat) (k : Nat → Script) : Script := fun d =>
  andThen (upd .draw) (k (Config.freeValue d.drawn % n)) d

/-- Send something out. -/
def emit (o : Output) : Script := upd (.emit o)

/-- Change `base`. -/
def modBase (f : TimeBase → TimeBase) : Script := fun d => [.base (f d.base)]

/-- Change `conds`. -/
def modConds (f : (List CondInst) → (List CondInst)) : Script := fun d => [.conds (f d.conds)]

/-- Change `mutes`. -/
def modMutes (f : (List MuteHold) → (List MuteHold)) : Script := fun d => [.mutes (f d.mutes)]

/-- Change `unacked`. -/
def modUnacked (f : (List Unacked) → (List Unacked)) : Script := fun d => [.unacked (f d.unacked)]

/-- Change `ev`. -/
def modEv (f : Recorder → Recorder) : Script := fun d => [.ev (f d.ev)]

/-- Change `store`. -/
def modStore (f : RecordStore → RecordStore) : Script := fun d => [.store (f d.store)]

/-- Change `mc`. -/
def modMc (f : ModeCtl → ModeCtl) : Script := fun d => [.mc (f d.mc)]

/-- Change `variant`. -/
def modVariant (f : Variant → Variant) : Script := fun d => [.variant (f d.variant)]

/-- Change `plane`. -/
def modPlane (f : Plane → Plane) : Script := fun d => [.plane (f d.plane)]

/-- Links behind their registers, by unit address: entry `k`. -/
def Dev.linkAt (d : Dev) (k : Nat) : Link := d.link.get {} k

/-- Change entry `k` of `link`. -/
def modLink (k : Nat) (f : Link → Link) : Script := fun d => [.link k (f (d.linkAt k))]

/-- Band cells behind their registers, by unit address: entry `k`. -/
def Dev.cellAt (d : Dev) (k : Nat) : Cell := d.cell.get {} k

/-- Change entry `k` of `cell`. -/
def modCell (k : Nat) (f : Cell → Cell) : Script := fun d => [.cell k (f (d.cellAt k))]

/-- Combiners behind their registers, by unit address: entry `k`. -/
def Dev.combAt (d : Dev) (k : Nat) : Comb := d.comb.get {} k

/-- Change entry `k` of `comb`. -/
def modComb (k : Nat) (f : Comb → Comb) : Script := fun d => [.comb k (f (d.combAt k))]

/-- Damper paths, by section × 256 + path: entry `k`. -/
def Dev.pathAt (d : Dev) (k : Nat) : Path := d.path.get {} k

/-- Change entry `k` of `path`. -/
def modPath (k : Nat) (f : Path → Path) : Script := fun d => [.path k (f (d.pathAt k))]

/-- Donor carriers, by section × 8 + carrier: entry `k`. -/
def Dev.carrierAt (d : Dev) (k : Nat) : Carrier := d.carrier.get {} k

/-- Change entry `k` of `carrier`. -/
def modCarrier (k : Nat) (f : Carrier → Carrier) : Script := fun d => [.carrier k (f (d.carrierAt k))]

/-- Antenna groups, by section × 4 + group: entry `k`. -/
def Dev.groupAt (d : Dev) (k : Nat) : Group := d.group.get {} k

/-- Change entry `k` of `group`. -/
def modGroup (k : Nat) (f : Group → Group) : Script := fun d => [.group k (f (d.groupAt k))]

/-- Synthesisers, by section × 8 + synthesiser: entry `k`. -/
def Dev.synthAt (d : Dev) (k : Nat) : Synth := d.synth.get {} k

/-- Change entry `k` of `synth`. -/
def modSynth (k : Nat) (f : Synth → Synth) : Script := fun d => [.synth k (f (d.synthAt k))]

/-- Change `hk`. -/
def modHk (f : Hk → Hk) : Script := fun d => [.hk (f d.hk)]

/-- Results of the sequence entries: entry `k`. -/
def Dev.hkResAt (d : Dev) (k : Nat) : HkResult := d.hkRes.get {} k

/-- Change entry `k` of `hkRes`. -/
def modHkRes (k : Nat) (f : HkResult → HkResult) : Script := fun d => [.hkRes k (f (d.hkResAt k))]

/-- Change `tm`. -/
def modTm (f : Thermal → Thermal) : Script := fun d => [.tm (f d.tm)]

/-- Temperature sensors: entry `k`. -/
def Dev.sensorAt (d : Dev) (k : Nat) : Sensor := d.sensor.get {} k

/-- Change entry `k` of `sensor`. -/
def modSensor (k : Nat) (f : Sensor → Sensor) : Script := fun d => [.sensor k (f (d.sensorAt k))]

/-- Neighbourhoods: entry `k`. -/
def Dev.nbhdAt (d : Dev) (k : Nat) : Nbhd := d.nbhd.get {} k

/-- Change entry `k` of `nbhd`. -/
def modNbhd (k : Nat) (f : Nbhd → Nbhd) : Script := fun d => [.nbhd k (f (d.nbhdAt k))]

/-- CSPI and RFFE masters, by section × 4: CSPI 0 and 1, RFFE 0 and 1: entry `k`. -/
def Dev.busAt (d : Dev) (k : Nat) : Bus := d.bus.get {} k

/-- Change entry `k` of `bus`. -/
def modBus (k : Nat) (f : Bus → Bus) : Script := fun d => [.bus k (f (d.busAt k))]

/-- Device Time at which a section's Capture Ring started afresh: entry `k`. -/
def Dev.ringAt (d : Dev) (k : Nat) : Nat := d.ring.get 0 k

/-- Change entry `k` of `ring`. -/
def modRing (k : Nat) (f : Nat → Nat) : Script := fun d => [.ring k (f (d.ringAt k))]

/-- Change `med`. -/
def modMed (f : Medium → Medium) : Script := fun d => [.med (f d.med)]

/-- Change `p0`. -/
def modP0 (f : Parcel → Parcel) : Script := fun d => [.p0 (f d.p0)]

/-- Change `cc`. -/
def modCc (f : ConfigCtl → ConfigCtl) : Script := fun d => [.cc (f d.cc)]

/-- Change `cy`. -/
def modCy (f : Caddy → Caddy) : Script := fun d => [.cy (f d.cy)]

/-- Change `hp`. -/
def modHp (f : HostPort → HostPort) : Script := fun d => [.hp (f d.hp)]

/-- Queue pairs: entry `k`. -/
def Dev.queueAt (d : Dev) (k : Nat) : Queue := d.queue.get {} k

/-- Change entry `k` of `queue`. -/
def modQueue (k : Nat) (f : Queue → Queue) : Script := fun d => [.queue k (f (d.queueAt k))]

/-- Taps: entry `k`. -/
def Dev.tapAt (d : Dev) (k : Nat) : Tap := d.tap.get {} k

/-- Change entry `k` of `tap`. -/
def modTap (k : Nat) (f : Tap → Tap) : Script := fun d => [.tap k (f (d.tapAt k))]

/-- Change `ce`. -/
def modCe (f : CalEngine → CalEngine) : Script := fun d => [.ce (f d.ce)]

/-- For each kind of periodic event, one more than the Device Time of the last one: entry `k`. -/
def Dev.ticksAt (d : Dev) (k : Nat) : Nat := d.ticks.get 0 k

/-- Change entry `k` of `ticks`. -/
def modTicks (k : Nat) (f : Nat → Nat) : Script := fun d => [.ticks k (f (d.ticksAt k))]

/-- Change `cmds`. -/
def modCmds (f : (List Cmd) → (List Cmd)) : Script := fun d => [.cmds (f d.cmds)]



/-! ### Periodic events -/

/-- An event of kind `k` that takes place at Device Times that are multiples of `period`, once at each: at `t` it takes place
when `t` is such a multiple and is not past. -/
def onMultiple (k period t : Nat) (p : Script) : Script := withDev fun d =>
  when (t % period == 0 && decide (d.dt ≤ t) && decide (d.ticksAt k ≤ t) && d.base.counting)
    (seqs [advanceTo t, upd (.ticks k (t + 1)), p])

end Sys2Proof.Machine
end

