-- ==== Sys2Proof/Machine/Db.lean ====
section
/-! DEFINITION. Levels in 0.01 dB, computed exactly from ratios of whole numbers: rounding down, up and to nearest, sums of
levels, and the value 0x8000 that stands for none (R160, R191, R214). -/

namespace Sys2Proof.Machine

/-- The code that stands for no level, or for zero gain (R150, R160). -/
def noLevel : Nat := 0x8000

/-- 10^(x/n) is at most p/q, decided in whole numbers: 10^x × q^n ≤ p^n. -/
def powAtMost (n : Nat) (x : Int) (p q : Nat) : Bool :=
  if 0 ≤ x then decide (10 ^ x.toNat * q ^ n ≤ p ^ n) else decide (q ^ n ≤ p ^ n * 10 ^ (-x).toNat)

/-- The largest x of `lo ≤ x < lo + 2^fuel` that passes a test which holds up to some x and fails beyond it; `lo` when
none does. -/
def searchUp (ok : Int → Bool) : Nat → Int → Int
  | 0, lo => lo
  | f + 1, lo =>
    let mid := lo + 2 ^ f
    if ok mid then searchUp ok f mid else searchUp ok f lo

/-- 10 × log10 (p/q) in 0.01 dB, rounded down, for p, q > 0; results lie from −32,768 to 32,767. -/
def cdbDown (p q : Nat) : Int := searchUp (fun x => powAtMost 1000 x p q) 16 (-32768)

/-- The ratio is a whole number of 0.01 dB. -/
def cdbExact (p q : Nat) : Bool :=
  let x := cdbDown p q
  if 0 ≤ x then decide (10 ^ x.toNat * q ^ 1000 = p ^ 1000) else decide (q ^ 1000 = p ^ 1000 * 10 ^ (-x).toNat)

/-- Rounded up. -/
def cdbUp (p q : Nat) : Int := cdbDown p q + (if cdbExact p q then 0 else 1)

/-- Rounded to nearest. -/
def cdbNear (p q : Nat) : Int :=
  let x := cdbDown p q
  if powAtMost 2000 (2 * x + 1) p q then x + 1 else x

/-- Where the spec states no rounding, one of the two neighbours, left open. -/
def cdbOpen (p q : Nat) : Int := if Config.roundsUp p q then cdbUp p q else cdbDown p q

/-- p/q as a whole number where the spec states no rounding: one of its neighbours, left open. -/
def roundOpen (p : Int) (q : Nat) : Int :=
  p / (q : Int) + (if p % (q : Int) ≠ 0 ∧ Config.roundsUp p.natAbs q then 1 else 0)

/-- p/q to the nearest whole number; which way a tie goes is left open (R288, R443, R458). -/
def roundHalf (p : Int) (q : Nat) : Int :=
  let f := p / (q : Int)
  let r := 2 * (p % (q : Int))
  if r < q then f else if r > q then f + 1 else if Config.roundsUp p.natAbs q then f + 1 else f

/-- A level field's code for the ratio p/q: 0x8000 when p is zero. -/
def levelCode (f : Nat → Nat → Int) (p q : Nat) : Nat :=
  if p = 0 then noLevel else codeOf 16 (clamp (-32767) 32767 (f p q))

/-- A level field as a level; none for 0x8000. -/
def levelOf (v : Nat) : Option Int := if v = noLevel then none else some (signed 16 v)

/-- The code of an optional level. -/
def codeLevel (v : Option Int) : Nat := (v.map fun x => codeOf 16 (clamp (-32767) 32767 x)).getD noLevel

/-! ### Sums of levels (R192, R214, R222, R229) -/

/-- 10^(x/1000) in units of 2^−bits for x ≤ 0, rounded down. -/
def powBelow (bits : Nat) (x : Int) : Nat :=
  (searchUp (fun v => decide (0 ≤ v) && decide (v.toNat ^ 1000 * 10 ^ (-x).toNat ≤ 2 ^ (bits * 1000))) (bits + 1) 0).toNat

/-- Σ a × 10^((x − hi)/1000) over terms of weight a and level x, in units of 2^−bits, rounded down term by term. -/
def sumBelow (bits : Nat) (hi : Int) (ws : List (Nat × Int)) : Nat := (ws.map fun w => w.1 * powBelow bits (w.2 - hi)).foldl (· + ·) 0

/-- Σ of the weights. -/
def weightSum (ws : List (Nat × Int)) : Nat := (ws.map (·.1)).foldl (· + ·) 0

/-- 1000 × log10 (Σ a × 10^((x − hi)/1000) / den), rounded up: with the bits listed in turn, until the sum's lower and upper bound
round alike. -/
def sumTry (den : Nat) (hi : Int) (ws : List (Nat × Int)) : List Nat → Int
  | [] => 0
  | [bits] => cdbUp (sumBelow bits hi ws + weightSum ws) (den * 2 ^ bits)
  | bits :: more =>
    let p := sumBelow bits hi ws
    let u := cdbUp p (den * 2 ^ bits)
    if cdbUp (p + weightSum ws) (den * 2 ^ bits) = u then u else sumTry den hi ws more

/-- 1000 × log10 (Σ a × 10^(x/1000) / den) over terms of weight a and level x, rounded up; none for no power. Levels that differ by
whole multiples of 10 dB give a whole-number ratio, and only they can give a level exactly; any other sum is decided by its
bounds. -/
def levelSumUp (den : Nat) (ws : List (Nat × Int)) : Option Int :=
  match ws.filter fun w => w.1 != 0 with
  | [] => none
  | w :: rest =>
    let lo := rest.foldl (fun m x => min m x.2) w.2
    let hi := rest.foldl (fun m x => max m x.2) w.2
    some (if (w :: rest).all fun x => (x.2 - lo) % 1000 == 0 then
      lo + cdbUp (((w :: rest).map fun x => x.1 * 10 ^ ((x.2 - lo) / 1000).toNat).foldl (· + ·) 0) den
    else hi + sumTry den hi (w :: rest) [128, 1024])

/-- 10 × log10 of the sum of 10^(x/1000) over levels in 0.01 dB, rounded up; none for no level. -/
def sumUp (xs : List Int) : Option Int := levelSumUp 1 (xs.map fun x => (1, x))

/-- The largest of a list of levels; none for no level. -/
def maxLevel (xs : List Int) : Option Int :=
  match xs with
  | [] => none
  | x :: xs => some (xs.foldl max x)

end Sys2Proof.Machine
end

