-- ==== Sys2Proof/Machine/RegsCommon.lean ====
section
/-! DEFINITION. The register fields of HDR, TB, CK, MC, from the register tables of the spec (R41, R42, R43, R44, R45, R58, R59, R60, R61, R62, R68, R93, R482). Generated from those tables:
one descriptor per field, and per unit type the list of its fields. -/

namespace Sys2Proof.Machine.Reg

/-- R58, The unit's address under R46. -/
def HDR.UNIT_ADDR : Fld :=
  { unit := 0, off := 0x0, lo := 16, width := 16, acc := .ro, rst := 0x0 }
/-- R58, 1 if the variant provides the unit. -/
def HDR.PRESENT : Fld :=
  { unit := 0, off := 0x0, lo := 8, width := 1, acc := .ro, rst := 0x0 }
/-- R58, Revision of the die, the same value in every present unit; 0x01 on the die that this manual describes; 0x00 when PRESENT = 0. -/
def HDR.REV : Fld :=
  { unit := 0, off := 0x0, lo := 0, width := 8, acc := .ro, rst := 0x1 }
/-- R59, 1 lets pending enabled sources raise the unit interrupt. -/
def HDR.IRQ_EN : Fld :=
  { unit := 0, off := 0x4, lo := 4, width := 1, acc := .rw, rst := 0x0 }
/-- R59, Write 1 to zero every counter the unit's chapter marks "cleared by CNT_CLEAR"; sticky bits, header fields and reset-only counters are unaffected. -/
def HDR.CNT_CLEAR : Fld :=
  { unit := 0, off := 0x4, lo := 0, width := 1, acc := .sc, rst := 0x0, cntClear := true }
/-- R60, Sticky; set by any rejected write; cleared by writing 1. -/
def HDR.WRITE_REJECT : Fld :=
  { unit := 0, off := 0x8, lo := 31, width := 1, acc := .w1c, rst := 0x0 }
/-- R60, Cause code of the first rejection since WRITE_REJECT was last 0. -/
def HDR.REJECT_CAUSE : Fld :=
  { unit := 0, off := 0x8, lo := 24, width := 4, acc := .ro, rst := 0x0 }
/-- R60, Window offset of that rejected write. -/
def HDR.REJECT_OFFSET : Fld :=
  { unit := 0, off := 0x8, lo := 0, width := 12, acc := .ro, rst := 0x0 }
/-- R60, Rejected writes; 16 bits, saturating; cleared by reset and when WRITE_REJECT is cleared. -/
def HDR.REJECT_CNT : Fld :=
  { unit := 0, off := 0xc, lo := 0, width := 16, acc := .ro, rst := 0x0 }
/-- R61, Corrections since reset; 32 bits, saturating; cleared by reset only. -/
def HDR.ECC_CORR : Fld :=
  { unit := 0, off := 0x48, lo := 0, width := 32, acc := .ro, rst := 0x0 }
/-- R62, 1 while a first source is latched. -/
def HDR.ERR_VALID : Fld :=
  { unit := 0, off := 0x10, lo := 31, width := 1, acc := .ro, rst := 0x0 }
/-- R62, 1 if the latched event was escalated by grace expiry. -/
def HDR.ERR_ESCALATED : Fld :=
  { unit := 0, off := 0x10, lo := 30, width := 1, acc := .ro, rst := 0x0 }
/-- R62, Severity of the latched event when it occurred. -/
def HDR.ERR_SEVERITY : Fld :=
  { unit := 0, off := 0x10, lo := 28, width := 2, acc := .ro, rst := 0x0 }
/-- R62, Source number of the latched event. -/
def HDR.ERR_SOURCE : Fld :=
  { unit := 0, off := 0x10, lo := 0, width := 6, acc := .ro, rst := 0x0 }
/-- R62, Bit s is sticky for source s, 0 to 31; cleared by writing 1 (R64). -/
def HDR.PEND : Fld :=
  { unit := 0, off := 0x14, lo := 0, width := 32, acc := .w1c, rst := 0x0 }
/-- R62, Events since the latch; 16 bits, saturating; cleared when ERR_FIRST re-arms. -/
def HDR.ERR_LATER_CNT : Fld :=
  { unit := 0, off := 0x18, lo := 16, width := 16, acc := .ro, rst := 0x0 }
/-- R62, Sticky; the latched source fired again; cleared by writing 1. -/
def HDR.ERR_REPEAT : Fld :=
  { unit := 0, off := 0x18, lo := 1, width := 1, acc := .w1c, rst := 0x0 }
/-- R62, Sticky; a different source fired while VALID = 1; cleared by writing 1. -/
def HDR.ERR_OVF : Fld :=
  { unit := 0, off := 0x18, lo := 0, width := 1, acc := .w1c, rst := 0x0 }
/-- R62, Bit s enables source s, 0 to 31, onto the unit interrupt. -/
def HDR.IEN : Fld :=
  { unit := 0, off := 0x1c, lo := 0, width := 32, acc := .rw, rst := 0x0 }
/-- R62, As PEND, for sources 32 to 63. -/
def HDR.PEND_HI : Fld :=
  { unit := 0, off := 0x30, lo := 0, width := 32, acc := .w1c, rst := 0x0 }
/-- R62, As IEN, for sources 32 to 63. -/
def HDR.IEN_HI : Fld :=
  { unit := 0, off := 0x34, lo := 0, width := 32, acc := .rw, rst := 0x0 }
/-- R68, Grace time in µs, 0 to 1,000,000; values above 1,000,000 rejected (RANGE); 0 means escalate at once. -/
def HDR.GRACE_US : Fld :=
  { unit := 0, off := 0x40, lo := 0, width := 20, acc := .rw, rst := 0x2710, range := some (0, 1000000) }
/-- R68, Escalations since reset; 16 bits, saturating. -/
def HDR.ESC_CNT : Fld :=
  { unit := 0, off := 0x44, lo := 16, width := 16, acc := .ro, rst := 0x0 }
/-- R68, 1 while the grace timer runs. -/
def HDR.TIMER_RUN : Fld :=
  { unit := 0, off := 0x44, lo := 8, width := 1, acc := .ro, rst := 0x0 }
/-- R68, Write 1 to acknowledge every Degrade event that has fired and is not yet acknowledged. -/
def HDR.ACK : Fld :=
  { unit := 0, off := 0x44, lo := 0, width := 1, acc := .wo, rst := 0x0 }

/-- Every field of the common header. -/
def HDR.all : List Fld :=
  [HDR.UNIT_ADDR, HDR.PRESENT, HDR.REV, HDR.IRQ_EN, HDR.CNT_CLEAR, HDR.WRITE_REJECT, HDR.REJECT_CAUSE, HDR.REJECT_OFFSET, HDR.REJECT_CNT, HDR.ECC_CORR, HDR.ERR_VALID, HDR.ERR_ESCALATED] ++
  [HDR.ERR_SEVERITY, HDR.ERR_SOURCE, HDR.PEND, HDR.ERR_LATER_CNT, HDR.ERR_REPEAT, HDR.ERR_OVF, HDR.IEN, HDR.PEND_HI, HDR.IEN_HI, HDR.GRACE_US, HDR.ESC_CNT, HDR.TIMER_RUN] ++
  [HDR.ACK]

/-- R45, Device Time [31:0]; a read latches the snapshot. -/
def TB.DT_LO : Fld :=
  { unit := 26, off := 0x100, lo := 0, width := 32, acc := .ro, rst := 0x0 }
/-- R45, Device Time [63:32] from the snapshot. -/
def TB.DT_HI : Fld :=
  { unit := 26, off := 0x104, lo := 0, width := 32, acc := .ro, rst := 0x0 }
/-- R45, Wall-time nanoseconds from the snapshot, 0 to 999,999,999. -/
def TB.WALL_NS : Fld :=
  { unit := 26, off := 0x108, lo := 0, width := 30, acc := .ro, rst := 0x0 }
/-- R45, Wall-time seconds from the snapshot. -/
def TB.WALL_SEC : Fld :=
  { unit := 26, off := 0x10c, lo := 0, width := 32, acc := .ro, rst := 0x0 }
/-- R45, 1 once SET-WALLCLOCK has been executed since reset. -/
def TB.WALL_VALID : Fld :=
  { unit := 26, off := 0x110, lo := 16, width := 1, acc := .ro, rst := 0x0 }
/-- R45, Wall epoch from the snapshot; 16 bits, wraps. -/
def TB.WALL_EPOCH : Fld :=
  { unit := 26, off := 0x110, lo := 0, width := 16, acc := .ro, rst := 0x0 }
/-- R45, Sticky; set while Device Time runs from the RC oscillator; cleared by writing 1. -/
def TB.DT_COARSE : Fld :=
  { unit := 26, off := 0x114, lo := 3, width := 1, acc := .w1c, rst := 0x0 }
/-- R45, Sticky; set by a misaligned SYSREF edge; cleared by writing 1. -/
def TB.PHASE_ERR : Fld :=
  { unit := 26, off := 0x114, lo := 2, width := 1, acc := .w1c, rst := 0x0 }
/-- R45, 1 while alignment waits for a qualifying pair. -/
def TB.ALIGN_ARMED : Fld :=
  { unit := 26, off := 0x114, lo := 1, width := 1, acc := .ro, rst := 0x0 }
/-- R45, 1 after alignment; cleared by reset and by root failure. -/
def TB.ALIGNED : Fld :=
  { unit := 26, off := 0x114, lo := 0, width := 1, acc := .ro, rst := 0x0 }
/-- R45, SYSREF period in dt, 1 to 16,777,215; a bit-stream setting 0 is rejected. -/
def TB.SYSREF_PERIOD : Fld :=
  { unit := 26, off := 0x118, lo := 0, width := 24, acc := .lk, rst := 0x0, range := some (1, 16777215), zeroRejected := true }
/-- R45, Write 1 to arm alignment; accepted in Banked and Service only. -/
def TB.ARM : Fld :=
  { unit := 26, off := 0x11c, lo := 0, width := 1, acc := .sc, rst := 0x0 }
/-- R45, Forward jump J applied at the last alignment, in dt. -/
def TB.ALIGN_JUMP : Fld :=
  { unit := 26, off := 0x120, lo := 0, width := 24, acc := .ro, rst := 0x0 }
/-- R45, SYSREF edges since reset; 32 bits, wraps. -/
def TB.SYSREF_CNT : Fld :=
  { unit := 26, off := 0x124, lo := 0, width := 32, acc := .ro, rst := 0x0 }
/-- R45, Device Time [31:0] of the last SYSREF edge; a read latches EDGE_DT_HI. -/
def TB.EDGE_DT_LO : Fld :=
  { unit := 26, off := 0x128, lo := 0, width := 32, acc := .ro, rst := 0x0 }
/-- R45, Device Time [63:32] of the last SYSREF edge. -/
def TB.EDGE_DT_HI : Fld :=
  { unit := 26, off := 0x12c, lo := 0, width := 32, acc := .ro, rst := 0x0 }

/-- Every field of a TB window. -/
def TB.all : List Fld :=
  [TB.DT_LO, TB.DT_HI, TB.WALL_NS, TB.WALL_SEC, TB.WALL_VALID, TB.WALL_EPOCH, TB.DT_COARSE, TB.PHASE_ERR, TB.ALIGN_ARMED, TB.ALIGNED, TB.SYSREF_PERIOD, TB.ARM] ++
  [TB.ALIGN_JUMP, TB.SYSREF_CNT, TB.EDGE_DT_LO, TB.EDGE_DT_HI]

/-- R41, Detected reference: 0b00 none, 0b01 122.88 MHz, 0b10 245.76 MHz, 0b11 reserved. -/
def CK.REF_FREQ : Fld :=
  { unit := 23, off := 0x100, lo := 6, width := 2, acc := .ro, rst := 0x0 }
/-- R41, 1 while the control domain runs from the RC oscillator. -/
def CK.CTRL_ON_RC : Fld :=
  { unit := 23, off := 0x100, lo := 5, width := 1, acc := .ro, rst := 0x1 }
/-- R41, 1 while the DSP clock is divided by 16 at thermal shutdown. -/
def CK.DSP_SLOW : Fld :=
  { unit := 23, off := 0x100, lo := 4, width := 1, acc := .ro, rst := 0x0 }
/-- R41, 1 while the housekeeping clock is divided by 2 at throttle level T2 or above. -/
def CK.HK_HALF : Fld :=
  { unit := 23, off := 0x100, lo := 3, width := 1, acc := .ro, rst := 0x0 }
/-- R41, Sticky; set on each root failure; cleared by writing 1. -/
def CK.ROOT_LOST : Fld :=
  { unit := 23, off := 0x100, lo := 2, width := 1, acc := .w1c, rst := 0x0 }
/-- R41, 1 while REFCLK toggles within either detection window. -/
def CK.REF_PRESENT : Fld :=
  { unit := 23, off := 0x100, lo := 1, width := 1, acc := .ro, rst := 0x0 }
/-- R41, 1 while the root PLL is locked and the root monitor passes. -/
def CK.ROOT_LOCK : Fld :=
  { unit := 23, off := 0x100, lo := 0, width := 1, acc := .ro, rst := 0x0 }
/-- R42, Sticky per clock, in the order of [7:0]; set when the clock is declared failed; cleared by writing 1. -/
def CK.FAILED : Fld :=
  { unit := 23, off := 0x104, lo := 8, width := 8, acc := .w1c, rst := 0x0 }
/-- R42, Housekeeping clock passes its monitor. -/
def CK.HK : Fld :=
  { unit := 23, off := 0x104, lo := 7, width := 1, acc := .ro, rst := 0x0 }
/-- R42, Media clock passes its monitor. -/
def CK.MEDIA : Fld :=
  { unit := 23, off := 0x104, lo := 6, width := 1, acc := .ro, rst := 0x0 }
/-- R42, Control clock passes its monitor. -/
def CK.CONTROL : Fld :=
  { unit := 23, off := 0x104, lo := 5, width := 1, acc := .ro, rst := 0x0 }
/-- R42, Sample clock passes its monitor. -/
def CK.SAMPLE : Fld :=
  { unit := 23, off := 0x104, lo := 4, width := 1, acc := .ro, rst := 0x0 }
/-- R42, DSP clock passes its monitor. -/
def CK.DSP : Fld :=
  { unit := 23, off := 0x104, lo := 3, width := 1, acc := .ro, rst := 0x0 }
/-- R42, Lane clock C passes its monitor. -/
def CK.LANE_C : Fld :=
  { unit := 23, off := 0x104, lo := 2, width := 1, acc := .ro, rst := 0x0 }
/-- R42, Lane clock B passes its monitor. -/
def CK.LANE_B : Fld :=
  { unit := 23, off := 0x104, lo := 1, width := 1, acc := .ro, rst := 0x0 }
/-- R42, Lane clock A passes its monitor. -/
def CK.LANE_A : Fld :=
  { unit := 23, off := 0x104, lo := 0, width := 1, acc := .ro, rst := 0x0 }
/-- R43, Divided-clock failures since reset; 16 bits, saturating. -/
def CK.CLK_FAIL : Fld :=
  { unit := 23, off := 0x108, lo := 16, width := 16, acc := .ro, rst := 0x0 }
/-- R43, Root failures since reset; 16 bits, saturating. -/
def CK.ROOT_FAIL : Fld :=
  { unit := 23, off := 0x108, lo := 0, width := 16, acc := .ro, rst := 0x0 }
/-- R44, RC oscillator frequency in units of 10 kHz, measured against the root every 1 ms; reads 0 from reset until the first 1 ms measurement after the root first locks completes; holds its last value while the root is unlocked. -/
def CK.RC_FREQ : Fld :=
  { unit := 23, off := 0x10c, lo := 0, width := 16, acc := .ro, rst := 0x0 }

/-- Every field of a CK window. -/
def CK.all : List Fld :=
  [CK.REF_FREQ, CK.CTRL_ON_RC, CK.DSP_SLOW, CK.HK_HALF, CK.ROOT_LOST, CK.REF_PRESENT, CK.ROOT_LOCK, CK.FAILED, CK.HK, CK.MEDIA, CK.CONTROL, CK.SAMPLE] ++
  [CK.DSP, CK.LANE_C, CK.LANE_B, CK.LANE_A, CK.CLK_FAIL, CK.ROOT_FAIL, CK.RC_FREQ]

/-- R93, 1 while LOCKOUT is set; survives reset through the P0 marker under R86, and reads the marker from medium discovery. -/
def MC.LOCKOUT : Fld :=
  { unit := 25, off := 0x100, lo := 15, width := 1, acc := .ro, rst := 0x0 }
/-- R93, 1 while the Current configuration awaits CONFIRM. -/
def MC.PROBATION : Fld :=
  { unit := 25, off := 0x100, lo := 14, width := 1, acc := .ro, rst := 0x0 }
/-- R93, Set under R92. -/
def MC.SURVEY_DONE : Fld :=
  { unit := 25, off := 0x100, lo := 13, width := 1, acc := .ro, rst := 0x0 }
/-- R93, 1 from the acceptance of a transition until MC.MODE reads its target, or, for a lockout clear in Banked, until its directory write verifies or fails. -/
def MC.TRANSITION : Fld :=
  { unit := 25, off := 0x100, lo := 11, width := 1, acc := .ro, rst := 0x0 }
/-- R93, Ember return mode under R83; valid in Ember. -/
def MC.RETURN_MODE : Fld :=
  { unit := 25, off := 0x100, lo := 8, width := 3, acc := .ro, rst := 0x0 }
/-- R93, Mode before the last transition. -/
def MC.PREV_MODE : Fld :=
  { unit := 25, off := 0x100, lo := 4, width := 3, acc := .ro, rst := 0x0 }
/-- R93, Current mode, encoded as under R75. -/
def MC.MODE : Fld :=
  { unit := 25, off := 0x100, lo := 0, width := 3, acc := .ro, rst := 0x0 }
/-- R93, Cause code that set LOCKOUT; 0x00 while LOCKOUT is 0. -/
def MC.LOCKOUT_CAUSE : Fld :=
  { unit := 25, off := 0x104, lo := 8, width := 8, acc := .ro, rst := 0x0 }
/-- R93, Cause of the last transition, from the table under R90; 0x01 after PORST_N and 0x02 after RESET_N. -/
def MC.CAUSE : Fld :=
  { unit := 25, off := 0x104, lo := 0, width := 8, acc := .ro, rst := 0x1 }
/-- R93, Ember cause 0x43 active. -/
def MC.EMBER_SUPPLY : Fld :=
  { unit := 25, off := 0x108, lo := 3, width := 1, acc := .ro, rst := 0x0 }
/-- R93, Ember cause 0x42 active until the muting unit's pending bit is cleared. -/
def MC.EMBER_DEV_MUTE : Fld :=
  { unit := 25, off := 0x108, lo := 2, width := 1, acc := .ro, rst := 0x0 }
/-- R93, Ember cause 0x41 active until the thermal restart condition is met. -/
def MC.EMBER_THERMAL : Fld :=
  { unit := 25, off := 0x108, lo := 1, width := 1, acc := .ro, rst := 0x0 }
/-- R93, Ember cause 0x40 active while any clock in the RF path is failed; after a root failure, active until the sync event of R31, or, in Cold, until the relock. -/
def MC.EMBER_CLOCK : Fld :=
  { unit := 25, off := 0x108, lo := 0, width := 1, acc := .ro, rst := 0x0 }
/-- R93, Device backoff in force, in 0.01 dB, 0 to 4,000; the largest amount of the active causes. -/
def MC.BACKOFF_DB : Fld :=
  { unit := 25, off := 0x10c, lo := 8, width := 16, acc := .ro, rst := 0x0 }
/-- R93, Backoff cause 0x32 active. -/
def MC.BACKOFF_DROOP : Fld :=
  { unit := 25, off := 0x10c, lo := 2, width := 1, acc := .ro, rst := 0x0 }
/-- R93, Backoff cause 0x31 active. -/
def MC.BACKOFF_MARGIN : Fld :=
  { unit := 25, off := 0x10c, lo := 1, width := 1, acc := .ro, rst := 0x0 }
/-- R93, Backoff cause 0x30 active. -/
def MC.BACKOFF_THERMAL : Fld :=
  { unit := 25, off := 0x10c, lo := 0, width := 1, acc := .ro, rst := 0x0 }
/-- R93, Holdoff remaining, in units of 10 ms; 0 when no holdoff runs. -/
def MC.HOLDOFF_LEFT : Fld :=
  { unit := 25, off := 0x110, lo := 16, width := 16, acc := .ro, rst := 0x0 }
/-- R93, Retries within the preceding 3,600 s of Device Time. -/
def MC.RETRY_HOUR : Fld :=
  { unit := 25, off := 0x110, lo := 0, width := 8, acc := .ro, rst := 0x0 }
/-- R93, Longest holdoff in s, 1 to 255; 0 rejected. -/
def MC.HOLDOFF_MAX : Fld :=
  { unit := 25, off := 0x114, lo := 16, width := 8, acc := .lk, rst := 0x40, range := some (1, 255), zeroRejected := true }
/-- R93, First holdoff in s, 1 to 64; 0 rejected. -/
def MC.HOLDOFF_BASE : Fld :=
  { unit := 25, off := 0x114, lo := 8, width := 8, acc := .lk, rst := 0x1, range := some (1, 64), zeroRejected := true }
/-- R93, Retries allowed within 3,600 s, 1 to 255; 0 rejected. -/
def MC.MAX_RETRY : Fld :=
  { unit := 25, off := 0x114, lo := 0, width := 8, acc := .lk, rst := 0x8, range := some (1, 255), zeroRejected := true }
/-- R93, Time in ms for which all Backoff causes must stay clear before Backoff ends, 10 to 60,000; 0 rejected. -/
def MC.BACKOFF_DWELL : Fld :=
  { unit := 25, off := 0x118, lo := 16, width := 16, acc := .lk, rst := 0x3e8, range := some (10, 60000), zeroRejected := true }
/-- R93, Kindling timeout in ms, 100 to 10,000; 0 rejected. -/
def MC.KINDLE_TIMEOUT : Fld :=
  { unit := 25, off := 0x118, lo := 0, width := 16, acc := .lk, rst := 0x7d0, range := some (100, 10000), zeroRejected := true }
/-- R93, Mode transitions since reset; 32 bits, wraps. -/
def MC.TRANS_CNT : Fld :=
  { unit := 25, off := 0x11c, lo := 0, width := 32, acc := .ro, rst := 0x0 }
/-- R93, Target mode of the last MODE-REQUEST. -/
def MC.REQ_TARGET : Fld :=
  { unit := 25, off := 0x120, lo := 8, width := 3, acc := .ro, rst := 0x0 }
/-- R93, Result of the last MODE-REQUEST, from the table under R87. -/
def MC.REQ_RESULT : Fld :=
  { unit := 25, off := 0x120, lo := 0, width := 4, acc := .ro, rst := 0x0 }
/-- R93, Device Time [31:0] of the last transition; a read latches MODE_DT_HI. -/
def MC.MODE_DT_LO : Fld :=
  { unit := 25, off := 0x124, lo := 0, width := 32, acc := .ro, rst := 0x0 }
/-- R93, Device Time [63:32] of the last transition. -/
def MC.MODE_DT_HI : Fld :=
  { unit := 25, off := 0x128, lo := 0, width := 32, acc := .ro, rst := 0x0 }
/-- R482, Hardware phase in µs, 1 to 1,023, 1 µs resolution; 0 rejected. -/
def MC.FAULT_MIN_WIDTH : Fld :=
  { unit := 25, off := 0x140, lo := 16, width := 10, acc := .lk, rst := 0xa, range := some (1, 1023), zeroRejected := true }
/-- R482, Lowest severity that starts a hardware phase, encoded as under R66. -/
def MC.PIN_THRESH : Fld :=
  { unit := 25, off := 0x140, lo := 0, width := 2, acc := .lk, rst := 0x2 }
/-- R482, Pin level outside the hardware phase: 1 asserted, 0 released. -/
def MC.SW : Fld :=
  { unit := 25, off := 0x144, lo := 0, width := 1, acc := .rw, rst := 0x1 }
/-- R482, 1 while the hardware phase runs. -/
def MC.HW_PHASE : Fld :=
  { unit := 25, off := 0x148, lo := 31, width := 1, acc := .ro, rst := 0x0 }
/-- R482, 1 while FAULT_N is asserted. -/
def MC.PIN : Fld :=
  { unit := 25, off := 0x148, lo := 30, width := 1, acc := .ro, rst := 0x1 }
/-- R482, Hardware phase remaining, in µs. -/
def MC.HW_LEFT : Fld :=
  { unit := 25, off := 0x148, lo := 0, width := 10, acc := .ro, rst := 0x0 }
/-- R482, Hardware phases started; 32 bits, saturating; cleared by CNT_CLEAR. -/
def MC.FAULT_CNT : Fld :=
  { unit := 25, off := 0x14c, lo := 0, width := 32, acc := .ro, rst := 0x0, cntClear := true }

/-- Every field of a MC window. -/
def MC.all : List Fld :=
  [MC.LOCKOUT, MC.PROBATION, MC.SURVEY_DONE, MC.TRANSITION, MC.RETURN_MODE, MC.PREV_MODE, MC.MODE, MC.LOCKOUT_CAUSE, MC.CAUSE, MC.EMBER_SUPPLY, MC.EMBER_DEV_MUTE, MC.EMBER_THERMAL] ++
  [MC.EMBER_CLOCK, MC.BACKOFF_DB, MC.BACKOFF_DROOP, MC.BACKOFF_MARGIN, MC.BACKOFF_THERMAL, MC.HOLDOFF_LEFT, MC.RETRY_HOUR, MC.HOLDOFF_MAX, MC.HOLDOFF_BASE, MC.MAX_RETRY, MC.BACKOFF_DWELL, MC.KINDLE_TIMEOUT] ++
  [MC.TRANS_CNT, MC.REQ_TARGET, MC.REQ_RESULT, MC.MODE_DT_LO, MC.MODE_DT_HI, MC.FAULT_MIN_WIDTH, MC.PIN_THRESH, MC.SW, MC.HW_PHASE, MC.PIN, MC.HW_LEFT, MC.FAULT_CNT]

end Sys2Proof.Machine.Reg
end

