-- ==== Sys2Proof/Machine/RegsPath.lean ====
section
/-! DEFINITION. The register fields of RXL, TXL, BC, CB, DS, from the register tables of the spec (R114, R115, R142, R170, R171, R205, R206). Generated from those tables:
one descriptor per field, and per unit type the list of its fields. -/

namespace Sys2Proof.Machine.Reg

/-- R114, 1 if the link is configured. -/
def RXL.ENABLE : Fld :=
  { unit := 1, off := 0x100, lo := 31, width := 1, acc := .lk, rst := 0x0 }
/-- R114, 1 enables descrambling. -/
def RXL.SCR : Fld :=
  { unit := 1, off := 0x100, lo := 28, width := 1, acc := .lk, rst := 0x0 }
/-- R114, Format under R95; 0b11 rejected. -/
def RXL.FORMAT : Fld :=
  { unit := 1, off := 0x100, lo := 26, width := 2, acc := .lk, rst := 0x0, range := some (0, 2) }
/-- R114, K − 1; K under R97. -/
def RXL.K_M1 : Fld :=
  { unit := 1, off := 0x100, lo := 21, width := 5, acc := .lk, rst := 0x1f }
/-- R114, Release buffer delay in frames, 0 to K − 1. -/
def RXL.RBD : Fld :=
  { unit := 1, off := 0x100, lo := 16, width := 5, acc := .lk, rst := 0x0 }
/-- R114, Multiframes to release, 1 to 3; 0 rejected. -/
def RXL.MF_DELAY : Fld :=
  { unit := 1, off := 0x100, lo := 14, width := 2, acc := .lk, rst := 0x1, range := some (1, 3), zeroRejected := true }
/-- R114, 1 swaps physical lanes 0 and 1. -/
def RXL.LANE_SWAP : Fld :=
  { unit := 1, off := 0x100, lo := 13, width := 1, acc := .lk, rst := 0x0 }
/-- R114, Per lane, 1 inverts serial polarity. -/
def RXL.POL_INV : Fld :=
  { unit := 1, off := 0x100, lo := 11, width := 2, acc := .lk, rst := 0x0 }
/-- R114, Expected DID. -/
def RXL.DID : Fld :=
  { unit := 1, off := 0x100, lo := 0, width := 8, acc := .lk, rst := 0x0 }
/-- R114, Expected BID. -/
def RXL.BID : Fld :=
  { unit := 1, off := 0x104, lo := 24, width := 4, acc := .lk, rst := 0x0 }
/-- R114, Expected LID of lane 1. -/
def RXL.LID1 : Fld :=
  { unit := 1, off := 0x104, lo := 16, width := 5, acc := .lk, rst := 0x1 }
/-- R114, Expected LID of lane 0. -/
def RXL.LID0 : Fld :=
  { unit := 1, off := 0x104, lo := 8, width := 5, acc := .lk, rst := 0x0 }
/-- R114, Expected N − 1; N 12 to N'. -/
def RXL.N_M1 : Fld :=
  { unit := 1, off := 0x104, lo := 0, width := 5, acc := .lk, rst := 0xf }
/-- R114, Declared converter latency in dt, 0 to 65,535. -/
def RXL.ADC_LAT : Fld :=
  { unit := 1, off := 0x108, lo := 0, width := 16, acc := .lk, rst := 0x0, range := some (0, 65535) }
/-- R114, Arrival tolerance in dt, 0 to 15. -/
def RXL.LAT_TOL : Fld :=
  { unit := 1, off := 0x10c, lo := 28, width := 4, acc := .lk, rst := 0x2, range := some (0, 15) }
/-- R114, Hold after recovery in ms, 1 to 255; 0 rejected. -/
def RXL.LINK_HOLD : Fld :=
  { unit := 1, off := 0x10c, lo := 20, width := 8, acc := .lk, rst := 0xa, range := some (1, 255), zeroRejected := true }
/-- R114, 1 restarts a lost link automatically. -/
def RXL.RESYNC_AUTO : Fld :=
  { unit := 1, off := 0x10c, lo := 19, width := 1, acc := .rw, rst := 0x1 }
/-- R114, 1 reports errors by SYNC~ pulses. -/
def RXL.SYNC_ERR_REPORT : Fld :=
  { unit := 1, off := 0x10c, lo := 18, width := 1, acc := .rw, rst := 0x0 }
/-- R114, Errors per 1 ms window that mute the link, 1 to 65,535; 0 rejected. -/
def RXL.ERR_THRESH : Fld :=
  { unit := 1, off := 0x10c, lo := 0, width := 16, acc := .lk, rst := 0x10, range := some (1, 65535), zeroRejected := true }
/-- R114, Service only: 0b00 format rate, 0b01 12,288, 0b10 9,830.4, 0b11 4,915.2 Mb/s. -/
def RXL.TEST_RATE : Fld :=
  { unit := 1, off := 0x110, lo := 4, width := 2, acc := .rw, rst := 0x0 }
/-- R114, Service only: subclass 0 under R113. -/
def RXL.SUB0_TEST : Fld :=
  { unit := 1, off := 0x110, lo := 2, width := 1, acc := .rw, rst := 0x0 }
/-- R114, Service only: loopback under R113. -/
def RXL.LOOPBACK : Fld :=
  { unit := 1, off := 0x110, lo := 1, width := 1, acc := .rw, rst := 0x0 }
/-- R114, Restart under R107. -/
def RXL.RESYNC : Fld :=
  { unit := 1, off := 0x110, lo := 0, width := 1, acc := .sc, rst := 0x0 }
/-- R114, 1 while SYNC~ is asserted, in every mode, including Cold and a link with ENABLE = 0 (R104, R491). -/
def RXL.SYNC_OUT : Fld :=
  { unit := 1, off := 0x114, lo := 8, width := 1, acc := .ro, rst := 0x1 }
/-- R114, Condition under R102. -/
def RXL.LAT_SHIFT : Fld :=
  { unit := 1, off := 0x114, lo := 6, width := 1, acc := .ro, rst := 0x0 }
/-- R114, Condition under R106. -/
def RXL.LINK_MUTE : Fld :=
  { unit := 1, off := 0x114, lo := 5, width := 1, acc := .ro, rst := 0x0 }
/-- R114, Per lane, code-group synchronised. -/
def RXL.LANE_SYNC : Fld :=
  { unit := 1, off := 0x114, lo := 3, width := 2, acc := .ro, rst := 0x0 }
/-- R114, 0 OFF, 1 WAIT_ALIGN, 2 CGS, 3 ILAS, 4 DATA, 5 HOLD, 6 TEST; 7 reserved. -/
def RXL.LINK_STATE : Fld :=
  { unit := 1, off := 0x114, lo := 0, width := 3, acc := .ro, rst := 0x0 }
/-- R114, 0x0 none, 0x1 structure, 0x2 configuration octet, 0x3 FCHK, 0x4 lanes disagree, 0x5 arrival past release. -/
def RXL.ILAS_ERR : Fld :=
  { unit := 1, off := 0x118, lo := 24, width := 4, acc := .ro, rst := 0x0 }
/-- R114, Lane of the failure. -/
def RXL.LANE : Fld :=
  { unit := 1, off := 0x118, lo := 20, width := 1, acc := .ro, rst := 0x0 }
/-- R114, Octet received, for code 0x2. -/
def RXL.RECEIVED : Fld :=
  { unit := 1, off := 0x118, lo := 8, width := 8, acc := .ro, rst := 0x0 }
/-- R114, Configuration octet index, 0 to 13, for code 0x2. -/
def RXL.INDEX : Fld :=
  { unit := 1, off := 0x118, lo := 0, width := 8, acc := .ro, rst := 0x0 }
/-- R114, 1 when PATH_DT holds under R101. -/
def RXL.PATH_VALID : Fld :=
  { unit := 1, off := 0x11c, lo := 31, width := 1, acc := .ro, rst := 0x0 }
/-- R114, Path delay in dt under R101. -/
def RXL.PATH_DT : Fld :=
  { unit := 1, off := 0x11c, lo := 0, width := 24, acc := .ro, rst := 0x0 }
/-- R114, Last arrival of lane 1 in dt; 0xFFFF until measured. -/
def RXL.ARRIVAL_L1 : Fld :=
  { unit := 1, off := 0x120, lo := 16, width := 16, acc := .ro, rst := 0xffff }
/-- R114, Last arrival of lane 0 in dt. -/
def RXL.ARRIVAL_L0 : Fld :=
  { unit := 1, off := 0x120, lo := 0, width := 16, acc := .ro, rst := 0xffff }
/-- R114, Reference arrival of lane 1 under R102. -/
def RXL.REF_L1 : Fld :=
  { unit := 1, off := 0x124, lo := 16, width := 16, acc := .ro, rst := 0xffff }
/-- R114, Reference arrival of lane 0. -/
def RXL.REF_L0 : Fld :=
  { unit := 1, off := 0x124, lo := 0, width := 16, acc := .ro, rst := 0xffff }
/-- R114, Restarts; 16 bits, saturating; cleared by CNT_CLEAR. -/
def RXL.RESYNC_CNT : Fld :=
  { unit := 1, off := 0x128, lo := 16, width := 16, acc := .ro, rst := 0x0, cntClear := true }
/-- R114, Failed ILAS; 16 bits, saturating; cleared by CNT_CLEAR. -/
def RXL.ILAS_FAIL_CNT : Fld :=
  { unit := 1, off := 0x128, lo := 0, width := 16, acc := .ro, rst := 0x0, cntClear := true }
/-- R114, Disparity errors; cleared by CNT_CLEAR. -/
def RXL.L_DISP_ERR : Fld :=
  { unit := 1, off := 0x140, lo := 0, width := 32, acc := .ro, rst := 0x0, stride := 64, count := 2, cntClear := true }
/-- R114, Not-in-table errors; cleared by CNT_CLEAR. -/
def RXL.L_NIT_ERR : Fld :=
  { unit := 1, off := 0x144, lo := 0, width := 32, acc := .ro, rst := 0x0, stride := 64, count := 2, cntClear := true }
/-- R114, Unexpected control characters; cleared by CNT_CLEAR. -/
def RXL.L_UNEXP_K : Fld :=
  { unit := 1, off := 0x148, lo := 0, width := 32, acc := .ro, rst := 0x0, stride := 64, count := 2, cntClear := true }
/-- R114, Misplaced /A/ or /F/; cleared by CNT_CLEAR. -/
def RXL.L_ALIGN_ERR : Fld :=
  { unit := 1, off := 0x14c, lo := 0, width := 32, acc := .ro, rst := 0x0, stride := 64, count := 2, cntClear := true }
/-- R114, Losses of code-group synchronisation; cleared by CNT_CLEAR. -/
def RXL.L_CGS_LOSS : Fld :=
  { unit := 1, off := 0x150, lo := 0, width := 32, acc := .ro, rst := 0x0, stride := 64, count := 2, cntClear := true }
/-- R114, Injected bit, 0 to 19. -/
def RXL.L_INJ_BIT : Fld :=
  { unit := 1, off := 0x160, lo := 15, width := 5, acc := .rw, rst := 0x0, stride := 64, count := 2, range := some (0, 19) }
/-- R114, 1 expects injections under R111. -/
def RXL.L_INJ_EN : Fld :=
  { unit := 1, off := 0x160, lo := 14, width := 1, acc := .rw, rst := 0x0, stride := 64, count := 2 }
/-- R114, 1 runs the checker. -/
def RXL.L_CHK_EN : Fld :=
  { unit := 1, off := 0x160, lo := 13, width := 1, acc := .rw, rst := 0x0, stride := 64, count := 2 }
/-- R114, Pattern under R110. -/
def RXL.L_PATTERN : Fld :=
  { unit := 1, off := 0x160, lo := 0, width := 4, acc := .rw, rst := 0x0, stride := 64, count := 2 }
/-- R114, Injection interval in words, 1 to 16,777,215; 0 rejected. -/
def RXL.L_INJ_N : Fld :=
  { unit := 1, off := 0x164, lo := 0, width := 24, acc := .rw, rst := 0x1, stride := 64, count := 2, range := some (1, 16777215), zeroRejected := true }
/-- R114, 16 bits, saturating. -/
def RXL.L_LOCK_LOSS : Fld :=
  { unit := 1, off := 0x168, lo := 16, width := 16, acc := .ro, rst := 0x0, stride := 64, count := 2 }
/-- R114, Checker locked. -/
def RXL.L_LOCKED : Fld :=
  { unit := 1, off := 0x168, lo := 0, width := 1, acc := .ro, rst := 0x0, stride := 64, count := 2 }
/-- R114, Words counted [31:0]; a read latches WORDS_HI. -/
def RXL.L_WORDS_LO : Fld :=
  { unit := 1, off := 0x16c, lo := 0, width := 32, acc := .ro, rst := 0x0, stride := 64, count := 2 }
/-- R114, Words counted [63:32]; saturating. -/
def RXL.L_WORDS_HI : Fld :=
  { unit := 1, off := 0x170, lo := 0, width := 32, acc := .ro, rst := 0x0, stride := 64, count := 2 }
/-- R114, Words with real errors. -/
def RXL.L_REAL_ERR : Fld :=
  { unit := 1, off := 0x174, lo := 0, width := 32, acc := .ro, rst := 0x0, stride := 64, count := 2 }
/-- R114, Injections seen. -/
def RXL.L_INJ_SEEN : Fld :=
  { unit := 1, off := 0x178, lo := 0, width := 32, acc := .ro, rst := 0x0, stride := 64, count := 2 }
/-- R114, Injections missed. -/
def RXL.L_INJ_MISSED : Fld :=
  { unit := 1, off := 0x17c, lo := 0, width := 32, acc := .ro, rst := 0x0, stride := 64, count := 2 }

/-- Every field of a RXL window. -/
def RXL.all : List Fld :=
  [RXL.ENABLE, RXL.SCR, RXL.FORMAT, RXL.K_M1, RXL.RBD, RXL.MF_DELAY, RXL.LANE_SWAP, RXL.POL_INV, RXL.DID, RXL.BID, RXL.LID1, RXL.LID0] ++
  [RXL.N_M1, RXL.ADC_LAT, RXL.LAT_TOL, RXL.LINK_HOLD, RXL.RESYNC_AUTO, RXL.SYNC_ERR_REPORT, RXL.ERR_THRESH, RXL.TEST_RATE, RXL.SUB0_TEST, RXL.LOOPBACK, RXL.RESYNC, RXL.SYNC_OUT] ++
  [RXL.LAT_SHIFT, RXL.LINK_MUTE, RXL.LANE_SYNC, RXL.LINK_STATE, RXL.ILAS_ERR, RXL.LANE, RXL.RECEIVED, RXL.INDEX, RXL.PATH_VALID, RXL.PATH_DT, RXL.ARRIVAL_L1, RXL.ARRIVAL_L0] ++
  [RXL.REF_L1, RXL.REF_L0, RXL.RESYNC_CNT, RXL.ILAS_FAIL_CNT, RXL.L_DISP_ERR, RXL.L_NIT_ERR, RXL.L_UNEXP_K, RXL.L_ALIGN_ERR, RXL.L_CGS_LOSS, RXL.L_INJ_BIT, RXL.L_INJ_EN, RXL.L_CHK_EN] ++
  [RXL.L_PATTERN, RXL.L_INJ_N, RXL.L_LOCK_LOSS, RXL.L_LOCKED, RXL.L_WORDS_LO, RXL.L_WORDS_HI, RXL.L_REAL_ERR, RXL.L_INJ_SEEN, RXL.L_INJ_MISSED]

/-- R115, 1 if the link is configured. -/
def TXL.ENABLE : Fld :=
  { unit := 2, off := 0x100, lo := 31, width := 1, acc := .lk, rst := 0x0 }
/-- R115, 1 enables descrambling. -/
def TXL.SCR : Fld :=
  { unit := 2, off := 0x100, lo := 28, width := 1, acc := .lk, rst := 0x0 }
/-- R115, Format under R95; 0b11 rejected. -/
def TXL.FORMAT : Fld :=
  { unit := 2, off := 0x100, lo := 26, width := 2, acc := .lk, rst := 0x0, range := some (0, 2) }
/-- R115, K − 1; K under R97. -/
def TXL.K_M1 : Fld :=
  { unit := 2, off := 0x100, lo := 21, width := 5, acc := .lk, rst := 0x1f }
/-- R115, 1 swaps physical lanes 0 and 1. -/
def TXL.LANE_SWAP : Fld :=
  { unit := 2, off := 0x100, lo := 13, width := 1, acc := .lk, rst := 0x0 }
/-- R115, Per lane, 1 inverts serial polarity. -/
def TXL.POL_INV : Fld :=
  { unit := 2, off := 0x100, lo := 11, width := 2, acc := .lk, rst := 0x0 }
/-- R115, Expected DID. -/
def TXL.DID : Fld :=
  { unit := 2, off := 0x100, lo := 0, width := 8, acc := .lk, rst := 0x0 }
/-- R115, Expected BID. -/
def TXL.BID : Fld :=
  { unit := 2, off := 0x104, lo := 24, width := 4, acc := .lk, rst := 0x0 }
/-- R115, Expected LID of lane 1. -/
def TXL.LID1 : Fld :=
  { unit := 2, off := 0x104, lo := 16, width := 5, acc := .lk, rst := 0x1 }
/-- R115, Expected LID of lane 0. -/
def TXL.LID0 : Fld :=
  { unit := 2, off := 0x104, lo := 8, width := 5, acc := .lk, rst := 0x0 }
/-- R115, Expected N − 1; N 12 to N'. -/
def TXL.N_M1 : Fld :=
  { unit := 2, off := 0x104, lo := 0, width := 5, acc := .lk, rst := 0xf }
/-- R115, Declared DAC latency in dt, 0 to 65,535; bits [31:16] reserved. -/
def TXL.DAC_LAT : Fld :=
  { unit := 2, off := 0x108, lo := 0, width := 16, acc := .lk, rst := 0x0, range := some (0, 65535) }
/-- R115, As in R114; bits [31:28] and [19:16] reserved. -/
def TXL.LINK_HOLD : Fld :=
  { unit := 2, off := 0x10c, lo := 20, width := 8, acc := .lk, rst := 0xa, range := some (1, 255), zeroRejected := true }
/-- R115, Error reports per 1 ms window that raise the Degrade source, 1 to 65,535; 0 rejected. -/
def TXL.SYNC_ERR_THRESH : Fld :=
  { unit := 2, off := 0x10c, lo := 0, width := 16, acc := .lk, rst := 0x10, range := some (1, 65535), zeroRejected := true }
/-- R115, As in R114. -/
def TXL.TEST_RATE : Fld :=
  { unit := 2, off := 0x110, lo := 4, width := 2, acc := .rw, rst := 0x0 }
/-- R115, As in R114; other bits reserved. -/
def TXL.SUB0_TEST : Fld :=
  { unit := 2, off := 0x110, lo := 2, width := 1, acc := .rw, rst := 0x0 }
/-- R115, Under R109. -/
def TXL.ZEROING : Fld :=
  { unit := 2, off := 0x114, lo := 6, width := 1, acc := .ro, rst := 0x0 }
/-- R115, Condition under R108. -/
def TXL.LINK_MUTE : Fld :=
  { unit := 2, off := 0x114, lo := 5, width := 1, acc := .ro, rst := 0x0 }
/-- R115, 1 while the DAC asserts SYNC~. -/
def TXL.SYNC_IN : Fld :=
  { unit := 2, off := 0x114, lo := 3, width := 1, acc := .ro, rst := 0x0 }
/-- R115, As in R114; other bits reserved. -/
def TXL.LINK_STATE : Fld :=
  { unit := 2, off := 0x114, lo := 0, width := 3, acc := .ro, rst := 0x0 }
/-- R115, 1 when PATH_DT holds under R103. -/
def TXL.PATH_VALID : Fld :=
  { unit := 2, off := 0x11c, lo := 31, width := 1, acc := .ro, rst := 0x0 }
/-- R115, Path delay in dt under R103; bits [30:24] reserved. -/
def TXL.PATH_DT : Fld :=
  { unit := 2, off := 0x11c, lo := 0, width := 24, acc := .ro, rst := 0x0 }
/-- R115, Resynchronisation requests; 16 bits, saturating; cleared by CNT_CLEAR; bits [15:0] reserved. -/
def TXL.SYNC_REQ_CNT : Fld :=
  { unit := 2, off := 0x128, lo := 16, width := 16, acc := .ro, rst := 0x0, cntClear := true }
/-- R115, Error reports; 32 bits, saturating; cleared by CNT_CLEAR. -/
def TXL.SYNC_ERR_CNT : Fld :=
  { unit := 2, off := 0x12c, lo := 0, width := 32, acc := .ro, rst := 0x0, cntClear := true }
/-- R115, Saturated samples under R96; 32 bits, saturating; cleared by CNT_CLEAR. -/
def TXL.TX_SAT : Fld :=
  { unit := 2, off := 0x130, lo := 0, width := 32, acc := .ro, rst := 0x0, cntClear := true }
/-- R115, As in R114. -/
def TXL.L_INJ_BIT : Fld :=
  { unit := 2, off := 0x160, lo := 15, width := 5, acc := .rw, rst := 0x0, stride := 64, count := 2, range := some (0, 19) }
/-- R115, 1 makes injections under R111. -/
def TXL.L_INJ_EN : Fld :=
  { unit := 2, off := 0x160, lo := 14, width := 1, acc := .rw, rst := 0x0, stride := 64, count := 2 }
/-- R115, 1 sends the pattern in place of link data. -/
def TXL.L_GEN_EN : Fld :=
  { unit := 2, off := 0x160, lo := 13, width := 1, acc := .rw, rst := 0x0, stride := 64, count := 2 }
/-- R115, As in R114; other bits reserved. -/
def TXL.L_PATTERN : Fld :=
  { unit := 2, off := 0x160, lo := 0, width := 4, acc := .rw, rst := 0x0, stride := 64, count := 2 }
/-- R115, As in R114; bits [31:24] reserved. -/
def TXL.L_INJ_N : Fld :=
  { unit := 2, off := 0x164, lo := 0, width := 24, acc := .rw, rst := 0x1, stride := 64, count := 2, range := some (1, 16777215), zeroRejected := true }
/-- R115, Under R111. -/
def TXL.L_INJ_MADE : Fld :=
  { unit := 2, off := 0x168, lo := 0, width := 32, acc := .ro, rst := 0x0, stride := 64, count := 2 }

/-- Every field of a TXL window. -/
def TXL.all : List Fld :=
  [TXL.ENABLE, TXL.SCR, TXL.FORMAT, TXL.K_M1, TXL.LANE_SWAP, TXL.POL_INV, TXL.DID, TXL.BID, TXL.LID1, TXL.LID0, TXL.N_M1, TXL.DAC_LAT] ++
  [TXL.LINK_HOLD, TXL.SYNC_ERR_THRESH, TXL.TEST_RATE, TXL.SUB0_TEST, TXL.ZEROING, TXL.LINK_MUTE, TXL.SYNC_IN, TXL.LINK_STATE, TXL.PATH_VALID, TXL.PATH_DT, TXL.SYNC_REQ_CNT, TXL.SYNC_ERR_CNT] ++
  [TXL.TX_SAT, TXL.L_INJ_BIT, TXL.L_INJ_EN, TXL.L_GEN_EN, TXL.L_PATTERN, TXL.L_INJ_N, TXL.L_INJ_MADE]

/-- R142, Cell rate code s, 1 to 7, under R116; 0 rejected for a configured cell. -/
def BC.CELL_RATE : Fld :=
  { unit := 3, off := 0x200, lo := 0, width := 3, acc := .lk, rst := 0x0, range := some (0, 7) }
/-- R142, Receive set A; code of position p at bits [3p−1:3p−3]. -/
def BC.RX_RESP_A : Fld :=
  { unit := 3, off := 0x204, lo := 0, width := 21, acc := .lk, rst := 0x0 }
/-- R142, Receive set B, as RX_RESP_A; bits [31:21] reserved. -/
def BC.RX_RESP_B : Fld :=
  { unit := 3, off := 0x208, lo := 0, width := 21, acc := .lk, rst := 0x0 }
/-- R142, Transmit set A, as RX_RESP_A; bits [31:21] reserved. -/
def BC.TX_RESP_A : Fld :=
  { unit := 3, off := 0x20c, lo := 0, width := 21, acc := .lk, rst := 0x0 }
/-- R142, Transmit set B, as RX_RESP_A; bits [31:21] reserved. -/
def BC.TX_RESP_B : Fld :=
  { unit := 3, off := 0x210, lo := 0, width := 21, acc := .lk, rst := 0x0 }
/-- R142, Transmit shift of position p, 0 to 3, at bits [2p+15:2p+14]. -/
def BC.TX_SHIFT : Fld :=
  { unit := 3, off := 0x214, lo := 16, width := 14, acc := .lk, rst := 0x0 }
/-- R142, Receive shift of position p, 0 to 3, at bits [2p−1:2p−2]. -/
def BC.RX_SHIFT : Fld :=
  { unit := 3, off := 0x214, lo := 0, width := 14, acc := .lk, rst := 0x1555 }
/-- R142, RX NCO FTW [31:0]. -/
def BC.RX_FTW_LO : Fld :=
  { unit := 3, off := 0x218, lo := 0, width := 32, acc := .lk, rst := 0x0 }
/-- R142, RX NCO phase offset, in units of 2^−16 turn. -/
def BC.RX_PHASE_OFS : Fld :=
  { unit := 3, off := 0x21c, lo := 16, width := 16, acc := .lk, rst := 0x0 }
/-- R142, RX NCO FTW [47:32]; two's complement over [47:0]. -/
def BC.RX_FTW_HI : Fld :=
  { unit := 3, off := 0x21c, lo := 0, width := 16, acc := .lk, rst := 0x0 }
/-- R142, TX NCO FTW [31:0]. -/
def BC.TX_FTW_LO : Fld :=
  { unit := 3, off := 0x220, lo := 0, width := 32, acc := .lk, rst := 0x0 }
/-- R142, TX NCO phase offset, in units of 2^−16 turn. -/
def BC.TX_PHASE_OFS : Fld :=
  { unit := 3, off := 0x224, lo := 16, width := 16, acc := .lk, rst := 0x0 }
/-- R142, TX NCO FTW [47:32]. -/
def BC.TX_FTW_HI : Fld :=
  { unit := 3, off := 0x224, lo := 0, width := 16, acc := .lk, rst := 0x0 }
/-- R142, 1 defers a response switch to the next sync event (R127); set to 0 on entry to Kindling. -/
def BC.SWITCH_AT_SYNC : Fld :=
  { unit := 3, off := 0x228, lo := 4, width := 1, acc := .rw, rst := 0x0 }
/-- R142, Requested response set, 0 for A and 1 for B (R126). -/
def BC.RESP_SEL : Fld :=
  { unit := 3, off := 0x228, lo := 0, width := 1, acc := .rw, rst := 0x0 }
/-- R142, 1 within the settling interval of R135. -/
def BC.SETTLING : Fld :=
  { unit := 3, off := 0x22c, lo := 2, width := 1, acc := .ro, rst := 0x0 }
/-- R142, 1 while a switch waits (R127). -/
def BC.RESP_PEND : Fld :=
  { unit := 3, off := 0x22c, lo := 1, width := 1, acc := .ro, rst := 0x0 }
/-- R142, Response set in use. -/
def BC.RESP_ACTIVE : Fld :=
  { unit := 3, off := 0x22c, lo := 0, width := 1, acc := .ro, rst := 0x0 }
/-- R142, Transmit chain gain in 0.01 dB, two's complement (R125). -/
def BC.TX_GAIN : Fld :=
  { unit := 3, off := 0x230, lo := 16, width := 16, acc := .ro, rst := 0x0 }
/-- R142, Receive chain gain in 0.01 dB, two's complement (R125). -/
def BC.RX_GAIN : Fld :=
  { unit := 3, off := 0x230, lo := 0, width := 16, acc := .ro, rst := 0x0 }
/-- R142, Ignored SYNC_IN edges (R137); 16 bits, saturating; cleared by CNT_CLEAR. -/
def BC.SYNC_IGN_CNT : Fld :=
  { unit := 3, off := 0x234, lo := 16, width := 16, acc := .ro, rst := 0x0, cntClear := true }
/-- R142, Sync events (R135); 16 bits, saturating; cleared by CNT_CLEAR. -/
def BC.SYNC_CNT : Fld :=
  { unit := 3, off := 0x234, lo := 0, width := 16, acc := .ro, rst := 0x0, cntClear := true }
/-- R142, t_s [31:0] of the last sync event; a read latches SYNC_DT_HI. -/
def BC.SYNC_DT_LO : Fld :=
  { unit := 3, off := 0x238, lo := 0, width := 32, acc := .ro, rst := 0x0 }
/-- R142, t_s [63:32]. -/
def BC.SYNC_DT_HI : Fld :=
  { unit := 3, off := 0x23c, lo := 0, width := 32, acc := .ro, rst := 0x0 }
/-- R142, CELL_LATENCY holds under R130. -/
def BC.CELL_LAT_VALID : Fld :=
  { unit := 3, off := 0x240, lo := 31, width := 1, acc := .ro, rst := 0x0 }
/-- R142, Lane-to-lane latency in dt (R130). -/
def BC.CELL_LATENCY : Fld :=
  { unit := 3, off := 0x240, lo := 0, width := 24, acc := .ro, rst := 0x0 }
/-- R142, PATH_LATENCY holds under R130. -/
def BC.PATH_LAT_VALID : Fld :=
  { unit := 3, off := 0x244, lo := 31, width := 1, acc := .ro, rst := 0x0 }
/-- R142, ADC-to-DAC latency in dt (R130). -/
def BC.PATH_LATENCY : Fld :=
  { unit := 3, off := 0x244, lo := 0, width := 24, acc := .ro, rst := 0x0 }
/-- R142, D_int + TX_ALIGN + TX_FIX + COMB_DT in dt. -/
def BC.TX_CHAIN_DT : Fld :=
  { unit := 3, off := 0x248, lo := 16, width := 16, acc := .ro, rst := 0x0 }
/-- R142, RX_FIX + D_dec in dt. -/
def BC.RX_CHAIN_DT : Fld :=
  { unit := 3, off := 0x248, lo := 0, width := 16, acc := .ro, rst := 0x0 }
/-- R142, Blocks completed since the last sync event (R128); 32 bits, wraps. -/
def BC.BLK_CNT : Fld :=
  { unit := 3, off := 0x24c, lo := 0, width := 32, acc := .ro, rst := 0x0 }
/-- R142, RX stamp [31:0] of the last completed block; a read latches BLK_RX_HI, BLK_TX_LO and BLK_TX_HI from the same block. -/
def BC.BLK_RX_LO : Fld :=
  { unit := 3, off := 0x250, lo := 0, width := 32, acc := .ro, rst := 0x0 }
/-- R142, RX stamp [63:32]. -/
def BC.BLK_RX_HI : Fld :=
  { unit := 3, off := 0x254, lo := 0, width := 32, acc := .ro, rst := 0x0 }
/-- R142, TX stamp [31:0] of the same block. -/
def BC.BLK_TX_LO : Fld :=
  { unit := 3, off := 0x258, lo := 0, width := 32, acc := .ro, rst := 0x0 }
/-- R142, TX stamp [63:32]. -/
def BC.BLK_TX_HI : Fld :=
  { unit := 3, off := 0x25c, lo := 0, width := 32, acc := .ro, rst := 0x0 }
/-- R142, RX NCO saturated samples (R119); 32 bits, saturating; cleared by CNT_CLEAR. -/
def BC.RX_SAT_NCO : Fld :=
  { unit := 3, off := 0x280, lo := 0, width := 32, acc := .ro, rst := 0x0, cntClear := true }
/-- R142, Saturated samples at receive position p, 1 to 7 (R120); 32 bits, saturating; cleared by CNT_CLEAR. -/
def BC.RX_SAT_P : Fld :=
  { unit := 3, off := 0x284, lo := 0, width := 32, acc := .ro, rst := 0x0, stride := 4, count := 7, cntClear := true }
/-- R142, TX NCO saturated samples; 32 bits, saturating; cleared by CNT_CLEAR. -/
def BC.TX_SAT_NCO : Fld :=
  { unit := 3, off := 0x2a0, lo := 0, width := 32, acc := .ro, rst := 0x0, cntClear := true }
/-- R142, Saturated samples at transmit position p, 1 to 7 (R121); 32 bits, saturating; cleared by CNT_CLEAR. -/
def BC.TX_SAT_P : Fld :=
  { unit := 3, off := 0x2a4, lo := 0, width := 32, acc := .ro, rst := 0x0, stride := 4, count := 7, cntClear := true }
/-- R170, 1 if the cell is configured. -/
def BC.ENABLE : Fld :=
  { unit := 3, off := 0x100, lo := 31, width := 1, acc := .lk, rst := 0x0 }
/-- R170, 0 downlink, 1 uplink. -/
def BC.DIR : Fld :=
  { unit := 3, off := 0x100, lo := 30, width := 1, acc := .lk, rst := 0x0 }
/-- R170, Source RX link index in the section. -/
def BC.RXL : Fld :=
  { unit := 3, off := 0x100, lo := 28, width := 2, acc := .lk, rst := 0x0 }
/-- R170, Combiner index in the section. -/
def BC.CB : Fld :=
  { unit := 3, off := 0x100, lo := 26, width := 2, acc := .lk, rst := 0x0 }
/-- R170, 1 enables the squelch (R155). -/
def BC.SQ_EN : Fld :=
  { unit := 3, off := 0x100, lo := 25, width := 1, acc := .lk, rst := 0x0 }
/-- R170, 1 enables the equaliser (R147). -/
def BC.EQ_EN : Fld :=
  { unit := 3, off := 0x100, lo := 24, width := 1, acc := .lk, rst := 0x0 }
/-- R170, 1 mutes the cell at throttle level T3. -/
def BC.PRIO_SHED : Fld :=
  { unit := 3, off := 0x100, lo := 23, width := 1, acc := .lk, rst := 0x0 }
/-- R170, 1 if PARTNER is valid. -/
def BC.PARTNER_EN : Fld :=
  { unit := 3, off := 0x100, lo := 22, width := 1, acc := .lk, rst := 0x0 }
/-- R170, Profile band, 0 to 63. -/
def BC.BAND_ID : Fld :=
  { unit := 3, off := 0x100, lo := 16, width := 6, acc := .lk, rst := 0x0, range := some (0, 63) }
/-- R170, Unit address of the partner cell. -/
def BC.PARTNER : Fld :=
  { unit := 3, off := 0x100, lo := 0, width := 16, acc := .lk, rst := 0x0 }
/-- R170, Highest GAIN_SET, 0.01 dB, −4,000 to +4,000. -/
def BC.GAIN_MAX : Fld :=
  { unit := 3, off := 0x104, lo := 16, width := 16, acc := .lk, rst := 0x0, range := some (-4000, 4000) }
/-- R170, Upward slew in 0.01 dB per ms, 1 to 1,000; 0 rejected. -/
def BC.UP_SLEW : Fld :=
  { unit := 3, off := 0x104, lo := 0, width := 16, acc := .lk, rst := 0x32, range := some (1, 1000), zeroRejected := true }
/-- R170, Setpoint, 0.01 dB, −4,000 to GAIN_MAX (R152). -/
def BC.GAIN_SET : Fld :=
  { unit := 3, off := 0x108, lo := 0, width := 16, acc := .rw, rst := 0xf060 }
/-- R170, g_target of R150; 0x8000 zero. -/
def BC.G_TARGET : Fld :=
  { unit := 3, off := 0x10c, lo := 16, width := 16, acc := .ro, rst := 0x8000 }
/-- R170, Applied traffic gain (R151); 0x8000 zero. -/
def BC.G_APPLIED : Fld :=
  { unit := 3, off := 0x10c, lo := 0, width := 16, acc := .ro, rst := 0x8000 }
/-- R170, Bits [30] SYNC, [29] SHED, [28] DAMPER, [27] FAULT, [26] LINK, [25] PE, [24] MODE (R169). -/
def BC.MUTE_SRC : Fld :=
  { unit := 3, off := 0x110, lo := 24, width := 7, acc := .ro, rst := 0x0 }
/-- R170, Bits [19] SURVEY, [18] BACKOFF, [17] PE, [16] AGC (R158). -/
def BC.LIMIT_SRC : Fld :=
  { unit := 3, off := 0x110, lo := 16, width := 4, acc := .ro, rst := 0x0 }
/-- R170, 1 while the squelch gate is closed (R156). -/
def BC.SQ_CLOSED : Fld :=
  { unit := 3, off := 0x110, lo := 3, width := 1, acc := .ro, rst := 0x1 }
/-- R170, 0b00 Off, 0b01 Muted, 0b10 Limited, 0b11 Passing. -/
def BC.STATE : Fld :=
  { unit := 3, off := 0x110, lo := 0, width := 2, acc := .ro, rst := 0x0 }
/-- R170, 1 enables the AGC (R154). -/
def BC.AGC_EN : Fld :=
  { unit := 3, off := 0x114, lo := 31, width := 1, acc := .lk, rst := 0x0 }
/-- R170, Average over 2^AGC_AVG blocks, 0 to 10. -/
def BC.AGC_AVG : Fld :=
  { unit := 3, off := 0x114, lo := 27, width := 4, acc := .lk, rst := 0x4, range := some (0, 10) }
/-- R170, Headroom, 0.01 dB, 0 to 2,000. -/
def BC.AGC_HEAD : Fld :=
  { unit := 3, off := 0x114, lo := 16, width := 11, acc := .lk, rst := 0x12c, range := some (0, 2000) }
/-- R170, Target level, 0.01 dBFS, −6,000 to 0. -/
def BC.AGC_TARGET : Fld :=
  { unit := 3, off := 0x114, lo := 0, width := 16, acc := .lk, rst := 0xf8f8, range := some (-6000, 0) }
/-- R170, Opening level, 0.01 dBFS, −9,000 to 0. -/
def BC.SQ_OPEN : Fld :=
  { unit := 3, off := 0x118, lo := 16, width := 16, acc := .lk, rst := 0xe4a8, range := some (-9000, 0) }
/-- R170, Closing level, 0.01 dBFS, −9,000 to SQ_OPEN. -/
def BC.SQ_CLOSE : Fld :=
  { unit := 3, off := 0x118, lo := 0, width := 16, acc := .lk, rst := 0xe37c, range := some (-9000, 0) }
/-- R170, Release time in µs, 1 to 65,535; 0 rejected. -/
def BC.SQ_RELEASE : Fld :=
  { unit := 3, off := 0x11c, lo := 16, width := 16, acc := .lk, rst := 0x3e8, range := some (1, 65535), zeroRejected := true }
/-- R170, Attack in cell samples, 1 to 4,095; 0 rejected. -/
def BC.SQ_ATTACK : Fld :=
  { unit := 3, off := 0x11c, lo := 0, width := 12, acc := .lk, rst := 0x4, range := some (1, 4095), zeroRejected := true }
/-- R170, Bound of the active taps, 0.01 dB, signed (R148). -/
def BC.EQ_BOUND : Fld :=
  { unit := 3, off := 0x120, lo := 16, width := 16, acc := .ro, rst := 0x0 }
/-- R170, Highest accepted EQ_BOUND, 0.01 dB, 0 to 600. -/
def BC.EQ_MAX : Fld :=
  { unit := 3, off := 0x120, lo := 0, width := 16, acc := .lk, rst := 0x12c, range := some (0, 600) }
/-- R170, w_c of R164, 0 to 255. -/
def BC.CFR_WEIGHT : Fld :=
  { unit := 3, off := 0x124, lo := 0, width := 8, acc := .lk, rst := 0x80, range := some (0, 255) }
/-- R170, g_pe from the Protection Engine, 0.01 dB. -/
def BC.G_PE : Fld :=
  { unit := 3, off := 0x128, lo := 16, width := 16, acc := .ro, rst := 0xfa0 }
/-- R170, g_agc of R154, 0.01 dB. -/
def BC.G_AGC : Fld :=
  { unit := 3, off := 0x128, lo := 0, width := 16, acc := .ro, rst := 0xfa0 }
/-- R170, R160; a read latches 0x134 to 0x140. -/
def BC.P_RAW : Fld :=
  { unit := 3, off := 0x130, lo := 16, width := 16, acc := .ro, rst := 0x8000 }
/-- R170, R160. -/
def BC.P_IN : Fld :=
  { unit := 3, off := 0x130, lo := 0, width := 16, acc := .ro, rst := 0x8000 }
/-- R170, R160. -/
def BC.P_OUT : Fld :=
  { unit := 3, off := 0x134, lo := 16, width := 16, acc := .ro, rst := 0x8000 }
/-- R170, R160. -/
def BC.PK_OUT : Fld :=
  { unit := 3, off := 0x134, lo := 0, width := 16, acc := .ro, rst := 0x8000 }
/-- R170, BLK_CNT of the latched block. -/
def BC.PWR_BLK : Fld :=
  { unit := 3, off := 0x138, lo := 0, width := 32, acc := .ro, rst := 0x0 }
/-- R170, Averaged P_RAW. -/
def BC.AVG_RAW : Fld :=
  { unit := 3, off := 0x13c, lo := 16, width := 16, acc := .ro, rst := 0x8000 }
/-- R170, Averaged P_IN. -/
def BC.AVG_IN : Fld :=
  { unit := 3, off := 0x13c, lo := 0, width := 16, acc := .ro, rst := 0x8000 }
/-- R170, Averaged P_OUT. -/
def BC.AVG_OUT : Fld :=
  { unit := 3, off := 0x140, lo := 16, width := 16, acc := .ro, rst := 0x8000 }
/-- R170, Largest PK_OUT in the average. -/
def BC.AVG_PK : Fld :=
  { unit := 3, off := 0x140, lo := 0, width := 16, acc := .ro, rst := 0x8000 }
/-- R170, Spectra over 2^SPEC_AVG blocks, 0 to 10; above 10 rejected (RANGE). -/
def BC.SPEC_AVG : Fld :=
  { unit := 3, off := 0x144, lo := 8, width := 4, acc := .rw, rst := 0x6, range := some (0, 10) }
/-- R170, Powers over 2^PWR_AVG blocks, 0 to 10; above 10 rejected (RANGE). -/
def BC.PWR_AVG : Fld :=
  { unit := 3, off := 0x144, lo := 0, width := 4, acc := .rw, rst := 0x4, range := some (0, 10) }
/-- R170, Completed spectrum averages; 32 bits, wraps. -/
def BC.SPEC_SEQ : Fld :=
  { unit := 3, off := 0x148, lo := 0, width := 32, acc := .ro, rst := 0x0 }
/-- R170, Monitor A, last window, 0.01 dBFS (R162). -/
def BC.MON_A : Fld :=
  { unit := 3, off := 0x14c, lo := 16, width := 16, acc := .ro, rst := 0x8000 }
/-- R170, Monitor B, last window. -/
def BC.MON_B : Fld :=
  { unit := 3, off := 0x14c, lo := 0, width := 16, acc := .ro, rst := 0x8000 }
/-- R170, Squelch openings; 32 bits, saturating; cleared by CNT_CLEAR. -/
def BC.SQ_OPEN_CNT : Fld :=
  { unit := 3, off := 0x150, lo := 0, width := 32, acc := .ro, rst := 0x0, cntClear := true }
/-- R170, Open fraction of the last 1 s in 0.01 %, 0 to 10,000. -/
def BC.SQ_DUTY : Fld :=
  { unit := 3, off := 0x154, lo := 0, width := 14, acc := .ro, rst := 0x0 }
/-- R170, R150; 32 bits, saturating; cleared by CNT_CLEAR. -/
def BC.GAIN_SAT : Fld :=
  { unit := 3, off := 0x158, lo := 0, width := 32, acc := .ro, rst := 0x0, cntClear := true }
/-- R170, R147; 32 bits, saturating; cleared by CNT_CLEAR. -/
def BC.EQ_SAT : Fld :=
  { unit := 3, off := 0x15c, lo := 0, width := 32, acc := .ro, rst := 0x0, cntClear := true }
/-- R170, R146; 32 bits, saturating; cleared by CNT_CLEAR. -/
def BC.IN_SAT : Fld :=
  { unit := 3, off := 0x160, lo := 0, width := 32, acc := .ro, rst := 0x0, cntClear := true }
/-- R170, R159; 32 bits, saturating; cleared by CNT_CLEAR. -/
def BC.MUTE_CNT : Fld :=
  { unit := 3, off := 0x164, lo := 0, width := 32, acc := .ro, rst := 0x0, cntClear := true }
/-- R170, Rejected tap sets (R148); 16 bits, saturating; cleared by CNT_CLEAR. -/
def BC.EQ_REJ : Fld :=
  { unit := 3, off := 0x168, lo := 0, width := 16, acc := .ro, rst := 0x0, cntClear := true }
/-- R170, Imaginary part of h_k, Q2.14. -/
def BC.EQ_Q : Fld :=
  { unit := 3, off := 0x300, lo := 16, width := 16, acc := .ro, rst := 0x0, stride := 4, count := 16 }
/-- R170, Real part of h_k, Q2.14. -/
def BC.EQ_I : Fld :=
  { unit := 3, off := 0x300, lo := 0, width := 16, acc := .ro, rst := 0x0, rsts := [0, 0, 0, 0, 0, 0, 0, 16384], stride := 4, count := 16 }
/-- R170, Input spectrum (R161). -/
def BC.SPEC_IN : Fld :=
  { unit := 3, off := 0x400, lo := 0, width := 32, acc := .ro, rst := 0x80008000, stride := 4, count := 128 }
/-- R170, Output spectrum (R161). -/
def BC.SPEC_OUT : Fld :=
  { unit := 3, off := 0x600, lo := 0, width := 32, acc := .ro, rst := 0x80008000, stride := 4, count := 128 }

/-- Every field of a BC window. -/
def BC.all : List Fld :=
  [BC.CELL_RATE, BC.RX_RESP_A, BC.RX_RESP_B, BC.TX_RESP_A, BC.TX_RESP_B, BC.TX_SHIFT, BC.RX_SHIFT, BC.RX_FTW_LO, BC.RX_PHASE_OFS, BC.RX_FTW_HI, BC.TX_FTW_LO, BC.TX_PHASE_OFS] ++
  [BC.TX_FTW_HI, BC.SWITCH_AT_SYNC, BC.RESP_SEL, BC.SETTLING, BC.RESP_PEND, BC.RESP_ACTIVE, BC.TX_GAIN, BC.RX_GAIN, BC.SYNC_IGN_CNT, BC.SYNC_CNT, BC.SYNC_DT_LO, BC.SYNC_DT_HI] ++
  [BC.CELL_LAT_VALID, BC.CELL_LATENCY, BC.PATH_LAT_VALID, BC.PATH_LATENCY, BC.TX_CHAIN_DT, BC.RX_CHAIN_DT, BC.BLK_CNT, BC.BLK_RX_LO, BC.BLK_RX_HI, BC.BLK_TX_LO, BC.BLK_TX_HI, BC.RX_SAT_NCO] ++
  [BC.RX_SAT_P, BC.TX_SAT_NCO, BC.TX_SAT_P, BC.ENABLE, BC.DIR, BC.RXL, BC.CB, BC.SQ_EN, BC.EQ_EN, BC.PRIO_SHED, BC.PARTNER_EN, BC.BAND_ID] ++
  [BC.PARTNER, BC.GAIN_MAX, BC.UP_SLEW, BC.GAIN_SET, BC.G_TARGET, BC.G_APPLIED, BC.MUTE_SRC, BC.LIMIT_SRC, BC.SQ_CLOSED, BC.STATE, BC.AGC_EN, BC.AGC_AVG] ++
  [BC.AGC_HEAD, BC.AGC_TARGET, BC.SQ_OPEN, BC.SQ_CLOSE, BC.SQ_RELEASE, BC.SQ_ATTACK, BC.EQ_BOUND, BC.EQ_MAX, BC.CFR_WEIGHT, BC.G_PE, BC.G_AGC, BC.P_RAW] ++
  [BC.P_IN, BC.P_OUT, BC.PK_OUT, BC.PWR_BLK, BC.AVG_RAW, BC.AVG_IN, BC.AVG_OUT, BC.AVG_PK, BC.SPEC_AVG, BC.PWR_AVG, BC.SPEC_SEQ, BC.MON_A] ++
  [BC.MON_B, BC.SQ_OPEN_CNT, BC.SQ_DUTY, BC.GAIN_SAT, BC.EQ_SAT, BC.IN_SAT, BC.MUTE_CNT, BC.EQ_REJ, BC.EQ_Q, BC.EQ_I, BC.SPEC_IN, BC.SPEC_OUT]

/-- R171, 1 if the Combiner is configured. -/
def CB.ENABLE : Fld :=
  { unit := 5, off := 0x100, lo := 31, width := 1, acc := .lk, rst := 0x0 }
/-- R171, 1 enables crest-factor reduction (R165). -/
def CB.CFR_EN : Fld :=
  { unit := 5, off := 0x100, lo := 30, width := 1, acc := .lk, rst := 0x0 }
/-- R171, Stages, 1 or 2; 0 and 3 rejected. -/
def CB.CFR_STAGES : Fld :=
  { unit := 5, off := 0x100, lo := 28, width := 2, acc := .lk, rst := 0x2, range := some (1, 2) }
/-- R171, Threshold in 0.01 dB below full scale, 0 to 2,000. -/
def CB.CFR_THRESH : Fld :=
  { unit := 5, off := 0x100, lo := 0, width := 16, acc := .lk, rst := 0x1f4, range := some (0, 2000) }
/-- R171, Peaks per window per stage, 1 to 16; 0 rejected. -/
def CB.PC_MAX : Fld :=
  { unit := 5, off := 0x104, lo := 0, width := 5, acc := .lk, rst := 0x8, range := some (1, 16), zeroRejected := true }
/-- R171, Bit i is 1 if cell i of the section feeds this Combiner. -/
def CB.CELL_MAP : Fld :=
  { unit := 5, off := 0x108, lo := 0, width := 32, acc := .ro, rst := 0x0 }
/-- R171, Cells with gate_c = 1, 0 to 16. -/
def CB.ACTIVE_CNT : Fld :=
  { unit := 5, off := 0x10c, lo := 8, width := 5, acc := .ro, rst := 0x0 }
/-- R171, Condition under R162. -/
def CB.MON_MISMATCH : Fld :=
  { unit := 5, off := 0x10c, lo := 2, width := 1, acc := .ro, rst := 0x0 }
/-- R171, R163. -/
def CB.NO_ACTIVE : Fld :=
  { unit := 5, off := 0x10c, lo := 1, width := 1, acc := .ro, rst := 0x1 }
/-- R171, R164. -/
def CB.CFR_ACTIVE : Fld :=
  { unit := 5, off := 0x10c, lo := 0, width := 1, acc := .ro, rst := 0x0 }
/-- R171, Monitor A, last window, 0.01 dBFS. -/
def CB.MON_A : Fld :=
  { unit := 5, off := 0x110, lo := 16, width := 16, acc := .ro, rst := 0x8000 }
/-- R171, Monitor B, last window. -/
def CB.MON_B : Fld :=
  { unit := 5, off := 0x110, lo := 0, width := 16, acc := .ro, rst := 0x8000 }
/-- R171, R167, 0.01 dB. -/
def CB.PAR_OUT : Fld :=
  { unit := 5, off := 0x114, lo := 16, width := 16, acc := .ro, rst := 0x0 }
/-- R171, R167, 0.01 dB. -/
def CB.PAR_IN : Fld :=
  { unit := 5, off := 0x114, lo := 0, width := 16, acc := .ro, rst := 0x0 }
/-- R171, R167, 0.01 dB, signed. -/
def CB.CFR_EVM : Fld :=
  { unit := 5, off := 0x118, lo := 0, width := 16, acc := .ro, rst := 0x8000 }
/-- R171, Peaks cancelled; 32 bits, saturating; cleared by CNT_CLEAR. -/
def CB.CFR_PEAKS : Fld :=
  { unit := 5, off := 0x11c, lo := 0, width := 32, acc := .ro, rst := 0x0, cntClear := true }
/-- R171, Samples above a_th after the last stage; 32 bits, saturating; cleared by CNT_CLEAR. -/
def CB.CFR_RESID : Fld :=
  { unit := 5, off := 0x120, lo := 0, width := 32, acc := .ro, rst := 0x0, cntClear := true }
/-- R171, R163; 32 bits, saturating; cleared by CNT_CLEAR. -/
def CB.SUM_SAT : Fld :=
  { unit := 5, off := 0x124, lo := 0, width := 32, acc := .ro, rst := 0x0, cntClear := true }
/-- R171, R163; 32 bits, saturating; cleared by CNT_CLEAR. -/
def CB.OUT_SAT : Fld :=
  { unit := 5, off := 0x128, lo := 0, width := 32, acc := .ro, rst := 0x0, cntClear := true }

/-- Every field of a CB window. -/
def CB.all : List Fld :=
  [CB.ENABLE, CB.CFR_EN, CB.CFR_STAGES, CB.CFR_THRESH, CB.PC_MAX, CB.CELL_MAP, CB.ACTIVE_CNT, CB.MON_MISMATCH, CB.NO_ACTIVE, CB.CFR_ACTIVE, CB.MON_A, CB.MON_B] ++
  [CB.PAR_OUT, CB.PAR_IN, CB.CFR_EVM, CB.CFR_PEAKS, CB.CFR_RESID, CB.SUM_SAT, CB.OUT_SAT]

/-- R205, 1 if the section holds at least one path. -/
def DS.ENABLE : Fld :=
  { unit := 4, off := 0x100, lo := 31, width := 1, acc := .lk, rst := 0x0 }
/-- R205, Damper state D in 256 KiB units, 0 to 32 (R200). -/
def DS.D_SIZE : Fld :=
  { unit := 4, off := 0x100, lo := 16, width := 6, acc := .lk, rst := 0x0, range := some (0, 32) }
/-- R205, Paths, 0 to 256. -/
def DS.PATH_CNT : Fld :=
  { unit := 4, off := 0x100, lo := 0, width := 9, acc := .lk, rst := 0x0, range := some (0, 256) }
/-- R205, 5,000 on F variants, 2,500 on H variants, in 10⁹ tap·samples/s. -/
def DS.LOAD_LIM : Fld :=
  { unit := 4, off := 0x104, lo := 16, width := 16, acc := .ro, rst := 0x0 }
/-- R205, Section load in 10⁹ tap·samples/s, rounded up (R199). -/
def DS.LOAD : Fld :=
  { unit := 4, off := 0x104, lo := 0, width := 16, acc := .lk, rst := 0x0 }
/-- R205, REFINE time constant in ms, 1 to 100; 0 rejected. -/
def DS.TRACK_TAU : Fld :=
  { unit := 4, off := 0x108, lo := 24, width := 7, acc := .lk, rst := 0x14, range := some (1, 100), zeroRejected := true }
/-- R205, Survey time constant in ms, 1 to 100; 0 rejected. -/
def DS.SURVEY_TAU : Fld :=
  { unit := 4, off := 0x108, lo := 16, width := 7, acc := .lk, rst := 0x5, range := some (1, 100), zeroRejected := true }
/-- R205, Residual time constant in ms, 1 to 1,000; 0 rejected. -/
def DS.RES_TAU : Fld :=
  { unit := 4, off := 0x108, lo := 0, width := 10, acc := .lk, rst := 0x80, range := some (1, 1000), zeroRejected := true }
/-- R205, Guard in dt, 0 to 65,535 (R186). -/
def DS.GUARD_DT : Fld :=
  { unit := 4, off := 0x10c, lo := 16, width := 16, acc := .lk, rst := 0x400, range := some (0, 65535) }
/-- R205, Probe-only time constant in 0.1 s, 1 to 255; 0 rejected. -/
def DS.PROBE_TAU : Fld :=
  { unit := 4, off := 0x10c, lo := 8, width := 8, acc := .lk, rst := 0x14, range := some (1, 255), zeroRejected := true }
/-- R205, Watchdog tolerance in dB, 1 to 15; 0 rejected (R187). -/
def DS.BIAS_TOL : Fld :=
  { unit := 4, off := 0x10c, lo := 4, width := 4, acc := .lk, rst := 0x3, range := some (1, 15), zeroRejected := true }
/-- R205, Suspension hold in s, 1 to 15; 0 rejected. -/
def DS.REFINE_HOLD : Fld :=
  { unit := 4, off := 0x10c, lo := 0, width := 4, acc := .lk, rst := 0xa, range := some (1, 15), zeroRejected := true }
/-- R205, Largest plausible COUPLING in dB, signed, −60 to +40 (R193). -/
def DS.COUP_MAX : Fld :=
  { unit := 4, off := 0x110, lo := 24, width := 8, acc := .lk, rst := 0xa, range := some (-60, 40) }
/-- R205, Edge limit in dB, 0 to 60 (R194). -/
def DS.EDGE_LIM : Fld :=
  { unit := 4, off := 0x110, lo := 16, width := 8, acc := .lk, rst := 0x1e, range := some (0, 60) }
/-- R205, DEPTH in dB for entry to REFINE, 0 to 60. -/
def DS.REFINE_MIN : Fld :=
  { unit := 4, off := 0x110, lo := 8, width := 8, acc := .lk, rst := 0x14, range := some (0, 60) }
/-- R205, Settling depth in dB, 10 to 60 (R196). -/
def DS.SURVEY_DEPTH : Fld :=
  { unit := 4, off := 0x114, lo := 24, width := 8, acc := .lk, rst := 0x28, range := some (10, 60) }
/-- R205, Negligible-coupling limit in dB, 0 to 80 (R196). -/
def DS.SURVEY_NEG : Fld :=
  { unit := 4, off := 0x114, lo := 16, width := 8, acc := .lk, rst := 0x28, range := some (0, 80) }
/-- R205, Survey timer in ms, 10 to 60,000; 0 rejected (R195). -/
def DS.SURVEY_TIME : Fld :=
  { unit := 4, off := 0x114, lo := 0, width := 16, acc := .lk, rst := 0x1f4, range := some (10, 60000), zeroRejected := true }
/-- R205, Survey probe power, 0.01 dBFS, −4,000 to −1,000. -/
def DS.SURVEY_LVL : Fld :=
  { unit := 4, off := 0x118, lo := 16, width := 16, acc := .lk, rst := 0xf8f8, range := some (-4000, -1000) }
/-- R205, Probe floor, 0.01 dBFS, −9,000 to −3,000. -/
def DS.PROBE_FLOOR : Fld :=
  { unit := 4, off := 0x118, lo := 0, width := 16, acc := .lk, rst := 0xe4a8, range := some (-9000, -3000) }
/-- R205, Write 1 to zero every path under R190; accepted in Banked and Service only. -/
def DS.ZERO_ALL : Fld :=
  { unit := 4, off := 0x11c, lo := 1, width := 1, acc := .sc, rst := 0x0 }
/-- R205, 1 zeroes every path on entry to Survey (R195). -/
def DS.SURVEY_ZERO : Fld :=
  { unit := 4, off := 0x11c, lo := 0, width := 1, acc := .rw, rst := 0x0 }
/-- R205, Paths not settled (R196). -/
def DS.UNSETTLED : Fld :=
  { unit := 4, off := 0x120, lo := 16, width := 9, acc := .ro, rst := 0x0 }
/-- R205, R196. -/
def DS.SURVEY_MET : Fld :=
  { unit := 4, off := 0x120, lo := 3, width := 1, acc := .ro, rst := 0x0 }
/-- R205, 0b00 none, 0b01 1 in 2, 0b10 1 in 8 (R189); 0b11 reserved. -/
def DS.SKIP : Fld :=
  { unit := 4, off := 0x120, lo := 1, width := 2, acc := .ro, rst := 0x0 }
/-- R205, 1 while the mode permits adaptation (R188). -/
def DS.ADAPT : Fld :=
  { unit := 4, off := 0x120, lo := 0, width := 1, acc := .ro, rst := 0x0 }
/-- R205, Path zeroings; 16 bits, saturating; cleared by CNT_CLEAR. -/
def DS.ZERO_CNT : Fld :=
  { unit := 4, off := 0x124, lo := 16, width := 16, acc := .ro, rst := 0x0, cntClear := true }
/-- R205, Suspensions (R187); 16 bits, saturating; cleared by CNT_CLEAR. -/
def DS.BIAS_CNT : Fld :=
  { unit := 4, off := 0x124, lo := 0, width := 16, acc := .ro, rst := 0x0, cntClear := true }
/-- R205, Reference and probe word parity failures; 32 bits, saturating; cleared by CNT_CLEAR. -/
def DS.PARITY_CNT : Fld :=
  { unit := 4, off := 0x128, lo := 0, width := 32, acc := .ro, rst := 0x0, cntClear := true }
/-- R205, Path with the highest LOOP_C at the last update. -/
def DS.WORST_PATH : Fld :=
  { unit := 4, off := 0x12c, lo := 16, width := 8, acc := .ro, rst := 0x0 }
/-- R205, That LOOP_C, 0.01 dB, signed. -/
def DS.WORST_LC : Fld :=
  { unit := 4, off := 0x12c, lo := 0, width := 16, acc := .ro, rst := 0x8000 }
/-- R205, Path shown in the path window, 0 to PATH_CNT − 1; others rejected (RANGE); a write latches the snapshot (R202). -/
def DS.PATH_SEL : Fld :=
  { unit := 4, off := 0x180, lo := 0, width := 8, acc := .rw, rst := 0x0 }
/-- R205, P_pr of cell i, 0.01 dBFS; 0x8000 without probe (R180). -/
def DS.PROBE_LVL : Fld :=
  { unit := 4, off := 0x200, lo := 16, width := 16, acc := .ro, rst := 0x8000, stride := 4, count := 32 }
/-- R205, Probe offset of cell i, 0.01 dB, 2,000 to 4,500. -/
def DS.PROBE_DB : Fld :=
  { unit := 4, off := 0x200, lo := 0, width := 16, acc := .lk, rst := 0xbb8, stride := 4, count := 32, range := some (2000, 4500) }
/-- R205, R192, 0.01 dB, signed. -/
def DS.CELL_LG : Fld :=
  { unit := 4, off := 0x280, lo := 16, width := 16, acc := .ro, rst := 0x8000, stride := 4, count := 32 }
/-- R205, Paths into cell i. -/
def DS.NPATH : Fld :=
  { unit := 4, off := 0x280, lo := 0, width := 9, acc := .ro, rst := 0x0, stride := 4, count := 32 }
/-- R206, Source unit address (R172). -/
def DS.P_SRC : Fld :=
  { unit := 4, off := 0x1004, lo := 16, width := 16, acc := .lk, rst := 0x0, stride := 64, count := 256 }
/-- R206, R172. -/
def DS.P_REFINE_EN : Fld :=
  { unit := 4, off := 0x1004, lo := 15, width := 1, acc := .lk, rst := 0x0, stride := 64, count := 256 }
/-- R206, Receiving cell index. -/
def DS.P_RCV : Fld :=
  { unit := 4, off := 0x1004, lo := 0, width := 5, acc := .lk, rst := 0x0, stride := 64, count := 256 }
/-- R206, Bulk delay, 0 to 16,383 cell samples. -/
def DS.P_BULK : Fld :=
  { unit := 4, off := 0x1008, lo := 16, width := 14, acc := .lk, rst := 0x0, stride := 64, count := 256, range := some (0, 16383) }
/-- R206, TAPS/32, 1 to 32; 0 rejected. -/
def DS.P_TAPS32 : Fld :=
  { unit := 4, off := 0x1008, lo := 0, width := 6, acc := .lk, rst := 0x0, stride := 64, count := 256, range := some (1, 32), zeroRejected := true }
/-- R206, ΔFTW [31:0] (R175). -/
def DS.P_DFTW_LO : Fld :=
  { unit := 4, off := 0x100c, lo := 0, width := 32, acc := .ro, rst := 0x0, stride := 64, count := 256 }
/-- R206, R174, in dt. -/
def DS.P_BASE_LAG : Fld :=
  { unit := 4, off := 0x1010, lo := 16, width := 16, acc := .ro, rst := 0x0, stride := 64, count := 256 }
/-- R206, ΔFTW [47:32]. -/
def DS.P_DFTW_HI : Fld :=
  { unit := 4, off := 0x1010, lo := 0, width := 16, acc := .ro, rst := 0x0, stride := 64, count := 256 }
/-- R206, R186 holds. -/
def DS.P_GUARD_OK : Fld :=
  { unit := 4, off := 0x1014, lo := 7, width := 1, acc := .ro, rst := 0x0, stride := 64, count := 256 }
/-- R206, R196. -/
def DS.P_SETTLED : Fld :=
  { unit := 4, off := 0x1014, lo := 6, width := 1, acc := .ro, rst := 0x0, stride := 64, count := 256 }
/-- R206, Condition of R194. -/
def DS.P_EDGE_HI : Fld :=
  { unit := 4, off := 0x1014, lo := 5, width := 1, acc := .ro, rst := 0x0, stride := 64, count := 256 }
/-- R206, R191. -/
def DS.P_STALE : Fld :=
  { unit := 4, off := 0x1014, lo := 4, width := 1, acc := .ro, rst := 0x0, stride := 64, count := 256 }
/-- R206, R188. -/
def DS.P_FROZEN : Fld :=
  { unit := 4, off := 0x1014, lo := 3, width := 1, acc := .ro, rst := 0x1, stride := 64, count := 256 }
/-- R206, R183; 0b11 reserved. -/
def DS.P_ADAPT_STATE : Fld :=
  { unit := 4, off := 0x1014, lo := 0, width := 2, acc := .ro, rst := 0x0, stride := 64, count := 256 }
/-- R206, R191. -/
def DS.P_COUPLING : Fld :=
  { unit := 4, off := 0x1018, lo := 16, width := 16, acc := .ro, rst := 0x8000, stride := 64, count := 256 }
/-- R206, R191. -/
def DS.P_RESID : Fld :=
  { unit := 4, off := 0x1018, lo := 0, width := 16, acc := .ro, rst := 0x8000, stride := 64, count := 256 }
/-- R206, R191. -/
def DS.P_RESID_NF : Fld :=
  { unit := 4, off := 0x101c, lo := 16, width := 16, acc := .ro, rst := 0x8000, stride := 64, count := 256 }
/-- R206, R191. -/
def DS.P_DEPTH : Fld :=
  { unit := 4, off := 0x101c, lo := 0, width := 16, acc := .ro, rst := 0x8000, stride := 64, count := 256 }
/-- R206, R192. -/
def DS.P_LOOP_C : Fld :=
  { unit := 4, off := 0x1020, lo := 16, width := 16, acc := .ro, rst := 0x8000, stride := 64, count := 256 }
/-- R206, R191. -/
def DS.P_EDGE_DB : Fld :=
  { unit := 4, off := 0x1020, lo := 0, width := 16, acc := .ro, rst := 0x8000, stride := 64, count := 256 }
/-- R206, COUPLING at the last end of Survey (R197). -/
def DS.P_SV_COUP : Fld :=
  { unit := 4, off := 0x1024, lo := 16, width := 16, acc := .ro, rst := 0x8000, stride := 64, count := 256 }
/-- R206, DEPTH at the last end of Survey. -/
def DS.P_SV_DEPTH : Fld :=
  { unit := 4, off := 0x1024, lo := 0, width := 16, acc := .ro, rst := 0x8000, stride := 64, count := 256 }
/-- R206, Coefficient updates; 32 bits, wraps. -/
def DS.P_UPDATES : Fld :=
  { unit := 4, off := 0x1028, lo := 0, width := 32, acc := .ro, rst := 0x0, stride := 64, count := 256 }
/-- R206, Zeroings of the path; 16 bits, saturating; cleared by CNT_CLEAR. -/
def DS.P_ZEROED : Fld :=
  { unit := 4, off := 0x102c, lo := 16, width := 16, acc := .ro, rst := 0x0, stride := 64, count := 256, cntClear := true }
/-- R206, Suspensions of the path; 16 bits, saturating; cleared by CNT_CLEAR. -/
def DS.P_SUSPENDS : Fld :=
  { unit := 4, off := 0x102c, lo := 0, width := 16, acc := .ro, rst := 0x0, stride := 64, count := 256, cntClear := true }

/-- Every field of a DS window. -/
def DS.all : List Fld :=
  [DS.ENABLE, DS.D_SIZE, DS.PATH_CNT, DS.LOAD_LIM, DS.LOAD, DS.TRACK_TAU, DS.SURVEY_TAU, DS.RES_TAU, DS.GUARD_DT, DS.PROBE_TAU, DS.BIAS_TOL, DS.REFINE_HOLD] ++
  [DS.COUP_MAX, DS.EDGE_LIM, DS.REFINE_MIN, DS.SURVEY_DEPTH, DS.SURVEY_NEG, DS.SURVEY_TIME, DS.SURVEY_LVL, DS.PROBE_FLOOR, DS.ZERO_ALL, DS.SURVEY_ZERO, DS.UNSETTLED, DS.SURVEY_MET] ++
  [DS.SKIP, DS.ADAPT, DS.ZERO_CNT, DS.BIAS_CNT, DS.PARITY_CNT, DS.WORST_PATH, DS.WORST_LC, DS.PATH_SEL, DS.PROBE_LVL, DS.PROBE_DB, DS.CELL_LG, DS.NPATH] ++
  [DS.P_SRC, DS.P_REFINE_EN, DS.P_RCV, DS.P_BULK, DS.P_TAPS32, DS.P_DFTW_LO, DS.P_BASE_LAG, DS.P_DFTW_HI, DS.P_GUARD_OK, DS.P_SETTLED, DS.P_EDGE_HI, DS.P_STALE] ++
  [DS.P_FROZEN, DS.P_ADAPT_STATE, DS.P_COUPLING, DS.P_RESID, DS.P_RESID_NF, DS.P_DEPTH, DS.P_LOOP_C, DS.P_EDGE_DB, DS.P_SV_COUP, DS.P_SV_DEPTH, DS.P_UPDATES, DS.P_ZEROED] ++
  [DS.P_SUSPENDS]

end Sys2Proof.Machine.Reg
end

