-- ==== Sys2Proof/Machine/Operands.lean ====
section
/-! DEFINITION. How a command names what it concerns: unit addresses and windows (R10, R46 to R49), which units a variant
provides (R4, R38, R484), and the sets of cells that a link, a Combiner or a section holds (R465, R467). -/

namespace Sys2Proof.Machine

/-! ### Unit addresses -/

/-- The unit address of a unit of type `t`, index `i`, in section `s` (R46). -/
def unitAddr (s t i : Nat) : Nat := s * 8192 + t * 256 + i

/-- Section bits of a unit address (R46). -/
def secOf (u : Nat) : Nat := u / 8192 % 8

/-- Type code of a unit address (R46). -/
def typeOf (u : Nat) : Nat := u / 256 % 32

/-- Index of a unit address (R46). -/
def idxOf (u : Nat) : Nat := u % 256

/-- RX link `i` of section `s` (R10). -/
abbrev rxlU (s i : Nat) : Nat := unitAddr s 0x01 i
/-- TX link `i` of section `s` (R10). -/
abbrev txlU (s i : Nat) : Nat := unitAddr s 0x02 i
/-- Band cell `i` of section `s` (R10). -/
abbrev bcU (s i : Nat) : Nat := unitAddr s 0x03 i
/-- The Damper Slice of section `s` (R10). -/
abbrev dsU (s : Nat) : Nat := unitAddr s 0x04 0
/-- Combiner `i` of section `s` (R10). -/
abbrev cbU (s i : Nat) : Nat := unitAddr s 0x05 i
/-- The Radio Control unit of section `s` (R10). -/
abbrev rcU (s : Nat) : Nat := unitAddr s 0x06 0
/-- The Sync Detector of section `s` (R10). -/
abbrev sdU (s : Nat) : Nat := unitAddr s 0x07 0
/-- The Protection Engine of section `s` (R10). -/
abbrev peU (s : Nat) : Nat := unitAddr s 0x08 0
/-- The Capture Ring of section `s` (R10). -/
abbrev crU (s : Nat) : Nat := unitAddr s 0x09 0
/-- CS.HP (R10). -/
abbrev HP : Nat := 0xF000
/-- CS.CY (R10). -/
abbrev CY : Nat := 0xF100
/-- CS.CC (R10). -/
abbrev CC : Nat := 0xF200
/-- CS.WS (R10). -/
abbrev WS : Nat := 0xF300
/-- CS.EV (R10). -/
abbrev EV : Nat := 0xF400
/-- CS.HA (R10). -/
abbrev HA : Nat := 0xF500
/-- CS.TM (R10). -/
abbrev TM : Nat := 0xF600
/-- CS.CK (R10). -/
abbrev CK : Nat := 0xF700
/-- CS.CE (R10). -/
abbrev CE : Nat := 0xF800
/-- CS.MC (R10). -/
abbrev MC : Nat := 0xF900
/-- CS.TB (R10). -/
abbrev TB : Nat := 0xFA00

/-- Units of each type in a section (R10); 0 for a code that is no unit. -/
def unitCount (t : Nat) : Nat :=
  if t = 0x01 ∨ t = 0x02 ∨ t = 0x05 then 4
  else if t = 0x03 then 32
  else if t = 0x04 ∨ (0x06 ≤ t ∧ t ≤ 0x09) then 1
  else if 0x10 ≤ t ∧ t ≤ 0x1A then 1
  else 0

/-- The address names a unit of the die, whatever the fuses say (R10, R46). -/
def isUnit (u : Nat) : Bool :=
  decide (u < 65536) && decide (idxOf u < unitCount (typeOf u)) &&
    (if typeOf u < 0x10 then decide (secOf u < 4) else decide (secOf u = 7))

/-- Section `s` is enabled by the fuses; an inconsistent variant record enables none (R5, R484). -/
def Dev.sectionOn (d : Dev) (s : Nat) : Bool :=
  d.variant.consistent && decide (s < 4) && d.variant.sectMask.testBit s

/-- The variant provides the unit (R38, R58). -/
def Dev.present (d : Dev) (u : Nat) : Bool :=
  isUnit u && (decide (typeOf u ≥ 0x10) || d.sectionOn (secOf u))

/-- The enabled Signal Sections. -/
def Dev.sections (d : Dev) : List Nat := (List.range 4).filter d.sectionOn

/-- Every unit of one section's types, `s` from 0 to 3. -/
def sectionUnits (s : Nat) : List Nat :=
  [0x01, 0x02, 0x03, 0x04, 0x05, 0x06, 0x07, 0x08, 0x09].flatMap fun t =>
    (List.range (unitCount t)).map fun i => unitAddr s t i

/-- The units of the Common Section. -/
def commonUnits : List Nat := [HP, CY, CC, WS, EV, HA, TM, CK, CE, MC, TB]

/-- What UNIT_ID of a unit of the die reads: its address, PRESENT and REV (R38, R58). -/
def Dev.unitId (d : Dev) (u : Nat) : Nat := u * 65536 + if d.present u then 0x101 else 0

/-- DS_LOAD.LOAD_LIM shows the section's load limit, as the fuses give it (R199, R204). -/
def showLoadLim (s : Nat) : Script := withDev fun d => put (dsU s) Reg.DS.LOAD_LIM (if d.variant.half then 2500 else 5000)

/-- Every unit the variant provides. -/
def Dev.units (d : Dev) : List Nat := commonUnits ++ d.sections.flatMap sectionUnits

/-- The BAR0 offset at which a unit's window starts (R48). -/
def windowBase (u : Nat) : Nat :=
  secOf u * 0x200000 + (typeOf u % 16) * 0x20000 + idxOf u * 0x1000

/-- The unit address whose window holds a BAR0 offset, by the inverse of R48. -/
def unitOfBar0 (a : Nat) : Nat :=
  let s := a / 0x200000
  let t := a / 0x20000 % 16
  unitAddr s (if s = 7 then 0x10 + t else t) (a / 0x1000 % 32)

/-! ### Modes -/

/-- The encoding of a mode (R75). -/
def Mode.enc : Mode → Nat
  | .cold => 0 | .kindling => 1 | .banked => 2 | .survey => 3
  | .carry => 4 | .backoff => 5 | .ember => 6 | .service => 7

/-- The mode of an encoding (R75). -/
def Mode.ofCode (n : Nat) : Mode :=
  match n % 8 with
  | 0 => .cold | 1 => .kindling | 2 => .banked | 3 => .survey
  | 4 => .carry | 5 => .backoff | 6 => .ember | _ => .service

/-- The device mode, as MC.MODE.MODE holds it (R75). -/
def Dev.mode (d : Dev) : Mode := Mode.ofCode (d.rd MC Reg.MC.MODE)

/-- The mode is one of those listed. -/
def Dev.modeIn (d : Dev) (ms : List Mode) : Bool := ms.contains d.mode

/-- A configuration runs: every mode but Cold and Kindling. -/
def Dev.configured (d : Dev) : Bool := !d.modeIn [.cold, .kindling]

/-- A configuration is applied: it runs, or Kindling has passed its step APPLY (R76, R77, R313). -/
def Dev.applied (d : Dev) : Bool :=
  d.configured || (d.mode == .kindling && (d.cc.phase == .selftest || d.cc.phase == .links))

/-! ### Sets of cells -/

/-- The configured band cells of a section (R78). -/
def Dev.cellsOf (d : Dev) (s : Nat) : List Nat :=
  ((List.range 32).map (bcU s)).filter fun u => d.sectionOn s && d.is u Reg.BC.ENABLE

/-- Every configured band cell. -/
def Dev.allCells (d : Dev) : List Nat := d.sections.flatMap d.cellsOf

/-- The cells that RX link `u` feeds. -/
def Dev.cellsOfRxl (d : Dev) (u : Nat) : List Nat :=
  (d.cellsOf (secOf u)).filter fun c => d.rd c Reg.BC.RXL == idxOf u

/-- The cells that feed Combiner `i` of section `s`. -/
def Dev.cellsOfCb (d : Dev) (s i : Nat) : List Nat :=
  (d.cellsOf s).filter fun c => d.rd c Reg.BC.CB == i

/-- Damper paths of a Slice that the bit-stream declares. -/
def Dev.pathsOf (d : Dev) (s : Nat) : List Nat :=
  if d.is (dsU s) Reg.DS.ENABLE then List.range (d.rd (dsU s) Reg.DS.PATH_CNT) else []

/-- The receiving cell of path `p` of section `s` (R172). -/
def Dev.rcvOf (d : Dev) (s p : Nat) : Nat := bcU s (d.rd (dsU s) Reg.DS.P_RCV p)

/-- The source cell of path `p` of section `s` (R172). -/
def Dev.srcOf (d : Dev) (s p : Nat) : Nat := d.rd (dsU s) Reg.DS.P_SRC p

/-- Remove repeats from a list of unit addresses. -/
def uniq (xs : List Nat) : List Nat := xs.eraseDups

end Sys2Proof.Machine
end

