-- ==== Sys2Proof/Machine/RegsHost.lean ====
section
/-! DEFINITION. The register fields of HP, CY, CC, WS, EV, from the register tables of the spec (R321, R348, R374, R405, R406, R434). Generated from those tables:
one descriptor per field, and per unit type the list of its fields. -/

namespace Sys2Proof.Machine.Reg

/-- R374, UCIe link up with PCIe Flit Mode. -/
def HP.LINK_UP : Fld :=
  { unit := 16, off := 0x100, lo := 31, width := 1, acc := .ro, rst := 0x0 }
/-- R374, Bus Master Enable. -/
def HP.BME : Fld :=
  { unit := 16, off := 0x100, lo := 30, width := 1, acc := .ro, rst := 0x0 }
/-- R374, Function in D3hot. -/
def HP.D3 : Fld :=
  { unit := 16, off := 0x100, lo := 29, width := 1, acc := .ro, rst := 0x0 }
/-- R374, Trained lanes: 64, 32 or 16. -/
def HP.WIDTH : Fld :=
  { unit := 16, off := 0x100, lo := 16, width := 8, acc := .ro, rst := 0x0 }
/-- R374, Rate in GT/s: 4, 8 or 16. -/
def HP.SPEED : Fld :=
  { unit := 16, off := 0x100, lo := 8, width := 8, acc := .ro, rst := 0x0 }
/-- R374, Lanes replaced by repair. -/
def HP.REPAIRED : Fld :=
  { unit := 16, off := 0x100, lo := 0, width := 8, acc := .ro, rst := 0x0 }
/-- R374, Link-down events; 16 bits, saturating; cleared by CNT_CLEAR. -/
def HP.DOWN_CNT : Fld :=
  { unit := 16, off := 0x104, lo := 16, width := 16, acc := .ro, rst := 0x0, cntClear := true }
/-- R374, Retrains; 16 bits, saturating; cleared by CNT_CLEAR. -/
def HP.RETRAIN_CNT : Fld :=
  { unit := 16, off := 0x104, lo := 0, width := 16, acc := .ro, rst := 0x0, cntClear := true }
/-- R374, Flit replays; 32 bits, saturating; cleared by CNT_CLEAR. -/
def HP.RETRY_CNT : Fld :=
  { unit := 16, off := 0x108, lo := 0, width := 32, acc := .ro, rst := 0x0, cntClear := true }
/-- R374, R49, R352; 32 bits, saturating; cleared by CNT_CLEAR. -/
def HP.UNMAPPED_WR : Fld :=
  { unit := 16, off := 0x10c, lo := 0, width := 32, acc := .ro, rst := 0x0, cntClear := true }
/-- R374, Tap limit of R369 in 10 MB/s. -/
def HP.LIMIT : Fld :=
  { unit := 16, off := 0x110, lo := 16, width := 16, acc := .ro, rst := 0x0 }
/-- R374, Sum of open tap rates in 10 MB/s, rounded up. -/
def HP.USED : Fld :=
  { unit := 16, off := 0x110, lo := 0, width := 16, acc := .ro, rst := 0x0 }
/-- R374, R357; 16 bits, saturating; cleared by CNT_CLEAR. -/
def HP.TAG_CONF_CNT : Fld :=
  { unit := 16, off := 0x114, lo := 16, width := 16, acc := .ro, rst := 0x0, cntClear := true }
/-- R374, Tags outstanding, 0 to 2,048. -/
def HP.OUTSTANDING : Fld :=
  { unit := 16, off := 0x114, lo := 0, width := 12, acc := .ro, rst := 0x0 }
/-- R374, R365; 16 bits, saturating; cleared by CNT_CLEAR. -/
def HP.DMA_ERR_CNT : Fld :=
  { unit := 16, off := 0x118, lo := 16, width := 16, acc := .ro, rst := 0x0, cntClear := true }
/-- R374, Sticky; a DMA access failed; cleared by writing 1. -/
def HP.DMA_ERR : Fld :=
  { unit := 16, off := 0x118, lo := 8, width := 1, acc := .w1c, rst := 0x0 }
/-- R374, First failure since DMA_ERR was 0: 0x1 UR, 0x2 CA, 0x3 timeout, 0x4 poisoned. -/
def HP.ERR_KIND : Fld :=
  { unit := 16, off := 0x118, lo := 0, width := 8, acc := .ro, rst := 0x0 }
/-- R374, Address [31:0] of that failure; a read latches ERR_ADDR_HI. -/
def HP.ERR_ADDR_LO : Fld :=
  { unit := 16, off := 0x11c, lo := 0, width := 32, acc := .ro, rst := 0x0 }
/-- R374, Address [63:32]. -/
def HP.ERR_ADDR_HI : Fld :=
  { unit := 16, off := 0x120, lo := 0, width := 32, acc := .ro, rst := 0x0 }
/-- R374, Function Level Resets; 16 bits, saturating; cleared by reset only. -/
def HP.FLR_CNT : Fld :=
  { unit := 16, off := 0x124, lo := 0, width := 16, acc := .ro, rst := 0x0 }
/-- R374, n 0 to 3 for SSn, 4 for CS; bit t set while a unit of type t asserts its interrupt (R353). -/
def HP.IRQ_SUM : Fld :=
  { unit := 16, off := 0x130, lo := 0, width := 32, acc := .ro, rst := 0x0, stride := 4, count := 5 }
/-- R374, SQ base [31:12]; latched when ENABLE rises. -/
def HP.Q_SQ_BASE_LO : Fld :=
  { unit := 16, off := 0x200, lo := 12, width := 20, acc := .rw, rst := 0x0, stride := 64, count := 16 }
/-- R374, SQ base [63:32]. -/
def HP.Q_SQ_BASE_HI : Fld :=
  { unit := 16, off := 0x204, lo := 0, width := 32, acc := .rw, rst := 0x0, stride := 64, count := 16 }
/-- R374, CQ base [31:12]. -/
def HP.Q_CQ_BASE_LO : Fld :=
  { unit := 16, off := 0x208, lo := 12, width := 20, acc := .rw, rst := 0x0, stride := 64, count := 16 }
/-- R374, CQ base [63:32]. -/
def HP.Q_CQ_BASE_HI : Fld :=
  { unit := 16, off := 0x20c, lo := 0, width := 32, acc := .rw, rst := 0x0, stride := 64, count := 16 }
/-- R374, Entries, 2 to 1,024; others rejected (RANGE). -/
def HP.Q_CQ_SIZE : Fld :=
  { unit := 16, off := 0x210, lo := 16, width := 11, acc := .rw, rst := 0x400, stride := 64, count := 16, range := some (2, 1024) }
/-- R374, Entries, 2 to 1,024; others rejected (RANGE). -/
def HP.Q_SQ_SIZE : Fld :=
  { unit := 16, off := 0x210, lo := 0, width := 11, acc := .rw, rst := 0x400, stride := 64, count := 16, range := some (2, 1024) }
/-- R374, Longest delay of a completion interrupt in µs, 0 to 65,535; 0 sends at once. -/
def HP.Q_COAL_US : Fld :=
  { unit := 16, off := 0x214, lo := 16, width := 16, acc := .rw, rst := 0x0, stride := 64, count := 16, range := some (0, 65535) }
/-- R374, Completions that send the interrupt, 1 to 255; 0 rejected. -/
def HP.Q_COAL_CNT : Fld :=
  { unit := 16, off := 0x214, lo := 8, width := 8, acc := .rw, rst := 0x1, stride := 64, count := 16, range := some (1, 255), zeroRejected := true }
/-- R374, MSI-X vector, 0 to 127. -/
def HP.Q_CQ_VEC : Fld :=
  { unit := 16, off := 0x214, lo := 0, width := 7, acc := .rw, rst := 0x0, rsts := [0, 1, 2, 3, 4, 5, 6, 7, 8, 9, 10, 11, 12, 13, 14, 15], stride := 64, count := 16, range := some (0, 127) }
/-- R374, R354. -/
def HP.Q_ENABLE : Fld :=
  { unit := 16, off := 0x218, lo := 0, width := 1, acc := .rw, rst := 0x0, stride := 64, count := 16 }
/-- R374, R365; cleared when ENABLE is written 0. -/
def HP.Q_STOPPED : Fld :=
  { unit := 16, off := 0x21c, lo := 31, width := 1, acc := .ro, rst := 0x0, stride := 64, count := 16 }
/-- R374, 0 none, 1 fetch failed, 2 completion write failed, 3 uncorrectable queue state, 4 doorbell out of range. -/
def HP.Q_STOP_CAUSE : Fld :=
  { unit := 16, off := 0x21c, lo := 28, width := 3, acc := .ro, rst := 0x0, stride := 64, count := 16 }
/-- R374, Next CQ entry written. -/
def HP.Q_CQ_TAIL : Fld :=
  { unit := 16, off := 0x21c, lo := 16, width := 10, acc := .ro, rst := 0x0, stride := 64, count := 16 }
/-- R374, Next SQ entry fetched. -/
def HP.Q_SQ_HEAD : Fld :=
  { unit := 16, off := 0x21c, lo := 0, width := 10, acc := .ro, rst := 0x0, stride := 64, count := 16 }
/-- R374, Commands fetched; 32 bits, wraps. -/
def HP.Q_CMD_CNT : Fld :=
  { unit := 16, off := 0x220, lo := 0, width := 32, acc := .ro, rst := 0x0, stride := 64, count := 16 }
/-- R374, Outstanding tags of this queue pair. -/
def HP.Q_INFLIGHT : Fld :=
  { unit := 16, off := 0x224, lo := 0, width := 12, acc := .ro, rst := 0x0, stride := 64, count := 16 }
/-- R374, Unit address. -/
def HP.TAP_SOURCE : Fld :=
  { unit := 16, off := 0x600, lo := 16, width := 16, acc := .ro, rst := 0x0, stride := 32, count := 64 }
/-- R374, R367. -/
def HP.TAP_FORMAT : Fld :=
  { unit := 16, off := 0x600, lo := 5, width := 1, acc := .ro, rst := 0x0, stride := 32, count := 64 }
/-- R374, R367. -/
def HP.TAP_POINT : Fld :=
  { unit := 16, off := 0x600, lo := 4, width := 1, acc := .ro, rst := 0x0, stride := 32, count := 64 }
/-- R374, 0 none, 1 thermal, 2 bandwidth, 3 link (R370). -/
def HP.TAP_PAUSE_CAUSE : Fld :=
  { unit := 16, off := 0x600, lo := 2, width := 2, acc := .ro, rst := 0x0, stride := 32, count := 64 }
/-- R374, 0 closed, 1 running, 2 paused, 3 closing. -/
def HP.TAP_STATE : Fld :=
  { unit := 16, off := 0x600, lo := 0, width := 2, acc := .ro, rst := 0x0, stride := 32, count := 64 }
/-- R374, Bytes written [31:0] (R368). -/
def HP.TAP_PROD : Fld :=
  { unit := 16, off := 0x604, lo := 0, width := 32, acc := .ro, rst := 0x0, stride := 32, count := 64 }
/-- R374, Last consumer count written to the doorbell. -/
def HP.TAP_CONS : Fld :=
  { unit := 16, off := 0x608, lo := 0, width := 32, acc := .ro, rst := 0x0, stride := 32, count := 64 }
/-- R374, Segments written; 32 bits, wraps. -/
def HP.TAP_SEGMENTS : Fld :=
  { unit := 16, off := 0x60c, lo := 0, width := 32, acc := .ro, rst := 0x0, stride := 32, count := 64 }
/-- R374, Segments skipped; 32 bits, saturating; zeroed at TAP-OPEN. -/
def HP.TAP_LOST : Fld :=
  { unit := 16, off := 0x610, lo := 0, width := 32, acc := .ro, rst := 0x0, stride := 32, count := 64 }
/-- R374, R369, in 10 MB/s, rounded up. -/
def HP.TAP_RATE : Fld :=
  { unit := 16, off := 0x614, lo := 0, width := 16, acc := .ro, rst := 0x0, stride := 32, count := 64 }
/-- R374, R367. -/
def HP.TAP_RING_BYTES : Fld :=
  { unit := 16, off := 0x618, lo := 0, width := 32, acc := .ro, rst := 0x0, stride := 32, count := 64 }

/-- Every field of a HP window. -/
def HP.all : List Fld :=
  [HP.LINK_UP, HP.BME, HP.D3, HP.WIDTH, HP.SPEED, HP.REPAIRED, HP.DOWN_CNT, HP.RETRAIN_CNT, HP.RETRY_CNT, HP.UNMAPPED_WR, HP.LIMIT, HP.USED] ++
  [HP.TAG_CONF_CNT, HP.OUTSTANDING, HP.DMA_ERR_CNT, HP.DMA_ERR, HP.ERR_KIND, HP.ERR_ADDR_LO, HP.ERR_ADDR_HI, HP.FLR_CNT, HP.IRQ_SUM, HP.Q_SQ_BASE_LO, HP.Q_SQ_BASE_HI, HP.Q_CQ_BASE_LO] ++
  [HP.Q_CQ_BASE_HI, HP.Q_CQ_SIZE, HP.Q_SQ_SIZE, HP.Q_COAL_US, HP.Q_COAL_CNT, HP.Q_CQ_VEC, HP.Q_ENABLE, HP.Q_STOPPED, HP.Q_STOP_CAUSE, HP.Q_CQ_TAIL, HP.Q_SQ_HEAD, HP.Q_CMD_CNT] ++
  [HP.Q_INFLIGHT, HP.TAP_SOURCE, HP.TAP_FORMAT, HP.TAP_POINT, HP.TAP_PAUSE_CAUSE, HP.TAP_STATE, HP.TAP_PROD, HP.TAP_CONS, HP.TAP_SEGMENTS, HP.TAP_LOST, HP.TAP_RATE, HP.TAP_RING_BYTES]

/-- R348, Signing engine working (R332). -/
def CY.BUSY : Fld :=
  { unit := 17, off := 0x100, lo := 7, width := 1, acc := .ro, rst := 0x0 }
/-- R348, A well-formed object is in PENDING. -/
def CY.PROFILE_PEND : Fld :=
  { unit := 17, off := 0x100, lo := 6, width := 1, acc := .ro, rst := 0x0 }
/-- R348, An active digest exists (R341). -/
def CY.PROFILE_ACTIVE : Fld :=
  { unit := 17, off := 0x100, lo := 5, width := 1, acc := .ro, rst := 0x0 }
/-- R348, R337. -/
def CY.NONCE_VALID : Fld :=
  { unit := 17, off := 0x100, lo := 4, width := 1, acc := .ro, rst := 0x0 }
/-- R348, Random generator passes its health tests. -/
def CY.RNG_OK : Fld :=
  { unit := 17, off := 0x100, lo := 3, width := 1, acc := .ro, rst := 0x0 }
/-- R348, Test-lock fuse burned (R329). -/
def CY.TEST_LOCK : Fld :=
  { unit := 17, off := 0x100, lo := 2, width := 1, acc := .ro, rst := 0x0 }
/-- R348, R326. -/
def CY.ID_OK : Fld :=
  { unit := 17, off := 0x100, lo := 1, width := 1, acc := .ro, rst := 0x0 }
/-- R348, R326. -/
def CY.ID_DONE : Fld :=
  { unit := 17, off := 0x100, lo := 0, width := 1, acc := .ro, rst := 0x0 }
/-- R348, Longest token lifetime in s, 60 to 604,800; 0 rejected (R338). -/
def CY.TOKEN_MAX_S : Fld :=
  { unit := 17, off := 0x104, lo := 0, width := 20, acc := .lk, rst := 0x15180, range := some (60, 604800), zeroRejected := true }
/-- R348, R325. -/
def CY.FLOOR : Fld :=
  { unit := 17, off := 0x108, lo := 16, width := 7, acc := .ro, rst := 0x0 }
/-- R348, Profile slots not empty, 0 to 8. -/
def CY.PROFILES_USED : Fld :=
  { unit := 17, off := 0x108, lo := 12, width := 4, acc := .ro, rst := 0x0 }
/-- R348, Index of the active profile slot; 0xF none. -/
def CY.ACTIVE_SLOT : Fld :=
  { unit := 17, off := 0x108, lo := 8, width := 4, acc := .ro, rst := 0xf }
/-- R348, 2 bits per owner slot, slot 0 in [1:0] (R333). -/
def CY.OWNER_STATE : Fld :=
  { unit := 17, off := 0x108, lo := 0, width := 8, acc := .ro, rst := 0x0 }
/-- R348, R337. -/
def CY.NEW : Fld :=
  { unit := 17, off := 0x10c, lo := 0, width := 1, acc := .sc, rst := 0x0 }
/-- R348, Nonce bytes 0 to 15, byte 0 in bits [7:0] of 0x110; 0 while NONCE_VALID is 0. -/
def CY.NONCE : Fld :=
  { unit := 17, off := 0x110, lo := 0, width := 32, acc := .ro, rst := 0x0, stride := 4, count := 4 }
/-- R348, NONCE_DT [31:0]; a read latches NONCE_DT_HI. -/
def CY.NONCE_DT_LO : Fld :=
  { unit := 17, off := 0x120, lo := 0, width := 32, acc := .ro, rst := 0x0 }
/-- R348, NONCE_DT [63:32]. -/
def CY.NONCE_DT_HI : Fld :=
  { unit := 17, off := 0x124, lo := 0, width := 32, acc := .ro, rst := 0x0 }
/-- R348, 0x0 DONE, 0x1 MODE, 0x2 TOKEN, 0x3 FULL, 0x4 LAST_OWNER, 0x5 OBJECT, 0x6 OTP, 0x7 MEDIA, 0x8 IDENTITY, 0x9 BUSY; 0xA to 0xF reserved. -/
def CY.CMD_RESULT : Fld :=
  { unit := 17, off := 0x128, lo := 16, width := 4, acc := .ro, rst := 0x0 }
/-- R348, TYPE [7:0] of the last token checked. -/
def CY.TOKEN_TYPE : Fld :=
  { unit := 17, off := 0x128, lo := 8, width := 8, acc := .ro, rst := 0x0 }
/-- R348, Its OWNER_SLOT. -/
def CY.TOKEN_SLOT : Fld :=
  { unit := 17, off := 0x128, lo := 6, width := 2, acc := .ro, rst := 0x0 }
/-- R348, R338. -/
def CY.TOKEN_RESULT : Fld :=
  { unit := 17, off := 0x128, lo := 0, width := 4, acc := .ro, rst := 0x0 }
/-- R348, Tokens refused; 16 bits, saturating; cleared by CNT_CLEAR. -/
def CY.TOK_REJ : Fld :=
  { unit := 17, off := 0x12c, lo := 16, width := 16, acc := .ro, rst := 0x0, cntClear := true }
/-- R348, Tokens accepted; 16 bits, saturating; cleared by CNT_CLEAR. -/
def CY.TOK_ACC : Fld :=
  { unit := 17, off := 0x12c, lo := 0, width := 16, acc := .ro, rst := 0x0, cntClear := true }
/-- R348, Signatures made since PORST_N; 32 bits, wraps. -/
def CY.SIGN_CNT : Fld :=
  { unit := 17, off := 0x130, lo := 0, width := 32, acc := .ro, rst := 0x0 }
/-- R348, Failed burns; 16 bits, saturating; cleared by CNT_CLEAR. -/
def CY.BURN_FAIL : Fld :=
  { unit := 17, off := 0x134, lo := 0, width := 16, acc := .ro, rst := 0x0, cntClear := true }
/-- R348, DEV_ID bytes 0 to 31, byte 0 in bits [7:0] of 0x140. -/
def CY.DEV_ID : Fld :=
  { unit := 17, off := 0x140, lo := 0, width := 32, acc := .ro, rst := 0x0, stride := 4, count := 8 }
/-- R348, Active profile digest, bytes 0 to 63. -/
def CY.ACTIVE_DIGEST : Fld :=
  { unit := 17, off := 0x160, lo := 0, width := 32, acc := .ro, rst := 0x0, stride := 4, count := 16 }
/-- R348, Pending profile digest, bytes 0 to 63; 0 without one. -/
def CY.PENDING_DIGEST : Fld :=
  { unit := 17, off := 0x1a0, lo := 0, width := 32, acc := .ro, rst := 0x0, stride := 4, count := 16 }
/-- R348, OTP word address for OTP_DATA. -/
def CY.OTP_ADDR : Fld :=
  { unit := 17, off := 0x1e0, lo := 2, width := 11, acc := .rw, rst := 0x0 }
/-- R348, OTP bytes OTP_ADDR × 4 to + 3, lowest byte in bits [7:0]; 0 in the helper-data region. -/
def CY.OTP_DATA : Fld :=
  { unit := 17, off := 0x1e4, lo := 0, width := 32, acc := .ro, rst := 0x0 }

/-- Every field of a CY window. -/
def CY.all : List Fld :=
  [CY.BUSY, CY.PROFILE_PEND, CY.PROFILE_ACTIVE, CY.NONCE_VALID, CY.RNG_OK, CY.TEST_LOCK, CY.ID_OK, CY.ID_DONE, CY.TOKEN_MAX_S, CY.FLOOR, CY.PROFILES_USED, CY.ACTIVE_SLOT] ++
  [CY.OWNER_STATE, CY.NEW, CY.NONCE, CY.NONCE_DT_LO, CY.NONCE_DT_HI, CY.CMD_RESULT, CY.TOKEN_TYPE, CY.TOKEN_SLOT, CY.TOKEN_RESULT, CY.TOK_REJ, CY.TOK_ACC, CY.SIGN_CNT] ++
  [CY.BURN_FAIL, CY.DEV_ID, CY.ACTIVE_DIGEST, CY.PENDING_DIGEST, CY.OTP_ADDR, CY.OTP_DATA]

/-- R321, 0 idle, 1 receiving, 2 validating, 3 staged, 4 failed; 5 to 15 reserved; returns to 0 when a COMMIT, or the first-installation promotion of R312, takes the staged slot. -/
def CC.STAGE_STATE : Fld :=
  { unit := 18, off := 0x100, lo := 12, width := 4, acc := .ro, rst := 0x0 }
/-- R321, The shadow matches its stored digest. -/
def CC.SHADOW_OK : Fld :=
  { unit := 18, off := 0x100, lo := 6, width := 1, acc := .ro, rst := 0x0 }
/-- R321, A valid directory was read. -/
def CC.DIR_OK : Fld :=
  { unit := 18, off := 0x100, lo := 5, width := 1, acc := .ro, rst := 0x0 }
/-- R321, A floor raise awaits step 7 of R313. -/
def CC.FLOOR_PEND : Fld :=
  { unit := 18, off := 0x100, lo := 4, width := 1, acc := .ro, rst := 0x0 }
/-- R321, As MC.MODE.PROBATION. -/
def CC.PROBATION : Fld :=
  { unit := 18, off := 0x100, lo := 3, width := 1, acc := .ro, rst := 0x0 }
/-- R321, Current is confirmed. -/
def CC.CONFIRMED : Fld :=
  { unit := 18, off := 0x100, lo := 2, width := 1, acc := .ro, rst := 0x0 }
/-- R321, Previous is VALID with SEC_VER at or above the floor. -/
def CC.PREV_OK : Fld :=
  { unit := 18, off := 0x100, lo := 1, width := 1, acc := .ro, rst := 0x0 }
/-- R321, Staging is STAGED. -/
def CC.STG_OK : Fld :=
  { unit := 18, off := 0x100, lo := 0, width := 1, acc := .ro, rst := 0x0 }
/-- R321, A validation result is present. -/
def CC.VAL_VALID : Fld :=
  { unit := 18, off := 0x104, lo := 31, width := 1, acc := .ro, rst := 0x0 }
/-- R321, The last validation passed. -/
def CC.PASSED : Fld :=
  { unit := 18, off := 0x104, lo := 30, width := 1, acc := .ro, rst := 0x0 }
/-- R321, Code of R307; 0x00 when passed. -/
def CC.VAL_ERR : Fld :=
  { unit := 18, off := 0x104, lo := 16, width := 8, acc := .ro, rst := 0x0 }
/-- R321, 0 STAGE, 1 Kindling. -/
def CC.VAL_SRC : Fld :=
  { unit := 18, off := 0x104, lo := 8, width := 1, acc := .ro, rst := 0x0 }
/-- R321, Result of the last command under R311. -/
def CC.CMD_RESULT : Fld :=
  { unit := 18, off := 0x104, lo := 0, width := 4, acc := .ro, rst := 0x0 }
/-- R321, Unit address of the failing item. -/
def CC.ERR_UNIT : Fld :=
  { unit := 18, off := 0x108, lo := 16, width := 16, acc := .ro, rst := 0x0 }
/-- R321, Frame level; 0 for stage A, for padding under check 0x10, and for a field that no frame sets (R307). -/
def CC.ERR_LEVEL : Fld :=
  { unit := 18, off := 0x108, lo := 14, width := 2, acc := .ro, rst := 0x0 }
/-- R321, Window offset of the failing word. -/
def CC.ERR_OFFSET : Fld :=
  { unit := 18, off := 0x108, lo := 0, width := 12, acc := .ro, rst := 0x0 }
/-- R321, Path index, for Damper path entries. -/
def CC.ERR_INDEX : Fld :=
  { unit := 18, off := 0x10c, lo := 24, width := 8, acc := .ro, rst := 0x0 }
/-- R321, Container byte offset of the failing item. -/
def CC.ERR_POS : Fld :=
  { unit := 18, off := 0x10c, lo := 0, width := 23, acc := .ro, rst := 0x0 }
/-- R321, R313; 0x00 none. -/
def CC.KINDLE_ERR : Fld :=
  { unit := 18, off := 0x110, lo := 16, width := 8, acc := .ro, rst := 0x0 }
/-- R321, As the directory holds it. -/
def CC.BOOT_TRIES : Fld :=
  { unit := 18, off := 0x110, lo := 8, width := 8, acc := .ro, rst := 0x0 }
/-- R321, Kindling step of R313; 0 outside Kindling. -/
def CC.STEP : Fld :=
  { unit := 18, off := 0x110, lo := 0, width := 4, acc := .ro, rst := 0x0 }
/-- R321, Probation time left in ms (R314); 0 while PROBATION = 0. -/
def CC.PROB_LEFT : Fld :=
  { unit := 18, off := 0x114, lo := 0, width := 32, acc := .ro, rst := 0x0 }
/-- R321, Security-version floor, 0 to 64. -/
def CC.FLOOR : Fld :=
  { unit := 18, off := 0x118, lo := 0, width := 7, acc := .ro, rst := 0x0 }
/-- R321, Bytes staged since the last STAGE at OFFSET 0. -/
def CC.STAGE_BYTES : Fld :=
  { unit := 18, off := 0x11c, lo := 0, width := 23, acc := .ro, rst := 0x0 }
/-- R321, Directory SEQ [31:0]; a read latches DIR_SEQ_HI. -/
def CC.DIR_SEQ_LO : Fld :=
  { unit := 18, off := 0x120, lo := 0, width := 32, acc := .ro, rst := 0x0 }
/-- R321, Directory SEQ [63:32]. -/
def CC.DIR_SEQ_HI : Fld :=
  { unit := 18, off := 0x124, lo := 0, width := 32, acc := .ro, rst := 0x0 }
/-- R321, Physical slot, 0 to 2; 0xF none. -/
def CC.SLOT_PHYS : Fld :=
  { unit := 18, off := 0x140, lo := 24, width := 4, acc := .ro, rst := 0xf, stride := 32, count := 3 }
/-- R321, Per the directory. -/
def CC.SLOT_CONFIRMED : Fld :=
  { unit := 18, off := 0x140, lo := 19, width := 1, acc := .ro, rst := 0x0, stride := 32, count := 3 }
/-- R321, 0b00 EMPTY, 0b01 WRITING, 0b10 STAGED, 0b11 VALID. -/
def CC.SLOT_STATE : Fld :=
  { unit := 18, off := 0x140, lo := 16, width := 2, acc := .ro, rst := 0x0, stride := 32, count := 3 }
/-- R321, R300. -/
def CC.SLOT_SEC_VER : Fld :=
  { unit := 18, off := 0x140, lo := 0, width := 16, acc := .ro, rst := 0x0, stride := 32, count := 3 }
/-- R321, CONFIG_VER [31:0]; a read latches VER_HI. -/
def CC.SLOT_VER_LO : Fld :=
  { unit := 18, off := 0x144, lo := 0, width := 32, acc := .ro, rst := 0x0, stride := 32, count := 3 }
/-- R321, CONFIG_VER [63:32]. -/
def CC.SLOT_VER_HI : Fld :=
  { unit := 18, off := 0x148, lo := 0, width := 32, acc := .ro, rst := 0x0, stride := 32, count := 3 }
/-- R321, Container length in bytes. -/
def CC.SLOT_LENGTH : Fld :=
  { unit := 18, off := 0x14c, lo := 0, width := 23, acc := .ro, rst := 0x0, stride := 32, count := 3 }
/-- R321, DIGEST bytes 0 to 15, byte 0 in bits [7:0] of +0x10. -/
def CC.SLOT_DIGEST : Fld :=
  { unit := 18, off := 0x150, lo := 0, width := 32, acc := .ro, rst := 0x0, stride := 32, count := 3, stride2 := 4, count2 := 4 }
/-- R321, Scrub passes; 32 bits, wraps. -/
def CC.PASS_CNT : Fld :=
  { unit := 18, off := 0x1a0, lo := 0, width := 32, acc := .ro, rst := 0x0 }
/-- R321, Last pass in µs, at most 20,000. -/
def CC.PASS_TIME : Fld :=
  { unit := 18, off := 0x1a4, lo := 0, width := 15, acc := .ro, rst := 0x0 }
/-- R321, R317; 32 bits, saturating; cleared by CNT_CLEAR. -/
def CC.SCRUB_FIX : Fld :=
  { unit := 18, off := 0x1a8, lo := 0, width := 32, acc := .ro, rst := 0x0, cntClear := true }
/-- R321, R318; 32 bits, saturating; cleared by CNT_CLEAR. -/
def CC.TMR_FIX : Fld :=
  { unit := 18, off := 0x1ac, lo := 0, width := 32, acc := .ro, rst := 0x0, cntClear := true }
/-- R321, Shadow reloads; 16 bits, saturating; cleared by CNT_CLEAR. -/
def CC.RELOAD_CNT : Fld :=
  { unit := 18, off := 0x1b0, lo := 0, width := 16, acc := .ro, rst := 0x0, cntClear := true }
/-- R321, Unit address of the last corrected word. -/
def CC.FIX_UNIT : Fld :=
  { unit := 18, off := 0x1b4, lo := 16, width := 16, acc := .ro, rst := 0x0 }
/-- R321, Window offset of that word. -/
def CC.FIX_OFFSET : Fld :=
  { unit := 18, off := 0x1b4, lo := 0, width := 12, acc := .ro, rst := 0x0 }

/-- Every field of a CC window. -/
def CC.all : List Fld :=
  [CC.STAGE_STATE, CC.SHADOW_OK, CC.DIR_OK, CC.FLOOR_PEND, CC.PROBATION, CC.CONFIRMED, CC.PREV_OK, CC.STG_OK, CC.VAL_VALID, CC.PASSED, CC.VAL_ERR, CC.VAL_SRC] ++
  [CC.CMD_RESULT, CC.ERR_UNIT, CC.ERR_LEVEL, CC.ERR_OFFSET, CC.ERR_INDEX, CC.ERR_POS, CC.KINDLE_ERR, CC.BOOT_TRIES, CC.STEP, CC.PROB_LEFT, CC.FLOOR, CC.STAGE_BYTES] ++
  [CC.DIR_SEQ_LO, CC.DIR_SEQ_HI, CC.SLOT_PHYS, CC.SLOT_CONFIRMED, CC.SLOT_STATE, CC.SLOT_SEC_VER, CC.SLOT_VER_LO, CC.SLOT_VER_HI, CC.SLOT_LENGTH, CC.SLOT_DIGEST, CC.PASS_CNT, CC.PASS_TIME] ++
  [CC.SCRUB_FIX, CC.TMR_FIX, CC.RELOAD_CNT, CC.FIX_UNIT, CC.FIX_OFFSET]

/-- R405, 0 DISCOVERING, 1 READY, 2 FORMATTING, 3 REBUILDING, 4 FOREIGN, 5 NO_P0; 6 to 15 reserved. -/
def WS.MEDIUM_STATE : Fld :=
  { unit := 19, off := 0x100, lo := 24, width := 4, acc := .ro, rst := 0x0 }
/-- R405, R396. -/
def WS.WORN_IN_USE : Fld :=
  { unit := 19, off := 0x100, lo := 6, width := 1, acc := .ro, rst := 0x0 }
/-- R405, R396; cleared at format only. -/
def WS.AUDIT_STOPPED : Fld :=
  { unit := 19, off := 0x100, lo := 5, width := 1, acc := .ro, rst := 0x0 }
/-- R405, R390. -/
def WS.SPARES_OUT : Fld :=
  { unit := 19, off := 0x100, lo := 4, width := 1, acc := .ro, rst := 0x0 }
/-- R405, R398, R402. -/
def WS.WRITES_HELD : Fld :=
  { unit := 19, off := 0x100, lo := 3, width := 1, acc := .ro, rst := 0x0 }
/-- R405, R402. -/
def WS.JOURNAL_ONE : Fld :=
  { unit := 19, off := 0x100, lo := 2, width := 1, acc := .ro, rst := 0x0 }
/-- R405, The set was formatted at this discovery. -/
def WS.FORMATTED : Fld :=
  { unit := 19, off := 0x100, lo := 1, width := 1, acc := .ro, rst := 0x0 }
/-- R405, R378. -/
def WS.READY : Fld :=
  { unit := 19, off := 0x100, lo := 0, width := 1, acc := .ro, rst := 0x0 }
/-- R405, Reported capacity in MiB. -/
def WS.CAP_ZONES : Fld :=
  { unit := 19, off := 0x104, lo := 0, width := 20, acc := .ro, rst := 0x0 }
/-- R405, Zones in service and not in a partition. -/
def WS.FREE_ZONES : Fld :=
  { unit := 19, off := 0x108, lo := 0, width := 20, acc := .ro, rst := 0x0 }
/-- R405, R393, in MiB; bits [31:20] reserved. -/
def WS.P1_MIB : Fld :=
  { unit := 19, off := 0x10c, lo := 0, width := 20, acc := .lk, rst := 0x0 }
/-- R405, R393, in MiB; bits [31:20] reserved. -/
def WS.P1_MIN : Fld :=
  { unit := 19, off := 0x110, lo := 0, width := 20, acc := .lk, rst := 0x0 }
/-- R405, R393, in MiB; bits [31:20] reserved. -/
def WS.P2_MIB : Fld :=
  { unit := 19, off := 0x114, lo := 0, width := 20, acc := .lk, rst := 0x0 }
/-- R405, R393, in MiB; bits [31:20] reserved. -/
def WS.P3_MIB : Fld :=
  { unit := 19, off := 0x118, lo := 0, width := 20, acc := .lk, rst := 0x0 }
/-- R405, R393, in MiB; bits [31:20] reserved. -/
def WS.P4_MIB : Fld :=
  { unit := 19, off := 0x11c, lo := 0, width := 20, acc := .lk, rst := 0x0 }
/-- R405, Live sizes in MiB; bits [31:20] reserved. -/
def WS.P1_LIVE : Fld :=
  { unit := 19, off := 0x120, lo := 0, width := 20, acc := .ro, rst := 0x0 }
/-- R405, Live sizes in MiB; bits [31:20] reserved. -/
def WS.P2_LIVE : Fld :=
  { unit := 19, off := 0x124, lo := 0, width := 20, acc := .ro, rst := 0x0 }
/-- R405, Live sizes in MiB; bits [31:20] reserved. -/
def WS.P3_LIVE : Fld :=
  { unit := 19, off := 0x128, lo := 0, width := 20, acc := .ro, rst := 0x0 }
/-- R405, Live sizes in MiB; bits [31:20] reserved. -/
def WS.P4_LIVE : Fld :=
  { unit := 19, off := 0x12c, lo := 0, width := 20, acc := .ro, rst := 0x0 }
/-- R405, Page writes per gap move, 1 to 65,535; 0 rejected. -/
def WS.GAP_N : Fld :=
  { unit := 19, off := 0x130, lo := 16, width := 16, acc := .lk, rst := 0x40, range := some (1, 65535), zeroRejected := true }
/-- R405, Rated writes per page in 10⁶, 1 to 1,000; 0 rejected. -/
def WS.ENDURANCE : Fld :=
  { unit := 19, off := 0x130, lo := 0, width := 16, acc := .lk, rst := 0x64, range := some (1, 1000), zeroRejected := true }
/-- R405, WEAR difference, 10,000 to 16,777,215. -/
def WS.LEVEL_GAP : Fld :=
  { unit := 19, off := 0x134, lo := 8, width := 24, acc := .lk, rst := 0xf4240, range := some (10000, 16777215) }
/-- R405, R391, 1 to 48; 0 rejected. -/
def WS.REFRESH_SYM : Fld :=
  { unit := 19, off := 0x134, lo := 0, width := 8, acc := .lk, rst := 0x18, range := some (1, 48), zeroRejected := true }
/-- R405, Patrol period in hours, 1 to 168; 0 rejected. -/
def WS.PATROL_H : Fld :=
  { unit := 19, off := 0x138, lo := 0, width := 8, acc := .lk, rst := 0xa8, range := some (1, 168), zeroRejected := true }
/-- R405, Capture staging C in MiB, 1 to 6 (R34, R35); 0 and 7 rejected. -/
def WS.CAP_MIB : Fld :=
  { unit := 19, off := 0x13c, lo := 0, width := 3, acc := .lk, rst := 0x1, range := some (1, 6) }
/-- R405, Corrected symbols; 32 bits, saturating; cleared by CNT_CLEAR. -/
def WS.CORR_SYM : Fld :=
  { unit := 19, off := 0x140, lo := 0, width := 32, acc := .ro, rst := 0x0, cntClear := true }
/-- R405, Lost page reads; 32 bits, saturating; cleared by CNT_CLEAR. -/
def WS.UNCORR_CNT : Fld :=
  { unit := 19, off := 0x144, lo := 0, width := 32, acc := .ro, rst := 0x0, cntClear := true }
/-- R405, Refreshes; 32 bits, saturating; cleared by CNT_CLEAR. -/
def WS.REFRESH_CNT : Fld :=
  { unit := 19, off := 0x148, lo := 0, width := 32, acc := .ro, rst := 0x0, cntClear := true }
/-- R405, Second write-verify failures; 32 bits, saturating; cleared by CNT_CLEAR. -/
def WS.VERIFY_FAIL : Fld :=
  { unit := 19, off := 0x14c, lo := 0, width := 32, acc := .ro, rst := 0x0, cntClear := true }
/-- R405, Set at discovery from the journal; 16 bits, saturating. -/
def WS.RETIRED_WEAR : Fld :=
  { unit := 19, off := 0x150, lo := 16, width := 16, acc := .ro, rst := 0x0 }
/-- R405, As RETIRED_WEAR, causes DEFECT and DEVICE. -/
def WS.RETIRED_DEFECT : Fld :=
  { unit := 19, off := 0x150, lo := 0, width := 16, acc := .ro, rst := 0x0 }
/-- R405, R386; 16 bits, saturating; cleared by CNT_CLEAR. -/
def WS.LEVEL_CNT : Fld :=
  { unit := 19, off := 0x154, lo := 16, width := 16, acc := .ro, rst := 0x0, cntClear := true }
/-- R405, R395; 16 bits, saturating; set at discovery from the journal. -/
def WS.SHRINK_CNT : Fld :=
  { unit := 19, off := 0x154, lo := 0, width := 16, acc := .ro, rst := 0x0 }
/-- R405, Completed patrol passes; 16 bits, wraps. -/
def WS.PASS_CNT : Fld :=
  { unit := 19, off := 0x158, lo := 16, width := 16, acc := .ro, rst := 0x0 }
/-- R405, Last pass duration in minutes; 16 bits, saturating. -/
def WS.PASS_MIN : Fld :=
  { unit := 19, off := 0x158, lo := 0, width := 16, acc := .ro, rst := 0x0 }
/-- R405, Last JSEQ [31:0]; a read latches JSEQ_HI. -/
def WS.JSEQ_LO : Fld :=
  { unit := 19, off := 0x15c, lo := 0, width := 32, acc := .ro, rst := 0x0 }
/-- R405, Last JSEQ [63:32]. -/
def WS.JSEQ_HI : Fld :=
  { unit := 19, off := 0x160, lo := 0, width := 32, acc := .ro, rst := 0x0 }
/-- R405, SET_ID bytes 0 to 15, byte 0 in bits [7:0] of 0x170. -/
def WS.SET_ID : Fld :=
  { unit := 19, off := 0x170, lo := 0, width := 32, acc := .ro, rst := 0x0, stride := 4, count := 4 }
/-- R406, Density of chip select 1; 0 when absent. -/
def WS.CH_DEV1_GIB : Fld :=
  { unit := 19, off := 0x200, lo := 24, width := 8, acc := .ro, rst := 0x0, stride := 32, count := 8 }
/-- R406, Density of chip select 0. -/
def WS.CH_DEV0_GIB : Fld :=
  { unit := 19, off := 0x200, lo := 16, width := 8, acc := .ro, rst := 0x0, stride := 32, count := 8 }
/-- R406, 0 ABSENT, 1 READY, 2 DEGRADED, 3 FAILED, 4 UNSUPPORTED; 5 to 7 reserved. -/
def WS.CH_CH_STATE : Fld :=
  { unit := 19, off := 0x200, lo := 0, width := 3, acc := .ro, rst := 0x0, stride := 32, count := 8 }
/-- R406, BAD zones (R388). -/
def WS.CH_BAD : Fld :=
  { unit := 19, off := 0x204, lo := 16, width := 16, acc := .ro, rst := 0x0, stride := 32, count := 8 }
/-- R406, R390. -/
def WS.CH_SPARES_INIT : Fld :=
  { unit := 19, off := 0x204, lo := 0, width := 16, acc := .ro, rst := 0x0, stride := 32, count := 8 }
/-- R406, Spares remaining. -/
def WS.CH_SPARES_LEFT : Fld :=
  { unit := 19, off := 0x208, lo := 16, width := 16, acc := .ro, rst := 0x0, stride := 32, count := 8 }
/-- R406, Retired zones of the channel. -/
def WS.CH_RETIRED : Fld :=
  { unit := 19, off := 0x208, lo := 0, width := 16, acc := .ro, rst := 0x0, stride := 32, count := 8 }
/-- R406, Zones of the channel (R384). -/
def WS.CH_ZONES : Fld :=
  { unit := 19, off := 0x20c, lo := 16, width := 16, acc := .ro, rst := 0x0, stride := 32, count := 8 }
/-- R406, Zones neither spare, BAD nor RETIRED. -/
def WS.CH_IN_SERVICE : Fld :=
  { unit := 19, off := 0x20c, lo := 0, width := 16, acc := .ro, rst := 0x0, stride := 32, count := 8 }
/-- R406, Highest WEAR in service. -/
def WS.CH_MAX_WEAR : Fld :=
  { unit := 19, off := 0x210, lo := 0, width := 32, acc := .ro, rst := 0x0, stride := 32, count := 8 }
/-- R406, Lowest WEAR in service. -/
def WS.CH_MIN_WEAR : Fld :=
  { unit := 19, off := 0x214, lo := 0, width := 32, acc := .ro, rst := 0x0, stride := 32, count := 8 }
/-- R406, Current patrol pass progress in 0.01 %, 0 to 10,000. -/
def WS.CH_PASS_PCT : Fld :=
  { unit := 19, off := 0x218, lo := 16, width := 16, acc := .ro, rst := 0x0, stride := 32, count := 8 }
/-- R406, Zone index the patrol is reading. -/
def WS.CH_PATROL_ZONE : Fld :=
  { unit := 19, off := 0x218, lo := 0, width := 16, acc := .ro, rst := 0x0, stride := 32, count := 8 }
/-- R406, Commands not completed within 1 ms; 16 bits, saturating; cleared by CNT_CLEAR. -/
def WS.CH_TIMEOUT_CNT : Fld :=
  { unit := 19, off := 0x21c, lo := 0, width := 16, acc := .ro, rst := 0x0, stride := 32, count := 8, cntClear := true }

/-- Every field of a WS window. -/
def WS.all : List Fld :=
  [WS.MEDIUM_STATE, WS.WORN_IN_USE, WS.AUDIT_STOPPED, WS.SPARES_OUT, WS.WRITES_HELD, WS.JOURNAL_ONE, WS.FORMATTED, WS.READY, WS.CAP_ZONES, WS.FREE_ZONES, WS.P1_MIB, WS.P1_MIN] ++
  [WS.P2_MIB, WS.P3_MIB, WS.P4_MIB, WS.P1_LIVE, WS.P2_LIVE, WS.P3_LIVE, WS.P4_LIVE, WS.GAP_N, WS.ENDURANCE, WS.LEVEL_GAP, WS.REFRESH_SYM, WS.PATROL_H] ++
  [WS.CAP_MIB, WS.CORR_SYM, WS.UNCORR_CNT, WS.REFRESH_CNT, WS.VERIFY_FAIL, WS.RETIRED_WEAR, WS.RETIRED_DEFECT, WS.LEVEL_CNT, WS.SHRINK_CNT, WS.PASS_CNT, WS.PASS_MIN, WS.JSEQ_LO] ++
  [WS.JSEQ_HI, WS.SET_ID, WS.CH_DEV1_GIB, WS.CH_DEV0_GIB, WS.CH_CH_STATE, WS.CH_BAD, WS.CH_SPARES_INIT, WS.CH_SPARES_LEFT, WS.CH_RETIRED, WS.CH_ZONES, WS.CH_IN_SERVICE, WS.CH_MAX_WEAR] ++
  [WS.CH_MIN_WEAR, WS.CH_PASS_PCT, WS.CH_PATROL_ZONE, WS.CH_TIMEOUT_CNT]

/-- R434, R418. -/
def EV.SCANNING : Fld :=
  { unit := 20, off := 0x100, lo := 7, width := 1, acc := .ro, rst := 0x0 }
/-- R434, R420. -/
def EV.FROZEN : Fld :=
  { unit := 20, off := 0x100, lo := 6, width := 1, acc := .ro, rst := 0x0 }
/-- R434, R415. -/
def EV.P1_FULL : Fld :=
  { unit := 20, off := 0x100, lo := 5, width := 1, acc := .ro, rst := 0x0 }
/-- R434, Audit records diverted (R415). -/
def EV.P1_DIVERT : Fld :=
  { unit := 20, off := 0x100, lo := 4, width := 1, acc := .ro, rst := 0x0 }
/-- R434, R416. -/
def EV.P2_OVERWRITE : Fld :=
  { unit := 20, off := 0x100, lo := 3, width := 1, acc := .ro, rst := 0x0 }
/-- R434, R414. -/
def EV.UNSIGNED : Fld :=
  { unit := 20, off := 0x100, lo := 2, width := 1, acc := .ro, rst := 0x0 }
/-- R434, R421. -/
def EV.CLEARING : Fld :=
  { unit := 20, off := 0x100, lo := 1, width := 1, acc := .ro, rst := 0x0 }
/-- R434, Scan done; commits running. -/
def EV.READY : Fld :=
  { unit := 20, off := 0x100, lo := 0, width := 1, acc := .ro, rst := 0x0 }
/-- R434, R408. -/
def EV.AUDIT_SEV : Fld :=
  { unit := 20, off := 0x104, lo := 0, width := 2, acc := .lk, rst := 0x2 }
/-- R434, Open records. -/
def EV.Q_OPEN : Fld :=
  { unit := 20, off := 0x108, lo := 16, width := 16, acc := .ro, rst := 0x0 }
/-- R434, Occupied slots, 0 to 32,768. -/
def EV.Q_FILL : Fld :=
  { unit := 20, off := 0x108, lo := 0, width := 16, acc := .ro, rst := 0x0 }
/-- R434, Next slot to be used. -/
def EV.Q_TAIL : Fld :=
  { unit := 20, off := 0x10c, lo := 16, width := 15, acc := .ro, rst := 0x0 }
/-- R434, Oldest occupied slot. -/
def EV.Q_HEAD : Fld :=
  { unit := 20, off := 0x10c, lo := 0, width := 15, acc := .ro, rst := 0x0 }
/-- R434, NEXT_SEQ [31:0]; a read latches NEXT_SEQ_HI. -/
def EV.NEXT_SEQ_LO : Fld :=
  { unit := 20, off := 0x110, lo := 0, width := 32, acc := .ro, rst := 0x0 }
/-- R434, NEXT_SEQ [47:32]; bits [31:16] reserved. -/
def EV.NEXT_SEQ_HI : Fld :=
  { unit := 20, off := 0x114, lo := 0, width := 16, acc := .ro, rst := 0x0 }
/-- R434, HW_SEQ [31:0]; a read latches HW_SEQ_HI. -/
def EV.HW_SEQ_LO : Fld :=
  { unit := 20, off := 0x118, lo := 0, width := 32, acc := .ro, rst := 0x0 }
/-- R434, HW_SEQ [47:32]; bits [31:16] reserved. -/
def EV.HW_SEQ_HI : Fld :=
  { unit := 20, off := 0x11c, lo := 0, width := 16, acc := .ro, rst := 0x0 }
/-- R434, R413; 32 bits, saturating; cleared by CNT_CLEAR. -/
def EV.AUD_LOST : Fld :=
  { unit := 20, off := 0x120, lo := 0, width := 32, acc := .ro, rst := 0x0, cntClear := true }
/-- R434, R413; 32 bits, saturating; cleared by CNT_CLEAR. -/
def EV.OP_LOST : Fld :=
  { unit := 20, off := 0x124, lo := 0, width := 32, acc := .ro, rst := 0x0, cntClear := true }
/-- R434, R416; 32 bits, saturating; cleared by CNT_CLEAR. -/
def EV.OP_DROPPED : Fld :=
  { unit := 20, off := 0x128, lo := 0, width := 32, acc := .ro, rst := 0x0, cntClear := true }
/-- R434, R415; 32 bits, saturating; cleared by CNT_CLEAR. -/
def EV.DIVERTED : Fld :=
  { unit := 20, off := 0x12c, lo := 0, width := 32, acc := .ro, rst := 0x0, cntClear := true }
/-- R434, Events coalesced (R412); 32 bits, saturating; cleared by CNT_CLEAR. -/
def EV.COALESCED : Fld :=
  { unit := 20, off := 0x130, lo := 0, width := 32, acc := .ro, rst := 0x0, cntClear := true }
/-- R434, ms to the automatic thaw, 0 to 10,000. -/
def EV.FREEZE_LEFT : Fld :=
  { unit := 20, off := 0x134, lo := 0, width := 14, acc := .ro, rst := 0x0 }
/-- R434, Seals made; 32 bits, wraps. -/
def EV.SEAL_CNT : Fld :=
  { unit := 20, off := 0x138, lo := 0, width := 32, acc := .ro, rst := 0x0 }
/-- R434, Unreserved P1 slots (R415). -/
def EV.P1_LEFT : Fld :=
  { unit := 20, off := 0x13c, lo := 0, width := 32, acc := .ro, rst := 0x0 }
/-- R434, Audit chain head, bytes 0 to 15, byte 0 in bits [7:0] of 0x140. -/
def EV.AUD_HEAD : Fld :=
  { unit := 20, off := 0x140, lo := 0, width := 32, acc := .ro, rst := 0x0, stride := 4, count := 4 }
/-- R434, Operational chain head. -/
def EV.OP_HEAD : Fld :=
  { unit := 20, off := 0x150, lo := 0, width := 32, acc := .ro, rst := 0x0, stride := 4, count := 4 }
/-- R434, SEQ [31:0] of AUD_HEAD's record; a read latches the high word. -/
def EV.AUD_HEAD_SEQ_LO : Fld :=
  { unit := 20, off := 0x160, lo := 0, width := 32, acc := .ro, rst := 0x0 }
/-- R434, SEQ [47:32]; bits [31:16] reserved. -/
def EV.AUD_HEAD_SEQ_HI : Fld :=
  { unit := 20, off := 0x164, lo := 0, width := 16, acc := .ro, rst := 0x0 }
/-- R434, As AUD_HEAD_SEQ_LO, for OP_HEAD. -/
def EV.OP_HEAD_SEQ_LO : Fld :=
  { unit := 20, off := 0x168, lo := 0, width := 32, acc := .ro, rst := 0x0 }
/-- R434, SEQ [47:32]; bits [31:16] reserved. -/
def EV.OP_HEAD_SEQ_HI : Fld :=
  { unit := 20, off := 0x16c, lo := 0, width := 16, acc := .ro, rst := 0x0 }
/-- R434, Captures triggered and not complete, 0 to 4. -/
def EV.STREAMING : Fld :=
  { unit := 20, off := 0x180, lo := 4, width := 4, acc := .ro, rst := 0x0 }
/-- R434, Captures accepted and not complete, 0 to 4. -/
def EV.PENDING : Fld :=
  { unit := 20, off := 0x180, lo := 0, width := 4, acc := .ro, rst := 0x0 }
/-- R434, R429. -/
def EV.CAP_NEXT : Fld :=
  { unit := 20, off := 0x184, lo := 0, width := 32, acc := .ro, rst := 0x0 }
/-- R434, NUMBER of the oldest stored capture. -/
def EV.CAP_OLDEST : Fld :=
  { unit := 20, off := 0x188, lo := 0, width := 32, acc := .ro, rst := 0x0 }
/-- R434, Captures stored in P3. -/
def EV.CAP_STORED : Fld :=
  { unit := 20, off := 0x18c, lo := 0, width := 32, acc := .ro, rst := 0x0 }
/-- R434, R430. -/
def EV.CAP_RD_NUM : Fld :=
  { unit := 20, off := 0x190, lo := 0, width := 32, acc := .rw, rst := 0x0 }
/-- R434, First page to copy, 0 to PAGES − 1 of the capture. -/
def EV.CAP_RD_PAGE : Fld :=
  { unit := 20, off := 0x194, lo := 0, width := 24, acc := .rw, rst := 0x0 }
/-- R434, Pages, 1 to C × 256; 0 rejected (RANGE). -/
def EV.CAP_RD_LEN : Fld :=
  { unit := 20, off := 0x198, lo := 0, width := 11, acc := .rw, rst := 0x1, zeroRejected := true }
/-- R434, 0x0 none, 0x1 Lost page read, 0x2 aborted by trigger. -/
def EV.RD_ERR : Fld :=
  { unit := 20, off := 0x19c, lo := 4, width := 4, acc := .ro, rst := 0x0 }
/-- R434, 0b00 idle, 0b01 copying, 0b10 DONE, 0b11 error. -/
def EV.RD_STATE : Fld :=
  { unit := 20, off := 0x19c, lo := 1, width := 2, acc := .ro, rst := 0x0 }
/-- R434, R430. -/
def EV.RD_GO : Fld :=
  { unit := 20, off := 0x19c, lo := 0, width := 1, acc := .sc, rst := 0x0 }
/-- R434, Free staging chunks. -/
def EV.STG_FREE : Fld :=
  { unit := 20, off := 0x1a0, lo := 0, width := 16, acc := .ro, rst := 0x0 }
/-- R434, Gap entries written; 32 bits, saturating; cleared by CNT_CLEAR. -/
def EV.GAP_ENTRIES : Fld :=
  { unit := 20, off := 0x1a4, lo := 0, width := 32, acc := .ro, rst := 0x0, cntClear := true }

/-- Every field of a EV window. -/
def EV.all : List Fld :=
  [EV.SCANNING, EV.FROZEN, EV.P1_FULL, EV.P1_DIVERT, EV.P2_OVERWRITE, EV.UNSIGNED, EV.CLEARING, EV.READY, EV.AUDIT_SEV, EV.Q_OPEN, EV.Q_FILL, EV.Q_TAIL] ++
  [EV.Q_HEAD, EV.NEXT_SEQ_LO, EV.NEXT_SEQ_HI, EV.HW_SEQ_LO, EV.HW_SEQ_HI, EV.AUD_LOST, EV.OP_LOST, EV.OP_DROPPED, EV.DIVERTED, EV.COALESCED, EV.FREEZE_LEFT, EV.SEAL_CNT] ++
  [EV.P1_LEFT, EV.AUD_HEAD, EV.OP_HEAD, EV.AUD_HEAD_SEQ_LO, EV.AUD_HEAD_SEQ_HI, EV.OP_HEAD_SEQ_LO, EV.OP_HEAD_SEQ_HI, EV.STREAMING, EV.PENDING, EV.CAP_NEXT, EV.CAP_OLDEST, EV.CAP_STORED] ++
  [EV.CAP_RD_NUM, EV.CAP_RD_PAGE, EV.CAP_RD_LEN, EV.RD_ERR, EV.RD_STATE, EV.RD_GO, EV.STG_FREE, EV.GAP_ENTRIES]

end Sys2Proof.Machine.Reg
end

