-- ==== Sys2Proof/Machine/Records.lean ====
section
/-! DEFINITION. How a unit's event becomes a record: class, coalescing, the queue slot and its loss (R407 to R413, R415),
and the capture triggers that an event or a record gives (R425). -/

namespace Sys2Proof.Machine

/-- The length of the window in which a record stays open (R412). -/
def openWindow : Nat := 491520000

/-- Slots of the record queue (R411). -/
def queueSlots : Nat := 32768

/-- ATTR of a record (R407); `kind` is 0 for a record and 1 to 3 for a seal part. -/
def Rec.attr (r : Rec) (kind : Nat) : Nat :=
  (if r.audit then 1 else 2) * 64 + r.sev * 16 + b2n r.esc * 8 + b2n r.diverted * 4 + kind

/-- A payload of exactly 16 bytes, zeros after what is given (R407). -/
def pad16 (p : List Byte) : List Byte := (p ++ List.replicate 16 0).take 16

/-- Bytes 0 to 47 of a record (R407). -/
def Rec.bytes48 (r : Rec) : List Byte :=
  leBytes 1 (r.attr 0) ++ leBytes 1 r.code ++ leBytes 2 r.source ++ leBytes 6 (r.seq.getD 0) ++
    leBytes 4 r.rept ++ leBytes 2 r.epoch ++ leBytes 8 r.dt ++
    leBytes 4 r.wall.ns ++ leBytes 4 r.wall.sec ++ pad16 r.payload

/-- A free slot count of the queue. -/
def Recorder.freeSlots (e : Recorder) : Nat := queueSlots - e.queue.length

/-- The recorder takes a new record, with `n` slots kept back (R411, R413). -/
def Recorder.admits (e : Recorder) : Bool :=
  decide (e.freeSlots ≥ 5) &&
    (!e.scanned || decide (e.nextSeq ≤ max e.hwSeq e.seqBase + 32768))

/-- The record is open: its window has not ended (R412). -/
def QSlot.isOpen (q : QSlot) : Bool := q.kind == .opened

/-- An event with the given identity joins this open record (R412). -/
def QSlot.joins (q : QSlot) (n : Rec) (now : Nat) : Bool :=
  q.isOpen && q.r.attr 0 == n.attr 0 && q.r.code == n.code && q.r.source == n.source &&
    pad16 q.r.payload == pad16 n.payload && decide (now < q.r.dt + openWindow)

/-- Join the newest record that fits; none when no record does. -/
def joinNewest (n : Rec) (now : Nat) : List QSlot → Option (List QSlot)
  | [] => none
  | q :: qs =>
    match joinNewest n now qs with
    | some qs' => some (q :: qs')
    | none =>
      if q.joins n now then
        some ({ q with r := { q.r with rept := min (2 ^ 32 - 1) (q.r.rept + 1) } } :: qs)
      else none

/-- Change the recorder and show its queue and sequence numbers in its registers (R434). -/
def setEv (f : Recorder → Recorder) : Script := withDev fun d =>
  let e := f d.ev
  seqs [modEv (fun _ => e),
    put EV Reg.EV.Q_OPEN (e.queue.filter QSlot.isOpen).length,
    put EV Reg.EV.Q_FILL e.queue.length,
    put EV Reg.EV.Q_TAIL e.tail,
    put EV Reg.EV.Q_HEAD (match e.queue with | q :: _ => q.slot | [] => e.tail),
    putLive EV Reg.EV.NEXT_SEQ_LO e.nextSeq,
    putLive EV Reg.EV.HW_SEQ_LO e.hwSeq,
    put EV Reg.EV.P1_LEFT e.p1Left]

/-- The next free slot from `k` on; `n` bounds the search. -/
def freeFrom (used : List Nat) : Nat → Nat → Nat
  | 0, k => k
  | n + 1, k => if used.contains k then freeFrom used n ((k + 1) % queueSlots) else k

/-- The slot that the next record takes. -/
def Recorder.nextSlot (e : Recorder) : Nat := freeFrom (e.queue.map (·.slot)) queueSlots e.tail

/-- Place a new record in the next slot, with the next SEQ once the scan of R418 has ended (R411). -/
def pushRec (r : Rec) : Script := setEv fun e =>
  let r' := { r with seq := if e.scanned then some e.nextSeq else none }
  { e with
    queue := e.queue ++ [{ slot := e.nextSlot, r := r' }]
    tail := (e.nextSlot + 1) % queueSlots
    nextSeq := if e.scanned then e.nextSeq + 1 else e.nextSeq
    p1Left := if r.audit && e.scanned then e.p1Left - 1 else e.p1Left }

/-! ### Capture triggers -/

/-- A pending capture whose trigger is `kind` with a matching unit and code triggers at `t` (R425). -/
def Capture.triggers (c : Capture) (kind u code : Nat) : Bool :=
  c.tTrig.isNone && c.trig == kind &&
    (kind == 0 || c.trigUnit == u || (c.trigUnit == 0xFFFF && kind != 1)) &&
    (kind != 4 || c.trigCode == code)

/-- Trigger every pending capture that the event fits; each takes NUMBER := CAP_NEXT, and a copy to staging ends with
RD_ERR 0x2 (R425, R430, R431). -/
def trigger (kind u code t : Nat) : Script := withDev fun d =>
  let hits := d.ev.captures.filter (·.triggers kind u code)
  when (!hits.isEmpty) <| seqs [
    forEach hits fun c => withDev fun d =>
      seqs [
        modEv fun e => { e with captures := e.captures.map fun x =>
          if x.tag == c.tag then
            { x with number := d.rd EV Reg.EV.CAP_NEXT, tTrig := some t, wall := d.clock.wall,
                     epoch := d.clock.epoch, wallValid := d.is TB Reg.TB.WALL_VALID }
          else x },
        modPlane fun pl => { pl with
          caps := (List.range c.sources.length).foldl (fun b j => b.put {} (16 * c.tag + j) { since := d.dt + 1 }) pl.caps },
        incWrap EV Reg.EV.CAP_NEXT,
        put EV Reg.EV.STREAMING (d.rd EV Reg.EV.STREAMING + 1),
        stopTimer (.capWait c.tag)],
    withDev fun d => when d.ev.rdCopy.isSome <| seqs [
      modEv fun e => { e with rdCopy := none },
      put EV Reg.EV.RD_STATE 3, put EV Reg.EV.RD_ERR 2]]

/-! ### Creating records -/

/-- An event is lost: counted, with the Device Time of the first loss (R413). -/
def loseEvent (r : Rec) : Script := withDev fun d => seqs [
  if r.audit then inc EV Reg.EV.AUD_LOST else inc EV Reg.EV.OP_LOST,
  modEv fun e => { e with
    lostAud := e.lostAud + b2n r.audit
    lostOp := e.lostOp + b2n (!r.audit)
    firstLoss := if e.lostAud + e.lostOp = 0 then d.dt else e.firstLoss
    lossPend := e.lossPend || !e.lossFired
    lossFired := true }]

/-- The new record stamped with the current Device Time, wall time and epoch. -/
def Rec.stamp (r : Rec) (d : Dev) : Rec := { r with dt := d.dt, wall := d.clock.wall, epoch := d.clock.epoch }

/-- Join an open record, create one, or lose the event (R411 to R413). -/
def enqueue (r0 : Rec) : Script := withDev fun d =>
  let r := r0.stamp d
  match joinNewest r d.dt d.ev.queue with
  | some q => seqs [setEv fun e => { e with queue := q }, inc EV Reg.EV.COALESCED]
  | none =>
    if d.ev.admits then
      seqs [when r.diverted (inc EV Reg.EV.DIVERTED), pushRec r, trigger 4 r.source r.code d.dt]
    else loseEvent r

/-- The FULL marker (R409, R415): its payload names the first audit record diverted and the cause. -/
def fullMarker (d : Dev) (cause : Nat) : Rec :=
  { audit := true, sev := 1, code := 0x41, source := EV,
    payload := leBytes 6 (d.ev.nextSeq + 1) ++ leBytes 1 cause }

/-- Audit records are diverted to the operational chain (R415). -/
def Dev.diverting (d : Dev) : Bool := d.is EV Reg.EV.P1_DIVERT

/-- Create a record of the given class, diverting an audit record where P1 is full or stopped (R415). The recorder runs
once the root has locked (R75). -/
def createRec (r : Rec) : Script := withDev fun d =>
  if !d.base.counting then skip
  else if !r.audit then enqueue r
  else
    let div := { r with audit := false, diverted := true }
    if d.diverting then enqueue div
    else if d.ev.scanned && d.is WS Reg.WS.AUDIT_STOPPED then
      seqs [when (decide (d.ev.p1Left ≥ 4)) (enqueue (fullMarker d 2)),
        putB EV Reg.EV.P1_DIVERT true, enqueue div]
    else if d.ev.scanned && decide (d.ev.p1Left < 9) then
      seqs [enqueue (fullMarker d 1), putB EV Reg.EV.P1_FULL true, putB EV Reg.EV.P1_DIVERT true, enqueue div]
    else enqueue r

/-- An operational Note, as a rule asks for that names neither class nor severity (R408). -/
def noteRec (source code : Nat) (payload : List Byte) : Script :=
  createRec { audit := false, sev := 0, code := code, source := source, payload := payload }

/-- An audit Note. -/
def auditRec (source code : Nat) (payload : List Byte) : Script :=
  createRec { audit := true, sev := 0, code := code, source := source, payload := payload }

end Sys2Proof.Machine
end

