-- ==== Sys2Proof/Machine/Flags.lean ====
section
/-! DEFINITION. The flags of every unit: the common header (R57 to R62), how a source fires, latches and is cleared (R63
to R65, R470), severities and the grace timer (R66 to R70), mutes and their release (R467, R468), FAULT_N (R472), and
rejected writes (R54). -/

namespace Sys2Proof.Machine

/-! ### Error sources -/

/-- What R465 says of one source. -/
structure SrcInfo where
  /-- a condition source (R64), not an event source -/
  cond : Bool
  /-- default severity (R66) -/
  sev : Nat
  /-- its severity is LK: a safety source (R466) -/
  lk : Bool
  /-- its scope is not "—" (R469) -/
  hasScope : Bool
  /-- its mute ends by the cited rule, not by W1C -/
  rule : Bool
  deriving DecidableEq, Repr

/-- An event source of R465 that mutes nothing. -/
def evtNone (sev : Nat) : SrcInfo := ⟨false, sev, false, false, false⟩
/-- A condition source of R465 that mutes nothing. -/
def cndNone (sev : Nat) : SrcInfo := ⟨true, sev, false, false, false⟩
/-- An event source with a scope, severity RW, ended by W1C. -/
def evtRW (sev : Nat) : SrcInfo := ⟨false, sev, false, true, false⟩
/-- A condition source with a scope, severity RW, ended by W1C. -/
def cndRW (sev : Nat) : SrcInfo := ⟨true, sev, false, true, false⟩
/-- A Mute safety event source ended by W1C. -/
def evtLK : SrcInfo := ⟨false, 2, true, true, false⟩
/-- A Mute safety condition source ended by W1C. -/
def cndLK : SrcInfo := ⟨true, 2, true, true, false⟩
/-- A Mute safety event source ended by its rule. -/
def evtRule : SrcInfo := ⟨false, 2, true, true, true⟩
/-- A Mute safety condition source ended by its rule. -/
def cndRule : SrcInfo := ⟨true, 2, true, true, true⟩

/-- The sources of a unit type, from number 0 (R465, R403, R432, R460); none where the number is reserved. -/
def sourceTable (t : Nat) : List (Option SrcInfo) :=
  match t with
  | 0x01 => [some evtLK, some cndRule, some cndRule, some (evtRW 0)]
  | 0x02 => [some evtLK, some cndRule, some (evtRW 1), some (evtNone 0), some evtLK]
  | 0x03 => [some (evtRW 0), some (evtRW 0), some (evtRW 0), some (evtRW 1)] ++ List.replicate 12 none ++
      [some evtLK, some evtLK, none, none, some cndLK, some cndLK]
  | 0x04 => [some evtLK, some evtLK, some (evtRW 1), some (cndRW 0), some (evtRW 0), some (evtRW 0), some evtLK,
      some (evtNone 0)]
  | 0x05 => [some (evtRW 0)] ++ List.replicate 15 none ++ [some cndLK, some evtLK, some cndLK]
  | 0x06 => [some evtRule, some cndRule, some (evtNone 0), some cndRule, some cndRule, some cndRule,
      some (cndNone 0), some (evtRW 1), some cndLK]
  | 0x07 => [some (evtNone 0), some evtLK]
  | 0x08 => [some cndRule, some evtRule, some evtRule, some (evtNone 0), some evtRule, some evtRule, some cndRule,
      some cndRule, some cndRule, some cndRule, some cndRule, some cndRule, some (cndNone 0)]
  | 0x09 => [some (evtNone 0)]
  | 0x10 => [some (evtNone 0), some (evtNone 1), some (evtNone 0), some (cndNone 0), some (cndNone 0),
      some (evtNone 0)]
  | 0x11 => [some (cndNone 1), some (evtRW 1), some (cndNone 0), some (evtNone 0)]
  | 0x12 => [some (evtNone 0), some evtLK, some (evtRW 1), some ⟨false, 3, true, true, true⟩, some (evtNone 0),
      some evtLK, some (evtRW 1)]
  | 0x13 => [some (cndRW 1), some (evtRW 0), some (evtRW 0), some (evtRW 1), some (cndRW 0), some (evtRW 0),
      some (cndRW 1), some (cndRW 1), some (cndRW 1), some (evtRW 1), some (evtRW 1), some (evtRW 0)]
  | 0x14 => [some (evtRW 1), some (evtNone 0), some (cndRW 1), some (evtNone 0), some (cndNone 0), some (evtNone 0),
      some (evtNone 0)]
  | 0x15 => [some cndLK, some (cndNone 0), some (cndNone 0), some (evtNone 0), some (evtNone 0)]
  | 0x16 => [some (cndNone 0), some (evtNone 0), some (cndRW 1), some cndLK, some (evtNone 0), some (cndNone 0),
      some (cndRW 1)]
  | 0x17 => [some cndRule, some cndRule, some cndRule, some cndRule, some cndRule, some cndRule, some cndRule,
      some (cndRW 1), some cndRule]
  | 0x18 => [some (evtNone 1), some (cndNone 0), some (cndNone 1)]
  | 0x19 => [some (cndNone 0)]
  | 0x1A => [some (evtNone 0), some (cndNone 0)]
  | _ => []

/-- What R465 says of source `s` of a unit of type `t`. -/
def srcInfo (t s : Nat) : Option SrcInfo := ((sourceTable t)[s]?).join

/-- The severity field of source `s` (R66): two bits of ERR_SEV0 to ERR_SEV3, reset to the default of R465. -/
def sevFld (t s : Nat) : Fld :=
  let i := srcInfo t s
  { unit := t, off := 0x20 + 4 * (s / 16), lo := 2 * (s % 16), width := 2
    acc := if i.any (·.lk) then .lk else .rw
    rst := (i.map (·.sev)).getD 0 }

/-- The severity that source `s` of unit `u` holds. -/
def Dev.sevOf (d : Dev) (u s : Nat) : Nat := d.rd u (sevFld (typeOf u) s)

/-- Source `s` of unit `u` is pending (R62). -/
def Dev.isPending (d : Dev) (u s : Nat) : Bool :=
  if s < 32 then (d.rd u Reg.HDR.PEND).testBit s else (d.rd u Reg.HDR.PEND_HI).testBit (s - 32)

/-- Set the pending bit of source `s`. -/
def setPending (u s : Nat) : Script := withDev fun d =>
  if s < 32 then put u Reg.HDR.PEND (d.rd u Reg.HDR.PEND ||| 2 ^ s)
  else put u Reg.HDR.PEND_HI (d.rd u Reg.HDR.PEND_HI ||| 2 ^ (s - 32))

/-- The condition of source `s` of unit `u` holds for some instance (R64). -/
def Dev.holds (d : Dev) (u s : Nat) : Bool := d.conds.any fun c => c.unit == u && c.src == s

/-- The condition holds for instance `i` (R64). -/
def Dev.holdsFor (d : Dev) (u s i : Nat) : Bool := d.conds.any fun c => c.unit == u && c.src == s && c.inst == i

/-! ### FAULT_N -/

/-- A hardware phase of FAULT_N starts, or is extended when one runs (R472). -/
def faultPhase : Script := withDev fun d => seqs [
  when (!d.is MC Reg.MC.HW_PHASE) (inc MC Reg.MC.FAULT_CNT),
  putB MC Reg.MC.HW_PHASE true, putB MC Reg.MC.PIN true,
  put MC Reg.MC.HW_LEFT (d.rd MC Reg.MC.FAULT_MIN_WIDTH),
  startTimer .faultPhase (dtOfUs (d.rd MC Reg.MC.FAULT_MIN_WIDTH))]

/-- An event of severity `sev` starts a hardware phase when it is at or above PIN_THRESH (R472). -/
def faultPin (sev : Nat) : Script := withDev fun d =>
  when (decide (sev ≥ d.rd MC Reg.MC.PIN_THRESH)) faultPhase

/-! ### Firing -/

/-- The payload of a source's record (R470). -/
def srcPayload (cond cleared esc : Bool) (sc : Scope) (vals : List Int) : List Byte :=
  leBytes 2 sc.addr ++ leBytes 1 (b2n cond + 2 * b2n cleared + 4 * b2n esc) ++ leBytes 1 sc.idx ++
    vals.flatMap (fun v => leBytes 2 (codeOf 16 v))

/-- The scope as the record of source `s` names it: 0x0000 and no index where the scope is "—" (R470). -/
def recScope (i : SrcInfo) (sc : Scope) : Scope := if i.hasScope then sc else { addr := 0, idx := 0xFF }

/-- The sources whose rules name their record an audit record (R216, R218, R219, R220, R230, R231, R266, R395, R456, R457). -/
def auditByRule (t s : Nat) : Bool :=
  (t == 0x13 && s == 5) || (t == 0x16 && s == 0) || (t == 0x08 && s != 3 && s != 12) || (t == 0x06 && (s == 4 || s == 5))

/-- The record of a source's event: audit when its severity is at or above AUDIT_SEV, or its rule says so (R408). -/
def srcRec (d : Dev) (u s sev : Nat) (esc : Bool) (payload : List Byte) : Rec :=
  { audit := decide (sev ≥ d.rd EV Reg.EV.AUDIT_SEV) || auditByRule (typeOf u) s, sev := sev, esc := esc, code := s, source := u,
    payload := payload }

/-- Latch the event into ERR_FIRST, or count it as a later event (R63, steps 4 and 5). -/
def latchFirst (u s sev : Nat) : Script := withDev fun d =>
  if d.is u Reg.HDR.ERR_VALID then seqs [
    inc u Reg.HDR.ERR_LATER_CNT,
    if d.rd u Reg.HDR.ERR_SOURCE = s then putB u Reg.HDR.ERR_REPEAT true else putB u Reg.HDR.ERR_OVF true]
  else seqs [
    putB u Reg.HDR.ERR_VALID true, putB u Reg.HDR.ERR_ESCALATED false,
    put u Reg.HDR.ERR_SEVERITY sev, put u Reg.HDR.ERR_SOURCE s]

/-- Hold a mute of the scope (R467, R468). -/
def holdMute (u s : Nat) (sc : Scope) (needAck : Bool) : Script :=
  modMutes fun ms => ms ++ [{ unit := u, src := s, cells := sc.cells, device := sc.device, needAck := needAck }]

/-- Remove repeats from the sources of a list of unacknowledged events. -/
def unackedSources (us : List Unacked) : List Nat := (us.map (·.src)).eraseDups

/-- Escalate every unacknowledged Degrade event of a unit (R70): one Mute record per source, one count in ESC_CNT, the
mute of each scope, and FAULT_N under R472. -/
def escalate (u : Nat) : Script := withDev fun d =>
  let mine := d.unacked.filter (·.unit == u)
  let srcs := unackedSources mine
  when (!mine.isEmpty) <| seqs [
    forEach srcs fun s =>
      let sc := ((mine.filter (·.src == s)).head?.map (·.scope)).getD {}
      let i := (srcInfo (typeOf u) s).getD (evtNone 0)
      createRec (srcRec d u s 2 true (srcPayload i.cond false true (recScope i sc) [])),
    forEach (mine.filter fun x => (srcInfo (typeOf u) x.src).any (·.hasScope)) fun x => holdMute u x.src x.scope true,
    inc u Reg.HDR.ESC_CNT,
    when (d.is u Reg.HDR.ERR_VALID && mine.any (·.latched)) (putB u Reg.HDR.ERR_ESCALATED true),
    modUnacked (List.filter fun x => x.unit != u),
    stopTimer (.grace u), putB u Reg.HDR.TIMER_RUN false,
    when (decide (d.rd MC Reg.MC.PIN_THRESH ≤ 2)) faultPhase,
    trigger 3 u 0 d.dt]

/-- What the severity of an event calls for (R66): nothing more for a Note; the grace timer for a Degrade, which joins the
deadline that runs, and where none runs escalates at once under GRACE_US = 0 (R69, R70); the mute of the scope for a Mute;
LOCKOUT for a Halt. `latched` says that ERR_FIRST holds the event. -/
def react (u s sev : Nat) (i : SrcInfo) (sc : Scope) (latched : Bool) : Script :=
  if sev = 1 then withDev fun d => seqs [
    modUnacked fun us => us ++ [{ unit := u, src := s, scope := sc, latched := latched }],
    when (!d.running (.grace u)) (
      if d.rd u Reg.HDR.GRACE_US = 0 then escalate u
      else seqs [startTimer (.grace u) (dtOfUs (d.rd u Reg.HDR.GRACE_US)), putB u Reg.HDR.TIMER_RUN true])]
  else if sev = 2 then when (i.hasScope && !i.rule) (holdMute u s sc false)
  else if sev = 3 then modMc fun m => { m with halt := true }
  else skip

/-- Source `s` of unit `u` fires (R63): pending bit, record, reaction, ERR_FIRST, FAULT_N and capture triggers. A unit that
the variant does not provide raises nothing (R481). -/
def fireEvent (u s : Nat) (sc : Scope) (vals : List Int) : Script := withDev fun d =>
  match srcInfo (typeOf u) s with
  | none => skip
  | some i =>
    if !d.present u then skip
    else
      let sev := d.sevOf u s
      seqs [
        setPending u s,
        createRec (srcRec d u s sev false (srcPayload i.cond false false (recScope i sc) vals)),
        latchFirst u s sev,
        faultPin sev,
        react u s sev i sc (!d.is u Reg.HDR.ERR_VALID),
        when (decide (sev ≥ 2)) (trigger 3 u 0 d.dt)]

/-- The condition of source `s` begins for an instance (R64). The first onset fires the source; a further instance writes
its own record, counts as a later event and draws its own mute; an instance that already holds changes nothing. -/
def condStart (u s inst : Nat) (sc : Scope) (vals : List Int) : Script := withDev fun d =>
  match srcInfo (typeOf u) s with
  | none => skip
  | some i =>
    if !d.present u || d.holdsFor u s inst then skip
    else
      let sev := d.sevOf u s
      let note := modConds fun cs => cs ++ [{ unit := u, src := s, inst := inst, sev := sev, scope := sc }]
      if d.holds u s then seqs [
        note,
        createRec (srcRec d u s sev false (srcPayload true false false (recScope i sc) vals)),
        latchFirst u s sev,
        react u s sev i sc (!d.is u Reg.HDR.ERR_VALID)]
      else seqs [note, fireEvent u s sc vals]

/-- The condition of source `s` ends for an instance: a record with CLEARED = 1, of the same code, class and severity
(R64, R470). -/
def condEnd (u s inst : Nat) : Script := withDev fun d =>
  match d.conds.find? fun c => c.unit == u && c.src == s && c.inst == inst with
  | none => skip
  | some c =>
    let i := (srcInfo (typeOf u) s).getD (evtNone 0)
    seqs [
      modConds (List.filter fun x => !(x.unit == u && x.src == s && x.inst == inst)),
      createRec (srcRec d u s c.sev false (srcPayload true true false (recScope i c.scope) []))]

/-- Keep a list in order of a key, an element after those of the same key. -/
def insertBy {α : Type} (key : α → Nat) (x : α) : List α → List α
  | [] => [x]
  | y :: ys => if key x < key y then x :: y :: ys else y :: insertBy key x ys

/-- What fires in one cycle in unit `u`, each with its source: the one of the highest severity first, and among equals the
lowest source number, so that ERR_FIRST latches it (R63). -/
def inOneCycle (u : Nat) (fs : List (Nat × Script)) : Script := withDev fun d =>
  seqs ((fs.foldr (insertBy fun f => (3 - d.sevOf u f.1) * 64 + f.1) []).map (·.2))

/-- Bring the condition of an instance to the stated truth. -/
def condSet (on : Bool) (u s inst : Nat) (sc : Scope) (vals : List Int) : Script :=
  if on then condStart u s inst sc vals else condEnd u s inst

/-! ### Scopes -/

/-- One cell (R470). -/
def cellScope (c : Nat) : Scope := { addr := c, cells := [c] }

/-- The device (R470). -/
def devScope : Scope := { addr := 0xFFFF, device := true }

/-- A set of cells, named by the raising unit and an index (R470). -/
def setScope (u idx : Nat) (cells : List Nat) : Scope := { addr := u, idx := idx, cells := cells }

/-- No scope. -/
def noScope : Scope := {}

/-! ### Clearing -/

/-- Bits of a pending word whose conditions still hold (R64). -/
def Dev.heldBits (d : Dev) (u base : Nat) : Nat :=
  (List.range 32).foldl (fun a i => if d.holds u (base + i) then a ||| 2 ^ i else a) 0

/-- Release the mutes whose source is no longer pending, and after an escalation acknowledged too (R468). -/
def releaseMutes (u : Nat) : Script := withDev fun d =>
  modMutes (List.filter fun m => m.unit != u || m.needAck || d.isPending u m.src)

/-- ERR_FIRST re-arms when nothing is pending (R65): VALID and LATER_CNT clear. R65 does not say what ESCALATED, SEVERITY
and SOURCE read then: they keep their values (DESIGN CHOICE, log entry 151; unsafe). -/
def rearm (u : Nat) : Script := withDev fun d =>
  when (d.rd u Reg.HDR.PEND == 0 && d.rd u Reg.HDR.PEND_HI == 0) (seqs [
    putB u Reg.HDR.ERR_VALID false, put u Reg.HDR.ERR_LATER_CNT 0,
    modUnacked (List.map fun x => if x.unit == u then { x with latched := false } else x)])

/-- A W1C write of `bits` to ERR_PEND (`hi` false) or ERR_PEND_HI (R64, R65, R468). -/
def clearPending (u : Nat) (hi : Bool) (bits : Nat) : Script := withDev fun d => seqs [
  if hi then put u Reg.HDR.PEND_HI (d.rd u Reg.HDR.PEND_HI &&& ((bits ^^^ 0xFFFFFFFF) ||| d.heldBits u 32))
  else put u Reg.HDR.PEND (d.rd u Reg.HDR.PEND &&& ((bits ^^^ 0xFFFFFFFF) ||| d.heldBits u 0)),
  rearm u, releaseMutes u]

/-- A write of ERR_ACK.ACK: the grace timer stops, every Degrade event so far is acknowledged, and escalation mutes
whose source is no longer pending release (R69, R468). -/
def acknowledge (u : Nat) : Script := seqs [
  stopTimer (.grace u), putB u Reg.HDR.TIMER_RUN false,
  modUnacked (List.filter fun x => x.unit != u),
  modMutes (List.map fun m => if m.unit == u then { m with needAck := false } else m),
  releaseMutes u]

/-! ### Rejected writes -/

/-- A write to offset `off` of unit `u` is rejected with a cause (R54). -/
def rejectWrite (u off cause : Nat) : Script := withDev fun d => seqs [
  when (!d.is u Reg.HDR.WRITE_REJECT)
    (seqs [put u Reg.HDR.REJECT_CAUSE cause, put u Reg.HDR.REJECT_OFFSET off]),
  putB u Reg.HDR.WRITE_REJECT true,
  inc u Reg.HDR.REJECT_CNT]

/-! ### Unit interrupts -/

/-- The unit asserts its interrupt (R65). -/
def Dev.interrupt (d : Dev) (u : Nat) : Bool :=
  d.is u Reg.HDR.IRQ_EN &&
    ((d.rd u Reg.HDR.PEND &&& d.rd u Reg.HDR.IEN) != 0 || (d.rd u Reg.HDR.PEND_HI &&& d.rd u Reg.HDR.IEN_HI) != 0)

end Sys2Proof.Machine
end

