-- ==== Sys2Proof/Machine/LinkOps.lean ====
section
/-! DEFINITION. Converter stream links: formats and path delays (R95 to R103), start-up, restart and link mute (R99, R104
to R108). The commands that drive them are in Links.lean. -/

namespace Sys2Proof.Machine

/-! ### Formats (R95) -/

/-- dt per frame of a format. -/
def framePeriod (fmt : Nat) : Nat := if fmt = 0 then 1 else 2

/-- Octets per frame of a format: F. -/
def octetsPerFrame (fmt : Nat) : Nat := if fmt = 0 then 2 else if fmt = 1 then 5 else 4

/-- Bits per sample word of a format: N'. -/
def wordBits (fmt : Nat) : Nat := if fmt = 1 then 20 else 16

/-- dt per sample of a format. -/
def samplePeriod (fmt : Nat) : Nat := if fmt = 2 then 2 else 1

/-- Lanes a format uses. -/
def formatLanes (fmt : Nat) : Nat := if fmt = 2 then 1 else 2

/-- TXF of a format (R103). -/
def txf (fmt : Nat) : Nat := if fmt = 0 then 16 else 24

/-- N_REQ of a format (R108): ⌈5 + 9/F⌉. -/
def nReq (fmt : Nat) : Nat := 5 + ceilDiv 9 (octetsPerFrame fmt)

/-- `u` is an RX link. -/
def isRxl (u : Nat) : Bool := typeOf u == 0x01

/-- FORMAT of a link. -/
def Dev.fmt (d : Dev) (u : Nat) : Nat := if isRxl u then d.rd u Reg.RXL.FORMAT else d.rd u Reg.TXL.FORMAT

/-- The link is configured and the variant provides it. -/
def Dev.linkOn (d : Dev) (u : Nat) : Bool :=
  d.present u && (if isRxl u then d.is u Reg.RXL.ENABLE else d.is u Reg.TXL.ENABLE)

/-- The LMFC period of a link (R97). -/
def Dev.lmfc (d : Dev) (u : Nat) : Nat :=
  ((if isRxl u then d.rd u Reg.RXL.K_M1 else d.rd u Reg.TXL.K_M1) + 1) * framePeriod (d.fmt u)

/-- The link runs in subclass 0 (R113). -/
def Dev.sub0 (d : Dev) (u : Nat) : Bool :=
  if isRxl u then d.is u Reg.RXL.SUB0_TEST else d.is u Reg.TXL.SUB0_TEST

/-- The release point of an RX link after L (R101). -/
def Dev.release (d : Dev) (u : Nat) : Nat :=
  d.rd u Reg.RXL.MF_DELAY * d.lmfc u + d.rd u Reg.RXL.RBD * framePeriod (d.fmt u)

/-- PATH_DT of a link (R101, R103). -/
def Dev.pathDt (d : Dev) (u : Nat) : Nat :=
  if isRxl u then d.rd u Reg.RXL.ADC_LAT + d.release u else txf (d.fmt u) + d.rd u Reg.TXL.DAC_LAT

/-! ### States (R114) -/

/-- OFF. -/
abbrev lsOff : Nat := 0
/-- WAIT_ALIGN. -/
abbrev lsWait : Nat := 1
/-- CGS. -/
abbrev lsCgs : Nat := 2
/-- ILAS. -/
abbrev lsIlas : Nat := 3
/-- DATA. -/
abbrev lsData : Nat := 4
/-- HOLD. -/
abbrev lsHold : Nat := 5
/-- TEST. -/
abbrev lsTest : Nat := 6

/-- LINK_STATE of a link. -/
def Dev.linkState (d : Dev) (u : Nat) : Nat :=
  if isRxl u then d.rd u Reg.RXL.LINK_STATE else d.rd u Reg.TXL.LINK_STATE

/-- The link is in the data phase: DATA, or HOLD while LINK_HOLD runs. -/
def Dev.inData (d : Dev) (u : Nat) : Bool := d.linkState u == lsData || d.linkState u == lsHold

/-- Set LINK_STATE. -/
def setLinkState (u v : Nat) : Script :=
  if isRxl u then put u Reg.RXL.LINK_STATE v else put u Reg.TXL.LINK_STATE v

/-- A pattern, test rate or loopback runs on the link; loopback of RX link k is loopback of TX link k (R110, R113). -/
def Dev.linkTest (d : Dev) (u : Nat) : Bool :=
  if isRxl u then
    d.is u Reg.RXL.LOOPBACK || d.is u Reg.RXL.TEST_RATE ||
      (List.range 2).any (fun j => d.is u Reg.RXL.L_PATTERN j && d.is u Reg.RXL.L_CHK_EN j)
  else
    d.is (rxlU (secOf u) (idxOf u)) Reg.RXL.LOOPBACK || d.is u Reg.TXL.TEST_RATE ||
      (List.range 2).any (fun j => d.is u Reg.TXL.L_PATTERN j && d.is u Reg.TXL.L_GEN_EN j)

/-- The cells a link mute concerns (R105, R108): those an RX link feeds, or those of a TX link's Combiner. -/
def Dev.linkCells (d : Dev) (u : Nat) : List Nat :=
  if isRxl u then d.cellsOfRxl u else d.cellsOfCb (secOf u) (idxOf u)

/-- LINK_MUTE of a link. -/
def Dev.linkMuted (d : Dev) (u : Nat) : Bool :=
  if isRxl u then d.is u Reg.RXL.LINK_MUTE else d.is u Reg.TXL.LINK_MUTE

/-- The link mute sets, with the record of its condition (R106, R108). -/
def linkMute (u cond : Nat) : Script := withDev fun d => seqs [
  if isRxl u then putB u Reg.RXL.LINK_MUTE true else putB u Reg.TXL.LINK_MUTE true,
  stopTimer (.linkHold u),
  when (d.linkState u == lsHold) (setLinkState u lsData),
  condStart u 1 0 (setScope u 0xFF (d.linkCells u)) [Config.linkCondition cond]]

/-- The link mute releases (R106, R108). -/
def linkUnmute (u : Nat) : Script := seqs [
  stopTimer (.linkHold u),
  if isRxl u then putB u Reg.RXL.LINK_MUTE false else putB u Reg.TXL.LINK_MUTE false,
  condEnd u 1 0]

/-- The state from which a link starts over: WAIT_ALIGN until alignment for a subclass 1 link, TEST under a pattern, a test rate
or loopback, else CGS (R99, R104, R113). -/
def Dev.startState (d : Dev) (u : Nat) : Nat :=
  if !d.sub0 u && !d.is TB Reg.TB.ALIGNED then lsWait
  else if d.linkTest u then lsTest
  else lsCgs

/-- The next LMFC boundary of a link at or after `t`; a subclass 0 link has none and takes `t` (R98, R113). -/
def Dev.boundaryAt (d : Dev) (u t : Nat) : Nat := if d.sub0 u then t else ceilDiv t (d.lmfc u) * d.lmfc u

/-- A TX link in code-group synchronisation whose SYNC~ input is not asserted starts ILAS at the next LMFC boundary after `t`
(R104). -/
def planIlas (u t : Nat) : Script := withDev fun d =>
  when (!isRxl u && d.linkState u == lsCgs && !d.is u Reg.TXL.SYNC_IN) (modLink u fun l => { l with ilasAt := some (d.boundaryAt u (t + 1)) })

/-- VALID of PATH_DT (R101, R103, R113). -/
def putPathValid (u : Nat) (b : Bool) : Script :=
  if isRxl u then putB u Reg.RXL.PATH_VALID b else putB u Reg.TXL.PATH_VALID b

/-- Restart a link from code-group synchronisation (R99, R104, R106 to R108). A departure from a data phase reached since
Kindling sets the link mute. Restarts at one Device Time are one: RESYNC_CNT counts it once (R107). -/
def restartLink (u : Nat) : Script := withDev fun d =>
  if !d.linkOn u then skip
  else seqs [
    stopTimer (.ilasRetry u),
    when ((d.linkAt u).reached) (linkMute u 4),
    if isRxl u then seqs [
      putB u Reg.RXL.SYNC_OUT true, put u Reg.RXL.LANE_SYNC 0,
      when ((d.linkAt u).restartedAt != some d.dt) (inc u Reg.RXL.RESYNC_CNT)]
    else skip,
    putPathValid u ((d.linkAt u).reached && !d.sub0 u),
    modLink u fun l => { l with lastA0 := none, lastA1 := none, restartedAt := some d.dt, ilasAt := none },
    setLinkState u (d.startState u), planIlas u d.dt]

/-- The counters and pattern registers of lane 1 of an S16N link read 0 (R95). -/
def clearSpareLane (u : Nat) : Script := withDev fun d => when (d.fmt u == 2) (
  if isRxl u then forEach [Reg.RXL.L_DISP_ERR, Reg.RXL.L_NIT_ERR, Reg.RXL.L_UNEXP_K, Reg.RXL.L_ALIGN_ERR, Reg.RXL.L_CGS_LOSS,
    Reg.RXL.L_INJ_BIT, Reg.RXL.L_INJ_EN, Reg.RXL.L_CHK_EN, Reg.RXL.L_PATTERN, Reg.RXL.L_INJ_N, Reg.RXL.L_LOCK_LOSS,
    Reg.RXL.L_WORDS_LO, Reg.RXL.L_WORDS_HI, Reg.RXL.L_LOCKED, Reg.RXL.L_REAL_ERR, Reg.RXL.L_INJ_SEEN, Reg.RXL.L_INJ_MISSED] fun f => seqs [
      put u f 0 1, when (f == Reg.RXL.L_WORDS_LO) (upd (.wide (f.at u 1).key 0))]
  else forEach [Reg.TXL.L_INJ_BIT, Reg.TXL.L_INJ_EN, Reg.TXL.L_GEN_EN, Reg.TXL.L_PATTERN, Reg.TXL.L_INJ_N, Reg.TXL.L_INJ_MADE]
    fun f => put u f 0 1)

/-- A configured link starts up for the first time after an entry to Kindling (R104). -/
def startLink (u : Nat) : Script := withDev fun d =>
  if !d.linkOn u then skip
  else seqs [
    if isRxl u then seqs [putB u Reg.RXL.SYNC_OUT true, put u Reg.RXL.LANE_SYNC 0, inc u Reg.RXL.RESYNC_CNT]
    else skip,
    clearSpareLane u,
    modLink u fun _ => { restartedAt := some d.dt },
    setLinkState u (d.startState u), planIlas u d.dt]

/-- An entry to Kindling clears what a link holds from the configuration before (R102, R106). -/
def linkKindling (u : Nat) : Script := seqs [
  linkUnmute u, stopTimer (.ilasRetry u),
  modLink u fun _ => {},
  if isRxl u then seqs [
    condEnd u 2 0, putB u Reg.RXL.LAT_SHIFT false, putB u Reg.RXL.PATH_VALID false,
    put u Reg.RXL.REF_L0 0xFFFF, put u Reg.RXL.REF_L1 0xFFFF, putB u Reg.RXL.SYNC_OUT true,
    put u Reg.RXL.LANE_SYNC 0]
  else seqs [putB u Reg.TXL.PATH_VALID false],
  setLinkState u lsOff]

/-- The link powers down in Cold (R76, R104, R491). LAT_SHIFT, ARRIVAL_REF and the link mute stay until the next entry to
Kindling (R102, R106). -/
def linkOff (u : Nat) : Script := seqs [
  stopTimer (.ilasRetry u), stopTimer (.linkHold u),
  modLink u fun l => { reached := l.reached },
  putPathValid u false,
  when (isRxl u) (seqs [putB u Reg.RXL.SYNC_OUT true, put u Reg.RXL.LANE_SYNC 0]),
  setLinkState u lsOff]

/-- The links of every enabled section. -/
def Dev.links (d : Dev) : List Nat :=
  d.sections.flatMap fun s => (List.range 4).map (rxlU s) ++ (List.range 4).map (txlU s)

/-- The configured links. -/
def Dev.linksOn (d : Dev) : List Nat := d.links.filter d.linkOn

/-- Every completed alignment restarts all enabled links that are powered (R76, R99). -/
def restartAligned : Script := withDev fun d => forEach (d.linksOn.filter fun u => d.linkState u != lsOff) restartLink

/-- Alignment is lost: every enabled subclass 1 link that is powered goes to WAIT_ALIGN, and a link that had reached the data
phase is muted (R76, R99, R106). -/
def waitAlign : Script := withDev fun d =>
  forEach (d.linksOn.filter fun u => !d.sub0 u && d.linkState u != lsOff) fun u => seqs [
    stopTimer (.ilasRetry u), modLink u fun l => { l with ilasAt := none },
    when ((d.linkAt u).reached) (linkMute u 4),
    if isRxl u then seqs [putB u Reg.RXL.SYNC_OUT true, put u Reg.RXL.LANE_SYNC 0] else skip,
    setLinkState u lsWait]

/-- The pattern, loopback, test-rate and subclass 0 fields of a link, each with its lane (R110). -/
def testFields (u : Nat) : List (Fld × Nat) :=
  let lanes := fun (fs : List Fld) => fs.flatMap fun f => [(f, 0), (f, 1)]
  if isRxl u then [(Reg.RXL.TEST_RATE, 0), (Reg.RXL.SUB0_TEST, 0), (Reg.RXL.LOOPBACK, 0)] ++
    lanes [Reg.RXL.L_PATTERN, Reg.RXL.L_CHK_EN, Reg.RXL.L_INJ_EN, Reg.RXL.L_INJ_BIT, Reg.RXL.L_INJ_N]
  else [(Reg.TXL.TEST_RATE, 0), (Reg.TXL.SUB0_TEST, 0)] ++
    lanes [Reg.TXL.L_PATTERN, Reg.TXL.L_GEN_EN, Reg.TXL.L_INJ_EN, Reg.TXL.L_INJ_BIT, Reg.TXL.L_INJ_N]

/-- The fields that only Service accepts clear on every exit from Service, and the affected links restart (R110): each returns to
its reset value, which for INJ_N is 1, since 0 is no value of it (DESIGN CHOICE, log entry 156; unsafe). -/
def clearLinkTests : Script := withDev fun d =>
  -- a loopback concerns both of its links
  forEach (d.links.map fun u => (u, d.linkTest u)) fun x => withDev fun d =>
    let u := x.1
    let touched := (testFields u).any fun f => d.rd u f.1 f.2 != f.1.rst && !(d.fmt u == 2 && f.2 == 1)
    when (touched || x.2) <| seqs [
      forEach (testFields u) fun f => put u f.1 f.1.rst f.2,
      clearSpareLane u, modLink u fun l => { l with chk0 := {}, chk1 := {} },
      restartLink u]

/-- The first sample of a data phase: for an RX link the first release point that does not lie before `t` (R101), for a TX link TXF
before the LMFC boundary `t` (R103); in subclass 0 there is none, and the phase starts at `t` (R113). -/
def Dev.dataFrom (d : Dev) (u t : Nat) : Nat :=
  if d.sub0 u then t
  else if isRxl u then ceilDiv (t - d.release u) (d.lmfc u) * d.lmfc u + d.release u
  else t - txf (d.fmt u)

/-- The coding of a lane as a data phase starts. -/
def laneStart (u lane : Nat) : LaneCtx :=
  let v := Config.laneStart u lane
  { rd := v.testBit 15, scr := v % 2 ^ 15 }

/-- The link enters the data phase at `t` (R101, R103, R104, R106, R108): PATH_DT is reported, and a link mute whose checks have
passed runs out LINK_HOLD ms later. -/
def enterData (u t : Nat) : Script := withDev fun d =>
  let shifted := isRxl u && d.is u Reg.RXL.LAT_SHIFT
  let hold := if isRxl u then d.rd u Reg.RXL.LINK_HOLD else d.rd u Reg.TXL.LINK_HOLD
  seqs [
    if isRxl u then put u Reg.RXL.PATH_DT (d.pathDt u) else put u Reg.TXL.PATH_DT (d.pathDt u),
    putPathValid u (!d.sub0 u),
    modLink u fun l => { l with
      reached := true, ilasAt := none, lane0 := laneStart u 0, lane1 := laneStart u 1
      buf := { start := d.dataFrom u t, per := samplePeriod (d.fmt u) }, zeroed := [], frames := 0 },
    if d.linkMuted u && !shifted then seqs [setLinkState u lsHold, startTimerAt (.linkHold u) (t + dtOfMs hold)]
    else setLinkState u lsData]

/-- Every configured link is synchronised: in the data phase with the checks of R102 passed (R80, R87). -/
def Dev.linksSynced (d : Dev) : Bool :=
  d.linksOn.all fun u => d.inData u && !(isRxl u && d.is u Reg.RXL.LAT_SHIFT)

/-- The RX link declares the link lost or its errors too many: mute, and restart when RESYNC_AUTO is 1 (R106). -/
def loseLink (u cond : Nat) : Script := withDev fun d => seqs [
  linkMute u cond,
  when (d.is u Reg.RXL.RESYNC_AUTO) (restartLink u)]

/-- A cell's links carry patterns or loopback, or run in subclass 0, so Service holds it Muted (R79, R113). -/
def Dev.cellLinkTest (d : Dev) (c : Nat) : Bool :=
  let r := rxlU (secOf c) (d.rd c Reg.BC.RXL)
  let t := txlU (secOf c) (d.rd c Reg.BC.CB)
  d.linkTest r || d.sub0 r || d.linkTest t || d.sub0 t

end Sys2Proof.Machine
end

