-- ==== Sys2Proof/Machine/Jesd.lean ====
section
/-! DEFINITION. What stands on the lanes of a converter stream link (R94 to R96, R104, R105, R110, R111): 8b/10b code groups,
scrambling, character replacement, the mapping of samples to lanes, the ILAS and the test patterns. R94 takes these from the
JESD204B standard, which the spec does not repeat; they are written here from the standard (PRESUMED, log entry 162; unsafe).
A code group is a number of ten bits, the bit sent first highest; a character is an octet, plus 256 for a control character. -/

namespace Sys2Proof.Machine

/-! ### 8b/10b (R94) -/

/-- The six-bit codes of the low five bits of an octet, for running disparity minus. -/
def code6 : List Nat := [
  0b100111, 0b011101, 0b101101, 0b110001, 0b110101, 0b101001, 0b011001, 0b111000,
  0b111001, 0b100101, 0b010101, 0b110100, 0b001101, 0b101100, 0b011100, 0b010111,
  0b011011, 0b100011, 0b010011, 0b110010, 0b001011, 0b101010, 0b011010, 0b111010,
  0b110011, 0b100110, 0b010110, 0b110110, 0b001110, 0b101110, 0b011110, 0b101011]

/-- The four-bit codes of the high three bits, for running disparity minus. -/
def code4 : List Nat := [0b1011, 0b1001, 0b0101, 0b1100, 0b1101, 0b1010, 0b0110, 0b1110]

/-- The four-bit codes of the control characters K28.y, after 001111. -/
def codeK28 : List Nat := [0b0100, 0b1001, 0b0101, 0b0011, 0b0010, 0b1010, 0b0110, 0b1000]

/-- Ones among the low `n` bits. -/
def ones (n v : Nat) : Nat := ((List.range n).filter fun i => v.testBit i).length

/-- Running disparity after a code group or a part of one: plus is true. -/
def dispAfter (n : Nat) (rd : Bool) (v : Nat) : Bool := if 2 * ones n v > n then true else if 2 * ones n v < n then false else rd

/-- D.x.A7 stands for D.x.7. -/
def useA7 (rd : Bool) (x : Nat) : Bool := if rd then [11, 13, 14].contains x else [17, 18, 20].contains x

/-- The code group of a character at running disparity `rd`; of the control characters the standard's link layer uses K28.y
alone. -/
def enc8b10b (rd : Bool) (ch : Nat) : Nat :=
  let x := ch % 32
  let y := ch / 32 % 8
  if ch ≥ 256 then
    let v := 0b001111 * 16 + codeK28.getD y 0
    if rd then 1023 - v else v
  else
    let a := code6.getD x 0
    let a' := if rd && (ones 6 a != 3 || x == 7) then 63 - a else a
    let r := dispAfter 6 rd a'
    let b := if y = 7 && useA7 r x then 0b0111 else code4.getD y 0
    let b' := if r && (ones 4 b != 2 || y == 3) then 15 - b else b
    a' * 16 + b'

/-- The characters of the link layer: every octet, and K28.y. -/
def characters : List Nat := List.range 256 ++ (List.range 8).map fun y => 256 + 28 + 32 * y

/-- The character of a code group at running disparity `rd`; none for a disparity error or a group that is in no column. -/
def dec8b10b (rd : Bool) (g : Nat) : Option Nat := characters.find? fun ch => enc8b10b rd ch == g

/-- /R/. -/
abbrev chR : Nat := 256 + 0x1C
/-- /A/. -/
abbrev chA : Nat := 256 + 0x7C
/-- /Q/. -/
abbrev chQ : Nat := 256 + 0x9C
/-- /K/, K28.5. -/
abbrev chK : Nat := 256 + 0xBC
/-- /F/. -/
abbrev chF : Nat := 256 + 0xFC

/-! ### Scrambling (R94) -/

/-- One bit through the scrambler 1 + x^14 + x^15; `h` holds the last fifteen scrambled bits, the newest lowest. -/
def scrBit (h : Nat) (b : Bool) : Bool := (b ^^ h.testBit 13) ^^ h.testBit 14

/-- An octet through the scrambler, highest bit first: the scrambled octet and the history. -/
def scramble (h o : Nat) : Nat × Nat :=
  (List.range 8).foldl (fun a i =>
    let s := b2n (scrBit a.2 (o.testBit (7 - i)))
    (a.1 * 2 + s, (a.2 * 2 + s) % 2 ^ 15)) (0, h)

/-- An octet through the descrambler. -/
def descramble (h o : Nat) : Nat × Nat :=
  (List.range 8).foldl (fun a i =>
    let s := o.testBit (7 - i)
    (a.1 * 2 + b2n (scrBit a.2 s), (a.2 * 2 + b2n s) % 2 ^ 15)) (0, h)

/-! ### Frames of one lane (R94, R105) -/

/-- The octet that an alignment character stands for: 0xFC or 0x7C under scrambling, else the last octet of the frame before. -/
def replaced (scr : Bool) (ch : Nat) (l : LaneCtx) : Nat := if scr then ch % 256 else l.last

/-- One received code group: its octet, or none where the frame is affected (R105), and the lane after it. An /A/ or /F/ is
replaced as data wherever it stands. -/
def rxGroup (scr : Bool) (g : Nat) (l : LaneCtx) : Option Nat × LaneCtx :=
  let l' := { l with rd := dispAfter 10 l.rd g }
  let o := match dec8b10b l.rd g with
    | none => none
    | some ch => if ch < 256 then some ch else if ch = chA ∨ ch = chF then some (replaced scr ch l) else none
  let raw := o.getD (Config.badOctet g % 256)
  if scr then
    let (p, h) := descramble l.scr raw
    (o.map fun _ => p, { l' with scr := h })
  else (o, l')

/-- The octets of one received frame; none where the frame is affected by an error. -/
def rxFrame (scr : Bool) (gs : List Nat) (l : LaneCtx) : Option (List Nat) × LaneCtx :=
  let (os, l') := gs.foldl (fun a g => let (o, l') := rxGroup scr g a.2; (a.1 ++ [o], l')) (([] : List (Option Nat)), l)
  (os.foldr (fun o acc => match o, acc with
    | some x, some xs => some (x :: xs)
    | _, _ => none) (some []), { l' with last := (os.getLast?.join).getD l.last })

/-- The code groups of one frame sent: scrambled, its last octet replaced by an alignment character where the standard says
so, and encoded. `endMf` says that the frame ends a multiframe. -/
def txFrame (scr endMf : Bool) (os : List Nat) (l : LaneCtx) : List Nat × LaneCtx :=
  let (ss, h) := if scr then os.foldl (fun a o => let (s, h) := scramble a.2 o; (a.1 ++ [s], h)) (([] : List Nat), l.scr) else (os, l.scr)
  let z := ss.getLast?.getD 0
  let swap := if scr then (if endMf then z == 0x7C else z == 0xFC) else z == l.last && (endMf || !l.sent)
  let chs := if swap then ss.dropLast ++ [if endMf then chA else chF] else ss
  let (gs, rd) := chs.foldl (fun a ch => let g := enc8b10b a.2 ch; (a.1 ++ [g], dispAfter 10 a.2 g)) (([] : List Nat), l.rd)
  (gs, { rd := rd, scr := h, last := z, sent := swap })

/-! ### Samples (R95, R96) -/

/-- The number that octets spell, the first highest. -/
def beVal (os : List Nat) : Nat := os.foldl (fun a o => a * 256 + o % 256) 0

/-- The low `n` octets of a number, the first highest. -/
def beOctets : Nat → Nat → List Nat
  | 0, _ => []
  | n + 1, v => beOctets n (v / 256) ++ [v % 256]

/-- The samples of one frame from the octets of its lanes, as 20-bit numbers: a 16-bit word is left-justified over four zero
bits. -/
def frameSamples (fmt : Nat) (a b : List Nat) : List (Int × Int) :=
  if fmt = 0 then [(16 * signed 16 (beVal a), 16 * signed 16 (beVal b))]
  else if fmt = 1 then
    [(signed 20 (beVal a / 2 ^ 20), signed 20 (beVal b / 2 ^ 20)), (signed 20 (beVal a % 2 ^ 20), signed 20 (beVal b % 2 ^ 20))]
  else [(16 * signed 16 (beVal a / 65536), 16 * signed 16 (beVal a % 65536))]

/-- The octets of one frame on lanes 0 and 1, from its samples as N'-bit numbers. -/
def frameOctets (fmt : Nat) (xs : List (Int × Int)) : List Nat × List Nat :=
  let x := xs.getD 0 (0, 0)
  let y := xs.getD 1 (0, 0)
  if fmt = 0 then (beOctets 2 (codeOf 16 x.1), beOctets 2 (codeOf 16 x.2))
  else if fmt = 1 then
    (beOctets 5 (codeOf 20 x.1 * 2 ^ 20 + codeOf 20 y.1), beOctets 5 (codeOf 20 x.2 * 2 ^ 20 + codeOf 20 y.2))
  else (beOctets 4 (codeOf 16 x.1 * 65536 + codeOf 16 x.2), [])

/-- A quotient rounded to nearest, ties away from zero; `b` is positive. -/
def divAway (a : Int) (b : Nat) : Int :=
  if a < 0 then -((2 * (-a) + b) / (2 * b)) else (2 * a + b) / (2 * b)

/-- Saturation to a signed word of `n` bits. -/
def satTo (n : Nat) (x : Int) : Int := clamp (-(2 ^ (n - 1) : Int)) (2 ^ (n - 1) - 1) x

/-- A component of a Combiner sample as a TX link sends it (R96), from units of 2^−60: rounded to N' bits and saturated. -/
def txWord (fmt : Nat) (x : Int) : Int := satTo (wordBits fmt) (divAway x (2 ^ (61 - wordBits fmt)))

/-- The TX link saturates the sample (R96). -/
def txSaturates (fmt : Nat) (x : Int × Int) : Bool :=
  txWord fmt x.1 != divAway x.1 (2 ^ (61 - wordBits fmt)) || txWord fmt x.2 != divAway x.2 (2 ^ (61 - wordBits fmt))

/-- A physical lane as logical: exchanged under LANE_SWAP. -/
def Dev.physLane (d : Dev) (u j : Nat) : Nat :=
  if (if isRxl u then d.is u Reg.RXL.LANE_SWAP else d.is u Reg.TXL.LANE_SWAP) then 1 - j else j

/-- A code group on the serial line: inverted under POL_INV. -/
def Dev.onLine (d : Dev) (u phys g : Nat) : Nat :=
  if (if isRxl u then d.rd u Reg.RXL.POL_INV else d.rd u Reg.TXL.POL_INV).testBit phys then 1023 - g % 1024 else g % 1024

/-- SCR of a link. -/
def Dev.scrOn (d : Dev) (u : Nat) : Bool := if isRxl u then d.is u Reg.RXL.SCR else d.is u Reg.TXL.SCR

/-- K of a link. -/
def Dev.kOf (d : Dev) (u : Nat) : Nat := (if isRxl u then d.rd u Reg.RXL.K_M1 else d.rd u Reg.TXL.K_M1) + 1

/-! ### ILAS (R95, R104) -/

/-- The fields of the link configuration data that are 0 in every link: ADJCNT, ADJDIR, PHADJ, CS, HD, CF; and the octets 0 to 13
of lane `lane`, with the values that LINK_CFG, ILAS_EXP or ILAS_TX, and R95 give. -/
def Dev.ilasConfig (d : Dev) (u lane : Nat) : List Nat :=
  let f := fun (r t : Fld) => if isRxl u then d.rd u r else d.rd u t
  let did := f Reg.RXL.DID Reg.TXL.DID
  let bid := f Reg.RXL.BID Reg.TXL.BID
  let lid := if lane = 0 then f Reg.RXL.LID0 Reg.TXL.LID0 else f Reg.RXL.LID1 Reg.TXL.LID1
  let scr := b2n (d.scrOn u)
  let fmt := d.fmt u
  let l := formatLanes fmt - 1
  let ff := octetsPerFrame fmt - 1
  let k := d.kOf u - 1
  let n := f Reg.RXL.N_M1 Reg.TXL.N_M1
  let sub := if d.sub0 u then 0 else 1
  let s := if fmt = 1 then 1 else 0
  let fchk := (did + bid + lid + scr + l + ff + k + 1 + n + sub + (wordBits fmt - 1) + 1 + s) % 256
  [did, bid, lid, scr * 128 + l, ff, k, 1, n, sub * 32 + (wordBits fmt - 1), 32 + s, 0, 0, 0, fchk]

/-- The characters of the four multiframes of ILAS on a lane: /R/ starts and /A/ ends each, /Q/ and the configuration data follow
/R/ in the second, and the other octets count up. -/
def Dev.ilasChars (d : Dev) (u lane : Nat) : List Nat :=
  let n := octetsPerFrame (d.fmt u) * d.kOf u
  (List.range (4 * n)).map fun i =>
    let m := i / n
    let p := i % n
    if p = 0 then chR else if p = n - 1 then chA
    else if m = 1 ∧ p = 1 then chQ
    else if m = 1 ∧ 2 ≤ p ∧ p < 16 then (d.ilasConfig u lane).getD (p - 2) 0
    else i % 256

/-- A lane's ILAS has the structure that step 2 of R104 asks for. -/
def Dev.ilasStructure (d : Dev) (u : Nat) (cs : List Nat) : Bool :=
  let n := octetsPerFrame (d.fmt u) * d.kOf u
  cs.length == 4 * n && (List.range 4).all fun m =>
    cs.getD (m * n) 0 == chR && cs.getD (m * n + n - 1) 0 == chA && (m != 1 || cs.getD (n + 1) 0 == chQ)

/-- The configuration octets that a lane received. -/
def Dev.ilasGot (d : Dev) (u : Nat) (cs : List Nat) : List Nat :=
  (List.range 14).map fun i => cs.getD (octetsPerFrame (d.fmt u) * d.kOf u + 2 + i) 0

/-- FCHK of received configuration octets: the sum of their fields. -/
def fieldSum (os : List Nat) : Nat :=
  let o := fun i => os.getD i 0
  (o 0 + o 1 / 16 + o 1 % 16 + o 2 / 64 % 2 + o 2 / 32 % 2 + o 2 % 32 + o 3 / 128 + o 3 % 32 + o 4 + o 5 % 32 + o 6 +
    o 7 / 64 + o 7 % 32 + o 8 / 32 + o 8 % 32 + o 9 / 32 + o 9 % 32 + o 10 / 128 + o 10 % 32) % 256

/-- The first failure that step 2 of R104 finds in the received characters of the lanes in use, in the order of the rule: code,
lane, octet received, index; none where all of it passes. -/
def Dev.ilasFailure (d : Dev) (u : Nat) (lanes : List (List Nat)) : Option (Nat × Nat × Nat × Nat) :=
  let js := List.range (formatLanes (d.fmt u))
  let got := fun j => d.ilasGot u (lanes.getD j [])
  let octets := js.flatMap fun j => (List.range 14).map fun i => (j, i)
  (js.find? fun j => !d.ilasStructure u (lanes.getD j [])).map (fun j => (1, j, 0, 0))
  |>.or ((octets.find? fun x => (got x.1).getD x.2 0 != (d.ilasConfig u x.1).getD x.2 0).map fun x =>
      (2, x.1, (got x.1).getD x.2 0 % 256, x.2))
  |>.or ((js.find? fun j => (got j).getD 13 0 != fieldSum (got j)).map fun j => (3, j, 0, 0))
  |>.or (if js.length = 2 && (List.range 13).any (fun i => i != 2 && (got 0).getD i 0 != (got 1).getD i 0) then some (4, 1, 0, 0) else none)

/-- TX links follow Device Time through ILAS (R104): it starts at its LMFC boundary, lasts four multiframes, and the data phase
follows. The characters of ILAS go out on both lanes in use. -/
def refreshTxLinks : Script := withDev fun d =>
  forEach (d.linksOn.filter fun u => !isRxl u) fun u => match (d.linkAt u).ilasAt with
    | none => skip
    | some b =>
      let e := b + 4 * d.lmfc u
      seqs [
        when (d.linkState u == lsCgs && decide (b ≤ d.dt)) (seqs [
          setLinkState u lsIlas,
          forEach (List.range (formatLanes (d.fmt u))) fun j => emit (.ilasSent u j b (d.ilasChars u j))]),
        when (decide (e ≤ d.dt) && (d.linkState u == lsCgs || d.linkState u == lsIlas)) (enterData u e)]

/-! ### Test patterns (R110, R111) -/

/-- Length and second tap of the PRBS of codes 1 to 5, by ITU-T O.150. -/
def prbsTaps (pat : Nat) : Nat × Nat := [(7, 6), (9, 5), (15, 14), (23, 18), (31, 28)].getD (pat - 1) (7, 6)

/-- The last `n` bits of the sequence, newest lowest, `k` bits after the marker: at the marker they are all ones. -/
def prbsState (n m : Nat) : Nat → Nat
  | 0 => 2 ^ n - 1
  | k + 1 => let s := prbsState n m k; (s * 2 + b2n (s.testBit (n - 1) ^^ s.testBit (m - 1))) % 2 ^ n

/-- Bit `k` of a PRBS counted from the marker. -/
def prbsBit (pat k : Nat) : Bool := (prbsState (prbsTaps pat).1 (prbsTaps pat).2 (k + 1)).testBit 0

/-- The characters of RPAT. -/
def rpat : List Nat := [0xBE, 0xD7, 0x23, 0x47, 0x6B, 0x8F, 0xB3, 0x14, 0x5E, 0xFB, 0x35, 0x59]

/-- The characters of one repetition of a pattern on 8b/10b characters. -/
def Dev.patternChars (d : Dev) (u lane pat : Nat) : List Nat :=
  match pat with
  | 6 => [0xB5]
  | 7 => [chK]
  | 8 => d.ilasChars u lane
  | 9 => rpat
  | 0xA => Config.jspat
  | _ => []

/-- The code groups of characters from running disparity `rd`, and the disparity after them. -/
def encodeAll (rd : Bool) (chs : List Nat) : List Nat × Bool :=
  chs.foldl (fun a ch => let g := enc8b10b a.2 ch; (a.1 ++ [g], dispAfter 10 a.2 g)) (([] : List Nat), rd)

/-- Bits from one marker of the pattern to the next. -/
def Dev.patternLen (d : Dev) (u lane pat : Nat) : Nat :=
  if pat ≤ 5 then 2 ^ (prbsTaps pat).1 - 1 else 10 * (d.patternChars u lane pat).length

/-- Bit `k` of the pattern counted from the marker, in a repetition that starts at running disparity `rd`. -/
def Dev.patternBit (d : Dev) (u lane pat : Nat) (rd : Bool) (k : Nat) : Bool :=
  if pat ≤ 5 then prbsBit pat k
  else ((encodeAll rd (d.patternChars u lane pat)).1.getD (k / 10) 0).testBit (9 - k % 10)

/-- Word `i` of the pattern (R111): 20 bits counted from the marker, the first lowest; those at or after the next marker are 0. -/
def Dev.patternWord (d : Dev) (u lane pat : Nat) (rd : Bool) (i : Nat) : Nat :=
  (List.range 20).foldl (fun a j => if 20 * i + j < d.patternLen u lane pat && d.patternBit u lane pat rd (20 * i + j) then a + 2 ^ j else a) 0

/-- Words from one marker to the next, a partial one included. -/
def Dev.patternWords (d : Dev) (u lane pat : Nat) : Nat := ceilDiv (d.patternLen u lane pat) 20

end Sys2Proof.Machine
end

