-- ==== Sys2Proof/Machine/Numeric.lean ====
section
/-! DEFINITION. Arithmetic of the signal path: roots, sines and windows in fixed point, gains in linear form, and complex
products. A fixed-point number is an integer in units of 2^−64; every result that the spec rounds to a format is rounded to that
format at the end (R119, R122, R150, R161, R164, R179). -/

namespace Sys2Proof.Machine

/-! ### Complex numbers -/

/-- Sum of two samples. -/
def Cx.add (a b : Cx) : Cx := (a.1 + b.1, a.2 + b.2)
/-- Difference. -/
def Cx.sub (a b : Cx) : Cx := (a.1 - b.1, a.2 - b.2)
/-- Product; the units multiply. -/
def Cx.mul (a b : Cx) : Cx := (a.1 * b.1 - a.2 * b.2, a.1 * b.2 + a.2 * b.1)
/-- Complex conjugate. -/
def Cx.conj (a : Cx) : Cx := (a.1, -a.2)
/-- Product with a number. -/
def Cx.scale (k : Int) (a : Cx) : Cx := (k * a.1, k * a.2)
/-- Quotient by a positive number, each component rounded to nearest, ties away from zero. -/
def Cx.divBy (n : Nat) (a : Cx) : Cx := (divAway a.1 n, divAway a.2 n)
/-- I² + Q². -/
def Cx.norm (a : Cx) : Nat := (a.1 * a.1 + a.2 * a.2).toNat
/-- Σ (I² + Q²) over a list of samples. -/
def energy (xs : List Cx) : Nat := (xs.map Cx.norm).foldl (· + ·) 0
/-- Both components saturated to `n` bits. -/
def Cx.sat (n : Nat) (a : Cx) : Cx := (satTo n a.1, satTo n a.2)
/-- Sum of a list. -/
def Cx.sum (xs : List Cx) : Cx := xs.foldl Cx.add (0, 0)

/-! ### Square root -/

/-- Bits of the root of `n` below bit `b`, on top of the root `r` found so far. -/
def rootBits (n : Nat) : Nat → Nat → Nat
  | 0, r => r
  | b + 1, r => rootBits n b (if (r + 2 ^ b) * (r + 2 ^ b) ≤ n then r + 2 ^ b else r)

/-- The square root of `n`, rounded down. -/
def rootOf (n : Nat) : Nat := rootBits n (n.log2 / 2 + 1) 0

/-! ### Fixed point -/

/-- 1 in fixed point. -/
abbrev fxOne : Int := 2 ^ 64
/-- π in fixed point. -/
abbrev fxPi : Int := 57952155664616982739
/-- √½ in fixed point. -/
abbrev fxHalfRoot : Int := 13043817825332782212

/-- Product of two fixed-point numbers. -/
def fxMul (a b : Int) : Int := a * b / 2 ^ 64

/-- Σ of a series whose term `n + 1` is term `n` times `x` over `den n`: `k` terms from term `n`. -/
def fxSeries (x : Int) (den : Nat → Int) : Nat → Nat → Int → Int
  | 0, _, _ => 0
  | k + 1, n, t => t + fxSeries x den k (n + 1) (fxMul t x / den n)

/-- Cosine and sine of an angle in radians, from 0 to π/2, in fixed point. -/
def fxCosSin (a : Int) : Int × Int :=
  let s := -fxMul a a
  (fxSeries s (fun n => (2 * n + 1) * (2 * n + 2)) 20 0 fxOne, fxSeries s (fun n => (2 * n + 2) * (2 * n + 3)) 20 0 a)

/-- Cosine and sine of a phase in units of 2^−48 turn, in fixed point. -/
def turnCosSin (ph : Int) : Int × Int :=
  let p := (ph % 2 ^ 48).toNat
  let (c, s) := fxCosSin (2 * fxPi * (p % 2 ^ 46 : Nat) / 2 ^ 48)
  match p / 2 ^ 46 with
  | 0 => (c, s)
  | 1 => (-s, c)
  | 2 => (-c, -s)
  | _ => (s, -c)

/-- exp(j·2π·ph/2^48) with the phase truncated to 20 bits and 20-bit values of cosine and sine (R119, R175), in Q2.18, the format of
the other 20-bit coefficients, in which 1.0 is exact. -/
def rotor (ph : Int) : Cx :=
  let (c, s) := turnCosSin (ph % 2 ^ 48 / 2 ^ 28 * 2 ^ 28)
  (divAway c (2 ^ 46), divAway s (2 ^ 46))

/-- I0(x) for x²/4 in fixed point. -/
def fxBessel (q : Int) : Int := fxSeries q (fun n => (n + 1) * (n + 1)) 60 0 fxOne

/-- I0(β√(1 − (n/m)²)) / I0(β) for β in thousandths (R122, R164). -/
def kaiser (beta : Nat) (n m : Int) : Int :=
  let full : Int := (beta : Int) ^ 2 * 2 ^ 64 / 4000000
  fxBessel (full * (m * m - n * n) / (m * m)) * 2 ^ 64 / fxBessel full

/-- The natural logarithm of p/q for p, q > 0, in fixed point. -/
def fxLn (p q : Nat) : Int :=
  let e : Int := (p.log2 : Int) - q.log2
  let m : Int := if 0 ≤ e then (p : Int) * 2 ^ 64 / (q * 2 ^ e.toNat) else (p : Int) * 2 ^ (64 + (-e).toNat) / q
  let t := (m - fxOne) * 2 ^ 64 / (m + fxOne)
  let t2 := fxMul t t
  e * 12786308645202655660 +
    2 * ((List.range 45).foldl (fun (a : Int × Int) (k : Nat) => (a.1 + a.2 / (2 * (k : Int) + 1), fxMul a.2 t2)) ((0 : Int), t)).1

/-- 1000 × log10 (p/q) in units of 2^−40. -/
def cdbFine (p q : Nat) : Int := fxMul (fxLn p q) 8011319160293570762604 / 2 ^ 24

/-! ### Gains -/

/-- 10^(x/2000) > p/q. -/
def gainOver (x : Int) (p q : Nat) : Bool := !powAtMost 2000 x p q

/-- The mantissa of 24 bits nearest to 10^(x/2000) / 2^e: bits below `b`, on top of `m`; `p`, `q` are 2^e as a fraction. -/
def mantBits (x : Int) (p q : Nat) : Nat → Nat → Nat
  | 0, m => m
  | b + 1, m => mantBits x p q b (if gainOver x ((2 * (m + 2 ^ b) - 1) * p) (2 * q) then m + 2 ^ b else m)

/-- 10^(x/2000) rounded to 24 significant bits (R150, R180), in units of 2^−40, for x from −9,000 to 4,000. -/
def linGain (x : Int) : Nat :=
  match (List.range 24).find? fun i => gainOver x (2 ^ (8 + 16 - i)) (2 ^ 17) with
  | none => 0
  | some i =>
    let sh := 24 - i
    mantBits x (2 ^ sh) (2 ^ 40) 25 0 * 2 ^ sh

end Sys2Proof.Machine
end

