-- ==== Sys2Proof/Machine/RegsRadio.lean ====
section
/-! DEFINITION. The register fields of PE, RC, SD, CR, from the register tables of the spec (R238, R239, R271, R272, R273, R274, R435). Generated from those tables:
one descriptor per field, and per unit type the list of its fields. -/

namespace Sys2Proof.Machine.Reg

/-- R238, Self-test passed (R209). -/
def PE.SELFTEST_OK : Fld :=
  { unit := 8, off := 0x100, lo := 2, width := 1, acc := .ro, rst := 0x0 }
/-- R238, Condition of R208; cleared at the next entry to Kindling. -/
def PE.LOCKSTEP_ERR : Fld :=
  { unit := 8, off := 0x100, lo := 1, width := 1, acc := .ro, rst := 0x0 }
/-- R238, Backoff cause 0x31 asserted by the Mode Controller. -/
def PE.GM_ACTIVE : Fld :=
  { unit := 8, off := 0x100, lo := 0, width := 1, acc := .ro, rst := 0x0 }
/-- R238, Cells counted under R217, 0 to 32. -/
def PE.GM_COUNT : Fld :=
  { unit := 8, off := 0x104, lo := 0, width := 8, acc := .ro, rst := 0x0 }
/-- R238, 0.01 dB, 300 to 4,000 (R215). -/
def PE.MARGIN_BACKOFF : Fld :=
  { unit := 8, off := 0x108, lo := 16, width := 16, acc := .lk, rst := 0x4b0, range := some (300, 4000) }
/-- R238, 0.01 dB, 0 to MARGIN_BACKOFF − 100 (R216). -/
def PE.MARGIN_MUTE : Fld :=
  { unit := 8, off := 0x108, lo := 0, width := 16, acc := .lk, rst := 0x258 }
/-- R238, ms, 1 to 60,000; 0 rejected. -/
def PE.MARGIN_HOLD : Fld :=
  { unit := 8, off := 0x10c, lo := 16, width := 16, acc := .lk, rst := 0x64, range := some (1, 60000), zeroRejected := true }
/-- R238, ms, 1 to 60,000; 0 rejected (R218, R219, R230). -/
def PE.TRIP_HOLD : Fld :=
  { unit := 8, off := 0x10c, lo := 0, width := 16, acc := .lk, rst := 0x64, range := some (1, 60000), zeroRejected := true }
/-- R238, 0.1 dB, 1 to 100; 0 rejected. -/
def PE.GROW_DB : Fld :=
  { unit := 8, off := 0x110, lo := 24, width := 8, acc := .lk, rst := 0xa, range := some (1, 100), zeroRejected := true }
/-- R238, Units of 1/256, 128 to 255. -/
def PE.GROW_RHO : Fld :=
  { unit := 8, off := 0x110, lo := 16, width := 8, acc := .lk, rst := 0xe6, range := some (128, 255) }
/-- R238, 2 or 3; 0 and 1 rejected. -/
def PE.GROW_N : Fld :=
  { unit := 8, off := 0x110, lo := 0, width := 2, acc := .lk, rst := 0x3, range := some (2, 3) }
/-- R238, 0.01 dBFS, −9,000 to −1,000. -/
def PE.GROW_FLOOR : Fld :=
  { unit := 8, off := 0x114, lo := 16, width := 16, acc := .lk, rst := 0xee6c, range := some (-9000, -1000) }
/-- R238, ms, 1 to 60,000; 0 rejected. -/
def PE.SPK_HOLD : Fld :=
  { unit := 8, off := 0x114, lo := 0, width := 16, acc := .lk, rst := 0x3e8, range := some (1, 60000), zeroRejected := true }
/-- R238, 0.01 dB, 1,000 to 4,000. -/
def PE.SPK_THRESH : Fld :=
  { unit := 8, off := 0x118, lo := 16, width := 16, acc := .lk, rst := 0x7d0, range := some (1000, 4000) }
/-- R238, Blocks, 2 to 15; 0 and 1 rejected. -/
def PE.SPK_N : Fld :=
  { unit := 8, off := 0x118, lo := 12, width := 4, acc := .lk, rst := 0x4, range := some (2, 15) }
/-- R238, 0.01 dB, 100 to 2,000. -/
def PE.SPK_CUT : Fld :=
  { unit := 8, off := 0x118, lo := 0, width := 12, acc := .lk, rst := 0x258, range := some (100, 2000) }
/-- R238, 1 to 255; 0 rejected (R220). -/
def PE.TRIP_MAX : Fld :=
  { unit := 8, off := 0x11c, lo := 8, width := 8, acc := .lk, rst := 0x8, range := some (1, 255), zeroRejected := true }
/-- R238, s, 1 to 255; 0 rejected. -/
def PE.TRIP_WIN : Fld :=
  { unit := 8, off := 0x11c, lo := 0, width := 8, acc := .lk, rst := 0x3c, range := some (1, 255), zeroRejected := true }
/-- R238, 0.01 dB, 0 to 1,000 (R229). -/
def PE.CEIL_MARGIN : Fld :=
  { unit := 8, off := 0x120, lo := 16, width := 16, acc := .lk, rst := 0x64, range := some (0, 1000) }
/-- R238, 0.01 dB, 0 to 600 (R230). -/
def PE.CEIL_FAST : Fld :=
  { unit := 8, off := 0x120, lo := 0, width := 16, acc := .lk, rst := 0x96, range := some (0, 600) }
/-- R238, 0.01 dB, 0 to 3,000 (R223). -/
def PE.UL_MARGIN : Fld :=
  { unit := 8, off := 0x124, lo := 16, width := 16, acc := .lk, rst := 0x3e8, range := some (0, 3000) }
/-- R238, 0.01 dBm/Hz, −17,400 to −14,000. -/
def PE.BS_NF_DENS : Fld :=
  { unit := 8, off := 0x124, lo := 0, width := 16, acc := .lk, rst := 0xbdfc, range := some (-17400, -14000) }
/-- R238, ms, 10 to 60,000; 0 rejected (R221). -/
def PE.DONOR_HOLD : Fld :=
  { unit := 8, off := 0x128, lo := 16, width := 16, acc := .lk, rst := 0x3e8, range := some (10, 60000), zeroRejected := true }
/-- R238, ms, 1 to 10,000; 0 rejected (R226). -/
def PE.SYNC_HOLD : Fld :=
  { unit := 8, off := 0x128, lo := 0, width := 16, acc := .lk, rst := 0xa, range := some (1, 10000), zeroRejected := true }
/-- R238, 1 to 128; 0 rejected (R217). -/
def PE.GM_CELLS : Fld :=
  { unit := 8, off := 0x12c, lo := 24, width := 8, acc := .lk, rst := 0x4, range := some (1, 128), zeroRejected := true }
/-- R238, 0.01 dB, 100 to 4,000. -/
def PE.GM_DEPTH : Fld :=
  { unit := 8, off := 0x12c, lo := 12, width := 12, acc := .lk, rst := 0x12c, range := some (100, 4000) }
/-- R238, 0.01 dB, 0 to 4,000. -/
def PE.GM_DB : Fld :=
  { unit := 8, off := 0x12c, lo := 0, width := 12, acc := .lk, rst := 0x1c2, range := some (0, 4000) }
/-- R238, s, 1 to 3,600; taken from the profile. -/
def PE.UL_DUTY_WIN : Fld :=
  { unit := 8, off := 0x130, lo := 16, width := 16, acc := .ro, rst := 0x1 }
/-- R238, 0.01 %, 1 to 10,000; taken from the profile. -/
def PE.UL_DUTY_MAX : Fld :=
  { unit := 8, off := 0x130, lo := 0, width := 16, acc := .ro, rst := 0x2710 }
/-- R238, Bit m set if mode code m is permitted; bits 0 to 2, 5 and 6 always 1; taken from the profile. -/
def PE.MODES_OK : Fld :=
  { unit := 8, off := 0x134, lo := 0, width := 8, acc := .ro, rst := 0x67 }
/-- R238, Trips in the section; 32 bits, saturating; cleared by CNT_CLEAR. -/
def PE.TRIP_CNT : Fld :=
  { unit := 8, off := 0x138, lo := 0, width := 32, acc := .ro, rst := 0x0, cntClear := true }
/-- R238, Carrier k of the section's Sync Detector, 0.01 dBm, k 0 to 7. -/
def PE.PSS_TX_DBM : Fld :=
  { unit := 8, off := 0x140, lo := 16, width := 16, acc := .lk, rst := 0x0, stride := 4, count := 8 }
/-- R238, 0.01 dBFS, −12,000 to 0. -/
def PE.DONOR_MIN : Fld :=
  { unit := 8, off := 0x140, lo := 0, width := 16, acc := .lk, rst := 0xdcd8, stride := 4, count := 8, range := some (-12000, 0) }
/-- R238, Path loss of carrier k (R222), 0.01 dB. -/
def PE.PL : Fld :=
  { unit := 8, off := 0x160, lo := 16, width := 16, acc := .ro, rst := 0x8000, stride := 4, count := 8 }
/-- R238, Frame lock of carrier k. -/
def PE.FRAME_LOCK : Fld :=
  { unit := 8, off := 0x160, lo := 1, width := 1, acc := .ro, rst := 0x0, stride := 4, count := 8 }
/-- R238, Donor state of R221. -/
def PE.PRESENT : Fld :=
  { unit := 8, off := 0x160, lo := 0, width := 1, acc := .ro, rst := 0x0, stride := 4, count := 8 }
/-- R238, RX link k, 0.01 dBm, −15,000 to +5,000 (R211). -/
def PE.RX_FS_DBM : Fld :=
  { unit := 8, off := 0x180, lo := 0, width := 16, acc := .lk, rst := 0x0, stride := 4, count := 4, range := some (-15000, 5000) }
/-- R238, TX link k spectral inversion. -/
def PE.INV : Fld :=
  { unit := 8, off := 0x190, lo := 31, width := 1, acc := .lk, rst := 0x0, stride := 8, count := 4 }
/-- R238, TX link k stream centre, kHz, 0 to 16,777,215. -/
def PE.RF_CTR : Fld :=
  { unit := 8, off := 0x190, lo := 0, width := 24, acc := .lk, rst := 0x0, stride := 8, count := 4, range := some (0, 16777215) }
/-- R238, TX link k, 0.01 dBm, −5,000 to +6,000. -/
def PE.TX_FS_DBM : Fld :=
  { unit := 8, off := 0x194, lo := 0, width := 16, acc := .lk, rst := 0x0, stride := 8, count := 4, range := some (-5000, 6000) }
/-- R239, 1 applies R226. -/
def PE.C_TDD_EN : Fld :=
  { unit := 8, off := 0x400, lo := 31, width := 1, acc := .lk, rst := 0x0, stride := 32, count := 32 }
/-- R239, 1 if the cell names a donor; 0 for uplink cells. -/
def PE.C_DONOR_EN : Fld :=
  { unit := 8, off := 0x400, lo := 30, width := 1, acc := .lk, rst := 0x0, stride := 32, count := 32 }
/-- R239, Section of the donor's Sync Detector. -/
def PE.C_DONOR_SS : Fld :=
  { unit := 8, off := 0x400, lo := 28, width := 2, acc := .lk, rst := 0x0, stride := 32, count := 32 }
/-- R239, Carrier index, 0 to 7. -/
def PE.C_DONOR_CAR : Fld :=
  { unit := 8, off := 0x400, lo := 25, width := 3, acc := .lk, rst := 0x0, stride := 32, count := 32 }
/-- R239, R214, 0.01 dB. -/
def PE.C_MARGIN : Fld :=
  { unit := 8, off := 0x404, lo := 16, width := 16, acc := .ro, rst := 0x8000, stride := 32, count := 32 }
/-- R239, R214, 0.01 dB. -/
def PE.C_R_SUM : Fld :=
  { unit := 8, off := 0x404, lo := 0, width := 16, acc := .ro, rst := 0x8000, stride := 32, count := 32 }
/-- R239, R215, 0.01 dB. -/
def PE.C_G_MARGIN : Fld :=
  { unit := 8, off := 0x408, lo := 16, width := 16, acc := .ro, rst := 0xfa0, stride := 32, count := 32 }
/-- R239, R223, 0.01 dB. -/
def PE.C_G_UL : Fld :=
  { unit := 8, off := 0x408, lo := 0, width := 16, acc := .ro, rst := 0xfa0, stride := 32, count := 32 }
/-- R239, R229, 0.01 dB. -/
def PE.C_G_CEIL : Fld :=
  { unit := 8, off := 0x40c, lo := 16, width := 16, acc := .ro, rst := 0xfa0, stride := 32, count := 32 }
/-- R239, R219, 0.01 dB. -/
def PE.C_G_SPK : Fld :=
  { unit := 8, off := 0x40c, lo := 0, width := 16, acc := .ro, rst := 0xfa0, stride := 32, count := 32 }
/-- R239, R212, 0.01 dB. -/
def PE.C_G_NET : Fld :=
  { unit := 8, off := 0x410, lo := 16, width := 16, acc := .ro, rst := 0xfa0, stride := 32, count := 32 }
/-- R239, R223, 0.01 dBFS. -/
def PE.C_N_IN : Fld :=
  { unit := 8, off := 0x410, lo := 0, width := 16, acc := .ro, rst := 0x8000, stride := 32, count := 32 }
/-- R239, Bits [20] LOCKSTEP, [19] LATCH, [18] DUTY, [17] ALLOW, [16] SYNC, [15] DONOR, [14] UPLINK, [13] CEILING, [12] SPECTRAL, [11] GROWTH, [10] MARGIN. -/
def PE.C_MUTE_CAUSE : Fld :=
  { unit := 8, off := 0x414, lo := 10, width := 11, acc := .ro, rst := 0x0, stride := 32, count := 32 }
/-- R239, Bits [4] NET, [3] SPECTRAL, [2] CEILING, [1] UPLINK, [0] MARGIN (R231). -/
def PE.C_LIMIT_CAUSE : Fld :=
  { unit := 8, off := 0x414, lo := 0, width := 5, acc := .ro, rst := 0x0, stride := 32, count := 32 }
/-- R239, P_band_fast of the cell's band, 0.01 dBm (R230). -/
def PE.C_PORT_FAST : Fld :=
  { unit := 8, off := 0x418, lo := 16, width := 16, acc := .ro, rst := 0x8000, stride := 32, count := 32 }
/-- R239, P_band_avg, 0.01 dBm (R229). -/
def PE.C_PORT_AVG : Fld :=
  { unit := 8, off := 0x418, lo := 0, width := 16, acc := .ro, rst := 0x8000, stride := 32, count := 32 }
/-- R239, Trips of the cell; 16 bits, saturating; cleared by CNT_CLEAR. -/
def PE.C_TRIPS : Fld :=
  { unit := 8, off := 0x41c, lo := 16, width := 16, acc := .ro, rst := 0x0, stride := 32, count := 32, cntClear := true }
/-- R239, R225, 0.01 %, 0 to 10,000. -/
def PE.C_DUTY_NOW : Fld :=
  { unit := 8, off := 0x41c, lo := 0, width := 16, acc := .ro, rst := 0x0, stride := 32, count := 32 }
/-- R239, Band b port ceiling, 0.01 dBm; taken from the profile; 0x8000 when the profile holds no band b. -/
def PE.B_P_MAX : Fld :=
  { unit := 8, off := 0x800, lo := 16, width := 16, acc := .ro, rst := 0x8000, stride := 4, count := 64 }
/-- R239, Band b maximum port net gain, 0.01 dB; taken from the profile. -/
def PE.B_NET_MAX : Fld :=
  { unit := 8, off := 0x800, lo := 0, width := 16, acc := .ro, rst := 0x8000, stride := 4, count := 64 }

/-- Every field of a PE window. -/
def PE.all : List Fld :=
  [PE.SELFTEST_OK, PE.LOCKSTEP_ERR, PE.GM_ACTIVE, PE.GM_COUNT, PE.MARGIN_BACKOFF, PE.MARGIN_MUTE, PE.MARGIN_HOLD, PE.TRIP_HOLD, PE.GROW_DB, PE.GROW_RHO, PE.GROW_N, PE.GROW_FLOOR] ++
  [PE.SPK_HOLD, PE.SPK_THRESH, PE.SPK_N, PE.SPK_CUT, PE.TRIP_MAX, PE.TRIP_WIN, PE.CEIL_MARGIN, PE.CEIL_FAST, PE.UL_MARGIN, PE.BS_NF_DENS, PE.DONOR_HOLD, PE.SYNC_HOLD] ++
  [PE.GM_CELLS, PE.GM_DEPTH, PE.GM_DB, PE.UL_DUTY_WIN, PE.UL_DUTY_MAX, PE.MODES_OK, PE.TRIP_CNT, PE.PSS_TX_DBM, PE.DONOR_MIN, PE.PL, PE.FRAME_LOCK, PE.PRESENT] ++
  [PE.RX_FS_DBM, PE.INV, PE.RF_CTR, PE.TX_FS_DBM, PE.C_TDD_EN, PE.C_DONOR_EN, PE.C_DONOR_SS, PE.C_DONOR_CAR, PE.C_MARGIN, PE.C_R_SUM, PE.C_G_MARGIN, PE.C_G_UL] ++
  [PE.C_G_CEIL, PE.C_G_SPK, PE.C_G_NET, PE.C_N_IN, PE.C_MUTE_CAUSE, PE.C_LIMIT_CAUSE, PE.C_PORT_FAST, PE.C_PORT_AVG, PE.C_TRIPS, PE.C_DUTY_NOW, PE.B_P_MAX, PE.B_NET_MAX]

/-- R271, Group configured. -/
def RC.G_ENABLE : Fld :=
  { unit := 6, off := 0x100, lo := 31, width := 1, acc := .lk, rst := 0x0, stride := 64, count := 4 }
/-- R271, 1 TDD, 0 FDD. -/
def RC.G_TDD : Fld :=
  { unit := 6, off := 0x100, lo := 30, width := 1, acc := .lk, rst := 0x0, stride := 64, count := 4 }
/-- R271, 1 SERVICE, 0 DONOR. -/
def RC.G_SERVICE : Fld :=
  { unit := 6, off := 0x100, lo := 29, width := 1, acc := .lk, rst := 0x0, stride := 64, count := 4 }
/-- R271, R253. -/
def RC.G_REST_LISTEN : Fld :=
  { unit := 6, off := 0x100, lo := 28, width := 1, acc := .lk, rst := 0x0, stride := 64, count := 4 }
/-- R271, Section of the carrier. -/
def RC.G_CAR_SS : Fld :=
  { unit := 6, off := 0x100, lo := 26, width := 2, acc := .lk, rst := 0x0, stride := 64, count := 4 }
/-- R271, Carrier index. -/
def RC.G_CAR : Fld :=
  { unit := 6, off := 0x100, lo := 23, width := 3, acc := .lk, rst := 0x0, stride := 64, count := 4 }
/-- R271, Bit j: RX link j in the group. -/
def RC.G_RX_MAP : Fld :=
  { unit := 6, off := 0x100, lo := 4, width := 4, acc := .lk, rst := 0x0, stride := 64, count := 4 }
/-- R271, Bit j: TX link j in the group. -/
def RC.G_TX_MAP : Fld :=
  { unit := 6, off := 0x100, lo := 0, width := 4, acc := .lk, rst := 0x0, stride := 64, count := 4 }
/-- R271, Entries, 0 to 32. -/
def RC.G_N_ENT : Fld :=
  { unit := 6, off := 0x104, lo := 26, width := 6, acc := .lk, rst := 0x0, stride := 64, count := 4, range := some (0, 32) }
/-- R271, 1 to 4,915,200; 0 rejected for a TDD group. -/
def RC.G_PERIOD_DT : Fld :=
  { unit := 6, off := 0x104, lo := 0, width := 23, acc := .lk, rst := 0x0, stride := 64, count := 4, range := some (0, 4915200) }
/-- R271, R250, 0 to 65,535. -/
def RC.G_LAT_DT : Fld :=
  { unit := 6, off := 0x108, lo := 16, width := 16, acc := .lk, rst := 0x0, stride := 64, count := 4, range := some (0, 65535) }
/-- R271, 0 to 4,095. -/
def RC.G_SWITCH_DT : Fld :=
  { unit := 6, off := 0x108, lo := 0, width := 12, acc := .lk, rst := 0xf6, stride := 64, count := 4, range := some (0, 4095) }
/-- R271, R262, 0 to 1,048,575. -/
def RC.G_SUB_DT : Fld :=
  { unit := 6, off := 0x10c, lo := 9, width := 20, acc := .lk, rst := 0x0, stride := 64, count := 4, range := some (0, 1048575) }
/-- R271, 0 to 492. -/
def RC.G_BURST_RAMP : Fld :=
  { unit := 6, off := 0x10c, lo := 0, width := 9, acc := .lk, rst := 0x40, stride := 64, count := 4, range := some (0, 492) }
/-- R271, R254. -/
def RC.G_OFF_REQ : Fld :=
  { unit := 6, off := 0x110, lo := 0, width := 1, acc := .rw, rst := 0x0, stride := 64, count := 4 }
/-- R271, R262. -/
def RC.G_SKIP_RUN : Fld :=
  { unit := 6, off := 0x114, lo := 8, width := 8, acc := .ro, rst := 0x0, stride := 64, count := 4 }
/-- R271, Request held. -/
def RC.G_SYN_WAIT : Fld :=
  { unit := 6, off := 0x114, lo := 7, width := 1, acc := .ro, rst := 0x0, stride := 64, count := 4 }
/-- R271, A Mute source of R269 holds the group. -/
def RC.G_FAULT_MUTE : Fld :=
  { unit := 6, off := 0x114, lo := 6, width := 1, acc := .ro, rst := 0x0, stride := 64, count := 4 }
/-- R271, R266. -/
def RC.G_OPEN_SHORT : Fld :=
  { unit := 6, off := 0x114, lo := 5, width := 1, acc := .ro, rst := 0x0, stride := 64, count := 4 }
/-- R271, R266. -/
def RC.G_MM_MUTE : Fld :=
  { unit := 6, off := 0x114, lo := 4, width := 1, acc := .ro, rst := 0x0, stride := 64, count := 4 }
/-- R271, R266. -/
def RC.G_MM_BO : Fld :=
  { unit := 6, off := 0x114, lo := 3, width := 1, acc := .ro, rst := 0x0, stride := 64, count := 4 }
/-- R271, R248. -/
def RC.G_STATE : Fld :=
  { unit := 6, off := 0x114, lo := 0, width := 3, acc := .ro, rst := 0x0, stride := 64, count := 4 }
/-- R271, Last valid forward reading, 0.01 dBm. -/
def RC.G_FWD : Fld :=
  { unit := 6, off := 0x118, lo := 16, width := 16, acc := .ro, rst := 0x8000, stride := 64, count := 4 }
/-- R271, Last valid return loss, 0.01 dB. -/
def RC.G_RL : Fld :=
  { unit := 6, off := 0x118, lo := 0, width := 16, acc := .ro, rst := 0x8000, stride := 64, count := 4 }
/-- R271, 16 bits, saturating; cleared by CNT_CLEAR. -/
def RC.G_SKIP_CNT : Fld :=
  { unit := 6, off := 0x11c, lo := 16, width := 16, acc := .ro, rst := 0x0, stride := 64, count := 4, cntClear := true }
/-- R271, 16 bits, saturating; cleared by CNT_CLEAR. -/
def RC.G_MM_CNT : Fld :=
  { unit := 6, off := 0x11c, lo := 0, width := 16, acc := .ro, rst := 0x0, stride := 64, count := 4, cntClear := true }
/-- R271, 0.1 dB, 1 to 255. -/
def RC.G_RL_BO : Fld :=
  { unit := 6, off := 0x120, lo := 24, width := 8, acc := .lk, rst := 0x64, stride := 64, count := 4, range := some (1, 255) }
/-- R271, 0.1 dB. -/
def RC.G_RL_MUTE : Fld :=
  { unit := 6, off := 0x120, lo := 16, width := 8, acc := .lk, rst := 0x3c, stride := 64, count := 4 }
/-- R271, 0.1 dB. -/
def RC.G_RL_FAULT : Fld :=
  { unit := 6, off := 0x120, lo := 8, width := 8, acc := .lk, rst := 0xa, stride := 64, count := 4 }
/-- R271, 0.1 dB. -/
def RC.G_RL_HYST : Fld :=
  { unit := 6, off := 0x120, lo := 0, width := 8, acc := .lk, rst := 0xa, stride := 64, count := 4 }
/-- R271, 1 to 15; 0 rejected. -/
def RC.G_MM_N : Fld :=
  { unit := 6, off := 0x124, lo := 28, width := 4, acc := .lk, rst := 0x4, stride := 64, count := 4, range := some (1, 15), zeroRejected := true }
/-- R271, 0.01 dB, 0 to 4,000. -/
def RC.G_VSWR_CUT : Fld :=
  { unit := 6, off := 0x124, lo := 16, width := 12, acc := .lk, rst := 0x12c, stride := 64, count := 4, range := some (0, 4000) }
/-- R271, 0.01 dBm. -/
def RC.G_FWD_MIN : Fld :=
  { unit := 6, off := 0x124, lo := 0, width := 16, acc := .lk, rst := 0x0, stride := 64, count := 4 }
/-- R271, ms, 1 to 60,000; 0 rejected. -/
def RC.G_MM_HOLD : Fld :=
  { unit := 6, off := 0x128, lo := 16, width := 16, acc := .lk, rst := 0x3e8, stride := 64, count := 4, range := some (1, 60000), zeroRejected := true }
/-- R271, µs, 0 to 255. -/
def RC.G_DET_SETTLE : Fld :=
  { unit := 6, off := 0x128, lo := 8, width := 8, acc := .lk, rst := 0x5, stride := 64, count := 4, range := some (0, 255) }
/-- R271, 1 to 255; 0 rejected. -/
def RC.G_SKIP_MAX : Fld :=
  { unit := 6, off := 0x128, lo := 0, width := 8, acc := .lk, rst := 0x8, stride := 64, count := 4, range := some (1, 255), zeroRejected := true }
/-- R271, R267. -/
def RC.G_TUNE_EN : Fld :=
  { unit := 6, off := 0x12c, lo := 31, width := 1, acc := .lk, rst := 0x0, stride := 64, count := 4 }
/-- R271, ms, 1 to 4,095; 0 rejected. -/
def RC.G_TUNE_PERIOD : Fld :=
  { unit := 6, off := 0x12c, lo := 16, width := 12, acc := .lk, rst := 0x64, stride := 64, count := 4, range := some (1, 4095), zeroRejected := true }
/-- R271, Pairs, 1 to 15; 0 rejected. -/
def RC.G_TUNE_AVG : Fld :=
  { unit := 6, off := 0x12c, lo := 12, width := 4, acc := .lk, rst := 0x4, stride := 64, count := 4, range := some (1, 15), zeroRejected := true }
/-- R271, 0.01 dB. -/
def RC.G_TUNE_MIN : Fld :=
  { unit := 6, off := 0x12c, lo := 0, width := 8, acc := .lk, rst := 0xa, stride := 64, count := 4 }
/-- R271, Axis 0, axis 1 enabled. -/
def RC.AX_EN : Fld :=
  { unit := 6, off := 0x130, lo := 31, width := 1, acc := .lk, rst := 0x0, stride := 64, count := 4, stride2 := 4, count2 := 2 }
/-- R271, RFFE master. -/
def RC.AX_MASTER : Fld :=
  { unit := 6, off := 0x130, lo := 30, width := 1, acc := .lk, rst := 0x0, stride := 64, count := 4, stride2 := 4, count2 := 2 }
/-- R271, Tuner USID. -/
def RC.AX_USID : Fld :=
  { unit := 6, off := 0x130, lo := 26, width := 4, acc := .lk, rst := 0x0, stride := 64, count := 4, stride2 := 4, count2 := 2 }
/-- R271, Register address. -/
def RC.AX_ADDR : Fld :=
  { unit := 6, off := 0x130, lo := 8, width := 16, acc := .lk, rst := 0x0, stride := 64, count := 4, stride2 := 4, count2 := 2 }
/-- R271, Largest code. -/
def RC.AX_CODE_MAX : Fld :=
  { unit := 6, off := 0x130, lo := 0, width := 8, acc := .lk, rst := 0xff, stride := 64, count := 4, stride2 := 4, count2 := 2 }
/-- R271, Initial code, axis 1. -/
def RC.G_INIT1 : Fld :=
  { unit := 6, off := 0x138, lo := 24, width := 8, acc := .lk, rst := 0x0, stride := 64, count := 4 }
/-- R271, Initial code, axis 0. -/
def RC.G_INIT0 : Fld :=
  { unit := 6, off := 0x138, lo := 16, width := 8, acc := .lk, rst := 0x0, stride := 64, count := 4 }
/-- R271, Current code, axis 1. -/
def RC.G_CODE1 : Fld :=
  { unit := 6, off := 0x138, lo := 8, width := 8, acc := .ro, rst := 0x0, stride := 64, count := 4 }
/-- R271, Current code, axis 0. -/
def RC.G_CODE0 : Fld :=
  { unit := 6, off := 0x138, lo := 0, width := 8, acc := .ro, rst := 0x0, stride := 64, count := 4 }
/-- R271, Accepted moves; 16 bits, saturating; cleared by CNT_CLEAR. -/
def RC.G_TUNE_MOVES : Fld :=
  { unit := 6, off := 0x13c, lo := 16, width := 16, acc := .ro, rst := 0x0, stride := 64, count := 4, cntClear := true }
/-- R272, RFFE master enabled. -/
def RC.RFFE_EN : Fld :=
  { unit := 6, off := 0x200, lo := 31, width := 1, acc := .lk, rst := 0x0, stride := 4, count := 2 }
/-- R272, R264, 3 to 255; 0 rejected. -/
def RC.RFFE_DIV : Fld :=
  { unit := 6, off := 0x200, lo := 0, width := 8, acc := .lk, rst := 0x6, stride := 4, count := 2, range := some (3, 255), zeroRejected := true }
/-- R272, CSPI master enabled. -/
def RC.CSPI_EN : Fld :=
  { unit := 6, off := 0x208, lo := 31, width := 1, acc := .lk, rst := 0x0, stride := 4, count := 2 }
/-- R272, R258, 5 to 255; 0 rejected. -/
def RC.CSPI_DIV : Fld :=
  { unit := 6, off := 0x208, lo := 0, width := 8, acc := .lk, rst := 0xa, stride := 4, count := 2, range := some (5, 255), zeroRejected := true }
/-- R272, Host transfers permitted. -/
def RC.CS_HOST_OK : Fld :=
  { unit := 6, off := 0x210, lo := 31, width := 1, acc := .lk, rst := 0x0, stride := 4, count := 8 }
/-- R272, 1 mode 3, 0 mode 0. -/
def RC.CS_MODE3 : Fld :=
  { unit := 6, off := 0x210, lo := 30, width := 1, acc := .lk, rst := 0x0, stride := 4, count := 8 }
/-- R272, Frame bits, 8 to 32. -/
def RC.CS_LEN : Fld :=
  { unit := 6, off := 0x210, lo := 0, width := 6, acc := .lk, rst := 0x18, stride := 4, count := 8, range := some (8, 32) }
/-- R272, Synthesiser declared. -/
def RC.SYN_EN : Fld :=
  { unit := 6, off := 0x240, lo := 31, width := 1, acc := .lk, rst := 0x0, stride := 4, count := 8 }
/-- R272, CSPI master. -/
def RC.SYN_MASTER : Fld :=
  { unit := 6, off := 0x240, lo := 30, width := 1, acc := .lk, rst := 0x0, stride := 4, count := 8 }
/-- R272, Chip select. -/
def RC.SYN_CS : Fld :=
  { unit := 6, off := 0x240, lo := 28, width := 2, acc := .lk, rst := 0x0, stride := 4, count := 8 }
/-- R272, LD input of the section. -/
def RC.SYN_LD : Fld :=
  { unit := 6, off := 0x240, lo := 26, width := 2, acc := .lk, rst := 0x0, stride := 4, count := 8 }
/-- R272, Bit k: group k depends on it. -/
def RC.SYN_GRP_MAP : Fld :=
  { unit := 6, off := 0x240, lo := 22, width := 4, acc := .lk, rst := 0x0, stride := 4, count := 8 }
/-- R272, 0.5 °C units; 0 disables. -/
def RC.SYN_RECAL_DEG : Fld :=
  { unit := 6, off := 0x240, lo := 12, width := 8, acc := .lk, rst := 0x14, stride := 4, count := 8 }
/-- R272, µs, 1 to 4,095; 0 rejected. -/
def RC.SYN_SETTLE_MIN : Fld :=
  { unit := 6, off := 0x240, lo := 0, width := 12, acc := .lk, rst := 0x64, stride := 4, count := 8, range := some (1, 4095), zeroRejected := true }
/-- R272, µs, 1 to 65,535; 0 rejected. -/
def RC.SYN_SETTLE_BUDGET : Fld :=
  { unit := 6, off := 0x260, lo := 16, width := 16, acc := .lk, rst := 0xc8, stride := 4, count := 8, range := some (1, 65535), zeroRejected := true }
/-- R272, µs, 1 to 255; 0 rejected. -/
def RC.SYN_LD_QUAL : Fld :=
  { unit := 6, off := 0x260, lo := 8, width := 8, acc := .lk, rst := 0xa, stride := 4, count := 8, range := some (1, 255), zeroRejected := true }
/-- R272, Sequence start index. -/
def RC.SYN_PROG : Fld :=
  { unit := 6, off := 0x280, lo := 24, width := 8, acc := .lk, rst := 0x0, stride := 4, count := 8 }
/-- R272, Sequence start index. -/
def RC.SYN_RECAL : Fld :=
  { unit := 6, off := 0x280, lo := 16, width := 8, acc := .lk, rst := 0x0, stride := 4, count := 8 }
/-- R272, Sequence start index. -/
def RC.SYN_RECOVER : Fld :=
  { unit := 6, off := 0x280, lo := 8, width := 8, acc := .lk, rst := 0x0, stride := 4, count := 8 }
/-- R272, 16 bits, saturating; cleared by CNT_CLEAR. -/
def RC.SYN_LD_LOSS_CNT : Fld :=
  { unit := 6, off := 0x2a0, lo := 16, width := 16, acc := .ro, rst := 0x0, stride := 4, count := 8, cntClear := true }
/-- R272, Settle timer running. -/
def RC.SYN_SETTLING : Fld :=
  { unit := 6, off := 0x2a0, lo := 2, width := 1, acc := .ro, rst := 0x0, stride := 4, count := 8 }
/-- R272, Sequence running. -/
def RC.SYN_SEQ_RUN : Fld :=
  { unit := 6, off := 0x2a0, lo := 1, width := 1, acc := .ro, rst := 0x0, stride := 4, count := 8 }
/-- R272, R260. -/
def RC.SYN_READY : Fld :=
  { unit := 6, off := 0x2a0, lo := 0, width := 1, acc := .ro, rst := 0x0, stride := 4, count := 8 }
/-- R272, Bit s starts RECAL; rejected (MODE) in Cold and Kindling. -/
def RC.SYN_CTRL_RECAL : Fld :=
  { unit := 6, off := 0x2c0, lo := 0, width := 8, acc := .sc, rst := 0x0 }
/-- R272, R256. -/
def RC.PIN_FUNC : Fld :=
  { unit := 6, off := 0x300, lo := 28, width := 4, acc := .lk, rst := 0x0, stride := 4, count := 16 }
/-- R272, Group. -/
def RC.PIN_GROUP : Fld :=
  { unit := 6, off := 0x300, lo := 26, width := 2, acc := .lk, rst := 0x0, stride := 4, count := 16 }
/-- R272, 1 inverts. -/
def RC.PIN_POL : Fld :=
  { unit := 6, off := 0x300, lo := 25, width := 1, acc := .lk, rst := 0x0, stride := 4, count := 16 }
/-- R272, Safe level (R257). -/
def RC.PIN_SAFE : Fld :=
  { unit := 6, off := 0x300, lo := 24, width := 1, acc := .lk, rst := 0x0, stride := 4, count := 16 }
/-- R272, 1 open drain. -/
def RC.PIN_OD : Fld :=
  { unit := 6, off := 0x300, lo := 23, width := 1, acc := .lk, rst := 0x0, stride := 4, count := 16 }
/-- R272, Pin level. -/
def RC.PIN_LEVEL : Fld :=
  { unit := 6, off := 0x300, lo := 22, width := 1, acc := .ro, rst := 0x0, stride := 4, count := 16 }
/-- R272, Level for STATIC. -/
def RC.PIN_HOST_LVL : Fld :=
  { unit := 6, off := 0x300, lo := 21, width := 1, acc := .rw, rst := 0x0, stride := 4, count := 16 }
/-- R272, R257. -/
def RC.PIN_ADV_DT : Fld :=
  { unit := 6, off := 0x300, lo := 0, width := 10, acc := .lk, rst := 0x0, stride := 4, count := 16 }
/-- R272, LD input levels. -/
def RC.LD_LEVEL : Fld :=
  { unit := 6, off := 0x340, lo := 0, width := 4, acc := .ro, rst := 0x0 }
/-- R272, Host CSPI frame; accepted in Banked and Service only (MODE); chip select with HOST_OK = 0 rejected (RANGE). -/
def RC.XFER_GO : Fld :=
  { unit := 6, off := 0x380, lo := 31, width := 1, acc := .sc, rst := 0x0 }
/-- R272, 1 captures MISO into XFER_DATA. -/
def RC.XFER_READ : Fld :=
  { unit := 6, off := 0x380, lo := 30, width := 1, acc := .rw, rst := 0x0 }
/-- R272, Master. -/
def RC.XFER_MASTER : Fld :=
  { unit := 6, off := 0x380, lo := 29, width := 1, acc := .rw, rst := 0x0 }
/-- R272, Chip select. -/
def RC.XFER_CS : Fld :=
  { unit := 6, off := 0x380, lo := 27, width := 2, acc := .rw, rst := 0x0 }
/-- R272, Frame sent, low LEN bits; MISO after a read. -/
def RC.XFER_DATA : Fld :=
  { unit := 6, off := 0x384, lo := 0, width := 32, acc := .rw, rst := 0x0 }
/-- R272, Master 1 failures; 16 bits, saturating; cleared by CNT_CLEAR. -/
def RC.RFFE_ERR1 : Fld :=
  { unit := 6, off := 0x390, lo := 16, width := 16, acc := .ro, rst := 0x0, cntClear := true }
/-- R272, Master 0 failures; 16 bits, saturating; cleared by CNT_CLEAR. -/
def RC.RFFE_ERR0 : Fld :=
  { unit := 6, off := 0x390, lo := 0, width := 16, acc := .ro, rst := 0x0, cntClear := true }
/-- R273, 0b01 SEND, 0b10 LISTEN; 0b00 and 0b11 rejected within N_ENT. -/
def RC.T_KIND : Fld :=
  { unit := 6, off := 0x400, lo := 30, width := 2, acc := .lk, rst := 0x0, stride := 256, count := 4, stride2 := 8, count2 := 32 }
/-- R273, dt from the mark, below PERIOD_DT. -/
def RC.T_START : Fld :=
  { unit := 6, off := 0x400, lo := 0, width := 23, acc := .lk, rst := 0x0, stride := 256, count := 4, stride2 := 8, count2 := 32 }
/-- R273, dt, 1 to PERIOD_DT; 0 rejected. -/
def RC.T_LEN : Fld :=
  { unit := 6, off := 0x404, lo := 0, width := 23, acc := .lk, rst := 0x0, stride := 256, count := 4, stride2 := 8, count2 := 32, zeroRejected := true }
/-- R273, 0b00 CSPI write, 0b01 RFFE write, 0b10 WAIT, 0b11 END. -/
def RC.SEQ_OP : Fld :=
  { unit := 6, off := 0x800, lo := 30, width := 2, acc := .lk, rst := 0x3, stride := 8, count := 256 }
/-- R273, Master. -/
def RC.SEQ_MASTER : Fld :=
  { unit := 6, off := 0x800, lo := 29, width := 1, acc := .lk, rst := 0x0, stride := 8, count := 256 }
/-- R273, Chip select (CSPI). -/
def RC.SEQ_CS : Fld :=
  { unit := 6, off := 0x800, lo := 27, width := 2, acc := .lk, rst := 0x0, stride := 8, count := 256 }
/-- R273, USID (RFFE). -/
def RC.SEQ_USID : Fld :=
  { unit := 6, off := 0x800, lo := 23, width := 4, acc := .lk, rst := 0x0, stride := 8, count := 256 }
/-- R273, Register address (RFFE). -/
def RC.SEQ_ADDR : Fld :=
  { unit := 6, off := 0x800, lo := 0, width := 16, acc := .lk, rst := 0x0, stride := 8, count := 256 }
/-- R273, Frame (CSPI), data [7:0] (RFFE) or µs (WAIT). -/
def RC.SEQ_DATA : Fld :=
  { unit := 6, off := 0x804, lo := 0, width := 32, acc := .lk, rst := 0x0, stride := 8, count := 256 }

/-- Every field of a RC window. -/
def RC.all : List Fld :=
  [RC.G_ENABLE, RC.G_TDD, RC.G_SERVICE, RC.G_REST_LISTEN, RC.G_CAR_SS, RC.G_CAR, RC.G_RX_MAP, RC.G_TX_MAP, RC.G_N_ENT, RC.G_PERIOD_DT, RC.G_LAT_DT, RC.G_SWITCH_DT] ++
  [RC.G_SUB_DT, RC.G_BURST_RAMP, RC.G_OFF_REQ, RC.G_SKIP_RUN, RC.G_SYN_WAIT, RC.G_FAULT_MUTE, RC.G_OPEN_SHORT, RC.G_MM_MUTE, RC.G_MM_BO, RC.G_STATE, RC.G_FWD, RC.G_RL] ++
  [RC.G_SKIP_CNT, RC.G_MM_CNT, RC.G_RL_BO, RC.G_RL_MUTE, RC.G_RL_FAULT, RC.G_RL_HYST, RC.G_MM_N, RC.G_VSWR_CUT, RC.G_FWD_MIN, RC.G_MM_HOLD, RC.G_DET_SETTLE, RC.G_SKIP_MAX] ++
  [RC.G_TUNE_EN, RC.G_TUNE_PERIOD, RC.G_TUNE_AVG, RC.G_TUNE_MIN, RC.AX_EN, RC.AX_MASTER, RC.AX_USID, RC.AX_ADDR, RC.AX_CODE_MAX, RC.G_INIT1, RC.G_INIT0, RC.G_CODE1] ++
  [RC.G_CODE0, RC.G_TUNE_MOVES, RC.RFFE_EN, RC.RFFE_DIV, RC.CSPI_EN, RC.CSPI_DIV, RC.CS_HOST_OK, RC.CS_MODE3, RC.CS_LEN, RC.SYN_EN, RC.SYN_MASTER, RC.SYN_CS] ++
  [RC.SYN_LD, RC.SYN_GRP_MAP, RC.SYN_RECAL_DEG, RC.SYN_SETTLE_MIN, RC.SYN_SETTLE_BUDGET, RC.SYN_LD_QUAL, RC.SYN_PROG, RC.SYN_RECAL, RC.SYN_RECOVER, RC.SYN_LD_LOSS_CNT, RC.SYN_SETTLING, RC.SYN_SEQ_RUN] ++
  [RC.SYN_READY, RC.SYN_CTRL_RECAL, RC.PIN_FUNC, RC.PIN_GROUP, RC.PIN_POL, RC.PIN_SAFE, RC.PIN_OD, RC.PIN_LEVEL, RC.PIN_HOST_LVL, RC.PIN_ADV_DT, RC.LD_LEVEL, RC.XFER_GO] ++
  [RC.XFER_READ, RC.XFER_MASTER, RC.XFER_CS, RC.XFER_DATA, RC.RFFE_ERR1, RC.RFFE_ERR0, RC.T_KIND, RC.T_START, RC.T_LEN, RC.SEQ_OP, RC.SEQ_MASTER, RC.SEQ_CS] ++
  [RC.SEQ_USID, RC.SEQ_ADDR, RC.SEQ_DATA]

/-- R274, Carrier tracked. -/
def SD.K_EN : Fld :=
  { unit := 7, off := 0x100, lo := 31, width := 1, acc := .lk, rst := 0x0, stride := 64, count := 8 }
/-- R274, 1 LTE, 0 NR. -/
def SD.K_LTE : Fld :=
  { unit := 7, off := 0x100, lo := 30, width := 1, acc := .lk, rst := 0x0, stride := 64, count := 8 }
/-- R274, NR 30 kHz spacing. -/
def SD.K_SCS30 : Fld :=
  { unit := 7, off := 0x100, lo := 29, width := 1, acc := .lk, rst := 0x0, stride := 64, count := 8 }
/-- R274, 0 to 2, or 0b11 search (R241). -/
def SD.K_NID2 : Fld :=
  { unit := 7, off := 0x100, lo := 27, width := 2, acc := .lk, rst := 0x3, stride := 64, count := 8 }
/-- R274, Source RX link. -/
def SD.K_RXL : Fld :=
  { unit := 7, off := 0x100, lo := 24, width := 2, acc := .lk, rst := 0x0, stride := 64, count := 8 }
/-- R274, NR: 5, 10, 20, 40, 80, 160 ms for 0 to 5; 6 and 7 rejected. -/
def SD.K_SSB_PER : Fld :=
  { unit := 7, off := 0x100, lo := 21, width := 3, acc := .lk, rst := 0x2, stride := 64, count := 8, range := some (0, 5) }
/-- R274, R241, signed. -/
def SD.K_PSS_FTW : Fld :=
  { unit := 7, off := 0x104, lo := 0, width := 32, acc := .lk, rst := 0x0, stride := 64, count := 8 }
/-- R274, Below the mark period (R244). -/
def SD.K_PSS_OFS_DT : Fld :=
  { unit := 7, off := 0x108, lo := 0, width := 23, acc := .lk, rst := 0x0, stride := 64, count := 8 }
/-- R274, R244. -/
def SD.K_OTA_DT : Fld :=
  { unit := 7, off := 0x10c, lo := 16, width := 16, acc := .lk, rst := 0x0, stride := 64, count := 8 }
/-- R274, dt, 16 to 65,535. -/
def SD.K_SRCH_WIN : Fld :=
  { unit := 7, off := 0x10c, lo := 0, width := 16, acc := .lk, rst := 0x400, stride := 64, count := 8, range := some (16, 65535) }
/-- R274, 1/256 units, 16 to 255. -/
def SD.K_DET_THR : Fld :=
  { unit := 7, off := 0x110, lo := 24, width := 8, acc := .lk, rst := 0x40, stride := 64, count := 8, range := some (16, 255) }
/-- R274, dt, 1 to 255; 0 rejected. -/
def SD.K_LOCK_TOL : Fld :=
  { unit := 7, off := 0x110, lo := 16, width := 8, acc := .lk, rst := 0x8, stride := 64, count := 8, range := some (1, 255), zeroRejected := true }
/-- R274, 1 to 15; 0 rejected. -/
def SD.K_LOCK_N : Fld :=
  { unit := 7, off := 0x110, lo := 12, width := 4, acc := .lk, rst := 0x3, stride := 64, count := 8, range := some (1, 15), zeroRejected := true }
/-- R274, 1 to 15; 0 rejected. -/
def SD.K_UNLOCK_N : Fld :=
  { unit := 7, off := 0x110, lo := 8, width := 4, acc := .lk, rst := 0x4, stride := 64, count := 8, range := some (1, 15), zeroRejected := true }
/-- R274, 0 to 4. -/
def SD.K_TRACK_SH : Fld :=
  { unit := 7, off := 0x110, lo := 0, width := 3, acc := .lk, rst := 0x2, stride := 64, count := 8, range := some (0, 4) }
/-- R274, R243. -/
def SD.K_FRAME_LOCK : Fld :=
  { unit := 7, off := 0x114, lo := 31, width := 1, acc := .ro, rst := 0x0, stride := 64, count := 8 }
/-- R274, Marks exist (R246). -/
def SD.K_MARKS : Fld :=
  { unit := 7, off := 0x114, lo := 30, width := 1, acc := .ro, rst := 0x0, stride := 64, count := 8 }
/-- R274, R241. -/
def SD.K_NID2_FOUND : Fld :=
  { unit := 7, off := 0x114, lo := 28, width := 2, acc := .ro, rst := 0x0, stride := 64, count := 8 }
/-- R274, Last ρ, 1/256 units. -/
def SD.K_PEAK : Fld :=
  { unit := 7, off := 0x114, lo := 16, width := 8, acc := .ro, rst := 0x0, stride := 64, count := 8 }
/-- R274, Last P_pss, 0.01 dBFS, signed. -/
def SD.K_PSS_PWR : Fld :=
  { unit := 7, off := 0x114, lo := 0, width := 16, acc := .ro, rst := 0x8000, stride := 64, count := 8 }
/-- R274, R245, 0.1 Hz, signed. -/
def SD.K_CFO : Fld :=
  { unit := 7, off := 0x118, lo := 0, width := 24, acc := .ro, rst := 0x0, stride := 64, count := 8 }
/-- R274, Last e in dt, signed. -/
def SD.K_TIME_ERR : Fld :=
  { unit := 7, off := 0x11c, lo := 0, width := 16, acc := .ro, rst := 0x0, stride := 64, count := 8 }
/-- R274, Latest mark [31:0]; a read latches MARK_HI. -/
def SD.K_MARK_LO : Fld :=
  { unit := 7, off := 0x120, lo := 0, width := 32, acc := .ro, rst := 0x0, stride := 64, count := 8 }
/-- R274, Latest mark [63:32]. -/
def SD.K_MARK_HI : Fld :=
  { unit := 7, off := 0x124, lo := 0, width := 32, acc := .ro, rst := 0x0, stride := 64, count := 8 }
/-- R274, R242; 32 bits, wraps. -/
def SD.K_DET_CNT : Fld :=
  { unit := 7, off := 0x128, lo := 0, width := 32, acc := .ro, rst := 0x0, stride := 64, count := 8 }
/-- R274, Misplaced detections; 16 bits, saturating; cleared by CNT_CLEAR. -/
def SD.K_MISS_CNT : Fld :=
  { unit := 7, off := 0x12c, lo := 16, width := 16, acc := .ro, rst := 0x0, stride := 64, count := 8, cntClear := true }
/-- R274, R246; 16 bits, saturating; cleared by CNT_CLEAR. -/
def SD.K_JUMP_CNT : Fld :=
  { unit := 7, off := 0x12c, lo := 0, width := 16, acc := .ro, rst := 0x0, stride := 64, count := 8, cntClear := true }
/-- R274, 16 bits, saturating; cleared by CNT_CLEAR. -/
def SD.K_LOCK_LOSS_CNT : Fld :=
  { unit := 7, off := 0x130, lo := 16, width := 16, acc := .ro, rst := 0x0, stride := 64, count := 8, cntClear := true }
/-- R274, R243, 2^−16 dt per occurrence, signed. -/
def SD.K_RATE : Fld :=
  { unit := 7, off := 0x134, lo := 0, width := 32, acc := .ro, rst := 0x0, stride := 64, count := 8 }

/-- Every field of a SD window. -/
def SD.all : List Fld :=
  [SD.K_EN, SD.K_LTE, SD.K_SCS30, SD.K_NID2, SD.K_RXL, SD.K_SSB_PER, SD.K_PSS_FTW, SD.K_PSS_OFS_DT, SD.K_OTA_DT, SD.K_SRCH_WIN, SD.K_DET_THR, SD.K_LOCK_TOL] ++
  [SD.K_LOCK_N, SD.K_UNLOCK_N, SD.K_TRACK_SH, SD.K_FRAME_LOCK, SD.K_MARKS, SD.K_NID2_FOUND, SD.K_PEAK, SD.K_PSS_PWR, SD.K_CFO, SD.K_TIME_ERR, SD.K_MARK_LO, SD.K_MARK_HI] ++
  [SD.K_DET_CNT, SD.K_MISS_CNT, SD.K_JUMP_CNT, SD.K_LOCK_LOSS_CNT, SD.K_RATE]

/-- R435, Entry k recorded (R424). -/
def CR.EN : Fld :=
  { unit := 9, off := 0x100, lo := 31, width := 1, acc := .rw, rst := 0x0, stride := 4, count := 8 }
/-- R435, Unit address of the source. -/
def CR.UNIT : Fld :=
  { unit := 9, off := 0x100, lo := 0, width := 16, acc := .rw, rst := 0x0, stride := 4, count := 8 }
/-- R435, Bit i: capture point of cell i (R423). -/
def CR.CELL_POINT : Fld :=
  { unit := 9, off := 0x120, lo := 0, width := 32, acc := .rw, rst := 0x0 }
/-- R435, Chunks per source (R424). -/
def CR.DEPTH : Fld :=
  { unit := 9, off := 0x124, lo := 0, width := 16, acc := .ro, rst := 0x0 }
/-- R435, 11 MiB − D, in KiB. -/
def CR.RING_KIB : Fld :=
  { unit := 9, off := 0x128, lo := 0, width := 16, acc := .ro, rst := 0x0 }
/-- R435, Complete chunks held for entry k. -/
def CR.HELD : Fld :=
  { unit := 9, off := 0x130, lo := 0, width := 16, acc := .ro, rst := 0x0, stride := 4, count := 8 }
/-- R435, Samples gapped by R37; 32 bits, saturating; cleared by CNT_CLEAR. -/
def CR.SRAM_GAP : Fld :=
  { unit := 9, off := 0x150, lo := 0, width := 32, acc := .ro, rst := 0x0, cntClear := true }
/-- R435, Ring restarts (R424); 16 bits, saturating; cleared by CNT_CLEAR. -/
def CR.RESTART_CNT : Fld :=
  { unit := 9, off := 0x154, lo := 0, width := 16, acc := .ro, rst := 0x0, cntClear := true }

/-- Every field of a CR window. -/
def CR.all : List Fld :=
  [CR.EN, CR.UNIT, CR.CELL_POINT, CR.DEPTH, CR.RING_KIB, CR.HELD, CR.SRAM_GAP, CR.RESTART_CNT]

end Sys2Proof.Machine.Reg
end

