-- ==== Sys2Proof/Machine/RegsSense.lean ====
section
/-! DEFINITION. The register fields of HA, TM, CE, from the register tables of the spec (R298, R299, R462, R463, R464). Generated from those tables:
one descriptor per field, and per unit type the list of its fields. -/

namespace Sys2Proof.Machine.Reg

/-- R462, Timer starts enabled (R440). -/
def HA.TMR_EN : Fld :=
  { unit := 21, off := 0x100, lo := 31, width := 1, acc := .lk, rst := 0x0 }
/-- R462, Bit p: TRIGp starts a pass. -/
def HA.TRIG_MASK : Fld :=
  { unit := 21, off := 0x100, lo := 27, width := 4, acc := .lk, rst := 0x0 }
/-- R462, Entries per pass, 0 to 64; 0 runs no passes. -/
def HA.SEQ_LEN : Fld :=
  { unit := 21, off := 0x100, lo := 20, width := 7, acc := .lk, rst := 0x0, range := some (0, 64) }
/-- R462, Timer period in µs, 1 to 65,535; 0 rejected. -/
def HA.TMR_US : Fld :=
  { unit := 21, off := 0x100, lo := 0, width := 16, acc := .lk, rst := 0x3e8, range := some (1, 65535), zeroRejected := true }
/-- R462, Codes, 1 to 4,096; 0 rejected (R446). -/
def HA.VREF_TOL : Fld :=
  { unit := 21, off := 0x104, lo := 16, width := 16, acc := .lk, rst := 0x40, range := some (1, 4096), zeroRejected := true }
/-- R462, Droop backoff in 0.01 dB, 0 to 4,000 (R447). -/
def HA.DROOP_DB : Fld :=
  { unit := 21, off := 0x104, lo := 0, width := 16, acc := .lk, rst := 0x12c, range := some (0, 4000) }
/-- R462, Bit k: slot k pending. -/
def HA.URG_PEND : Fld :=
  { unit := 21, off := 0x108, lo := 12, width := 4, acc := .ro, rst := 0x0 }
/-- R462, Condition of R446. -/
def HA.VREF_FAULT : Fld :=
  { unit := 21, off := 0x108, lo := 11, width := 1, acc := .ro, rst := 0x0 }
/-- R462, Conversions at half rate (R438). -/
def HA.HALF : Fld :=
  { unit := 21, off := 0x108, lo := 10, width := 1, acc := .ro, rst := 0x0 }
/-- R462, Sweep in progress. -/
def HA.SWEEP_RUN : Fld :=
  { unit := 21, off := 0x108, lo := 9, width := 1, acc := .ro, rst := 0x0 }
/-- R462, Pass in progress. -/
def HA.PASS_RUN : Fld :=
  { unit := 21, off := 0x108, lo := 8, width := 1, acc := .ro, rst := 0x0 }
/-- R462, Entry being converted, or next. -/
def HA.CUR_ENTRY : Fld :=
  { unit := 21, off := 0x108, lo := 0, width := 6, acc := .ro, rst := 0x0 }
/-- R462, Bit k requests slot k; rejected (MODE) in Cold and Kindling. -/
def HA.URG_REQ : Fld :=
  { unit := 21, off := 0x10c, lo := 0, width := 4, acc := .sc, rst := 0x0 }
/-- R462, Completed passes; 32 bits, wraps. -/
def HA.PASS_CNT : Fld :=
  { unit := 21, off := 0x110, lo := 0, width := 32, acc := .ro, rst := 0x0 }
/-- R462, R440; 16 bits, saturating; cleared by CNT_CLEAR. -/
def HA.START_OVR : Fld :=
  { unit := 21, off := 0x114, lo := 16, width := 16, acc := .ro, rst := 0x0, cntClear := true }
/-- R462, R441; 16 bits, saturating; cleared by CNT_CLEAR. -/
def HA.URG_MERGE : Fld :=
  { unit := 21, off := 0x114, lo := 0, width := 16, acc := .ro, rst := 0x0, cntClear := true }
/-- R462, Last corrected VREF code. -/
def HA.VREF_CODE : Fld :=
  { unit := 21, off := 0x118, lo := 16, width := 16, acc := .ro, rst := 0x0 }
/-- R462, Last corrected ground code. -/
def HA.GND_CODE : Fld :=
  { unit := 21, off := 0x118, lo := 0, width := 16, acc := .ro, rst := 0x0 }
/-- R462, Bit r: rail r outside its failure window. -/
def HA.SUP_FAIL : Fld :=
  { unit := 21, off := 0x11c, lo := 8, width := 6, acc := .ro, rst := 0x0 }
/-- R462, Bit r: rail r outside its droop window. -/
def HA.SUP_DROOP : Fld :=
  { unit := 21, off := 0x11c, lo := 0, width := 6, acc := .ro, rst := 0x0 }
/-- R462, 0b00 host only, 0b01 TRIG pin, 0b10 Send start; 0b11 rejected. -/
def HA.U_SRC : Fld :=
  { unit := 21, off := 0x120, lo := 30, width := 2, acc := .lk, rst := 0x0, stride := 4, count := 4, range := some (0, 2) }
/-- R462, Section (SRC 2) or TRIG pin (SRC 1). -/
def HA.U_SS : Fld :=
  { unit := 21, off := 0x120, lo := 28, width := 2, acc := .lk, rst := 0x0, stride := 4, count := 4 }
/-- R462, Group (SRC 2). -/
def HA.U_GRP : Fld :=
  { unit := 21, off := 0x120, lo := 26, width := 2, acc := .lk, rst := 0x0, stride := 4, count := 4 }
/-- R462, 1 converts ENT_B after ENT_A. -/
def HA.U_PAIR : Fld :=
  { unit := 21, off := 0x120, lo := 25, width := 1, acc := .lk, rst := 0x0, stride := 4, count := 4 }
/-- R462, Entry. -/
def HA.U_ENT_A : Fld :=
  { unit := 21, off := 0x120, lo := 8, width := 6, acc := .lk, rst := 0x0, stride := 4, count := 4 }
/-- R462, Entry. -/
def HA.U_ENT_B : Fld :=
  { unit := 21, off := 0x120, lo := 0, width := 6, acc := .lk, rst := 0x0, stride := 4, count := 4 }
/-- R462, Slot k served; 16 bits, saturating; cleared by CNT_CLEAR. -/
def HA.URG_CNT : Fld :=
  { unit := 21, off := 0x130, lo := 0, width := 16, acc := .ro, rst := 0x0, stride := 4, count := 4, cntClear := true }
/-- R462, mV. -/
def HA.R_FAIL_LO : Fld :=
  { unit := 21, off := 0x140, lo := 16, width := 16, acc := .lk, rst := 0x0, rsts := [675, 765, 810, 675, 1620, 1620], stride := 8, count := 6 }
/-- R462, mV, FAIL_LO + 1 to DROOP_HI − 1. -/
def HA.R_DROOP_LO : Fld :=
  { unit := 21, off := 0x140, lo := 0, width := 16, acc := .lk, rst := 0x0, rsts := [713, 808, 855, 713, 1710, 1710], stride := 8, count := 6 }
/-- R462, mV, above DROOP_HI. -/
def HA.R_FAIL_HI : Fld :=
  { unit := 21, off := 0x144, lo := 16, width := 16, acc := .lk, rst := 0x0, rsts := [825, 935, 990, 825, 1980, 1980], stride := 8, count := 6 }
/-- R462, mV. -/
def HA.R_DROOP_HI : Fld :=
  { unit := 21, off := 0x144, lo := 0, width := 16, acc := .lk, rst := 0x0, rsts := [787, 892, 945, 787, 1890, 1890], stride := 8, count := 6 }
/-- R462, Last reading of rail r in mV. -/
def HA.RAIL_MV : Fld :=
  { unit := 21, off := 0x170, lo := 0, width := 16, acc := .ro, rst := 0x0, stride := 4, count := 6 }
/-- R463, Channel (R437). -/
def HA.ENT_CH : Fld :=
  { unit := 21, off := 0x200, lo := 26, width := 6, acc := .lk, rst := 0x0, stride := 8, count := 64, range := some (0, 47) }
/-- R463, 2^AVG conversions averaged. -/
def HA.ENT_AVG : Fld :=
  { unit := 21, off := 0x200, lo := 24, width := 2, acc := .lk, rst := 0x0, stride := 8, count := 64 }
/-- R463, Extra acquisition cycles, 0 to 255. -/
def HA.ENT_ACQ_EXT : Fld :=
  { unit := 21, off := 0x200, lo := 16, width := 8, acc := .lk, rst := 0x0, stride := 8, count := 64, range := some (0, 255) }
/-- R463, R444. -/
def HA.ENT_FUNC : Fld :=
  { unit := 21, off := 0x200, lo := 12, width := 4, acc := .lk, rst := 0x0, stride := 8, count := 64, range := some (0, 4) }
/-- R463, Detector curve, or thermistor set 0 to 7. -/
def HA.ENT_CURVE : Fld :=
  { unit := 21, off := 0x200, lo := 8, width := 4, acc := .lk, rst := 0x0, stride := 8, count := 64 }
/-- R463, Section of the group. -/
def HA.ENT_GRP_SS : Fld :=
  { unit := 21, off := 0x200, lo := 6, width := 2, acc := .lk, rst := 0x0, stride := 8, count := 64 }
/-- R463, Group. -/
def HA.ENT_GRP : Fld :=
  { unit := 21, off := 0x200, lo := 4, width := 2, acc := .lk, rst := 0x0, stride := 8, count := 64 }
/-- R463, R445. -/
def HA.ENT_WIN_ACT : Fld :=
  { unit := 21, off := 0x200, lo := 2, width := 2, acc := .lk, rst := 0x0, stride := 8, count := 64, range := some (0, 2) }
/-- R463, Upper limit in VALUE units, signed. -/
def HA.ENT_WIN_HI : Fld :=
  { unit := 21, off := 0x204, lo := 16, width := 16, acc := .lk, rst := 0x7fff, stride := 8, count := 64 }
/-- R463, Lower limit, below WIN_HI. -/
def HA.ENT_WIN_LO : Fld :=
  { unit := 21, off := 0x204, lo := 0, width := 16, acc := .lk, rst := 0x8000, stride := 8, count := 64 }
/-- R463, R444. -/
def HA.RES_VALUE : Fld :=
  { unit := 21, off := 0x400, lo := 16, width := 16, acc := .ro, rst := 0x8000, stride := 16, count := 64 }
/-- R463, Raw code. -/
def HA.RES_RAW : Fld :=
  { unit := 21, off := 0x400, lo := 0, width := 16, acc := .ro, rst := 0x0, stride := 16, count := 64 }
/-- R463, R446. -/
def HA.RES_VALID : Fld :=
  { unit := 21, off := 0x404, lo := 31, width := 1, acc := .ro, rst := 0x0, stride := 16, count := 64 }
/-- R463, R445. -/
def HA.RES_WIN_OUT : Fld :=
  { unit := 21, off := 0x404, lo := 30, width := 1, acc := .ro, rst := 0x0, stride := 16, count := 64 }
/-- R463, R444. -/
def HA.RES_OPEN : Fld :=
  { unit := 21, off := 0x404, lo := 29, width := 1, acc := .ro, rst := 0x0, stride := 16, count := 64 }
/-- R463, R444. -/
def HA.RES_SHORT : Fld :=
  { unit := 21, off := 0x404, lo := 28, width := 1, acc := .ro, rst := 0x0, stride := 16, count := 64 }
/-- R463, R443, in dt. -/
def HA.RES_SPAN : Fld :=
  { unit := 21, off := 0x404, lo := 0, width := 16, acc := .ro, rst := 0x0, stride := 16, count := 64 }
/-- R463, STAMP [31:0]. -/
def HA.RES_STAMP_LO : Fld :=
  { unit := 21, off := 0x408, lo := 0, width := 32, acc := .ro, rst := 0x0, stride := 16, count := 64 }
/-- R463, STAMP [63:32]. -/
def HA.RES_STAMP_HI : Fld :=
  { unit := 21, off := 0x40c, lo := 0, width := 32, acc := .ro, rst := 0x0, stride := 16, count := 64 }
/-- R463, Code of point j, ascending. -/
def HA.CURVE_CODE : Fld :=
  { unit := 21, off := 0x800, lo := 16, width := 16, acc := .lk, rst := 0x0, stride := 64, count := 16, stride2 := 4, count2 := 16 }
/-- R463, 0.01 dBm, signed. -/
def HA.CURVE_DBM : Fld :=
  { unit := 21, off := 0x800, lo := 0, width := 16, acc := .lk, rst := 0x0, stride := 64, count := 16, stride2 := 4, count2 := 16 }
/-- R463, Steinhart–Hart coefficients, binary32. -/
def HA.SET_A : Fld :=
  { unit := 21, off := 0xc00, lo := 0, width := 32, acc := .lk, rst := 0x0, stride := 16, count := 8 }
/-- R463, Steinhart–Hart coefficients, binary32. -/
def HA.SET_B : Fld :=
  { unit := 21, off := 0xc04, lo := 0, width := 32, acc := .lk, rst := 0x0, stride := 16, count := 8 }
/-- R463, Steinhart–Hart coefficients, binary32. -/
def HA.SET_C : Fld :=
  { unit := 21, off := 0xc08, lo := 0, width := 32, acc := .lk, rst := 0x0, stride := 16, count := 8 }
/-- R463, Ω, 1 to 4,294,967,295; 0 rejected. -/
def HA.SET_R_PULL : Fld :=
  { unit := 21, off := 0xc0c, lo := 0, width := 32, acc := .lk, rst := 0x2710, stride := 16, count := 8, range := some (1, 4294967295), zeroRejected := true }

/-- Every field of a HA window. -/
def HA.all : List Fld :=
  [HA.TMR_EN, HA.TRIG_MASK, HA.SEQ_LEN, HA.TMR_US, HA.VREF_TOL, HA.DROOP_DB, HA.URG_PEND, HA.VREF_FAULT, HA.HALF, HA.SWEEP_RUN, HA.PASS_RUN, HA.CUR_ENTRY] ++
  [HA.URG_REQ, HA.PASS_CNT, HA.START_OVR, HA.URG_MERGE, HA.VREF_CODE, HA.GND_CODE, HA.SUP_FAIL, HA.SUP_DROOP, HA.U_SRC, HA.U_SS, HA.U_GRP, HA.U_PAIR] ++
  [HA.U_ENT_A, HA.U_ENT_B, HA.URG_CNT, HA.R_FAIL_LO, HA.R_DROOP_LO, HA.R_FAIL_HI, HA.R_DROOP_HI, HA.RAIL_MV, HA.ENT_CH, HA.ENT_AVG, HA.ENT_ACQ_EXT, HA.ENT_FUNC] ++
  [HA.ENT_CURVE, HA.ENT_GRP_SS, HA.ENT_GRP, HA.ENT_WIN_ACT, HA.ENT_WIN_HI, HA.ENT_WIN_LO, HA.RES_VALUE, HA.RES_RAW, HA.RES_VALID, HA.RES_WIN_OUT, HA.RES_OPEN, HA.RES_SHORT] ++
  [HA.RES_SPAN, HA.RES_STAMP_LO, HA.RES_STAMP_HI, HA.CURVE_CODE, HA.CURVE_DBM, HA.SET_A, HA.SET_B, HA.SET_C, HA.SET_R_PULL]

/-- R464, Device level, T0 to T3. -/
def TM.LEVEL : Fld :=
  { unit := 22, off := 0x100, lo := 30, width := 2, acc := .ro, rst := 0x0 }
/-- R464, A level is tripped (R456). -/
def TM.SHUTDOWN : Fld :=
  { unit := 22, off := 0x100, lo := 29, width := 1, acc := .ro, rst := 0x0 }
/-- R464, 1 while THERM_N is asserted. -/
def TM.THERM_N : Fld :=
  { unit := 22, off := 0x100, lo := 28, width := 1, acc := .ro, rst := 0x0 }
/-- R464, R454. -/
def TM.FALL_HOLD : Fld :=
  { unit := 22, off := 0x100, lo := 27, width := 1, acc := .ro, rst := 0x0 }
/-- R464, R455. -/
def TM.RISE_ACT : Fld :=
  { unit := 22, off := 0x100, lo := 26, width := 1, acc := .ro, rst := 0x0 }
/-- R464, No valid on-die sensor (R451). -/
def TM.NO_DIE : Fld :=
  { unit := 22, off := 0x100, lo := 25, width := 1, acc := .ro, rst := 0x0 }
/-- R464, R458. -/
def TM.COMP_HELD : Fld :=
  { unit := 22, off := 0x100, lo := 24, width := 1, acc := .ro, rst := 0x0 }
/-- R464, External level in 0.01 °C, 0 to 15,000; 0x8000 none. -/
def TM.EXT_SD : Fld :=
  { unit := 22, off := 0x104, lo := 16, width := 16, acc := .lk, rst := 0x8000, range := some (0, 15000) }
/-- R464, 125.00 °C, from fuses. -/
def TM.NATIVE_SD : Fld :=
  { unit := 22, off := 0x104, lo := 0, width := 16, acc := .ro, rst := 0x30d4 }
/-- R464, 0.01 dB, BO_T2 to 4,000. -/
def TM.BO_T3 : Fld :=
  { unit := 22, off := 0x108, lo := 16, width := 16, acc := .lk, rst := 0x258 }
/-- R464, 0.01 dB, 0 to 4,000. -/
def TM.BO_T2 : Fld :=
  { unit := 22, off := 0x108, lo := 0, width := 16, acc := .lk, rst := 0x12c, range := some (0, 4000) }
/-- R464, Highest TEMP of sensors 0 to 7. -/
def TM.HOT_DIE : Fld :=
  { unit := 22, off := 0x10c, lo := 16, width := 16, acc := .ro, rst := 0x8000 }
/-- R464, Highest TEMP of all enabled sensors. -/
def TM.HOT_ALL : Fld :=
  { unit := 22, off := 0x10c, lo := 0, width := 16, acc := .ro, rst := 0x8000 }
/-- R464, ms, 0 to 30,000 (R457). -/
def TM.RESTART_LEFT : Fld :=
  { unit := 22, off := 0x110, lo := 16, width := 16, acc := .ro, rst := 0x0 }
/-- R464, Trips; 16 bits, saturating; cleared by CNT_CLEAR. -/
def TM.SD_CNT : Fld :=
  { unit := 22, off := 0x110, lo := 0, width := 16, acc := .ro, rst := 0x0, cntClear := true }
/-- R464, Sensor failures; 16 bits, saturating; cleared by CNT_CLEAR. -/
def TM.FAIL_CNT : Fld :=
  { unit := 22, off := 0x114, lo := 16, width := 16, acc := .ro, rst := 0x0, cntClear := true }
/-- R464, Level changes; 16 bits, saturating; cleared by CNT_CLEAR. -/
def TM.LEVEL_CHG : Fld :=
  { unit := 22, off := 0x114, lo := 0, width := 16, acc := .ro, rst := 0x0, cntClear := true }
/-- R464, Compensation temperature (R458). -/
def TM.COMP_T : Fld :=
  { unit := 22, off := 0x118, lo := 16, width := 16, acc := .ro, rst := 0x8000 }
/-- R464, Sensor 0 to 31. -/
def TM.COMP_SENSOR : Fld :=
  { unit := 22, off := 0x118, lo := 0, width := 5, acc := .lk, rst := 0x0, range := some (0, 31) }
/-- R464, Sensor used; RO for sensors 0 to 7. -/
def TM.S_EN : Fld :=
  { unit := 22, off := 0x200, lo := 31, width := 1, acc := .lk, rst := 0x0, rsts := [1, 1, 1, 1, 1, 1, 1, 1], stride := 8, count := 32 }
/-- R464, Neighbourhood. -/
def TM.S_NBHD : Fld :=
  { unit := 22, off := 0x200, lo := 28, width := 3, acc := .lk, rst := 0x0, stride := 8, count := 32 }
/-- R464, Compared with EXT_SD. -/
def TM.S_EXT_SD_EN : Fld :=
  { unit := 22, off := 0x200, lo := 27, width := 1, acc := .lk, rst := 0x0, stride := 8, count := 32 }
/-- R464, Sequence entry of FUNC 4, for sensors 16 to 31. -/
def TM.S_ENTRY : Fld :=
  { unit := 22, off := 0x200, lo := 20, width := 6, acc := .lk, rst := 0x0, stride := 8, count := 32 }
/-- R464, 0.01 °C, −1,000 to 1,000. -/
def TM.S_OFFSET : Fld :=
  { unit := 22, off := 0x200, lo := 0, width := 16, acc := .lk, rst := 0x0, stride := 8, count := 32, range := some (-1000, 1000) }
/-- R464, R450. -/
def TM.S_FAILED : Fld :=
  { unit := 22, off := 0x204, lo := 31, width := 1, acc := .ro, rst := 0x0, stride := 8, count := 32 }
/-- R464, R451. -/
def TM.S_SUBST : Fld :=
  { unit := 22, off := 0x204, lo := 30, width := 1, acc := .ro, rst := 0x0, stride := 8, count := 32 }
/-- R464, 0b00 none, 0b01 open, 0b10 short or stuck, 0b11 median. -/
def TM.S_FAIL_WHY : Fld :=
  { unit := 22, off := 0x204, lo := 28, width := 2, acc := .ro, rst := 0x0, stride := 8, count := 32 }
/-- R464, R448. -/
def TM.S_TEMP : Fld :=
  { unit := 22, off := 0x204, lo := 0, width := 16, acc := .ro, rst := 0x8000, stride := 8, count := 32 }
/-- R464, Ideality in units of 2^−14, 0x3C00 to 0x4400. -/
def TM.D_ETA : Fld :=
  { unit := 22, off := 0x300, lo := 16, width := 16, acc := .lk, rst := 0x4083, stride := 4, count := 8, range := some (15360, 17408) }
/-- R464, Series resistance in 0.1 Ω (R449). -/
def TM.D_RS : Fld :=
  { unit := 22, off := 0x300, lo := 0, width := 16, acc := .ro, rst := 0x0, stride := 4, count := 8 }
/-- R464, 0.01 °C, 0 to TH2 − 1. -/
def TM.N_TH1 : Fld :=
  { unit := 22, off := 0x400, lo := 16, width := 16, acc := .lk, rst := 0x2710, stride := 16, count := 8 }
/-- R464, TH1 + 1 to TH3 − 1. -/
def TM.N_TH2 : Fld :=
  { unit := 22, off := 0x400, lo := 0, width := 16, acc := .lk, rst := 0x2904, stride := 16, count := 8 }
/-- R464, TH2 + 1 to 12,499. -/
def TM.N_TH3 : Fld :=
  { unit := 22, off := 0x404, lo := 16, width := 16, acc := .lk, rst := 0x2af8, stride := 16, count := 8, range := some (1, 12499) }
/-- R464, 0.01 °C, 100 to 5,000. -/
def TM.N_LIMIT : Fld :=
  { unit := 22, off := 0x404, lo := 0, width := 16, acc := .lk, rst := 0x1f4, stride := 16, count := 8, range := some (100, 5000) }
/-- R464, 0.01 °C, 0 to 2,000. -/
def TM.N_SUB_MARGIN : Fld :=
  { unit := 22, off := 0x408, lo := 16, width := 16, acc := .lk, rst := 0x12c, stride := 16, count := 8, range := some (0, 2000) }
/-- R464, R455. -/
def TM.N_RISE_EN : Fld :=
  { unit := 22, off := 0x408, lo := 15, width := 1, acc := .lk, rst := 0x0, stride := 16, count := 8 }
/-- R464, 0.1 °C/s, 1 to 255; 0 rejected. -/
def TM.N_RISE_LIM : Fld :=
  { unit := 22, off := 0x408, lo := 0, width := 8, acc := .lk, rst := 0x14, stride := 16, count := 8, range := some (1, 255), zeroRejected := true }
/-- R464, R451. -/
def TM.N_NB_HOT : Fld :=
  { unit := 22, off := 0x40c, lo := 16, width := 16, acc := .ro, rst := 0x8000, stride := 16, count := 8 }
/-- R464, Neighbourhood level. -/
def TM.N_NB_LEVEL : Fld :=
  { unit := 22, off := 0x40c, lo := 0, width := 2, acc := .ro, rst := 0x0, stride := 16, count := 8 }
/-- R464, 0.01 °C, ascending. -/
def TM.CURVE_T_PT : Fld :=
  { unit := 22, off := 0x500, lo := 16, width := 16, acc := .lk, rst := 0x0, stride := 4, count := 16 }
/-- R464, VTUNE codes, signed. -/
def TM.CURVE_DCODE : Fld :=
  { unit := 22, off := 0x500, lo := 0, width := 16, acc := .lk, rst := 0x0, stride := 4, count := 16 }

/-- Every field of a TM window. -/
def TM.all : List Fld :=
  [TM.LEVEL, TM.SHUTDOWN, TM.THERM_N, TM.FALL_HOLD, TM.RISE_ACT, TM.NO_DIE, TM.COMP_HELD, TM.EXT_SD, TM.NATIVE_SD, TM.BO_T3, TM.BO_T2, TM.HOT_DIE] ++
  [TM.HOT_ALL, TM.RESTART_LEFT, TM.SD_CNT, TM.FAIL_CNT, TM.LEVEL_CHG, TM.COMP_T, TM.COMP_SENSOR, TM.S_EN, TM.S_NBHD, TM.S_EXT_SD_EN, TM.S_ENTRY, TM.S_OFFSET] ++
  [TM.S_FAILED, TM.S_SUBST, TM.S_FAIL_WHY, TM.S_TEMP, TM.D_ETA, TM.D_RS, TM.N_TH1, TM.N_TH2, TM.N_TH3, TM.N_LIMIT, TM.N_SUB_MARGIN, TM.N_RISE_EN] ++
  [TM.N_RISE_LIM, TM.N_NB_HOT, TM.N_NB_LEVEL, TM.CURVE_T_PT, TM.CURVE_DCODE]

/-- R298, Steep time in ms, 100 to 10,000; 0 rejected. -/
def CE.STEEP_MS : Fld :=
  { unit := 24, off := 0x100, lo := 16, width := 16, acc := .lk, rst := 0x64, range := some (100, 10000), zeroRejected := true }
/-- R298, R278. -/
def CE.AUTO_EN : Fld :=
  { unit := 24, off := 0x100, lo := 0, width := 1, acc := .lk, rst := 0x0 }
/-- R298, 0.01 dB, 1 to 500. -/
def CE.TOL_IRR : Fld :=
  { unit := 24, off := 0x104, lo := 16, width := 16, acc := .lk, rst := 0x32, range := some (1, 500) }
/-- R298, 0.01°, 1 to 500. -/
def CE.TOL_PH : Fld :=
  { unit := 24, off := 0x104, lo := 0, width := 16, acc := .lk, rst := 0x14, range := some (1, 500) }
/-- R298, 0.01 dBFS, signed, −9,000 to −3,000. -/
def CE.TOL_DC : Fld :=
  { unit := 24, off := 0x108, lo := 16, width := 16, acc := .lk, rst := 0xe638, range := some (-9000, -3000) }
/-- R298, 0.01 dB, 1 to 300. -/
def CE.TOL_FLAT : Fld :=
  { unit := 24, off := 0x108, lo := 0, width := 16, acc := .lk, rst := 0x1e, range := some (1, 300) }
/-- R298, 0.1 ppb, 1 to 1,000. -/
def CE.REF_TOL : Fld :=
  { unit := 24, off := 0x10c, lo := 16, width := 16, acc := .lk, rst := 0x32, range := some (1, 1000) }
/-- R298, Codes, 1 to 255; 0 rejected. -/
def CE.DET_TOL : Fld :=
  { unit := 24, off := 0x10c, lo := 8, width := 8, acc := .lk, rst := 0x8, range := some (1, 255), zeroRejected := true }
/-- R298, 0.01 dBFS, signed. -/
def CE.PWR_MAX : Fld :=
  { unit := 24, off := 0x110, lo := 16, width := 16, acc := .lk, rst := 0xfc18 }
/-- R298, 0.01 dBFS, signed, below PWR_MAX. -/
def CE.PWR_MIN : Fld :=
  { unit := 24, off := 0x110, lo := 0, width := 16, acc := .lk, rst := 0xe890 }
/-- R298, %, 1 to 100. -/
def CE.COVER_PCT : Fld :=
  { unit := 24, off := 0x114, lo := 24, width := 8, acc := .lk, rst := 0x3c, range := some (1, 100) }
/-- R298, dB, 1 to 40. -/
def CE.COVER_DB : Fld :=
  { unit := 24, off := 0x114, lo := 16, width := 8, acc := .lk, rst := 0xa, range := some (1, 40) }
/-- R298, 0.1 dB, 1 to 255. -/
def CE.FLAT_DB : Fld :=
  { unit := 24, off := 0x114, lo := 8, width := 8, acc := .lk, rst := 0x64, range := some (1, 255) }
/-- R298, 0.1 dB, 1 to 255. -/
def CE.STAT_DB : Fld :=
  { unit := 24, off := 0x114, lo := 0, width := 8, acc := .lk, rst := 0xa, range := some (1, 255) }
/-- R298, dB, 10 to 40. -/
def CE.IQ_LIM : Fld :=
  { unit := 24, off := 0x118, lo := 24, width := 8, acc := .lk, rst := 0x18, range := some (10, 40) }
/-- R298, dB below full scale, 6 to 60. -/
def CE.DC_LIM : Fld :=
  { unit := 24, off := 0x118, lo := 16, width := 8, acc := .lk, rst := 0x14, range := some (6, 60) }
/-- R298, Minutes, 1 to 65,535; 0 rejected. -/
def CE.AUTO_MIN : Fld :=
  { unit := 24, off := 0x118, lo := 0, width := 16, acc := .lk, rst := 0x5a0, range := some (1, 65535), zeroRejected := true }
/-- R298, Per tick, units of 2⁻²⁴; 0 rejected. -/
def CE.STEP_IQ : Fld :=
  { unit := 24, off := 0x11c, lo := 16, width := 16, acc := .lk, rst := 0x1000, zeroRejected := true }
/-- R298, Per tick, units of 2⁻²⁴; 0 rejected. -/
def CE.STEP_DC : Fld :=
  { unit := 24, off := 0x11c, lo := 0, width := 16, acc := .lk, rst := 0x100, zeroRejected := true }
/-- R298, Per tick, Q2.14 LSBs; 0 rejected. -/
def CE.STEP_EQ : Fld :=
  { unit := 24, off := 0x120, lo := 16, width := 16, acc := .lk, rst := 0x10, zeroRejected := true }
/-- R298, Codes per tick; 0 rejected. -/
def CE.STEP_DET : Fld :=
  { unit := 24, off := 0x120, lo := 8, width := 8, acc := .lk, rst := 0x1, zeroRejected := true }
/-- R298, VTUNE codes per tick; 0 rejected. -/
def CE.VT_STEP : Fld :=
  { unit := 24, off := 0x120, lo := 0, width := 8, acc := .lk, rst := 0x1, zeroRejected := true }
/-- R298, ms, 10 to 60,000; 0 rejected. -/
def CE.AUTO_RUN_MS : Fld :=
  { unit := 24, off := 0x124, lo := 16, width := 16, acc := .lk, rst := 0x3e8, range := some (10, 60000), zeroRejected := true }
/-- R298, Target unit address. -/
def CE.SLOT_TARGET : Fld :=
  { unit := 24, off := 0x140, lo := 16, width := 16, acc := .ro, rst := 0x0, stride := 8, count := 16 }
/-- R298, R275; 0x0 for an idle slot. -/
def CE.SLOT_KIND : Fld :=
  { unit := 24, off := 0x140, lo := 12, width := 4, acc := .ro, rst := 0x0, stride := 8, count := 16 }
/-- R298, R278. -/
def CE.SLOT_NO_APPLY : Fld :=
  { unit := 24, off := 0x140, lo := 11, width := 1, acc := .ro, rst := 0x0, stride := 8, count := 16 }
/-- R298, Started automatically. -/
def CE.SLOT_AUTO : Fld :=
  { unit := 24, off := 0x140, lo := 10, width := 1, acc := .ro, rst := 0x0, stride := 8, count := 16 }
/-- R298, 0b00 idle, 0b01 half A, 0b10 half B, 0b11 ended. -/
def CE.SLOT_PHASE : Fld :=
  { unit := 24, off := 0x140, lo := 8, width := 2, acc := .ro, rst := 0x0, stride := 8, count := 16 }
/-- R298, R280. -/
def CE.SLOT_REASON : Fld :=
  { unit := 24, off := 0x140, lo := 0, width := 8, acc := .ro, rst := 0x0, stride := 8, count := 16 }
/-- R298, Run number since reset; 32 bits, wraps. -/
def CE.SLOT_RUN_ID : Fld :=
  { unit := 24, off := 0x144, lo := 0, width := 32, acc := .ro, rst := 0x0, stride := 8, count := 16 }
/-- R298, Runs not accepted; 16 bits, saturating; cleared by CNT_CLEAR. -/
def CE.REJ_CNT : Fld :=
  { unit := 24, off := 0x1c0, lo := 16, width := 16, acc := .ro, rst := 0x0, cntClear := true }
/-- R298, Runs accepted; 16 bits, saturating; cleared by CNT_CLEAR. -/
def CE.ACC_CNT : Fld :=
  { unit := 24, off := 0x1c0, lo := 0, width := 16, acc := .ro, rst := 0x0, cntClear := true }
/-- R298, A set is loaded or committed. -/
def CE.SET_VALID : Fld :=
  { unit := 24, off := 0x200, lo := 31, width := 1, acc := .ro, rst := 0x0 }
/-- R298, R294. -/
def CE.DIRTY : Fld :=
  { unit := 24, off := 0x200, lo := 30, width := 1, acc := .ro, rst := 0x0 }
/-- R298, Sticky; a commit failed; cleared by writing 1. -/
def CE.STORE_ERR : Fld :=
  { unit := 24, off := 0x200, lo := 29, width := 1, acc := .w1c, rst := 0x0 }
/-- R298, 0 CAL_A, 1 CAL_B. -/
def CE.SET_SLOT : Fld :=
  { unit := 24, off := 0x200, lo := 28, width := 1, acc := .ro, rst := 0x0 }
/-- R298, Entries ignored at load (R293). -/
def CE.IGNORED : Fld :=
  { unit := 24, off := 0x200, lo := 0, width := 16, acc := .ro, rst := 0x0 }
/-- R298, SEQ [31:0]; a read latches SET_SEQ_HI. -/
def CE.SET_SEQ_LO : Fld :=
  { unit := 24, off := 0x204, lo := 0, width := 32, acc := .ro, rst := 0x0 }
/-- R298, SEQ [63:32]. -/
def CE.SET_SEQ_HI : Fld :=
  { unit := 24, off := 0x208, lo := 0, width := 32, acc := .ro, rst := 0x0 }
/-- R298, 16 bits, saturating; cleared by CNT_CLEAR. -/
def CE.STORE_FAIL : Fld :=
  { unit := 24, off := 0x20c, lo := 0, width := 16, acc := .ro, rst := 0x0, cntClear := true }
/-- R298, Digest bytes 0 to 63, byte 0 in bits [7:0] of 0x210. -/
def CE.SET_DIGEST : Fld :=
  { unit := 24, off := 0x210, lo := 0, width := 32, acc := .ro, rst := 0x0, stride := 4, count := 16 }
/-- R299, R288. -/
def CE.REF_EN : Fld :=
  { unit := 24, off := 0x300, lo := 31, width := 1, acc := .lk, rst := 0x0 }
/-- R299, Section of the carrier. -/
def CE.REF_SS : Fld :=
  { unit := 24, off := 0x300, lo := 29, width := 2, acc := .lk, rst := 0x0 }
/-- R299, Carrier index. -/
def CE.REF_CAR : Fld :=
  { unit := 24, off := 0x300, lo := 26, width := 3, acc := .lk, rst := 0x0 }
/-- R299, VTUNE without a stored code. -/
def CE.VT_INIT : Fld :=
  { unit := 24, off := 0x300, lo := 0, width := 14, acc := .lk, rst := 0x2000 }
/-- R299, kHz; 0 rejected when REF_EN = 1. -/
def CE.CAR_RF : Fld :=
  { unit := 24, off := 0x304, lo := 0, width := 24, acc := .lk, rst := 0x0 }
/-- R299, 0.001 ppb per code; 0 rejected. -/
def CE.KV : Fld :=
  { unit := 24, off := 0x308, lo := 16, width := 16, acc := .lk, rst := 0x32, zeroRejected := true }
/-- R299, 1 to 255; 0 rejected. -/
def CE.DISC_GAIN : Fld :=
  { unit := 24, off := 0x308, lo := 8, width := 8, acc := .lk, rst := 0x40, range := some (1, 255), zeroRejected := true }
/-- R299, s, 1 to 255; 0 rejected. -/
def CE.DISC_HOLD : Fld :=
  { unit := 24, off := 0x308, lo := 0, width := 8, acc := .lk, rst := 0xa, range := some (1, 255), zeroRejected := true }
/-- R299, Live VTUNE code. -/
def CE.VT_CUR : Fld :=
  { unit := 24, off := 0x30c, lo := 16, width := 14, acc := .ro, rst := 0x2000 }
/-- R299, Steep target. -/
def CE.VT_TGT : Fld :=
  { unit := 24, off := 0x30c, lo := 0, width := 14, acc := .ro, rst := 0x2000 }
/-- R299, Last accepted e, 0.1 ppb, signed. -/
def CE.REF_ERR : Fld :=
  { unit := 24, off := 0x310, lo := 16, width := 16, acc := .ro, rst := 0x0 }
/-- R299, s, 1 to 255; 0 rejected. -/
def CE.REF_RELOCK : Fld :=
  { unit := 24, off := 0x310, lo := 8, width := 8, acc := .lk, rst := 0xa, range := some (1, 255), zeroRejected := true }
/-- R299, 0b00 FREE, 0b01 DISC, 0b10 HOLD; 0b11 reserved. -/
def CE.REF_STATE : Fld :=
  { unit := 24, off := 0x310, lo := 0, width := 2, acc := .ro, rst := 0x0 }
/-- R299, R289. -/
def CE.VT_HOLD : Fld :=
  { unit := 24, off := 0x314, lo := 4, width := 14, acc := .ro, rst := 0x2000 }
/-- R299, 0.01 °C, signed. -/
def CE.T_HOLD : Fld :=
  { unit := 24, off := 0x318, lo := 0, width := 16, acc := .ro, rst := 0x0 }
/-- R299, α real part, Q1.30. -/
def CE.RX_ALPHA_I : Fld :=
  { unit := 24, off := 0x400, lo := 0, width := 32, acc := .ro, rst := 0x0, stride := 16, count := 16 }
/-- R299, α imaginary part. -/
def CE.RX_ALPHA_Q : Fld :=
  { unit := 24, off := 0x404, lo := 0, width := 32, acc := .ro, rst := 0x0, stride := 16, count := 16 }
/-- R299, d_rx real part. -/
def CE.RX_DC_I : Fld :=
  { unit := 24, off := 0x408, lo := 0, width := 32, acc := .ro, rst := 0x0, stride := 16, count := 16 }
/-- R299, d_rx imaginary part. -/
def CE.RX_DC_Q : Fld :=
  { unit := 24, off := 0x40c, lo := 0, width := 32, acc := .ro, rst := 0x0, stride := 16, count := 16 }
/-- R299, β real part, Q1.30. -/
def CE.TX_BETA_I : Fld :=
  { unit := 24, off := 0x500, lo := 0, width := 32, acc := .ro, rst := 0x0, stride := 16, count := 16 }
/-- R299, β imaginary part. -/
def CE.TX_BETA_Q : Fld :=
  { unit := 24, off := 0x504, lo := 0, width := 32, acc := .ro, rst := 0x0, stride := 16, count := 16 }
/-- R299, d_tx real part. -/
def CE.TX_LO_I : Fld :=
  { unit := 24, off := 0x508, lo := 0, width := 32, acc := .ro, rst := 0x0, stride := 16, count := 16 }
/-- R299, d_tx imaginary part. -/
def CE.TX_LO_Q : Fld :=
  { unit := 24, off := 0x50c, lo := 0, width := 32, acc := .ro, rst := 0x0, stride := 16, count := 16 }
/-- R299, Offset in codes, signed (R277). -/
def CE.DET_OFS : Fld :=
  { unit := 24, off := 0x600, lo := 0, width := 16, acc := .ro, rst := 0x0, stride := 4, count := 32 }
/-- R299, Image pair declared (R283). -/
def CE.IMG_EN : Fld :=
  { unit := 24, off := 0x700, lo := 31, width := 1, acc := .lk, rst := 0x0, stride := 8, count := 16 }
/-- R299, Section of path q. -/
def CE.IMG_SS : Fld :=
  { unit := 24, off := 0x700, lo := 28, width := 2, acc := .lk, rst := 0x0, stride := 8, count := 16 }
/-- R299, Index of q in that Slice. -/
def CE.IMG_PATH : Fld :=
  { unit := 24, off := 0x700, lo := 16, width := 8, acc := .lk, rst := 0x0, stride := 8, count := 16 }
/-- R299, Unit address of s′. -/
def CE.IMG_SRC : Fld :=
  { unit := 24, off := 0x700, lo := 0, width := 16, acc := .lk, rst := 0x0, stride := 8, count := 16 }
/-- R299, LO path declared (R283). -/
def CE.LO_EN : Fld :=
  { unit := 24, off := 0x704, lo := 31, width := 1, acc := .lk, rst := 0x0, stride := 8, count := 16 }
/-- R299, Section of path q′. -/
def CE.LO_SS : Fld :=
  { unit := 24, off := 0x704, lo := 28, width := 2, acc := .lk, rst := 0x0, stride := 8, count := 16 }
/-- R299, Index of q′ in that Slice. -/
def CE.LO_PATH : Fld :=
  { unit := 24, off := 0x704, lo := 16, width := 8, acc := .lk, rst := 0x0, stride := 8, count := 16 }

/-- Every field of a CE window. -/
def CE.all : List Fld :=
  [CE.STEEP_MS, CE.AUTO_EN, CE.TOL_IRR, CE.TOL_PH, CE.TOL_DC, CE.TOL_FLAT, CE.REF_TOL, CE.DET_TOL, CE.PWR_MAX, CE.PWR_MIN, CE.COVER_PCT, CE.COVER_DB] ++
  [CE.FLAT_DB, CE.STAT_DB, CE.IQ_LIM, CE.DC_LIM, CE.AUTO_MIN, CE.STEP_IQ, CE.STEP_DC, CE.STEP_EQ, CE.STEP_DET, CE.VT_STEP, CE.AUTO_RUN_MS, CE.SLOT_TARGET] ++
  [CE.SLOT_KIND, CE.SLOT_NO_APPLY, CE.SLOT_AUTO, CE.SLOT_PHASE, CE.SLOT_REASON, CE.SLOT_RUN_ID, CE.REJ_CNT, CE.ACC_CNT, CE.SET_VALID, CE.DIRTY, CE.STORE_ERR, CE.SET_SLOT] ++
  [CE.IGNORED, CE.SET_SEQ_LO, CE.SET_SEQ_HI, CE.STORE_FAIL, CE.SET_DIGEST, CE.REF_EN, CE.REF_SS, CE.REF_CAR, CE.VT_INIT, CE.CAR_RF, CE.KV, CE.DISC_GAIN] ++
  [CE.DISC_HOLD, CE.VT_CUR, CE.VT_TGT, CE.REF_ERR, CE.REF_RELOCK, CE.REF_STATE, CE.VT_HOLD, CE.T_HOLD, CE.RX_ALPHA_I, CE.RX_ALPHA_Q, CE.RX_DC_I, CE.RX_DC_Q] ++
  [CE.TX_BETA_I, CE.TX_BETA_Q, CE.TX_LO_I, CE.TX_LO_Q, CE.DET_OFS, CE.IMG_EN, CE.IMG_SS, CE.IMG_PATH, CE.IMG_SRC, CE.LO_EN, CE.LO_SS, CE.LO_PATH]

end Sys2Proof.Machine.Reg
end

