-- ==== Sys2Proof/Machine/CellOps.lean ====
section
/-! DEFINITION. Band cells as the rest of the block sees them: their timing and passbands (R116, R122, R129, R169), the
mute and limit causes, state and gain that follow from the rest of the state (R150 to R159, R79, R233), Damper freezing
(R188), and the Combiner's gates (R163, R164). -/

namespace Sys2Proof.Machine

/-! ### Timing and passband -/

/-- P, the cell period in dt (R116). -/
def Dev.period (d : Dev) (c : Nat) : Nat := 2 ^ d.rd c Reg.BC.CELL_RATE

/-- The cell rate in samples per second (R116). -/
def Dev.cellRate (d : Dev) (c : Nat) : Nat := 491520000 / d.period c

/-- The RX link that a cell names (R143). -/
def Dev.rxlOf (d : Dev) (c : Nat) : Nat := rxlU (secOf c) (d.rd c Reg.BC.RXL)

/-- The TX link of a cell's Combiner (R143). -/
def Dev.txlOf (d : Dev) (c : Nat) : Nat := txlU (secOf c) (d.rd c Reg.BC.CB)

/-- Either link of the cell carries S16N (R135). -/
def Dev.evenGrid (d : Dev) (c : Nat) : Bool := d.fmt (d.rxlOf c) == 2 || d.fmt (d.txlOf c) == 2

/-- p0 of a chain on a link of the given format (R116). -/
def firstPos (fmt : Nat) : Nat := if fmt = 2 then 2 else 1

/-- D_dec or D_int (R123). -/
def chainDelay (s p0 : Nat) : Nat := 31 * (2 ^ s - 2 ^ (p0 - 1))

/-- D_dec of a cell. -/
def Dev.dDec (d : Dev) (c : Nat) : Nat := chainDelay (d.rd c Reg.BC.CELL_RATE) (firstPos (d.fmt (d.rxlOf c)))

/-- D_int of a cell. -/
def Dev.dInt (d : Dev) (c : Nat) : Nat := chainDelay (d.rd c Reg.BC.CELL_RATE) (firstPos (d.fmt (d.txlOf c)))

/-- TX_ALIGN (R129). -/
def Dev.txAlign (d : Dev) (c : Nat) : Nat := if d.fmt (d.rxlOf c) ≠ 2 ∧ d.fmt (d.txlOf c) = 2 then 1 else 0

/-- CORE (R129). -/
def Dev.core (d : Dev) (c : Nat) : Nat := 14 * d.period c

/-- RX_CHAIN_DT (R130). -/
def Dev.rxChain (d : Dev) (c : Nat) : Nat := 28 + d.dDec c

/-- TX_CHAIN_DT (R130). -/
def Dev.txChain (d : Dev) (c : Nat) : Nat := d.dInt c + d.txAlign c + 18 + 384

/-- CELL_LATENCY (R130). -/
def Dev.cellLatency (d : Dev) (c : Nat) : Nat :=
  d.release (d.rxlOf c) + d.rxChain c + d.core c + d.txChain c + txf (d.fmt (d.txlOf c))

/-- PATH_LATENCY (R130). -/
def Dev.pathLatency (d : Dev) (c : Nat) : Nat :=
  d.cellLatency c + d.rd (d.rxlOf c) Reg.RXL.ADC_LAT + d.rd (d.txlOf c) Reg.TXL.DAC_LAT

/-- The settling interval of a sync event (R135). -/
def Dev.settling (d : Dev) (c : Nat) : Nat :=
  d.rxChain c + d.dDec c + d.core c + 2 * d.dInt c + d.txAlign c + 18

/-- The code of a response set at position p (R142). -/
def codeAt (set p : Nat) : Nat := set / 2 ^ (3 * (p - 1)) % 8

/-- Passband edge of a response code in units of 0.01 × f_low (R122). -/
def edgeOf (c : Nat) : Nat := [15, 20, 25, 25, 30, 35, 38, 40].getD c 0

/-- Final passband edges of a cell's transmit sets A and B, in 0.01 × the cell rate (R164, R169). -/
def Dev.edgeA (d : Dev) (c : Nat) : Nat := edgeOf (codeAt (d.rd c Reg.BC.TX_RESP_A) (d.rd c Reg.BC.CELL_RATE))
/-- As `edgeA`, for set B. -/
def Dev.edgeB (d : Dev) (c : Nat) : Nat := edgeOf (codeAt (d.rd c Reg.BC.TX_RESP_B) (d.rd c Reg.BC.CELL_RATE))

/-- E'_c in Hz: the wider final edge times the cell rate (R169). -/
def Dev.halfBand (d : Dev) (c : Nat) : Nat := max (d.edgeA c) (d.edgeB c) * d.cellRate c / 100

/-- The final edge of the active transmit set (R219). -/
def Dev.edgeNow (d : Dev) (c : Nat) : Nat := if d.is c Reg.BC.RESP_ACTIVE then d.edgeB c else d.edgeA c

/-! ### Groups of cells on the radio side -/

/-- The index of group `k` of section `s` among all groups. -/
def grpKey (s k : Nat) : Nat := s * 4 + k

/-- The antenna group that holds TX link `j` of section `s` (R247). -/
def Dev.txGroup (d : Dev) (s j : Nat) : Option Nat :=
  (List.range 4).find? fun k => d.is (rcU s) Reg.RC.G_ENABLE k && (d.rd (rcU s) Reg.RC.G_TX_MAP k).testBit j

/-- The antenna group that holds RX link `j` of section `s` (R247). -/
def Dev.rxGroup (d : Dev) (s j : Nat) : Option Nat :=
  (List.range 4).find? fun k => d.is (rcU s) Reg.RC.G_ENABLE k && (d.rd (rcU s) Reg.RC.G_RX_MAP k).testBit j

/-- The group of a cell: that of its TX link (R255, R266). -/
def Dev.groupOf (d : Dev) (c : Nat) : Option Nat := d.txGroup (secOf c) (d.rd c Reg.BC.CB)

/-- The configured cells of group `k` of section `s`. -/
def Dev.cellsOfGroup (d : Dev) (s k : Nat) : List Nat := (d.cellsOf s).filter fun c => d.groupOf c == some k

/-- The groups that depend on synthesiser `y` of section `s` (R259). -/
def Dev.groupsOfSynth (d : Dev) (s y : Nat) : List Nat :=
  (List.range 4).filter fun k => d.is (rcU s) Reg.RC.G_ENABLE k && (d.rd (rcU s) Reg.RC.SYN_GRP_MAP y).testBit k

/-- The synthesisers on which group `k` of section `s` depends. -/
def Dev.synthsOf (d : Dev) (s k : Nat) : List Nat :=
  (List.range 8).filter fun y => d.is (rcU s) Reg.RC.SYN_EN y && (d.rd (rcU s) Reg.RC.SYN_GRP_MAP y).testBit k

/-- The cells of the groups that depend on a synthesiser (R261). -/
def Dev.cellsOfSynth (d : Dev) (s y : Nat) : List Nat :=
  (d.groupsOfSynth s y).flatMap fun k => d.cellsOfGroup s k

/-! ### States of a cell (R158) -/

/-- Off. -/
abbrev csOff : Nat := 0
/-- Muted. -/
abbrev csMuted : Nat := 1
/-- Limited. -/
abbrev csLimited : Nat := 2
/-- Passing. -/
abbrev csPassing : Nat := 3

/-- The cell is Passing or Limited. -/
def Dev.live? (d : Dev) (c : Nat) : Bool := d.rd c Reg.BC.STATE ≥ csLimited

/-- The PE block index of a cell and its engine. -/
def peOf (c : Nat) : Nat := peU (secOf c)

/-! ### Mute causes (R158, R169) -/

/-- A mute that a fault source holds covers the cell; Damper sources count under DAMPER (R467). -/
def MuteHold.covers (m : MuteHold) (c : Nat) (damper : Bool) : Bool :=
  m.cells.contains c && ((typeOf m.unit == 0x04) == damper)

/-- A Radio Control mute of R269 that ends by its own rule holds the cell: lock lost, skip run, PA_ALARM. -/
def Dev.radioMute (d : Dev) (c : Nat) : Bool :=
  match d.groupOf c with
  | none => false
  | some k =>
    let s := secOf c
    let g := d.groupAt (grpKey s k)
    g.skipMute || g.alarm || (d.synthsOf s k).any fun y => (d.synthAt (s * 8 + y)).lossMute

/-- The detector-comparator mutes of R266 and R445 hold the cell. -/
def Dev.detectorMute (d : Dev) (c : Nat) : Bool :=
  match d.groupOf c with
  | none => false
  | some k => d.is (rcU (secOf c)) Reg.RC.G_OPEN_SHORT k || d.is (rcU (secOf c)) Reg.RC.G_MM_MUTE k ||
      d.hk.winMute.any fun e => d.rd HA Reg.HA.ENT_WIN_ACT e == 2 && d.rd HA Reg.HA.ENT_GRP_SS e == secOf c && d.rd HA Reg.HA.ENT_GRP e == k

/-- MUTE_SRC of a configured cell: bits MODE, PE, LINK, FAULT, DAMPER, SHED, SYNC (R158, R169). -/
def Dev.muteBits (d : Dev) (c : Nat) : Nat :=
  let modeM := d.modeIn [.banked, .ember] || (d.mode == .service && d.cellLinkTest c) ||
    d.mutes.any (·.device) || d.is TM Reg.TM.SHUTDOWN
  let peM := d.rd (peOf c) Reg.PE.C_MUTE_CAUSE (idxOf c) != 0 || d.detectorMute c
  let linkM := d.is (d.rxlOf c) Reg.RXL.LINK_MUTE || d.is (d.rxlOf c) Reg.RXL.LAT_SHIFT || d.is (d.txlOf c) Reg.TXL.LINK_MUTE
  let faultM := d.mutes.any (·.covers c false) || d.radioMute c
  let damperM := d.mutes.any (·.covers c true)
  let shedM := d.is c Reg.BC.PRIO_SHED && d.rd TM Reg.TM.LEVEL == 3
  let syncM := (d.cellAt c).syncMute
  b2n modeM + 2 * b2n peM + 4 * b2n linkM + 8 * b2n faultM + 16 * b2n damperM + 32 * b2n shedM + 64 * b2n syncM

/-- LIMIT_SRC of a configured cell: bits AGC, PE, BACKOFF, SURVEY (R158). -/
def Dev.limitBits (d : Dev) (c : Nat) : Nat :=
  let set := d.rdS c Reg.BC.GAIN_SET
  b2n (d.rdS c Reg.BC.G_AGC < set) + 2 * b2n (d.rdS c Reg.BC.G_PE < set) +
    4 * b2n (d.mode == .backoff && d.rd MC Reg.MC.BACKOFF_DB != 0) + 8 * b2n (d.mode == .survey)

/-- The state that follows from the causes, under the ceiling of R79 (R158). -/
def Dev.stateOf (d : Dev) (c : Nat) (mutes limits : Nat) : Nat :=
  if !d.configured || !d.is c Reg.BC.ENABLE then csOff
  else if mutes ≠ 0 then csMuted
  else if limits ≠ 0 ∨ d.mode = .backoff then csLimited
  else csPassing

/-- g_target (R150); none for zero. -/
def Dev.gTarget (d : Dev) (c : Nat) (state : Nat) : Option Int :=
  if state ≤ csMuted ∨ d.mode = .survey then none
  else
    let lim := min (d.rdS c Reg.BC.GAIN_SET) (min (d.rdS c Reg.BC.G_AGC) (d.rdS c Reg.BC.G_PE))
    let bo : Int := if d.mode = .backoff then d.rd MC Reg.MC.BACKOFF_DB else 0
    some (max (lim - bo) (-4000))

/-- G_APPLIED as a gain; none for zero. -/
def Dev.gApplied (d : Dev) (c : Nat) : Option Int := levelOf (d.rd c Reg.BC.G_APPLIED)

/-- dt from one upward gain step to the next (R151). -/
def Dev.slewStep (d : Dev) (c : Nat) : Nat := ceilDiv 491520 (d.rd c Reg.BC.UP_SLEW)

/-- Account for the gain in force up to now, for the mean of R229. -/
def accountGain (c : Nat) : Script := withDev fun d =>
  modCell c fun x =>
    let n := d.dt - x.gSince
    match (if d.live? c then d.gApplied c else none) with
    | some g => { x with gAcc := x.gAcc + g * n, gDt := x.gDt + n, gSince := d.dt }
    | none => { x with gSince := d.dt }

/-- Set G_APPLIED. -/
def setApplied (c : Nat) (g : Option Int) : Script := withDev fun d =>
  if d.gApplied c = g then skip else seqs [accountGain c, put c Reg.BC.G_APPLIED (codeLevel g)]

/-- G_APPLIED follows the target (R151): down at once, up by timed steps, from −40.00 dB after zero; held at −40.00 dB
until the group's first digital ramp-up ends (R82). -/
def followTarget (c : Nat) (target : Option Int) : Script := withDev fun d =>
  match target with
  | none => seqs [setApplied c none, stopTimer (.gainSlew c)]
  | some t =>
    let a := (d.gApplied c).getD (-4000)
    if t < a ∨ t = a then seqs [setApplied c (some t), stopTimer (.gainSlew c)]
    else seqs [setApplied c (some a),
      when (!(d.cellAt c).rampHold) (startIfIdle (.gainSlew c) (d.slewStep c))]

/-- The squelch gate opens or closes, with the edges that SQ_DUTY and DUTY_NOW count (R155, R156, R225). -/
def setGate (c : Nat) (isOpen : Bool) : Script := withDev fun d =>
  when (d.is c Reg.BC.SQ_CLOSED == isOpen) <| seqs [
    putB c Reg.BC.SQ_CLOSED (!isOpen),
    modCell c fun x => { x with
      sqEdges := (d.dt, isOpen) :: x.sqEdges
      dutyEdges := if d.live? c then (d.dt, isOpen) :: x.dutyEdges else x.dutyEdges }]

/-- P_pr starts over at the floor (R180); 0x8000 without a probe. -/
def floorProbe (c : Nat) : Script := withDev fun d =>
  put (dsU (secOf c)) Reg.DS.PROBE_LVL (if d.live? c then d.rd (dsU (secOf c)) Reg.DS.PROBE_FLOOR else noLevel) (idxOf c)

/-- A cell leaves Muted: the squelch gate closes when the squelch is enabled (R155), the AGC average and the probe average
start over (R154, R180), and the growth and spectral histories restart (R233). -/
def leaveMuted (c : Nat) : Script := withDev fun d => seqs [
  setGate c (!d.is c Reg.BC.SQ_EN),
  modCell c fun x => { x with agc := [], traffic := [], grow := [], liveFrom := some d.dt, spkRun := [] }]

/-- Bring a configured cell's causes, state and gain up to date with everything that decides them. -/
def refreshCell (c : Nat) : Script := withDev fun d =>
  let off := !d.configured || !d.is c Reg.BC.ENABLE
  let mutes := if off then 0 else d.muteBits c
  let limits := if off then 0 else d.limitBits c
  let st := d.stateOf c mutes limits
  let old := d.rd c Reg.BC.STATE
  let target := d.gTarget c st
  seqs [
    when (old != st) (accountGain c),
    when (decide (old ≥ csLimited) != decide (st ≥ csLimited))
      (modCell c fun x => { x with
        dutyEdges := (d.dt, decide (st ≥ csLimited) && !d.is c Reg.BC.SQ_CLOSED) :: x.dutyEdges
        liveFrom := if st ≥ csLimited then some d.dt else none }),
    when (d.rd c Reg.BC.MUTE_SRC != mutes) (put c Reg.BC.MUTE_SRC mutes),
    when (d.rd c Reg.BC.LIMIT_SRC != limits) (put c Reg.BC.LIMIT_SRC limits),
    when (old != st) (put c Reg.BC.STATE st),
    when (st == csMuted && old != csMuted) (inc c Reg.BC.MUTE_CNT),
    when (old == csMuted && decide (st ≥ csLimited)) (leaveMuted c),
    when (decide (old ≥ csLimited) != decide (st ≥ csLimited)) (floorProbe c),
    when (d.rd c Reg.BC.G_TARGET != codeLevel target) (put c Reg.BC.G_TARGET (codeLevel target)),
    followTarget c target]

/-- Bring every configured cell up to date. -/
def refreshCells : Script := withDev fun d => forEach d.allCells refreshCell

/-! ### The Combiner's gates (R159, R163, R164) -/

/-- When the gate of a cell that became Passing or Limited at `r` opens at the Combiner output: with the first sample formed from a
cell sample that passed the gain stage after the release. The gain stage lies 5 × P before t_c, and COMB_DT, TX_ALIGN and the
transmit pipeline follow it. -/
def Dev.gateOpens (d : Dev) (c r : Nat) : Nat :=
  let p := d.period c
  let base := ((d.cellAt c).tg).getD 0 + d.rxChain c + d.core c
  let tc := if r + 5 * p ≤ base then r + 5 * p + (base - (r + 5 * p)) % p else base + ceilDiv (r + 5 * p - base) p * p
  tc + d.txAlign c + 18 + 384

/-- gate_c at the present instant. -/
def Dev.gate (d : Dev) (c : Nat) : Bool := d.live? c && (d.cellAt c).liveFrom.any fun r => decide (d.gateOpens c r ≤ d.dt)

/-- Bring ACTIVE_CNT, NO_ACTIVE and CFR_ACTIVE of the enabled Combiners up to date, and ZEROING of the TX links, which the mute fabric
drives while no cell may radiate through them, from Kindling on (R81, R109). -/
def refreshCombiners : Script := withDev fun d =>
  forEach d.sections fun s => forEach (List.range 4) fun i =>
    let u := cbU s i
    let t := txlU s i
    let active := (d.cellsOfCb s i).filter d.gate
    let weight := (active.map fun c => d.rd c Reg.BC.CFR_WEIGHT * min (d.edgeA c) (d.edgeB c) * d.cellRate c).foldl (· + ·) 0
    let zero := d.mode != .cold && d.linkOn t && !(d.cellsOfCb s i).any d.live?
    seqs [when (d.is t Reg.TXL.ZEROING != zero) (putB t Reg.TXL.ZEROING zero),
    when (d.is u Reg.CB.ENABLE) <| seqs [
      when (d.rd u Reg.CB.ACTIVE_CNT != active.length) (put u Reg.CB.ACTIVE_CNT active.length),
      when (d.is u Reg.CB.NO_ACTIVE != active.isEmpty) (putB u Reg.CB.NO_ACTIVE active.isEmpty),
      when (d.is u Reg.CB.CFR_ACTIVE != (d.is u Reg.CB.CFR_EN && weight != 0))
        (putB u Reg.CB.CFR_ACTIVE (d.is u Reg.CB.CFR_EN && weight != 0))]]

/-! ### Damper freezing (R188, R189) -/

/-- The mode permits adaptation (R188). -/
def Dev.adapts (d : Dev) : Bool := d.modeIn [.survey, .carry, .backoff, .service]

/-- SKIP of a Slice at the throttle level in force (R189). -/
def Dev.skipLevel (d : Dev) : Nat :=
  match d.rd TM Reg.TM.LEVEL with
  | 0 => 0
  | 1 => 1
  | _ => 2

/-- A path is frozen by the mode or by its receiving cell (R188). -/
def Dev.pathFrozen (d : Dev) (s p : Nat) : Bool :=
  !d.adapts || (d.rd (d.rcvOf s p) Reg.BC.MUTE_SRC) &&& 0b0011100 != 0

/-- Set FROZEN where R188 freezes a path, and show ADAPT and SKIP. -/
def refreshDamper : Script := withDev fun d =>
  forEach d.sections fun s =>
    let u := dsU s
    seqs [
      when (d.is u Reg.DS.ADAPT != d.adapts) (putB u Reg.DS.ADAPT d.adapts),
      when (d.rd u Reg.DS.SKIP != d.skipLevel) (put u Reg.DS.SKIP d.skipLevel),
      forEach (d.pathsOf s) fun p =>
        when (d.pathFrozen s p && !d.is u Reg.DS.P_FROZEN p) (putB u Reg.DS.P_FROZEN true p)]

/-! ### Response sets (R126, R127) -/

/-- Both chains of a cell take the requested set at `t`: the record, and the settling flag of what overlaps the next D_dec + D_int
dt, on top of what an earlier switch still flags. -/
def respSwitch (c t : Nat) : Script := withDev fun d =>
  let sel := d.rd c Reg.BC.RESP_SEL
  when (sel != d.rd c Reg.BC.RESP_ACTIVE) <| seqs [
    put c Reg.BC.RESP_ACTIVE sel, putB c Reg.BC.RESP_PEND false,
    modCell c fun x => { x with
      respFrom := if t ≤ x.respEnd ∧ x.respFrom < x.respEnd then x.respFrom else t
      respEnd := t + d.dDec c + d.dInt c },
    noteRec c 0x40 (leBytes 1 sel)]

/-! ### What controls a cell at an instant -/

/-- What controls a cell at Device Time `t`. -/
def Cell.ctlAt (x : Cell) (t : Nat) : Option Ctl := x.ctl.find? fun e => decide (e.start ≤ t)

/-- The grid origin of a cell at Device Time `t`: that of the latest sync event whose t_g has come. -/
def Cell.gridAt (x : Cell) (t : Nat) : Option Nat :=
  (x.ctl.find? fun e => decide (e.start ≤ t) && e.tg.any fun g => decide (g ≤ t)).bind (·.tg)

/-- The present controls of a cell. -/
def Dev.ctlNow (d : Dev) (c : Nat) : Ctl :=
  { start := d.dt, tg := (d.cellAt c).tg, gain := d.rd c Reg.BC.G_APPLIED, live := d.live? c
    gate := !d.is c Reg.BC.SQ_CLOSED, probe := d.rd (dsU (secOf c)) Reg.DS.PROBE_LVL (idxOf c), resp := d.rd c Reg.BC.RESP_ACTIVE }

/-- Global link index L of R299. -/
def linkL (u : Nat) : Nat := 4 * secOf u + idxOf u

/-- The live correction of a link: α or β, and d, in Q1.30 (R276). -/
def Dev.corNow (d : Dev) (u : Nat) : Cx × Cx :=
  let v := fun f => d.rdS CE f (linkL u)
  if isRxl u then ((v Reg.CE.RX_ALPHA_I, v Reg.CE.RX_ALPHA_Q), (v Reg.CE.RX_DC_I, v Reg.CE.RX_DC_Q))
  else ((v Reg.CE.TX_BETA_I, v Reg.CE.TX_BETA_Q), (v Reg.CE.TX_LO_I, v Reg.CE.TX_LO_Q))

/-- The correction of a link at Device Time `t`; before the first it does nothing. -/
def Link.corAt (l : Link) (t : Nat) : Cx × Cx := ((l.cors.find? fun e => decide (e.1 ≤ t)).map (·.2)).getD ((0, 0), (0, 0))

/-- Of a history, newest first, what a sample from `upTo` − 4,096 dt on can still meet: `start` gives when an item began. -/
def recentOf {α : Type} (start : α → Nat) (upTo : Nat) (xs : List α) : List α :=
  let kept := xs.takeWhile fun e => decide (upTo < start e + 4096)
  kept ++ (xs.drop kept.length).take 1

/-- Note the controls of every configured cell and the corrections of every link, where they have changed. Those that no sample
can meet any more are dropped. -/
def noteControls : Script := withDev fun d => seqs [
  when d.applied (forEach d.allCells fun c =>
    let now := d.ctlNow c
    let old := (d.cellAt c).ctl
    when (old.head?.map (fun e => { e with start := d.dt }) != some now)
      (modCell c fun x => { x with ctl := now :: recentOf (·.start) d.plane.upTo x.ctl })),
  forEach d.linksOn fun u =>
    when ((d.linkAt u).corAt d.dt != d.corNow u)
      (modLink u fun l => { l with cors := (d.dt, d.corNow u) :: recentOf (·.1) d.plane.upTo l.cors })]

/-! ### Settling (R127, R135) -/

/-- The block from grid instant `g` on overlaps a settling interval (R127, R135). -/
def Dev.settles (d : Dev) (c g : Nat) : Bool :=
  let x := d.cellAt c
  decide (g < x.settleEnd) || decide (g < x.respEnd ∧ x.respFrom < g + 256 * d.period c)

end Sys2Proof.Machine
end

