-- ==== Sys2Proof/Machine/PeOps.lean ====
section
/-! DEFINITION. The Protection Engine as the rest of the block sees it: gain terms, mute causes and trips, limit causes, and
the combination g_pe (R212 to R233), and the residual sums that the Damper delivers (R192, R214). -/

namespace Sys2Proof.Machine

/-! ### Causes (R239) -/

/-- Bits of MUTE_CAUSE. -/
abbrev mcMargin : Nat := 0
/-- MUTE_CAUSE.GROWTH. -/
abbrev mcGrowth : Nat := 1
/-- MUTE_CAUSE.SPECTRAL. -/
abbrev mcSpectral : Nat := 2
/-- MUTE_CAUSE.CEILING. -/
abbrev mcCeiling : Nat := 3
/-- MUTE_CAUSE.UPLINK. -/
abbrev mcUplink : Nat := 4
/-- MUTE_CAUSE.DONOR. -/
abbrev mcDonor : Nat := 5
/-- MUTE_CAUSE.SYNC. -/
abbrev mcSync : Nat := 6
/-- MUTE_CAUSE.ALLOW. -/
abbrev mcAllow : Nat := 7
/-- MUTE_CAUSE.DUTY. -/
abbrev mcDuty : Nat := 8
/-- MUTE_CAUSE.LATCH. -/
abbrev mcLatch : Nat := 9
/-- MUTE_CAUSE.LOCKSTEP. -/
abbrev mcLockstep : Nat := 10

/-- A value of the cell's block in its engine. -/
def Dev.peRd (d : Dev) (c : Nat) (f : Fld) : Nat := d.rd (peOf c) f (idxOf c)
/-- As `peRd`, signed. -/
def Dev.peRdS (d : Dev) (c : Nat) (f : Fld) : Int := d.rdS (peOf c) f (idxOf c)
/-- Write a value of the cell's block. -/
def pePut (c : Nat) (f : Fld) (v : Nat) : Script := put (peOf c) f v (idxOf c)
/-- Write a gain term, held within its field. -/
def pePutS (c : Nat) (f : Fld) (v : Int) : Script := pePut c f (codeOf 16 (clamp (-32767) 32767 v))

/-- The engine mutes the cell for this cause. -/
def Dev.muteCause (d : Dev) (c b : Nat) : Bool := (d.peRd c Reg.PE.C_MUTE_CAUSE).testBit b

/-- Set a mute cause bit; its onset triggers captures (R425). -/
def markCause (c b : Nat) : Script := withDev fun d =>
  when (!d.muteCause c b) (seqs [
    pePut c Reg.PE.C_MUTE_CAUSE (d.peRd c Reg.PE.C_MUTE_CAUSE ||| 2 ^ b),
    trigger 2 (peOf c) 0 d.dt, trigger 2 c 0 d.dt])

/-- Clear a mute cause bit. -/
def clearCause (c b : Nat) : Script := withDev fun d =>
  when (d.muteCause c b) (pePut c Reg.PE.C_MUTE_CAUSE (d.peRd c Reg.PE.C_MUTE_CAUSE - 2 ^ b))

/-- Count a trip; TRIP_MAX trips within TRIP_WIN s latch the cell (R220). -/
def addTrip (c : Nat) : Script := withDev fun d =>
  let u := peOf c
  let win := dtOfS (d.rd u Reg.PE.TRIP_WIN)
  let ts := d.dt :: ((d.cellAt c).trips.filter fun t => decide (d.dt < t + win))
  seqs [
    modCell c fun x => { x with trips := ts },
    inc u Reg.PE.C_TRIPS (idxOf c), inc u Reg.PE.TRIP_CNT,
    when (decide (ts.length ≥ d.rd u Reg.PE.TRIP_MAX) && !d.muteCause c mcLatch)
      (seqs [markCause c mcLatch, condStart u 11 (idxOf c) (cellScope c) [Int.ofNat ts.length]])]

/-- The margin mute (R216): record, trip, and the hold. -/
def marginMute (c : Nat) (vals : List Int) : Script := withDev fun d => seqs [
  modCell c fun x => { x with heldMargin := true },
  startTimer (.marginHold c) (dtOfMs (d.rd (peOf c) Reg.PE.MARGIN_HOLD)),
  when (!d.muteCause c mcMargin) <| seqs [
    markCause c mcMargin, fireEvent (peOf c) 1 (cellScope c) vals, addTrip c]]

/-- The growth trip (R218) with the values its record carries. -/
def growthTrip (c : Nat) (vals : List Int) : Script := withDev fun d => seqs [
  modCell c fun x => { x with heldGrowth := true },
  startTimer (.tripHold c 1) (dtOfMs (d.rd (peOf c) Reg.PE.TRIP_HOLD)),
  markCause c mcGrowth, fireEvent (peOf c) 2 (cellScope c) vals, addTrip c]

/-- The spectral mute (R219). -/
def spectralMute (c : Nat) : Script := withDev fun d => seqs [
  modCell c fun x => { x with heldSpectral := true },
  startTimer (.tripHold c 2) (dtOfMs (d.rd (peOf c) Reg.PE.TRIP_HOLD)),
  markCause c mcSpectral, fireEvent (peOf c) 4 (cellScope c) [], addTrip c]

/-- The cells of one band in one Combiner (R229). -/
def Dev.bandCells (d : Dev) (s i b : Nat) : List Nat :=
  (d.cellsOfCb s i).filter fun c => d.rd c Reg.BC.BAND_ID == b

/-- The ceiling mute of a band in a Combiner (R230): one event, every cell of the band muted and tripped. -/
def ceilingTrip (s i b : Nat) (fast : Int) : Script := withDev fun d =>
  let cs := d.bandCells s i b
  let fresh := cs.any fun c => !d.muteCause c mcCeiling
  seqs [
    forEach cs fun c => withDev fun d => seqs [
      modCell c fun x => { x with heldCeiling := true },
      startTimer (.tripHold c 3) (dtOfMs (d.rd (peOf c) Reg.PE.TRIP_HOLD)),
      when (!d.muteCause c mcCeiling) (seqs [markCause c mcCeiling, addTrip c])],
    when fresh (fireEvent (peU s) 5 (setScope (peU s) (i * 64 + b) cs) [fast])]

/-! ### Gain terms -/

/-- TX_FS_DBM of the cell's TX link (R211). -/
def Dev.txFs (d : Dev) (c : Nat) : Int := d.rdS (peOf c) Reg.PE.TX_FS_DBM (d.rd c Reg.BC.CB)
/-- RX_FS_DBM of the cell's RX link (R211). -/
def Dev.rxFs (d : Dev) (c : Nat) : Int := d.rdS (peOf c) Reg.PE.RX_FS_DBM (d.rd c Reg.BC.RXL)
/-- P_MAX of the cell's band; none where the profile holds none (R239). -/
def Dev.pMax (d : Dev) (c : Nat) : Option Int := levelOf (d.rd (peOf c) Reg.PE.B_P_MAX (d.rd c Reg.BC.BAND_ID))
/-- NET_MAX of the cell's band. -/
def Dev.netMax (d : Dev) (c : Nat) : Option Int := levelOf (d.rd (peOf c) Reg.PE.B_NET_MAX (d.rd c Reg.BC.BAND_ID))

/-- The cell is an uplink cell. -/
def Dev.isUplink (d : Dev) (c : Nat) : Bool := d.is c Reg.BC.DIR

/-- The cell whose donor selection applies: an uplink cell uses that of its partner (R221). -/
def Dev.donorCell (d : Dev) (c : Nat) : Nat := if d.isUplink c then d.rd c Reg.BC.PARTNER else c

/-- The donor carrier on which a cell relies: section × 8 + index (R221). -/
def Dev.donorOf (d : Dev) (c : Nat) : Option Nat :=
  let b := d.donorCell c
  if d.peRd b Reg.PE.C_DONOR_EN = 1 then
    some (d.peRd b Reg.PE.C_DONOR_SS * 8 + d.peRd b Reg.PE.C_DONOR_CAR)
  else none

/-- Every configured cell that relies on a carrier. -/
def Dev.cellsOfDonor (d : Dev) (car : Nat) : List Nat := d.allCells.filter fun c => d.donorOf c == some car

/-- The path loss in use for a carrier (R222). -/
def Dev.pathLoss (d : Dev) (car : Nat) : Option Int := levelOf (d.rd (peU (car / 8)) Reg.PE.PL (car % 8))

/-- g_net (R212). -/
def Dev.gNet (d : Dev) (c : Nat) : Int :=
  match d.netMax c with
  | none => 4000
  | some n => n - (d.txFs c - d.rxFs c) - d.rdS c Reg.BC.RX_GAIN - d.rdS c Reg.BC.TX_GAIN - d.rdS c Reg.BC.EQ_BOUND

/-- g_margin (R215). -/
def Dev.gMargin (d : Dev) (c : Nat) : Int :=
  match levelOf (d.peRd c Reg.PE.C_R_SUM) with
  | none => 4000
  | some r => -r - d.rdS c Reg.BC.EQ_BOUND - d.rd (peOf c) Reg.PE.MARGIN_BACKOFF

/-- BW_DB of a cell (R223). -/
def Dev.bwDb (d : Dev) (c : Nat) : Int := cdbDown (2 * d.halfBand c) 1

/-- g_ul of an uplink cell (R223). Before the first block inside Listen, or without a path loss, it is −40.00 dB. -/
def Dev.gUl (d : Dev) (c : Nat) : Int :=
  if !d.isUplink c then 4000
  else
    let x := d.cellAt c
    match x.noise, (d.donorOf c).bind d.pathLoss with
    | [], _ => -4000
    | _, none => -4000
    | ns, some pl =>
      if ns.any (·.isNone) then 4000
      else
        let n := (ns.filterMap id).foldl min 32767 + 100
        d.rdS (peOf c) Reg.PE.BS_NF_DENS + d.bwDb c - d.rd (peOf c) Reg.PE.UL_MARGIN + pl - n -
          d.rdS c Reg.BC.EQ_BOUND - d.rdS c Reg.BC.TX_GAIN - d.txFs c

/-- N_IN as its field shows it (R223). -/
def Dev.nIn (d : Dev) (c : Nat) : Option Int :=
  let ns := (d.cellAt c).noise
  if ns.isEmpty || ns.any (·.isNone) then none else some ((ns.filterMap id).foldl min 32767 + 100)

/-- P_MAX less VSWR_CUT while the cell's group has a mismatch backoff (R266). -/
def Dev.pMaxNow (d : Dev) (c : Nat) : Option Int :=
  (d.pMax c).map fun p =>
    match d.groupOf c with
    | none => p
    | some k =>
      if d.is (rcU (secOf c)) Reg.RC.G_MM_BO k then p - d.rd (rcU (secOf c)) Reg.RC.G_VSWR_CUT k else p

/-- The sum of a cell's G_APPLIED over the last 491,520 dt and the number of samples in it, those in which the cell was Passing or
Limited; none without one (R229). -/
def Cell.gAvg (x : Cell) : Option (Int × Nat) :=
  let segs := x.gSegs.take 120
  let n : Nat := (segs.map (·.2)).foldl (· + ·) 0
  if n = 0 then none else some ((segs.map (·.1)).foldl (· + ·) 0, n)

/-- The level of a sum of powers less r/n of 0.01 dB, for 0 ≤ r < n, rounded up once. -/
def levelLessUp (den : Nat) (ws : List (Nat × Int)) (r : Int) (n : Nat) : Option Int :=
  (levelSumUp den ws).map fun u =>
    let hi := (maxLevel ((ws.filter fun w => w.1 != 0).map (·.2))).getD 0
    let fine := cdbFine (sumBelow 128 hi ws) (den * 2 ^ 128)
    if (n : Int) * (fine + (hi - (u - 1)) * 2 ^ 40) ≤ r * 2 ^ 40 then u - 1 else u

/-- Two power sums mismatch (R162, R477): one reads at least −50.00 dBFS and the two differ by more than 0.50 dB. The sums are brought
to one scale, full scale over the window being `fs`. -/
def monMismatch (a b fs : Nat) : Bool :=
  let hi := max a b
  let lo := min a b
  decide (0 < hi) && powAtMost 1000 (-5000) hi fs && (lo == 0 || !powAtMost 1000 (-50) lo hi)

/-- ⌈TX_CHAIN_DT/256⌉: the 256 dt sums by which a cell's transmit chain delays it (R477). -/
def Dev.chainSegs (d : Dev) (c : Nat) : Nat := ceilDiv (d.rd c Reg.BC.TX_CHAIN_DT) 256

/-- g_ceil (R229), rounded down once, from the power of the cell's band at its port: the monitor sums with the gains of the
transmit chains, over `den`. -/
def Dev.gCeil (d : Dev) (c den : Nat) (ws : List (Nat × Int)) : Int :=
  match d.pMaxNow c, (d.cellAt c).gAvg with
  | some m, some (g, n) =>
    match levelLessUp den ws (g % n) n with
    | some v => g / (n : Int) + m - (d.rd (peOf c) Reg.PE.CEIL_MARGIN : Int) - (v + d.txFs c)
    | none => 4000
  | _, _ => 4000

/-! ### Combination (R231) -/

/-- Show the causes that a term below −40.00 dB or a hold gives, with the records of their onset. In Survey the margin and
uplink terms leave the cell alone (R224, R235). -/
def termCauses (c : Nat) : Script := withDev fun d =>
  let x := d.cellAt c
  let below := fun (f : Fld) => decide (d.peRdS c f < -4000)
  seqs [
    when (below Reg.PE.C_G_MARGIN && d.mode != .survey && !d.muteCause c mcMargin)
      (marginMute c [d.peRdS c Reg.PE.C_R_SUM, (d.gApplied c).getD (-32768), d.peRdS c Reg.PE.C_MARGIN]),
    -- R223: the uplink mute is a condition
    if below Reg.PE.C_G_UL && d.isUplink c && d.mode != .survey then
      when (!d.muteCause c mcUplink) <| seqs [
        markCause c mcUplink,
        condStart (peOf c) 6 (idxOf c) (cellScope c) [d.peRdS c Reg.PE.C_G_UL], addTrip c]
    else when (d.muteCause c mcUplink) (seqs [clearCause c mcUplink, condEnd (peOf c) 6 (idxOf c)]),
    if below Reg.PE.C_G_CEIL || x.heldCeiling then
      when (!d.muteCause c mcCeiling) <| seqs [
        markCause c mcCeiling, fireEvent (peOf c) 5 (setScope (peOf c) (d.rd c Reg.BC.CB * 64 + d.rd c Reg.BC.BAND_ID) [c]) [d.peRdS c Reg.PE.C_G_CEIL], addTrip c]
    else clearCause c mcCeiling,
    if below Reg.PE.C_G_SPK || x.heldSpectral then
      when (!d.muteCause c mcSpectral) <| seqs [
        markCause c mcSpectral, fireEvent (peOf c) 4 (cellScope c) [], addTrip c]
    else clearCause c mcSpectral]

/-- The terms in the order of LIMIT_CAUSE: MARGIN, UPLINK, CEILING, SPECTRAL, NET. -/
def limitTerms : List Fld :=
  [Reg.PE.C_G_MARGIN, Reg.PE.C_G_UL, Reg.PE.C_G_CEIL, Reg.PE.C_G_SPK, Reg.PE.C_G_NET]

/-- LIMIT_CAUSE with a Note record for each onset, and g_pe in the band cell (R231). -/
def combine (c : Nat) : Script := withDev fun d =>
  let set := d.rdS c Reg.BC.GAIN_SET
  let vals := limitTerms.map (d.peRdS c)
  let bits := (vals.zipIdx.map fun (v, i) => if v < set then 2 ^ i else 0).foldl (· + ·) 0
  let old := d.peRd c Reg.PE.C_LIMIT_CAUSE
  let gpe := vals.foldl min 4000
  seqs [
    forEach vals.zipIdx fun (v, i) => when (bits.testBit i && !old.testBit i)
      (noteRec (peOf c) 0x40 (leBytes 2 c ++ leBytes 1 bits ++ leBytes 2 (codeOf 16 v))),
    when (old != bits) (pePut c Reg.PE.C_LIMIT_CAUSE bits),
    when (d.rdS c Reg.BC.G_PE != gpe) (putS c Reg.BC.G_PE (clamp (-32767) 32767 gpe))]

/-- Recompute the terms that follow from the cell's other values, then the causes and the combination. -/
def refreshTerms (c : Nat) : Script := withDev fun d => seqs [
  when (d.peRdS c Reg.PE.C_G_NET != d.gNet c) (pePutS c Reg.PE.C_G_NET (d.gNet c)),
  termCauses c, combine c]

/-! ### Deliveries of the Damper (R192, R214 to R216) -/

/-- RESID of a path. -/
def Dev.residOf (d : Dev) (s p : Nat) : Option Int := levelOf (d.rd (dsU s) Reg.DS.P_RESID p)

/-- The paths into a receiving cell. -/
def Dev.pathsInto (d : Dev) (c : Nat) : List Nat := (d.pathsOf (secOf c)).filter fun p => d.rcvOf (secOf c) p == c

/-- The mute of R216 and its release, evaluated with the gain in force at the delivery. -/
def judgeMargin (c : Nat) : Script := withDev fun d =>
  let u := peOf c
  let gm := d.gMargin c
  match levelOf (d.peRd c Reg.PE.C_MARGIN) with
  | some m =>
    if m < d.rdS u Reg.PE.MARGIN_MUTE then
      marginMute c [d.peRdS c Reg.PE.C_R_SUM, (d.gApplied c).getD (-32768), m]
    else when (d.muteCause c mcMargin && !(d.cellAt c).heldMargin && decide (gm ≥ -4000)) (clearCause c mcMargin)
  | none => when (d.muteCause c mcMargin && !(d.cellAt c).heldMargin && decide (gm ≥ -4000)) (clearCause c mcMargin)

/-- LOOP_C of each path into the cell, CELL_LG, R_SUM, MARGIN and g_margin, delivered to the engine at a measurement
update and at each block end of the receiving cell (R192, R214 to R216). -/
def deliverLoop (c : Nat) : Script := withDev fun d =>
  let s := secOf c
  let ps := d.pathsInto c
  let gain := if d.live? c then d.gApplied c else none
  let eq := d.rdS c Reg.BC.EQ_BOUND
  let rs := ps.filterMap (d.residOf s)
  let lcs := match gain with
    | some g => rs.map fun r => r + g + eq
    | none => []
  let rsum := sumUp rs
  let lg := sumUp lcs
  seqs [
    forEach ps fun p => put (dsU s) Reg.DS.P_LOOP_C (codeLevel (match gain with
      | some g => (d.residOf s p).map fun r => r + g + eq
      | none => none)) p,
    put (dsU s) Reg.DS.CELL_LG (codeLevel lg) (idxOf c),
    pePut c Reg.PE.C_R_SUM (codeLevel rsum),
    pePut c Reg.PE.C_MARGIN (codeLevel (lg.map fun x => -x)),
    judgeMargin c,
    withDev fun d => pePutS c Reg.PE.C_G_MARGIN (d.gMargin c),
    refreshTerms c]

/-- GM_COUNT of a section (R217). -/
def Dev.gmCount (d : Dev) (s : Nat) : Nat :=
  if !d.modeIn [.carry, .backoff] then 0
  else ((d.cellsOf s).filter fun c =>
    decide (d.peRdS c Reg.PE.C_G_MARGIN ≤ d.rdS c Reg.BC.GAIN_SET - d.rd (peU s) Reg.PE.GM_DEPTH) ||
      d.muteCause c mcMargin).length

/-- Bring GM_COUNT of every enabled section up to date. -/
def refreshGm : Script := withDev fun d =>
  forEach d.sections fun s => when (d.rd (peU s) Reg.PE.GM_COUNT != d.gmCount s) (put (peU s) Reg.PE.GM_COUNT (d.gmCount s))

/-- The Mode Controller's sum over the enabled sections asserts or clears Backoff cause 0x31 (R217). -/
def judgeGlobalMargin : Script := withDev fun d =>
  let total := (d.sections.map d.gmCount).foldl (· + ·) 0
  match d.sections with
  | [] => skip
  | s :: _ =>
    let on := decide (total ≥ d.rd (peU s) Reg.PE.GM_CELLS) && d.configured
    seqs [
      refreshGm,
      modMc fun m => { m with boMargin := if on then some (d.rd (peU s) Reg.PE.GM_DB) else none },
      forEach d.sections fun s => putB (peU s) Reg.PE.GM_ACTIVE on]

/-- The causes that only an entry to Survey or Kindling clears: LATCH, and OPEN_SHORT of the groups (R220, R266). -/
def clearLatches : Script := withDev fun d => seqs [
  forEach d.allCells fun c => when (d.muteCause c mcLatch)
    (seqs [clearCause c mcLatch, condEnd (peOf c) 11 (idxOf c)]),
  forEach d.sections fun s => forEach (List.range 4) fun k => when (d.is (rcU s) Reg.RC.G_OPEN_SHORT k)
    (seqs [putB (rcU s) Reg.RC.G_OPEN_SHORT false k, condEnd (rcU s) 4 k])]

end Sys2Proof.Machine
end

