-- ==== Sys2Proof/Machine/RadioOps.lean ====
section
/-! DEFINITION. Radio Control as the rest of the block sees it: antenna groups and their power (R247 to R255), pin levels
(R256, R257), synthesisers and held requests (R258 to R263), detectors and mismatch (R265, R266), and the tuner (R267). -/

namespace Sys2Proof.Machine

/-! ### Group states (R248) -/

/-- Off. -/
abbrev gsOff : Nat := 0
/-- Rest. -/
abbrev gsRest : Nat := 1
/-- ListenDL. -/
abbrev gsListenDL : Nat := 2
/-- ListenUL. -/
abbrev gsListenUL : Nat := 3
/-- SendDL. -/
abbrev gsSendDL : Nat := 4
/-- SendUL. -/
abbrev gsSendUL : Nat := 5
/-- Switch. -/
abbrev gsSwitch : Nat := 6
/-- Settle. -/
abbrev gsSettle : Nat := 7

/-- STATE of group `k` of section `s`. -/
def Dev.gState (d : Dev) (s k : Nat) : Nat := d.rd (rcU s) Reg.RC.G_STATE k
/-- Set STATE. -/
def putGState (s k v : Nat) : Script := put (rcU s) Reg.RC.G_STATE v k
/-- What the group keeps behind its registers. -/
def Dev.grp (d : Dev) (s k : Nat) : Group := d.groupAt (grpKey s k)
/-- Change it. -/
def modGrp (s k : Nat) (f : Group → Group) : Script := modGroup (grpKey s k) f
/-- The group is configured in an enabled section. -/
def Dev.grpOn (d : Dev) (s k : Nat) : Bool := d.sectionOn s && decide (k < 4) && d.is (rcU s) Reg.RC.G_ENABLE k
/-- The group is TDD. -/
def Dev.grpTdd (d : Dev) (s k : Nat) : Bool := d.is (rcU s) Reg.RC.G_TDD k
/-- The group is a SERVICE group. -/
def Dev.grpService (d : Dev) (s k : Nat) : Bool := d.is (rcU s) Reg.RC.G_SERVICE k
/-- The Send state of a group: a SERVICE group sends downlink, a DONOR group uplink (R247). -/
def Dev.sendState (d : Dev) (s k : Nat) : Nat := if d.grpService s k then gsSendDL else gsSendUL
/-- The Listen state of a group (R250). -/
def Dev.listenState (d : Dev) (s k : Nat) : Nat := if d.grpService s k then gsListenUL else gsListenDL
/-- dt from one mark of a carrier to the next (R244). -/
def Dev.markPeriod (d : Dev) (car : Nat) : Nat :=
  let u := sdU (car / 8)
  if !d.is u Reg.SD.K_LTE (car % 8) && decide (d.rd u Reg.SD.K_SSB_PER (car % 8) ≥ 1) then 4915200 else 2457600

/-- dt from one occurrence of a carrier's PSS to the next (R243). -/
def Dev.pssPeriod (d : Dev) (car : Nat) : Nat :=
  let u := sdU (car / 8)
  if d.is u Reg.SD.K_LTE (car % 8) then 2457600 else 2457600 * 2 ^ d.rd u Reg.SD.K_SSB_PER (car % 8)

/-- The carrier that times a group (R247). -/
def Dev.grpCarrier (d : Dev) (s k : Nat) : Nat := d.rd (rcU s) Reg.RC.G_CAR_SS k * 8 + d.rd (rcU s) Reg.RC.G_CAR k

/-- A carrier has marks (R246). -/
def Dev.hasMarks (d : Dev) (car : Nat) : Bool := d.is (sdU (car / 8)) Reg.SD.K_MARKS (car % 8)

/-- Entry kinds of a TDD table (R273). -/
abbrev kindSend : Nat := 1
/-- LISTEN. -/
abbrev kindListen : Nat := 2

/-- An entry is of downlink kind (R250). -/
def Dev.entryDl (d : Dev) (s k e : Nat) : Bool := (d.rd (rcU s) Reg.RC.T_KIND k e == kindSend) == d.grpService s k

/-- The interval that entry `e` of a group occupies in the period `n` periods after the carrier's latest mark. -/
def Dev.entrySpan (d : Dev) (s k e n : Nat) : Int × Int :=
  let u := rcU s
  let car := d.grpCarrier s k
  let ota : Int := d.rd (sdU (car / 8)) Reg.SD.K_OTA_DT (car % 8)
  let sh : Int := if d.grpService s k then ota + d.rd u Reg.RC.G_LAT_DT k else ota
  let t0 : Int := (d.carrierAt car).mark + n * d.rd u Reg.RC.G_PERIOD_DT k + d.rd u Reg.RC.T_START k e
  let a := if d.entryDl s k e then t0 + sh else t0 - sh
  (a, a + d.rd u Reg.RC.T_LEN k e)

/-- The entry exists, has the given kind, and the group's carrier has marks. -/
def Dev.entryOk (d : Dev) (s k e kind : Nat) : Bool :=
  d.grpOn s k && d.grpTdd s k && d.hasMarks (d.grpCarrier s k) &&
    decide (e < d.rd (rcU s) Reg.RC.G_N_ENT k) && d.rd (rcU s) Reg.RC.T_KIND k e == kind

/-- A LISTEN entry of the group's table covers the instant (R250). -/
def Dev.inListen (d : Dev) (s k : Nat) : Bool :=
  (List.range (d.rd (rcU s) Reg.RC.G_N_ENT k)).any fun e =>
    d.entryOk s k e kindListen &&
      decide (((d.dt : Int) - (d.entrySpan s k e 0).1) % d.rd (rcU s) Reg.RC.G_PERIOD_DT k < d.rd (rcU s) Reg.RC.T_LEN k e)

/-- The rest state of a group (R253); without marks a TDD group stays in Rest (R252). -/
def Dev.restState (d : Dev) (s k : Nat) : Nat :=
  if d.grpTdd s k && d.hasMarks (d.grpCarrier s k) && (d.is (rcU s) Reg.RC.G_REST_LISTEN k || (d.grp s k).listening) then d.listenState s k else gsRest
/-- The group is in a Send state. -/
def Dev.sending (d : Dev) (s k : Nat) : Bool := d.gState s k == gsSendDL || d.gState s k == gsSendUL
/-- The group is in Switch or Send. -/
def Dev.busyTx (d : Dev) (s k : Nat) : Bool := d.sending s k || d.gState s k == gsSwitch

/-- The group is in Rest or Listen. -/
def Dev.resting (d : Dev) (s k : Nat) : Bool :=
  d.gState s k == gsRest || d.gState s k == gsListenDL || d.gState s k == gsListenUL

/-- The group listens or rests anew, by the table on its carrier's marks (R246, R253). -/
def restAgain (s k : Nat) : Script := withDev fun d =>
  when (d.grpTdd s k && d.resting s k && (d.grp s k).down == .none) (seqs [
    modGrp s k fun g => { g with listening := d.inListen s k }, withDev fun d => putGState s k (d.restState s k)])

/-- dt from VDD_EN to BIAS_EN (R252). -/
def vddLead : Nat := 24576
/-- dt from BIAS_EN to Send of an FDD group, and from the end of the ramp-down to the release of bias (R252, R254). -/
def biasLead : Nat := 2458
/-- Bias lead of a TDD window, and the digital ramp of an FDD group, in dt (R252, R254). -/
def tddLead : Nat := 492
/-- dt from the release of bias to the release of VDD_EN (R254): 27,526 − 2,950. -/
def vddHold : Nat := 24576

/-- The digital ramp-up of a group (R252, R254). -/
def Dev.rampLen (d : Dev) (s k : Nat) : Nat := if d.grpTdd s k then d.rd (rcU s) Reg.RC.G_BURST_RAMP k else tddLead

/-! ### Power (R252, R254, R255) -/

/-- Every configured cell whose TX link lies in the group is Muted or Off (R255). -/
def Dev.affected (d : Dev) (s k : Nat) : Bool := (d.cellsOfGroup s k).all fun c => !d.live? c

/-- Radio operation holds for the group (R252). -/
def Dev.radioOp (d : Dev) (s k : Nat) : Bool :=
  d.grpOn s k && d.modeIn [.survey, .carry, .backoff, .service] && !d.is (rcU s) Reg.RC.G_OFF_REQ k &&
    !d.affected s k && !(d.grp s k).alarm

/-- GROUP_OFF: entry 1, exit 0 (R252, R471). -/
def groupRecord (s k e : Nat) : Script := noteRec (rcU s) 0x40 (leBytes 1 k ++ leBytes 1 e)

/-- Register of tuner axis `a` that holds its code. -/
def tuneCode (a : Nat) : Fld := if a = 0 then Reg.RC.G_CODE0 else Reg.RC.G_CODE1

/-- A search ends with the last accepted codes in place (R267). -/
def stopTune (s k : Nat) : Script := withDev fun d => modGrp s k fun g => { g with
  tune := none
  writes := (g.writes.filter fun w => !w.onTrial) ++ (match g.tune with
    | some t => if t.trial.isSome then [{ axis := t.axis, code := d.rd (rcU s) (tuneCode t.axis) k, onTrial := false }] else []
    | none => []) }

/-- The group enters Off and its pins their safe levels. -/
def groupOff (s k : Nat) : Script := withDev fun d =>
  when (d.gState s k != gsOff) <| seqs [
    stopTune s k, putGState s k gsOff, putB (rcU s) Reg.RC.G_SYN_WAIT false k,
    stopTimer (.groupStep s k), stopTimer (.fddRepeat s k),
    modGrp s k fun g => { g with vddAt := none, bias := false, down := .none, forRecal := false, sendEnd := none,
                                 sendFrom := none, held := none, nextS := none, listening := false, fwd := none, ref := none },
    groupRecord s k 1]

/-- A synthesiser runs a sequence or settles. -/
def Dev.synBusy (d : Dev) (s y : Nat) : Bool := d.is (rcU s) Reg.RC.SYN_SEQ_RUN y || !d.is (rcU s) Reg.RC.SYN_READY y

/-- Every synthesiser of the group is ready (R262). -/
def Dev.grpReady (d : Dev) (s k : Nat) : Bool := (d.synthsOf s k).all fun y => d.is (rcU s) Reg.RC.SYN_READY y

/-- Power-up starts (R252). -/
def groupPowerUp (s k : Nat) : Script := withDev fun d => seqs [
  modGrp s k fun g => { g with vddAt := some d.dt, bias := false, down := .none, forRecal := false, listening := d.inListen s k },
  withDev fun d => putGState s k (if !d.grpReady s k then gsSettle else d.restState s k),
  when (!d.grpTdd s k) (startTimer (.groupStep s k) vddLead),
  groupRecord s k 0]

/-- Bring one group's power in line with the mutes and the mode (R252, R255): Off at once when radio operation ends, unless
an orderly power-down runs for OFF_REQ. Power-up has its own command. A tuner search ends with Carry and Backoff (R267). -/
def refreshGroup (s k : Nat) : Script := withDev fun d =>
  let soft := d.grpOn s k && d.modeIn [.survey, .carry, .backoff, .service] && !d.affected s k && !(d.grp s k).alarm
  if !soft then groupOff s k
  else when ((d.grp s k).tune.isSome && !d.modeIn [.carry, .backoff]) (stopTune s k)

/-- The group listens (R249): a TDD group in ListenDL or ListenUL, an FDD group in Rest or Send. -/
def Dev.listens (d : Dev) (s k : Nat) : Bool :=
  let st := d.gState s k
  if d.grpTdd s k then st == gsListenDL || st == gsListenUL else st == gsRest || st == gsSendDL || st == gsSendUL

/-- Keep the intervals in which a group listens. -/
def noteListen (s k : Nat) : Script := withDev fun d =>
  match (d.grp s k).lstFrom, d.listens s k with
  | none, true => modGrp s k fun g => { g with lstFrom := some d.dt }
  | some t, false => modGrp s k fun g => { g with lstFrom := none, lstPrev := (t, d.dt) }
  | _, _ => skip

/-- The whole interval lies within a Listen state of the group (R249). -/
def Dev.listened (d : Dev) (s k t0 t1 : Nat) : Bool :=
  let g := d.grp s k
  g.lstFrom.any (fun t => decide (t ≤ t0)) || decide (g.lstPrev.1 ≤ t0 ∧ t1 < g.lstPrev.2)

/-- Keep the intervals in which a group sends. -/
def noteSend (s k : Nat) : Script := withDev fun d =>
  match (d.grp s k).sndFrom, d.sending s k with
  | none, true => modGrp s k fun g => { g with sndFrom := some (g.sendFrom.getD d.dt) }
  | some t, false => modGrp s k fun g => { g with sndFrom := none, sndPrev := (t, d.dt) }
  | _, _ => skip

/-- Bring every group's power in line. -/
def refreshGroups : Script := withDev fun d =>
  forEach d.sections fun s => forEach (List.range 4) fun k =>
    when (d.grpOn s k) (seqs [refreshGroup s k, noteListen s k, noteSend s k])

/-! ### Synthesisers (R258 to R263) -/

/-- What a synthesiser keeps. -/
def Dev.syn (d : Dev) (s y : Nat) : Synth := d.synthAt (s * 8 + y)
/-- Change it. -/
def modSyn (s y : Nat) (f : Synth → Synth) : Script := modSynth (s * 8 + y) f

/-- Every dependent group in radio operation enters Settle at once (R252, R259). -/
def settleGroups (s y : Nat) : Script := withDev fun d =>
  forEach (d.groupsOfSynth s y) fun k => when (d.gState s k != gsOff && d.gState s k != gsSettle) (
    let down := (d.grp s k).down
    let keeps := down != .none && !(d.grp s k).forRecal
    seqs [
      putGState s k gsSettle,
      if !keeps then stopTimer (.groupStep s k)
      else when (down != .supply) (startTimer (.groupStep s k) vddHold),
      modGrp s k fun g => { g with bias := false, down := if keeps then .supply else .none, forRecal := false,
                                   sendEnd := none, sendFrom := none, nextS := none }])

/-- The section's reading for R259: the TEMP of on-die sensor n + 1; none while it has no value. -/
def Dev.sectionTemp (d : Dev) (s : Nat) : Option Int := levelOf (d.rd TM Reg.TM.S_TEMP (s + 1))

/-- Start index of a sequence. -/
def Dev.seqStart (d : Dev) (s y : Nat) : SeqKind → Nat
  | .prog => d.rd (rcU s) Reg.RC.SYN_PROG y
  | .recal => d.rd (rcU s) Reg.RC.SYN_RECAL y
  | .recover => d.rd (rcU s) Reg.RC.SYN_RECOVER y

/-- A CSPI frame stands between entry `pc` and the sequence's END. -/
def Dev.laterFrame (d : Dev) (s : Nat) : Nat → Nat → Bool
  | 0, _ => false
  | f + 1, pc =>
    if pc ≥ 256 then false
    else match d.rd (rcU s) Reg.RC.SEQ_OP pc with
      | 0 => true
      | 3 => false
      | _ => d.laterFrame s f (pc + 1)

/-- The settle timer starts (R260). -/
def startSettle (s y : Nat) : Script := withDev fun d => seqs [
  putB (rcU s) Reg.RC.SYN_SETTLING true y,
  startTimer (.synSettle s y) (dtOfUs (d.rd (rcU s) Reg.RC.SYN_SETTLE_MIN y))]

/-! ### CSPI and RFFE masters (R258, R264) -/

/-- A master of section `s`: CSPI 0 and 1, then RFFE 0 and 1. -/
def Dev.master (d : Dev) (s i : Nat) : Bus := d.busAt (s * 4 + i)
/-- Change it. -/
def modMaster (s i : Nat) (f : Bus → Bus) : Script := modBus (s * 4 + i) f

/-- The shortest RFFE write that reaches an address (R264). A Register 0 Write holds seven data bits, and a Register Write an address of
five, an extended one of eight bits (PRESUMED, of MIPI RFFE v2.1, log entry 170; unsafe). -/
def rffeWrite (addr v : Nat) : RffeCmd :=
  if addr = 0 ∧ v < 128 then .reg0Write else if addr < 32 then .regWrite else if addr < 256 then .extWrite else .longWrite

/-- The shortest RFFE read that reaches an address. -/
def rffeRead (addr : Nat) : RffeCmd := if addr < 32 then .regRead else if addr < 256 then .extRead else .longRead

/-- A master sends a transfer; a tuner write's read-back follows it. -/
def sendOp (s i : Nat) (op : BusOp) : Script := withDev fun d =>
  let u := rcU s
  match op with
  | .cspiSeq y =>
    let pc := (d.syn s y).pc
    let len := d.rd u Reg.RC.CS_LEN (4 * i + d.rd u Reg.RC.SEQ_CS pc)
    emit (.cspi s i (d.rd u Reg.RC.SEQ_CS pc) (d.rd u Reg.RC.SEQ_DATA pc % 2 ^ len) len)
  | .cspiHost _ cs data len => emit (.cspi s i cs (data % 2 ^ len) len)
  | .rffeSeq y =>
    let pc := (d.syn s y).pc
    let a := d.rd u Reg.RC.SEQ_ADDR pc
    let v := d.rd u Reg.RC.SEQ_DATA pc % 256
    emit (.rffe s (i - 2) (rffeWrite a v) (d.rd u Reg.RC.SEQ_USID pc) a v)
  | .tuner k w =>
    let a := d.rd u Reg.RC.AX_ADDR k w.axis
    emit (.rffe s (i - 2) (if (d.master s i).reading then rffeRead a else rffeWrite a w.code) (d.rd u Reg.RC.AX_USID k w.axis) a
      (if (d.master s i).reading then 0 else w.code))

/-- Sequence transfers precede host transfers (R258). -/
def BusOp.isHost : BusOp → Bool
  | .cspiHost .. => true
  | _ => false

/-- An idle master starts its next transfer; GO reads 1 until its frame is taken up (R51). -/
def busNext (s i : Nat) : Script := withDev fun d =>
  let b := d.master s i
  match b.cur, b.queue with
  | none, op :: rest => seqs [
      modMaster s i fun _ => { cur := some op, queue := rest },
      when op.isHost (putB (rcU s) Reg.RC.XFER_GO false), sendOp s i op]
  | _, _ => skip

/-- A transfer is asked of a master. -/
def busRequest (s i : Nat) (op : BusOp) : Script := seqs [
  modMaster s i fun b => { b with queue :=
    if op.isHost then b.queue ++ [op] else (b.queue.takeWhile fun x => !x.isHost) ++ [op] ++ (b.queue.dropWhile fun x => !x.isHost) },
  busNext s i]

/-- Perform the entry at the synthesiser's place in its sequence (R259): ask for its frame or transfer, start its wait, or
end the sequence. A sequence without a CSPI frame starts its settle timer at its END. -/
def seqStep (s y : Nat) : Script := withDev fun d =>
  let u := rcU s
  let pc := (d.syn s y).pc
  let op := if pc ≥ 256 then 3 else d.rd u Reg.RC.SEQ_OP pc
  match op with
  | 0 => busRequest s (d.rd u Reg.RC.SEQ_MASTER pc) (.cspiSeq y)
  | 1 => busRequest s (2 + d.rd u Reg.RC.SEQ_MASTER pc) (.rffeSeq y)
  | 2 => startTimer (.seqWait s y) (dtOfUs (d.rd u Reg.RC.SEQ_DATA pc))
  | _ => seqs [
      putB u Reg.RC.SYN_SEQ_RUN false y,
      modSyn s y fun x => { x with run := none },
      when (!d.is u Reg.RC.SYN_SETTLING y && !(d.syn s y).settled) (startSettle s y)]

/-- A sequence starts: the dependent groups enter Settle and its first entry is performed (R259). PROG leaves what else waits in
place, and RECOVER a RECAL that the host asked for. -/
def startSeq (s y : Nat) (kind : SeqKind) : Script := withDev fun d => seqs [
  stopTimer (.synSettle s y), stopTimer (.seqWait s y),
  putB (rcU s) Reg.RC.SYN_SEQ_RUN true y, putB (rcU s) Reg.RC.SYN_READY false y,
  putB (rcU s) Reg.RC.SYN_SETTLING false y,
  when (kind == .recal) (put (rcU s) Reg.RC.SYN_CTRL_RECAL
    (d.rd (rcU s) Reg.RC.SYN_CTRL_RECAL - (d.rd (rcU s) Reg.RC.SYN_CTRL_RECAL &&& 2 ^ y))),
  modSyn s y fun x => { x with
    run := some kind, pc := d.seqStart s y kind, settled := false, temp := d.sectionTemp s
    prog := x.prog && kind != .prog, want := if kind = .prog then x.want else none },
  settleGroups s y, seqStep s y]

/-- SETTLE_BUDGET in dt that applies to a group: the smallest of its synthesisers. -/
def Dev.settleBudget (d : Dev) (s k : Nat) : Nat :=
  (((d.synthsOf s k).map fun y => dtOfUs (d.rd (rcU s) Reg.RC.SYN_SETTLE_BUDGET y)).foldl min (2 ^ 32))

/-- The first legal boundary of a held request at or after t_ok + 492 (R262); E is 0 for an FDD request. -/
def Dev.boundary (d : Dev) (s k st e tok : Nat) : Option Nat :=
  let low := tok + tddLead
  let sub := d.rd (rcU s) Reg.RC.G_SUB_DT k
  let b := if e = 0 then max low st
    else if low ≤ st then st
    else if sub = 0 then 0
    else st + ceilDiv (low - st) sub * sub
  if b = 0 ∨ b > st + d.settleBudget s k ∨ (e ≠ 0 ∧ b ≥ e) then none else some b

/-- The skip-run condition ends once every synthesiser of the group is ready (R263); SKIP_RUN stands until a burst proceeds (R262). -/
def endSkip (s k : Nat) : Script := withDev fun d =>
  when ((d.grp s k).skipMute && d.grpReady s k) (seqs [modGrp s k fun g => { g with skipMute := false }, condEnd (rcU s) 1 k])

/-- A burst is skipped (R262, R263): counters, the Note source with the synthesiser, and the skip-run condition. -/
def skipBurst (s k : Nat) : Script := withDev fun d =>
  let u := rcU s
  let run := min 255 (d.rd u Reg.RC.G_SKIP_RUN k + 1)
  let y := ((d.synthsOf s k).find? fun y => !d.is u Reg.RC.SYN_READY y).getD ((d.synthsOf s k).headD 0)
  seqs [
    inc u Reg.RC.G_SKIP_CNT k, put u Reg.RC.G_SKIP_RUN run k, putB u Reg.RC.G_SYN_WAIT false k,
    modGrp s k fun g => { g with held := none },
    fireEvent u 2 { addr := 0, idx := 0xFF } [y],
    when (decide (run ≥ d.rd u Reg.RC.G_SKIP_MAX k) && !(d.grp s k).skipMute) (seqs [
      modGrp s k fun g => { g with skipMute := true },
      condStart u 1 k (setScope u k (d.cellsOfGroup s k)) []]),
    endSkip s k,
    -- an FDD request comes again at S + SETTLE_BUDGET
    when (!d.grpTdd s k) (match (d.grp s k).held with
      | some (st, _) => startTimerAt (.fddRepeat s k) (max d.dt (st + d.settleBudget s k))
      | none => skip)]

/-- A synthesiser is ready (R260): its groups leave Settle, a held request without a legal boundary left is skipped, and the loss mute
and the skip-run condition end. -/
def synthReady (s y : Nat) : Script := withDev fun d =>
  when ((d.syn s y).locked && (d.syn s y).settled && (d.syn s y).run.isNone && !d.is (rcU s) Reg.RC.SYN_READY y) <| seqs [
    putB (rcU s) Reg.RC.SYN_READY true y,
    modSyn s y fun x => { x with lossMute := false },
    forEach (d.groupsOfSynth s y) fun k => withDev fun d => when (d.grpReady s k) <| seqs [
      when (d.gState s k == gsSettle) (seqs [
        putGState s k (d.restState s k),
        when (!d.grpTdd s k && (d.grp s k).held.isNone && (d.grp s k).down == .none) (match (d.grp s k).vddAt with
          | some v => startTimerAt (.groupStep s k) (max d.dt (v + vddLead))
          | none => skip)]),
      match (d.grp s k).held with
      | some (st, e) => if (d.boundary s k st e d.dt).isNone then skipBurst s k else skip
      | none => skip,
      endSkip s k]]

/-- The bias lead of a Send state starts (R252): Switch with BIAS_EN and TRSW, and Send at `st` until `e`. -/
def startBias (s k st e : Nat) : Script := seqs [
  putGState s k gsSwitch, put (rcU s) Reg.RC.G_SKIP_RUN 0 k, putB (rcU s) Reg.RC.G_SYN_WAIT false k,
  modGrp s k fun g => { g with bias := true, held := none, nextS := some st, sendEnd := if e = 0 then none else some e }]

/-- An orderly power-down for OFF_REQ begins from the step reached (R254). -/
def startDown (s k : Nat) : Script := withDev fun d =>
  if d.gState s k == gsOff then skip
  else if d.sending s k then seqs [
    modGrp s k fun g => { g with down := .ramp, forRecal := false }, startTimer (.groupStep s k) tddLead]
  else if d.gState s k == gsSwitch && (d.grp s k).bias then seqs [
    modGrp s k fun g => { g with down := .bias, forRecal := false, nextS := none }, startTimer (.groupStep s k) biasLead]
  else seqs [
    modGrp s k fun g => { g with down := .supply, forRecal := false, held := none }, startTimer (.groupStep s k) vddHold,
    stopTimer (.fddRepeat s k), putB (rcU s) Reg.RC.G_SYN_WAIT false k]

/-- An FDD group that sends stops for a RECAL by a digital ramp-down (R259). -/
def stopForRecal (s k : Nat) : Script := withDev fun d =>
  when (!d.grpTdd s k && d.sending s k && (d.grp s k).down == .none) (seqs [
    modGrp s k fun g => { g with down := .ramp, forRecal := true }, startTimer (.groupStep s k) tddLead])

/-! ### Send as the samples see it (R181, R249, R252) -/

/-- `t` lies in an interval whose end may be open. -/
def within (t : Nat) (x : Nat × Option Nat) : Bool := decide (x.1 ≤ t) && x.2.all fun e => decide (t < e)

/-- SEND entries of a TDD group whose bias lead has not begun and that it can meet, in the mark period to come. -/
def Dev.sendsAhead (d : Dev) (s k : Nat) : List (Int × Int) :=
  let g := d.grp s k
  let per := d.rd (rcU s) Reg.RC.G_PERIOD_DT k
  if d.gState s k == gsOff || d.gState s k == gsSettle || !d.grpReady s k || g.down != .none || per == 0 then []
  else (((List.range (d.rd (rcU s) Reg.RC.G_N_ENT k)).filter fun e => d.entryOk s k e kindSend).flatMap fun e =>
    (List.range (d.markPeriod (d.grpCarrier s k) / per + 2)).map (d.entrySpan s k e)).filter fun x =>
        decide ((d.dt : Int) < x.1) && g.vddAt.any fun v => decide (((v + vddLead + tddLead : Nat) : Int) ≤ x.1)

/-- One of them that covers the DAC instant `t`. -/
def Dev.plannedSend (d : Dev) (s k t : Nat) : Option (Nat × Option Nat) :=
  ((d.sendsAhead s k).find? fun x => decide (x.1 ≤ (t : Int) ∧ (t : Int) < x.2)).map fun x => (x.1.toNat, some x.2.toNat)

/-- The Send state of a group that covers the DAC instant `t`: its start, and its end where one is set. A DAC instant lies ahead of
the present, so a Send state under way, one that its bias lead has announced and those of the table to come all count. -/
def Dev.sendSpan (d : Dev) (s k t : Nat) : Option (Nat × Option Nat) :=
  let g := d.grp s k
  let e := if g.down == .ramp then d.deadline (.groupStep s k) else g.sendEnd
  let now := (if d.sending s k then g.sendFrom else g.nextS).map fun a => (a, e)
  if now.any (within t) then now
  else if within t (g.sndPrev.1, some g.sndPrev.2) then some (g.sndPrev.1, some g.sndPrev.2)
  else d.plannedSend s k t

/-- The instant `t` lies within a PA ramp of the group (R249): outside its Send states, from VDD_EN to the first of them, from the last
to the release of VDD_EN, and in the bias lead of a TDD window. -/
def Dev.paRamp (d : Dev) (s k t : Nat) : Bool :=
  let g := d.grp s k
  let lead := fun (a : Int) => decide (a - tddLead ≤ (t : Int) ∧ (t : Int) < a)
  (d.sendSpan s k t).isNone && (
    g.vddAt.any (fun v => decide (v ≤ t) && !g.sentAt.any fun a => decide (v ≤ a)) || g.down != .none ||
    g.nextS.any (fun a => lead a) || (d.grpTdd s k && (d.sendsAhead s k).any fun x => lead x.1))

/-- Keep the intervals in which a group is in a Send state or a PA ramp (R283), the last 16 of them. -/
def noteLoud : Script := withDev fun d =>
  forEach d.sections fun s => forEach (List.range 4) fun k =>
    let now := d.sending s k || d.paRamp s k d.dt
    match (d.grp s k).loud with
    | (a, none) :: rest => when (!now) (modGrp s k fun g => { g with loud := (a, some d.dt) :: rest })
    | past => when now (modGrp s k fun g => { g with loud := (d.dt, none) :: past.take 15 })

/-- The digital ramps at a DAC instant (R252, R254): the output's factor as a fraction, 0 outside Send. -/
def Dev.sendShape (d : Dev) (s k t : Nat) : Nat × Nat :=
  let r := d.rampLen s k
  match d.sendSpan s k t with
  | none => (0, 1)
  | some (a, e) => if r = 0 then (1, 1) else (min r (min (t - a) (e.map (· - t) |>.getD r)), r)

/-! ### Pins (R256, R257) -/

/-- A downlink entry of the group's table covers the instant `t`, before the shift (R256). -/
def Dev.dlPhase (d : Dev) (s k t : Nat) : Bool :=
  let car := d.grpCarrier s k
  let per := d.rd (rcU s) Reg.RC.G_PERIOD_DT k
  d.hasMarks car && per != 0 && (List.range (d.rd (rcU s) Reg.RC.G_N_ENT k)).any fun e =>
    d.entryDl s k e && decide (((t : Int) - (d.carrierAt car).mark - d.rd (rcU s) Reg.RC.T_START k e) % per <
      d.rd (rcU s) Reg.RC.T_LEN k e)

/-- The instant `t` lies within 492 dt from a mark of the carrier, the latest one or one to come (R256). -/
def Dev.framePulse (d : Dev) (car t : Nat) : Bool :=
  d.hasMarks car && decide (((t : Int) - (d.carrierAt car).mark) % d.markPeriod car < tddLead)

/-- VDD_EN as it will stand at `t`, from the present on. -/
def Dev.vddBy (d : Dev) (s k t : Nat) : Bool :=
  let g := d.grp s k
  g.vddAt.isSome && !(g.down == .supply && (d.deadline (.groupStep s k)).any fun e => decide (e ≤ t))

/-- An instant at which a bias lead begins, up to `t` (R252, R262). -/
def Dev.leadBy (d : Dev) (s k t : Nat) : Bool :=
  let g := d.grp s k
  let due := (d.deadline (.groupStep s k)).any fun e => decide (e ≤ t)
  d.resting s k && g.down == .none && d.grpReady s k && (
    (!d.grpTdd s k && due) ||
    (d.grpTdd s k && (d.sendsAhead s k).any fun x => decide (x.1 - tddLead ≤ (t : Int))) ||
    g.held.any fun h => (d.boundary s k h.1 h.2 d.dt).any fun b => decide (b ≤ t + tddLead))

/-- BIAS_EN as it will stand at `t`, from the present on: released at the end of a SEND entry or of an orderly stop (R252, R254, R259). -/
def Dev.biasBy (d : Dev) (s k t : Nat) : Bool :=
  let g := d.grp s k
  let due := (d.deadline (.groupStep s k)).any fun e => decide (e ≤ t)
  if g.bias then
    !(((g.down == .bias || (g.down == .ramp && g.forRecal)) && due) ||
      (g.down == .none && g.sendEnd.any fun e => decide (e ≤ t)))
  else d.leadBy s k t

/-- A TDD group is in Rest or Listen at `t`, from the present on. -/
def Dev.restsBy (d : Dev) (s k t : Nat) : Bool :=
  let g := d.grp s k
  if d.busyTx s k then g.down == .none && g.sendEnd.any fun e => decide (e + d.rd (rcU s) Reg.RC.G_SWITCH_DT k ≤ t)
  else d.resting s k && !d.leadBy s k t

/-- The logical level of an output pin outside the safe state for the instant `t`, the present or one that its advance reaches: an
instant that a timer, a table or a mark sets is known ahead, any other one takes effect as it comes (R256, R257; DEDUCED, log entry
126; unsafe). -/
def Dev.pinLogic (d : Dev) (s p t : Nat) : Bool :=
  let u := rcU s
  let k := d.rd u Reg.RC.PIN_GROUP p
  match d.rd u Reg.RC.PIN_FUNC p with
  | 1 => d.vddBy s k t
  | 2 => d.biasBy s k t
  | 3 => d.biasBy s k t
  | 4 => if d.grpTdd s k then d.restsBy s k t else d.gState s k != gsOff
  | 5 => d.dlPhase s k t
  | 6 => d.framePulse (d.grpCarrier s k) t
  | 7 => (List.range 9).any fun i => d.isPending u i && decide (d.sevOf u i ≥ 2)
  | 8 => d.is u Reg.RC.PIN_HOST_LVL p
  | _ => false

/-- The level of a pin as LEVEL shows it: the safe level in the safe state, else the logical level ADV_DT ahead, inverted by POL (R256,
R257). -/
def Dev.pinLevel (d : Dev) (s p : Nat) : Bool :=
  let u := rcU s
  let safe := d.gState s (d.rd u Reg.RC.PIN_GROUP p) == gsOff
  (if safe then d.is u Reg.RC.PIN_SAFE p else d.pinLogic s p (d.dt + d.rd u Reg.RC.PIN_ADV_DT p)) != d.is u Reg.RC.PIN_POL p

/-- Bring LEVEL of every output pin up to date; NONE pins and PA_ALARM inputs are not driven. -/
def refreshPins : Script := withDev fun d =>
  forEach d.sections fun s => forEach (List.range 16) fun p =>
    let f := d.rd (rcU s) Reg.RC.PIN_FUNC p
    when (f != 0 && f != 9 && d.is (rcU s) Reg.RC.PIN_LEVEL p != d.pinLevel s p)
      (putB (rcU s) Reg.RC.PIN_LEVEL (d.pinLevel s p) p)

/-! ### Mismatch (R265, R266) -/

/-- FAULT_MUTE: a Mute source of R269 holds the group (R271). -/
def refreshFaultMute : Script := withDev fun d =>
  forEach d.sections fun s => forEach (List.range 4) fun k =>
    let u := rcU s
    let g := d.grp s k
    let on := g.skipMute || g.alarm || d.is u Reg.RC.G_OPEN_SHORT k || d.is u Reg.RC.G_MM_MUTE k ||
      (d.synthsOf s k).any fun y => (d.syn s y).lossMute
    when (d.is u Reg.RC.G_FAULT_MUTE k != on) (putB u Reg.RC.G_FAULT_MUTE on k)

/-- The step of a tuner axis. -/
def Group.step (g : Group) (a : Nat) : Nat := if a = 0 then g.step0 else g.step1

/-- A tuner write waits for its write point. -/
def tuneWrite (s k a v : Nat) (onTrial : Bool) : Script :=
  modGrp s k fun g => { g with writes := g.writes ++ [{ axis := a, code := v, onTrial := onTrial }] }

/-- At a write point the waiting writes go to their masters (R267): for a TDD group outside Switch and Send, for an FDD group
at once. -/
def flushTuner (s k : Nat) : Script := withDev fun d =>
  let ws := (d.grp s k).writes
  when (!ws.isEmpty && (!d.grpTdd s k || !d.busyTx s k)) (seqs [
    modGrp s k fun g => { g with writes := [] },
    forEach ws fun w => busRequest s (2 + d.rd (rcU s) Reg.RC.AX_MASTER k w.axis) (.tuner k w)])

/-- Every tuner write whose write point has come. -/
def flushTuners : Script := withDev fun d =>
  forEach d.sections fun s => forEach (List.range 4) fun k => flushTuner s k

/-- Go on to the next trial of a search from the given axis and direction; the search ends after axis 1. -/
def tuneNext (s k : Nat) : Nat → Nat → Bool → Script
  | 0, _, _ => modGrp s k fun g => { g with tune := none }
  | f + 1, a, neg => withDev fun d =>
    if a ≥ 2 then modGrp s k fun g => { g with tune := none }
    else if !d.is (rcU s) Reg.RC.AX_EN k a then tuneNext s k f (a + 1) false
    else
      let code := d.rd (rcU s) (tuneCode a) k
      let step := (d.grp s k).step a
      let trial := min (if neg then code - step else code + step) (d.rd (rcU s) Reg.RC.AX_CODE_MAX k a)
      if trial ≠ code then seqs [
        modGrp s k fun g => { g with tune := g.tune.map fun t =>
          { t with axis := a, neg := neg, trial := some trial, written := false, reads := [] } },
        tuneWrite s k a trial true]
      else if !neg then tuneNext s k f a true
      else seqs [
        modGrp s k fun g => if a = 0 then { g with step0 := max 1 (g.step0 / 2) } else { g with step1 := max 1 (g.step1 / 2) },
        tuneNext s k f (a + 1) false]

/-- A valid reading reaches the search (R267). -/
def tuneFeed (s k : Nat) (rl : Int) : Script := withDev fun d =>
  match (d.grp s k).tune with
  | none => skip
  | some t =>
    let n := d.rd (rcU s) Reg.RC.G_TUNE_AVG k
    let reads := rl :: t.reads
    let sum : Int := reads.foldl (· + ·) 0
    if t.trial.isSome && !t.written then skip
    else if reads.length < n then modGrp s k fun g => { g with tune := some { t with reads := reads } }
    else match t.trial, t.base with
      | none, _ => seqs [modGrp s k fun g => { g with tune := some { t with base := some sum, reads := [] } }, tuneNext s k 6 0 false]
      | some v, some b =>
        if sum ≥ b + d.rd (rcU s) Reg.RC.G_TUNE_MIN k * n then seqs [
          put (rcU s) (tuneCode t.axis) v k, inc (rcU s) Reg.RC.G_TUNE_MOVES k,
          modGrp s k fun g =>
            let g := { g with tune := some { t with base := some sum, reads := [], trial := none } }
            if t.axis = 0 then { g with step0 := min 16 (2 * g.step0) } else { g with step1 := min 16 (2 * g.step1) },
          tuneNext s k 6 (t.axis + 1) false]
        else seqs [
          tuneWrite s k t.axis (d.rd (rcU s) (tuneCode t.axis) k) false,
          if !t.neg then tuneNext s k 6 t.axis true
          else seqs [
            modGrp s k fun g =>
              if t.axis = 0 then { g with step0 := max 1 (g.step0 / 2) } else { g with step1 := max 1 (g.step1 / 2) },
            tuneNext s k 6 (t.axis + 1) false]]
      | some _, none => skip

/-- The engine judges a return loss (R266). -/
def judgeRl (s k : Nat) (rl : Int) : Script := withDev fun d =>
  let u := rcU s
  let g := d.grp s k
  let n := d.rd u Reg.RC.G_MM_N k
  let lo := fun (f : Fld) => decide (rl < 10 * (d.rd u f k : Int))
  let cells := setScope u k (d.cellsOfGroup s k)
  let muteRun := if lo Reg.RC.G_RL_MUTE then g.muteRun + 1 else 0
  let boRun := if lo Reg.RC.G_RL_BO then g.boRun + 1 else 0
  let okRun := if rl ≥ 10 * ((d.rd u Reg.RC.G_RL_BO k : Int) + d.rd u Reg.RC.G_RL_HYST k) then g.okRun + 1 else 0
  let bo := d.is u Reg.RC.G_MM_BO k
  seqs [
    modGrp s k fun g => { g with muteRun := muteRun, boRun := boRun, okRun := okRun },
    when (lo Reg.RC.G_RL_FAULT && !d.is u Reg.RC.G_OPEN_SHORT k)
      (seqs [putB u Reg.RC.G_OPEN_SHORT true k, condStart u 4 k cells [rl], stopTune s k]),
    when (decide (muteRun ≥ n) && !d.is u Reg.RC.G_MM_MUTE k) (seqs [
      putB u Reg.RC.G_MM_MUTE true k, inc u Reg.RC.G_MM_CNT k,
      startTimer (.mmHold s k) (dtOfMs (d.rd u Reg.RC.G_MM_HOLD k)),
      condStart u 5 k cells [rl], stopTune s k]),
    when (decide (boRun ≥ n) && !bo) (seqs [putB u Reg.RC.G_MM_BO true k, condStart u 6 k noScope [rl]]),
    when (decide (okRun ≥ n) && bo) (seqs [putB u Reg.RC.G_MM_BO false k, condEnd u 6 k])]

/-- The start of the Send state of a group that holds all of an interval up to the present. -/
def Dev.sentIn (d : Dev) (s k t0 t1 : Nat) : Option Nat :=
  let g := d.grp s k
  let now := if d.sending s k then g.sendFrom.filter fun a => decide (a ≤ t0) && !(g.sendEnd.any fun e => decide (e ≤ t1)) else none
  now <|> if g.sndPrev.1 ≤ t0 ∧ t1 < g.sndPrev.2 then some g.sndPrev.1 else none

/-- A detector reading reaches the Radio Control (R265): the forward and the reflected reading of a valid pair give the return loss.
`first` and `last` stamp the reading's conversions; 10 µs are 4,915.2 dt. -/
def detectorReading (s k : Nat) (forward : Bool) (v : Int) (first last : Nat) : Script := withDev fun d =>
  when (d.grpOn s k && d.gState s k != gsOff) <| seqs [
    modGrp s k fun g => if forward then { g with fwd := some (v, first, last) } else { g with ref := some (v, first, last) },
    withDev fun d =>
      let g := d.grp s k
      match g.fwd, g.ref with
      | some (f, f0, f1), some (r, r0, r1) =>
        let u := rcU s
        let t0 := min f0 r0
        let t1 := max f1 r1
        let ok := decide (t1 ≤ t0 + 4915) &&
          (d.sentIn s k t0 t1).any (fun a => decide (a + dtOfUs (d.rd u Reg.RC.G_DET_SETTLE k) ≤ t0)) &&
          decide (f ≥ d.rdS u Reg.RC.G_FWD_MIN k)
        when ok <| seqs [
          modGrp s k fun g => { g with fwd := none, ref := none },
          putS u Reg.RC.G_FWD f k, putS u Reg.RC.G_RL (clamp (-32767) 32767 (f - r)) k,
          judgeRl s k (f - r), tuneFeed s k (f - r)]
      | _, _ => skip]

end Sys2Proof.Machine
end

