-- ==== Sys2Proof/Machine/DamperOps.lean ====
section
/-! DEFINITION. The Damper as the rest of the block sees it: zeroing a path (R190), the measures of a path (R191), the moves
between adaptation states (R187), and the start and the ends of a Survey (R195 to R197). -/

namespace Sys2Proof.Machine

/-- Why a path is zeroed (R190). -/
inductive ZeroWhy where
  | sync | stateError | coupling | host | survey | kindling
  deriving DecidableEq, Repr

/-- The order of the causes, from which Config.zeroCause takes the number that the record carries. -/
def ZeroWhy.index : ZeroWhy → Nat
  | .sync => 0 | .stateError => 1 | .coupling => 2 | .host => 3 | .survey => 4 | .kindling => 5

/-- What path `p` of section `s` keeps. -/
def Dev.pathAt' (d : Dev) (s p : Nat) : Path := d.pathAt (s * 256 + p)
/-- Change it. -/
def modP (s p : Nat) (f : Path → Path) : Script := modPath (s * 256 + p) f
/-- TAPS of a path (R172). -/
def Dev.taps (d : Dev) (s p : Nat) : Nat := 32 * d.rd (dsU s) Reg.DS.P_TAPS32 p
/-- kmin of a path as the count of lags below 0 (R182). -/
def Dev.below (d : Dev) (s p : Nat) : Nat := min 16 (d.rd (dsU s) Reg.DS.P_BULK p)

/-- The fields of the path window that a write of PATH_SEL latches (R202). -/
def snapFields : List Fld := [Reg.DS.P_COUPLING, Reg.DS.P_RESID, Reg.DS.P_RESID_NF, Reg.DS.P_DEPTH, Reg.DS.P_LOOP_C, Reg.DS.P_EDGE_DB,
  Reg.DS.P_SETTLED, Reg.DS.P_EDGE_HI, Reg.DS.P_STALE, Reg.DS.P_FROZEN, Reg.DS.P_ADAPT_STATE]

/-- Bring UNSETTLED and SURVEY_MET of a Slice up to date (R196). -/
def showSettled (s : Nat) : Script := withDev fun d =>
  let n := ((d.pathsOf s).filter fun p => !d.is (dsU s) Reg.DS.P_SETTLED p).length
  seqs [put (dsU s) Reg.DS.UNSETTLED n, putB (dsU s) Reg.DS.SURVEY_MET (n == 0)]

/-- Zero a path (R190): taps, averages and histories, PROBE, SETTLED, and one count, with the record of R471. -/
def zeroPath (s p : Nat) (why : ZeroWhy) : Script := withDev fun _ => seqs [
  modP s p fun x => { x with w := [], m := [], spec := [], rBase := 0, past := 0, met := 0 },
  put (dsU s) Reg.DS.P_ADAPT_STATE 0 p, putB (dsU s) Reg.DS.P_SETTLED false p,
  stopTimer (.refineHold (dsU s) p),
  inc (dsU s) Reg.DS.P_ZEROED p, inc (dsU s) Reg.DS.ZERO_CNT,
  showSettled s,
  noteRec (dsU s) 0x40 (leBytes 1 p ++ leBytes 1 (Config.zeroCause why.index))]

/-- T_res in ms (R183). -/
def Dev.tRes (d : Dev) (s : Nat) : Nat :=
  if d.mode = .survey then d.rd (dsU s) Reg.DS.SURVEY_TAU else d.rd (dsU s) Reg.DS.RES_TAU

/-- A level minus another; none when either is none. -/
def subLevel (a b : Option Int) : Option Int :=
  match a, b with
  | some x, some y => some (x - y)
  | _, _ => none

/-- A ratio in 0.01 dB under a rounding; none for zero. -/
def ratioLevel (f : Nat → Nat → Int) (p q : Nat) : Option Int := if p = 0 ∨ q = 0 then none else some (f p q)

/-- The lags of m that lie outside the path's window (R182). -/
def edgeLags (below taps : Nat) (m : List (Int × Int)) : List (Int × Int) := m.take below ++ m.drop (below + taps)

/-- The measures of R191 at an update with used hops; without one the path holds its values and is stale. -/
def measurePath (s p : Nat) : Script := withDev fun d =>
  let x := d.pathAt' s p
  let u := dsU s
  let fresh := modP s p fun x => { x with hops := 0, used := 0, eps := 0, probe := 0 }
  if x.used = 0 then seqs [putB u Reg.DS.P_STALE true p, fresh]
  else
    let n := d.taps s p
    let b := d.below s p
    let c := ratioLevel cdbDown (energy x.w) (2 ^ 48)
    let r := ratioLevel cdbUp (energy x.m) (2 ^ 96)
    let e := subLevel (ratioLevel cdbNear (energy (edgeLags b n x.m)) (2 ^ 96)) c
    let nf := ratioLevel cdbNear ((n + 16 + b) * x.eps * x.hops * 1000)
      (2 * d.tRes s * d.cellRate (d.rcvOf s p) * x.used * x.probe)
    seqs [
      putB u Reg.DS.P_STALE false p,
      put u Reg.DS.P_COUPLING (codeLevel c) p, put u Reg.DS.P_RESID (codeLevel r) p,
      put u Reg.DS.P_RESID_NF (codeLevel nf) p, put u Reg.DS.P_DEPTH (codeLevel (subLevel c r)) p,
      put u Reg.DS.P_EDGE_DB (codeLevel e) p, fresh]

/-- The receiving cell of a path as a scope, with the path's index (R470). -/
def Dev.pathScope (d : Dev) (s p : Nat) : Scope := setScope (dsU s) p [d.rcvOf s p]

/-- The limits of R193 and R194 at an update. -/
def judgePath (s p : Nat) : Script := withDev fun d =>
  let u := dsU s
  let past := match levelOf (d.rd u Reg.DS.P_COUPLING p) with
    | some c => decide (c > 100 * d.rdS u Reg.DS.COUP_MAX)
    | none => false
  let edge := match levelOf (d.rd u Reg.DS.P_EDGE_DB p) with
    | some e => decide (e > -100 * (d.rd u Reg.DS.EDGE_LIM : Int))
    | none => false
  seqs [
    when (past && !d.is u Reg.DS.P_STALE p) (seqs [
      zeroPath s p .coupling, fireEvent u 2 (d.pathScope s p) [d.rdS u Reg.DS.P_COUPLING p]]),
    when (edge != d.is u Reg.DS.P_EDGE_HI p) (seqs [
      putB u Reg.DS.P_EDGE_HI edge p, condSet edge u 3 p (d.pathScope s p) [d.rdS u Reg.DS.P_EDGE_DB p]])]

/-- ADAPT_STATE of a path (R183). -/
abbrev asProbe : Nat := 0
/-- REFINE. -/
abbrev asRefine : Nat := 1
/-- SUSPENDED. -/
abbrev asSuspended : Nat := 2

/-- The moves of R187 at an update. -/
def movePath (s p : Nat) : Script := withDev fun d =>
  let u := dsU s
  let x := d.pathAt' s p
  let st := d.rd u Reg.DS.P_ADAPT_STATE p
  match levelOf (d.rd u Reg.DS.P_RESID p), levelOf (d.rd u Reg.DS.P_DEPTH p) with
  | some r, depth =>
    if st = asProbe then
      when (d.is u Reg.DS.P_REFINE_EN p && d.modeIn [.carry, .backoff, .service] && !d.is u Reg.DS.P_FROZEN p &&
          depth.any (fun v => decide (v ≥ 100 * (d.rd u Reg.DS.REFINE_MIN : Int)))) (seqs [
        put u Reg.DS.P_ADAPT_STATE asRefine p, modP s p fun x => { x with rBase := r, past := 0 }])
    else if st = asRefine then
      let past := if r > min x.rBase r + 100 * (d.rd u Reg.DS.BIAS_TOL : Int) then x.past + 1 else 0
      seqs [
        modP s p fun x => { x with rBase := min x.rBase r, past := past },
        when (decide (past ≥ 2)) (seqs [
          put u Reg.DS.P_ADAPT_STATE asSuspended p,
          inc u Reg.DS.P_SUSPENDS p, inc u Reg.DS.BIAS_CNT,
          startTimer (.refineHold u p) (dtOfS (d.rd u Reg.DS.REFINE_HOLD)),
          fireEvent u 4 (d.pathScope s p) []])]
    else skip
  | none, _ => skip

/-- Settling in Survey at an update (R196). -/
def settlePath (s p : Nat) : Script := withDev fun d =>
  let u := dsU s
  let c := d.rcvOf s p
  let deep := (levelOf (d.rd u Reg.DS.P_DEPTH p)).any fun v => decide (v ≥ 100 * (d.rd u Reg.DS.SURVEY_DEPTH : Int))
  let small := (levelOf (d.rd u Reg.DS.P_RESID p)).any fun v =>
    decide (v + d.rdS c Reg.BC.GAIN_MAX + (d.rd c Reg.BC.EQ_MAX : Int) ≤ -100 * (d.rd u Reg.DS.SURVEY_NEG : Int))
  when (d.mode == .survey) <|
    let met := if deep || small then (d.pathAt' s p).met + 1 else 0
    seqs [modP s p fun x => { x with met := met },
      when (decide (met ≥ 4)) (putB u Reg.DS.P_SETTLED true p)]

/-- What the path window will show of the update (R202). -/
def showPath (s p : Nat) : Script := withDev fun d =>
  modP s p fun x => { x with shown := snapFields.map fun f => d.rd (dsU s) f p }

/-- WORST_PATH and WORST_LC (R205). -/
def showWorst (s : Nat) : Script := withDev fun d =>
  let u := dsU s
  let lcs := (d.pathsOf s).filterMap fun p => (levelOf (d.rd u Reg.DS.P_LOOP_C p)).map fun v => (v, p)
  match lcs with
  | [] => put u Reg.DS.WORST_LC noLevel
  | x :: xs =>
    let w := xs.foldl (fun a b => if b.1 > a.1 then b else a) x
    seqs [put u Reg.DS.WORST_PATH w.2, put u Reg.DS.WORST_LC (codeLevel (some w.1))]

/-! ### Survey (R195 to R197) -/

/-- Entry to Survey: zeroing where SURVEY_ZERO is set, every path back to PROBE and unsettled, and the Survey timer. -/
def startSurvey : Script := withDev fun d => seqs [
  forEach d.sections fun s => when (d.is (dsU s) Reg.DS.ENABLE) <| seqs [
    forEach (d.pathsOf s) fun p => seqs [
      when (d.is (dsU s) Reg.DS.SURVEY_ZERO) (zeroPath s p .survey),
      put (dsU s) Reg.DS.P_ADAPT_STATE asProbe p, stopTimer (.refineHold (dsU s) p),
      putB (dsU s) Reg.DS.P_SETTLED false p, modP s p fun x => { x with met := 0, past := 0 }]],
  forEach d.sections showSettled,
  startTimer .survey (dtOfMs (match d.sections.find? fun s => d.is (dsU s) Reg.DS.ENABLE with
    | some s => d.rd (dsU s) Reg.DS.SURVEY_TIME
    | none => Reg.DS.SURVEY_TIME.rst))]

/-- At every end of Survey each path keeps COUPLING and DEPTH (R197). -/
def endSurvey : Script := withDev fun d => seqs [
  stopTimer .survey,
  forEach d.sections fun s => forEach (d.pathsOf s) fun p => seqs [
    put (dsU s) Reg.DS.P_SV_COUP (d.rd (dsU s) Reg.DS.P_COUPLING p) p,
    put (dsU s) Reg.DS.P_SV_DEPTH (d.rd (dsU s) Reg.DS.P_DEPTH p) p]]

/-- Every path of a Slice is settled, in every enabled Slice (R197). -/
def Dev.surveyMet (d : Dev) : Bool :=
  d.sections.all fun s => (d.pathsOf s).all fun p => d.is (dsU s) Reg.DS.P_SETTLED p

end Sys2Proof.Machine
end

