-- ==== Sys2Proof/Machine/HkOps.lean ====
section
/-! DEFINITION. The Housekeeping ADC and the Thermal Monitor as the rest of the block sees them: from code to value (R443, R444),
the choice of the next conversion (R442), sensors (R448 to R451), throttle levels (R452 to R455), shutdown (R456, R457), and
what Cold and Kindling do to them (R436, R459). -/

namespace Sys2Proof.Machine

/-! ### From code to value (R443, R444) -/

/-- The corrected code of a raw one (R443): `code` may be negative once a detector offset is subtracted. -/
def Dev.correct (d : Dev) (code : Int) : Nat :=
  let n : Nat := Config.adcDen + 1
  let t := (d.tm.d0.getD Config.firstD0) - 2500
  let p := (code * (n : Int) - Config.adcOfs) * Config.adcGain * ((n : Int) * 100 + Config.adcTempco * t)
  (clamp 0 65535 (roundHalf p (n * n * n * 100))).toNat

/-- Fraction bits of logarithms. -/
def lnBits : Nat := 96

/-- 2 × (y + y³/3 + y⁵/5 + …) for y in units of 2^−96, over `f` terms from the one with divisor `k`; `p` is y^k. -/
def lnSeries (y2 : Nat) : Nat → Nat → Nat → Nat
  | 0, _, _ => 0
  | f + 1, k, p => 2 * p / k + lnSeries y2 f (k + 2) (p * y2 / 2 ^ lnBits)

/-- ln (p/q) in units of 2^−96 for p ≥ q and p < 2 q. -/
def lnNear (p q : Nat) : Nat :=
  let y := (p - q) * 2 ^ lnBits / (p + q)
  lnSeries (y * y / 2 ^ lnBits) 32 1 y

/-- ln 2 in units of 2^−96. -/
def lnTwo : Nat := lnNear (2 ^ 32 - 1) (2 ^ 31) + lnNear (2 ^ 32) (2 ^ 32 - 1)

/-- ln (p/q) in units of 2^−96, for p, q > 0. -/
def lnFix (p q : Nat) : Int :=
  let a := Nat.log2 p
  let b := Nat.log2 q
  -- p/q = 2^(a − b) × (p 2^b) / (q 2^a), the last lying between 1/2 and 2
  let x := p * 2 ^ b
  let y := q * 2 ^ a
  let m : Int := if x ≥ y then ((lnNear x y : Nat) : Int) else -((lnNear y x : Nat) : Int)
  (((a : Nat) : Int) - ((b : Nat) : Int)) * ((lnTwo : Nat) : Int) + m

/-- An IEEE 754 binary32 value as a fraction; none for infinities and NaNs. -/
def binary32 (v : Nat) : Option (Int × Nat) :=
  let e := v / 2 ^ 23 % 256
  let m := v % 2 ^ 23
  let s : Int := if v.testBit 31 then -1 else 1
  if e = 255 then none
  else if e = 0 then some (s * ((m : Nat) : Int), 2 ^ 149)
  else
    let n := 2 ^ 23 + m
    if e ≥ 150 then some (s * ((n * 2 ^ (e - 150) : Nat) : Int), 1) else some (s * ((n : Nat) : Int), 2 ^ (150 - e))

/-- A thermistor's temperature in 0.01 °C (R444), to one of its neighbours; none where the formula gives no number. -/
def thermistor (a b c rpull code : Nat) : Option Int :=
  match binary32 a, binary32 b, binary32 c with
  | some (an, ad), some (bn, bd), some (cn, cd) =>
    let l := lnFix (rpull * code) (65536 - code)
    let f : Nat := 2 ^ lnBits
    let den : Nat := ad * bd * cd * f ^ 3
    let num : Int := an * ((bd * cd * f ^ 3 : Nat) : Int) + bn * l * ((ad * cd * f ^ 2 : Nat) : Int) +
      cn * l ^ 3 * ((ad * bd : Nat) : Int)
    if num = 0 then none
    else
      -- 100 / (num / den) − 27,315
      some (roundOpen (if num < 0 then -(100 * (den : Int)) else 100 * (den : Int)) num.natAbs - 27315)
  | _, _, _ => none

/-- The value of a detector curve at a corrected code: linear between its points, held at its ends. -/
def Dev.detector (d : Dev) (k code : Nat) : Int :=
  let cc := fun i => (d.rd HA Reg.HA.CURVE_CODE k i : Int)
  let db := fun i => d.rdS HA Reg.HA.CURVE_DBM k i
  let x : Int := code
  if x ≤ cc 0 then db 0
  else if x ≥ cc 15 then db 15
  else match (List.range 15).find? fun i => decide (cc i ≤ x ∧ x < cc (i + 1)) with
    | some i => roundOpen (db i * (cc (i + 1) - x) + db (i + 1) * (x - cc i)) (cc (i + 1) - cc i).toNat
    | none => db 15

/-- Go on with a number as a 16-bit one; one that does not fit is left open. -/
def fit16 (x : Option Int) (k : Int → Script) : Script :=
  match x with
  | some x => if -32768 ≤ x ∧ x ≤ 32767 then k x else drawBelow 65536 fun v => k (signed 16 v)
  | none => drawBelow 65536 fun v => k (signed 16 v)

/-! ### The next conversion (R442) -/

/-- The sequence entry that a conversion belongs to; none for a sweep. -/
def Dev.workEntry (d : Dev) : HkWork → Option Nat
  | .sweep _ => none
  | .entry e => some e
  | .urgent k second => some (d.rd HA (if second then Reg.HA.U_ENT_B else Reg.HA.U_ENT_A) k)

/-- dt of one housekeeping-clock cycle: 4, or 8 at half rate (R438). -/
def hkCycle (half : Bool) : Nat := if half then 8 else 4

/-- A conversion begins: 60 + ACQ_EXT cycles at the divider commanded now (R438). -/
def startWork (w : HkWork) : Script := withDev fun d =>
  let acq := ((d.workEntry w).map fun e => d.rd HA Reg.HA.ENT_ACQ_EXT e).getD 0
  let half := d.is CK Reg.CK.HK_HALF
  seqs [
    putB HA Reg.HA.HALF half,
    modHk fun h => { h with cur := some w, endAt := d.dt + hkCycle half * (60 + acq) }]

/-- A number with bit `r` set or cleared. -/
def setBit (x r : Nat) (b : Bool) : Nat := (if x.testBit r then x - 2 ^ r else x) + (if b then 2 ^ r else 0)

/-- The converter takes up its next work at a conversion boundary. -/
def hkNext : Script := withDev fun d =>
  let h := d.hk
  let pend := d.rd HA Reg.HA.URG_PEND
  when (h.cur.isNone && d.mode != .cold) (
    match h.urg with
    | some (k, second) => startWork (.urgent k second)
    | none =>
      match (List.range 4).find? pend.testBit with
      | some k => seqs [
          put HA Reg.HA.URG_PEND (pend - 2 ^ k), put HA Reg.HA.URG_REQ (setBit (d.rd HA Reg.HA.URG_REQ) k false),
          modHk fun h => { h with urg := some (k, false), urgPart := [], part := [] },
          startWork (.urgent k false)]
      | none =>
        match h.sweepNext with
        | some j => startWork (.sweep j)
        | none =>
          if h.sweepDue then seqs [
            putB HA Reg.HA.SWEEP_RUN true,
            modHk fun h => { h with sweepDue := false, sweepNext := some 0 },
            startWork (.sweep 0)]
          else when (d.is HA Reg.HA.PASS_RUN) (startWork (.entry (d.rd HA Reg.HA.CUR_ENTRY))))

/-- An urgent slot is requested: a pending one merges; a sequence conversion in progress is aborted (R441, R442). -/
def urgentRequest (k : Nat) : Script := withDev fun d =>
  let pend := d.rd HA Reg.HA.URG_PEND
  if pend.testBit k then inc HA Reg.HA.URG_MERGE
  else seqs [
    put HA Reg.HA.URG_PEND (pend + 2 ^ k),
    match d.hk.cur with
    | some (.entry _) => modHk fun h => { h with cur := none, part := [] }
    | _ => skip,
    hkNext]

/-! ### Sensors (R448 to R451) -/

/-- A sensor is enabled; the on-die ones always are. -/
def Dev.sensorOn (d : Dev) (i : Nat) : Bool := decide (i < 8) || d.is TM Reg.TM.S_EN i
/-- A sensor is failed. -/
def Dev.sensorFailed (d : Dev) (i : Nat) : Bool := d.is TM Reg.TM.S_FAILED i
/-- TEMP of a sensor; none before its first reading. -/
def Dev.sensorTemp (d : Dev) (i : Nat) : Option Int := levelOf (d.rd TM Reg.TM.S_TEMP i)
/-- The enabled sensors of a neighbourhood. -/
def Dev.nbSensors (d : Dev) (n : Nat) : List Nat :=
  (List.range 32).filter fun i => d.sensorOn i && d.rd TM Reg.TM.S_NBHD i == n
/-- TEMPs of the valid ones among some sensors. -/
def Dev.validTemps (d : Dev) (is : List Nat) : List Int :=
  (is.filter fun i => !d.sensorFailed i).filterMap d.sensorTemp
/-- NB_HOT. -/
def Dev.nbHot (d : Dev) (n : Nat) : Option Int := levelOf (d.rd TM Reg.TM.N_NB_HOT n)

/-- Insert into a list in rising order. -/
def insertInt (x : Int) : List Int → List Int
  | [] => [x]
  | y :: ys => if x ≤ y then x :: y :: ys else y :: insertInt x ys

/-- Twice the median; with an even count the sum of the two middle values (R450). -/
def medianTwice (xs : List Int) : Int :=
  let ys := xs.foldr insertInt []
  let n := ys.length
  if n % 2 = 1 then 2 * ys.getD (n / 2) 0 else ys.getD (n / 2 - 1) 0 + ys.getD (n / 2) 0

/-- A sensor is declared failed (R450), with the hold of R454. -/
def declareFailed (i why : Nat) : Script := withDev fun d =>
  let hold := d.rd TM Reg.TM.LEVEL ≥ 1 ∧ (d.sensorAt i).wasHot
  when (!d.sensorFailed i || (d.sensorAt i).byCheck) (seqs [
    putB TM Reg.TM.S_FAILED true i, put TM Reg.TM.S_FAIL_WHY why i, putB TM Reg.TM.S_SUBST true i,
    modSensor i fun x => { x with byCheck := false, medRun := 0 },
    inc TM Reg.TM.FAIL_CNT,
    when (decide hold) (seqs [putB TM Reg.TM.FALL_HOLD true, startTimer .fallHold (dtOfS 10)]),
    fireEvent TM 1 noScope [Int.ofNat (b2n (decide hold))]])

/-- A failed sensor's TEMP (R451); with no valid reading in the device it is left open. -/
def substitute (i : Nat) : Script := withDev fun d =>
  let n := d.rd TM Reg.TM.S_NBHD i
  let m : Int := d.rd TM Reg.TM.N_SUB_MARGIN n
  let own := maxLevel (d.validTemps (d.nbSensors n))
  let all := maxLevel (d.validTemps ((List.range 32).filter d.sensorOn))
  when (d.sensorOn i && d.sensorFailed i) (seqs [
    putB TM Reg.TM.S_SUBST true i,
    fit16 ((own.or all).map (· + m)) fun x => putS TM Reg.TM.S_TEMP x i])

/-! ### Levels (R452 to R455) -/

/-- Threshold L of a neighbourhood. -/
def Dev.threshold (d : Dev) (n l : Nat) : Int :=
  d.rdS TM (if l = 1 then Reg.TM.N_TH1 else if l = 2 then Reg.TM.N_TH2 else Reg.TM.N_TH3) n

/-- The dwell timers of a neighbourhood follow NB_HOT (R453). -/
def followDwell (n : Nat) : Script := withDev fun d =>
  forEach [1, 2, 3] fun l =>
    let above := (d.nbHot n).any fun t => decide (t ≥ d.threshold n l)
    let past := (d.nbhdAt n).past.testBit l
    seqs [
      when (above && !past) (startIfIdle (.dwell n l) (dtOfMs 100)),
      when (!above) (stopTimer (.dwell n l)),
      when (!above && past) (modNbhd n fun x => { x with past := x.past - 2 ^ l })]

/-- The level that a neighbourhood leaves downwards: at most `l`, the highest whose threshold less 2.00 °C NB_HOT reaches. -/
def Dev.fallen (d : Dev) (n : Nat) : Nat → Nat
  | 0 => 0
  | l + 1 => if (d.nbHot n).any (fun t => decide (t ≥ d.threshold n (l + 1) - 200)) then l + 1 else d.fallen n l

/-- The level by temperature of a neighbourhood, from the one it had. -/
def Dev.nbBase (d : Dev) (n : Nat) : Nat :=
  let x := d.nbhdAt n
  let up := if x.past.testBit 3 then 3 else if x.past.testBit 2 then 2 else if x.past.testBit 1 then 1 else 0
  max up (d.fallen n (min 3 x.base))

/-- The level of a neighbourhood, with the floor of R455. -/
def Nbhd.level (x : Nbhd) : Nat := if x.rise then max 2 x.base else x.base

/-- What the device level does besides the rules that read it: the housekeeping divider and Backoff cause 0x30 (R452). -/
def levelActions : Script := withDev fun d =>
  let l := d.rd TM Reg.TM.LEVEL
  let bo := if l = 3 then some (d.rd TM Reg.TM.BO_T3) else if l = 2 then some (d.rd TM Reg.TM.BO_T2) else none
  seqs [
    putB CK Reg.CK.HK_HALF (decide (l ≥ 2)),
    modMc fun m => { m with boThermal := bo }]

/-- The device level changes, on account of neighbourhood `n` (R453). -/
def setLevel (new n : Nat) : Script := withDev fun d =>
  let old := d.rd TM Reg.TM.LEVEL
  when (old != new) (seqs [
    put TM Reg.TM.LEVEL new, inc TM Reg.TM.LEVEL_CHG,
    fireEvent TM 4 noScope [Int.ofNat old, Int.ofNat new, Int.ofNat n],
    levelActions])

/-- The levels of the neighbourhoods, then the device level: the highest, which does not fall while FALL_HOLD is set. -/
def judgeLevels : Script := withDev fun d =>
  let lv := (List.range 8).map fun n =>
    let x := d.nbhdAt n
    ({ x with base := d.nbBase n } : Nbhd).level
  let top := lv.foldl max 0
  let old := d.rd TM Reg.TM.LEVEL
  let new := if d.is TM Reg.TM.FALL_HOLD then max old top else top
  let why := ((List.range 8).find? fun n => lv.getD n 0 != d.rd TM Reg.TM.N_NB_LEVEL n && (decide (new < old) || lv.getD n 0 == new)).getD
    (((List.range 8).find? fun n => lv.getD n 0 == top).getD 0)
  seqs [
    forEach (List.range 8) fun n => seqs [
      when ((d.nbhdAt n).base != d.nbBase n) (modNbhd n fun x => { x with base := d.nbBase n }),
      when (d.rd TM Reg.TM.N_NB_LEVEL n != lv.getD n 0) (put TM Reg.TM.N_NB_LEVEL (lv.getD n 0) n)],
    putB TM Reg.TM.RISE_ACT ((List.range 8).any fun n => (d.nbhdAt n).rise),
    setLevel new why]

/-- The compensation temperature (R458). -/
def followComp : Script := withDev fun d =>
  let i := d.rd TM Reg.TM.COMP_SENSOR
  let held := d.sensorFailed i
  seqs [
    when (!held) (put TM Reg.TM.COMP_T (d.rd TM Reg.TM.S_TEMP i)),
    putB TM Reg.TM.COMP_HELD held,
    condSet held TM 5 0 noScope []]

/-- Everything that follows from the sensors: substitutes, conditions, NB_HOT, levels, compensation. -/
def thermalFollow : Script := withDev fun d => seqs [
  forEach ((List.range 32).filter d.sensorFailed) substitute,
  withDev fun d =>
    let on := (List.range 32).filter d.sensorOn
    let noDie := (List.range 8).all d.sensorFailed
    seqs [
      forEach (List.range 8) fun n => seqs [
        put TM Reg.TM.N_NB_HOT (codeLevel (maxLevel ((d.nbSensors n).filterMap d.sensorTemp))) n,
        condSet (!(d.nbSensors n).isEmpty && (d.nbSensors n).all d.sensorFailed) TM 2 n devScope []],
      put TM Reg.TM.HOT_DIE (codeLevel (maxLevel ((List.range 8).filterMap d.sensorTemp))),
      put TM Reg.TM.HOT_ALL (codeLevel (maxLevel (on.filterMap d.sensorTemp))),
      putB TM Reg.TM.NO_DIE noDie, condSet noDie TM 3 0 devScope []],
  forEach (List.range 8) followDwell,
  judgeLevels,
  followComp]

/-- A reading of a sensor: a measured value in 0.01 °C (none where its source gives no number), or a failure (R448, R450). -/
def sensorReading (i : Nat) (fault : Option Nat) (v : Option Int) : Script := withDev fun d =>
  when (d.sensorOn i && !d.sensorFailed i) (seqs [
    match fault with
    | some why => declareFailed i why
    | none => fit16 (v.map (· + d.rdS TM Reg.TM.S_OFFSET i)) fun t => seqs [
        putS TM Reg.TM.S_TEMP t i, putB TM Reg.TM.S_SUBST false i,
        when (i == 0) (modTm fun x => { x with d0 := some t }),
        withDev fun d =>
          let n := d.rd TM Reg.TM.S_NBHD i
          let ts := d.validTemps (d.nbSensors n)
          let far := decide (ts.length ≥ 3) && decide ((2 * t - medianTwice ts).natAbs > 2 * d.rd TM Reg.TM.N_LIMIT n)
          let run := if far then (d.sensorAt i).medRun + 1 else 0
          seqs [modSensor i fun x => { x with medRun := run }, when (decide (run ≥ 3)) (declareFailed i 3)]],
    thermalFollow,
    withDev fun d => when (!d.sensorFailed i) (modSensor i fun x =>
      { x with wasHot := decide (d.rd TM Reg.TM.S_TEMP i = d.rd TM Reg.TM.N_NB_HOT (d.rd TM Reg.TM.S_NBHD i)) })])

/-! ### Cold and Kindling (R436, R459) -/

/-- End every condition of a unit. -/
def endConds (u : Nat) : Script := withDev fun d =>
  forEach (d.conds.filter fun c => c.unit == u) fun c => condEnd u c.src c.inst

/-- Stop the timers of the Thermal Monitor. -/
def stopThermal : Script := seqs [
  stopTimer .fallHold,
  forEach (List.range 8) fun n => forEach [1, 2, 3] fun l => stopTimer (.dwell n l)]

/-- Cold holds both units in reset, and THERM_N is released. -/
def thermalCold : Script := seqs [
  stopThermal, endConds HA, endConds TM,
  upd (.clearRegs HA 0x100 0xFFF), upd (.clearRegs TM 0x100 0xFFF),
  upd (.hk {}), upd .hkResClear, upd (.tm {}), upd .sensorClear, upd .nbhdClear,
  putB CK Reg.CK.HK_HALF false, putB CK Reg.CK.DSP_SLOW false,
  putB MC Reg.MC.EMBER_THERMAL false, putB MC Reg.MC.EMBER_SUPPLY false,
  modMc fun m => { m with boThermal := none, boDroop := none, dspSync := false }]

/-- An entry to Kindling clears failures, holds and dwells, and the levels start from T0. -/
def thermalKindling : Script := withDev fun d => seqs [
  stopThermal,
  forEach ((List.range 32).filter d.sensorFailed) fun i => when (!(d.sensorAt i).byCheck) (seqs [
    putB TM Reg.TM.S_FAILED false i, putB TM Reg.TM.S_SUBST false i, put TM Reg.TM.S_FAIL_WHY 0 i]),
  forEach (List.range 32) fun i => modSensor i fun x => { byCheck := x.byCheck },
  putB TM Reg.TM.FALL_HOLD false,
  forEach (List.range 8) fun n => modNbhd n fun x => { hist := x.hist },
  thermalFollow]

end Sys2Proof.Machine
end

