-- ==== Sys2Proof/Machine/ModeOps.lean ====
section
/-! DEFINITION. The Mode Controller as the rest of the block sees it: a transition and what it does to the other units (R75
to R82, R92), Ember and LOCKOUT (R83, R84), Backoff (R89), and MSI-X messages (R353). -/

namespace Sys2Proof.Machine

/-! ### MSI-X (R353) -/

/-- A message is sent while its vector is unmasked, the function is in D0 and Bus Master Enable is 1; otherwise its pending
bit sets. Vectors 86 to 127 are never sent. -/
def sendMsix (v : Nat) : Script := withDev fun d =>
  if v ≥ 86 then skip
  else if d.is HP Reg.HP.BME && !d.is HP Reg.HP.D3 && d.is HP Reg.HP.LINK_UP && !d.hp.masked.testBit v then emit (.msix v)
  else modHp fun h => { h with pba := h.pba ||| 2 ^ v }

/-! ### Causes (R90) -/

/-- The class of a transition's record (R80). -/
def transAudit (old new : Mode) (cause : Nat) : Bool :=
  old == .service || new == .service || old == .kindling || new == .kindling ||
    cause == 0x45 || cause == 0x50 || cause == 0x51

/-- The MODE_CHANGE record (R471). -/
def modeRecord (old new : Mode) (cause : Nat) : Script := withDev fun d =>
  createRec {
    audit := transAudit old new cause, sev := 0, code := 0x40, source := MC,
    payload := leBytes 1 old.enc ++ leBytes 1 new.enc ++ leBytes 1 cause ++ leBytes 1 (d.rd MC Reg.MC.LOCKOUT) }

/-! ### What an entry does to the other units -/

/-- DONOR_STATE (R221, R471): an audit Mute record for LOST, an operational Note for PRESENT. -/
def donorRecord (s k : Nat) (isPresent : Bool) : Script :=
  createRec { audit := !isPresent, sev := if isPresent then 0 else 2, code := 0x41, source := peU s,
              payload := leBytes 1 k ++ leBytes 1 (b2n isPresent) }

/-- The engine's cells that a LOST carrier mutes (R221). -/
def muteDonor (s k : Nat) : Script := withDev fun d =>
  let cs := d.cellsOfDonor (s * 8 + k)
  seqs [
    forEach cs fun c => markCause c mcDonor,
    when (!cs.isEmpty) (condStart (peU s) 7 k (setScope (peU s) k cs) [])]

/-- A carrier becomes LOST: its cells are muted. -/
def donorLost (s k : Nat) : Script := withDev fun d =>
  when (d.is (peU s) Reg.PE.PRESENT k) (seqs [putB (peU s) Reg.PE.PRESENT false k, donorRecord s k false, muteDonor s k])

/-- The cells of a section with TDD_EN that rely on a carrier. -/
def Dev.tddCells (d : Dev) (s car : Nat) : List Nat :=
  (d.cellsOf s).filter fun c => d.peRd c Reg.PE.C_TDD_EN == 1 && d.donorOf c == some car

/-- Frame lock has changed: SYNC_HOLD runs afresh in each section with TDD cells on the carrier (R226). -/
def lockChanged (car : Nat) : Script := withDev fun d =>
  forEach d.sections fun s => when (!(d.tddCells s car).isEmpty)
    (startTimer (.syncHold (peU s) car) (dtOfMs (d.rd (peU s) Reg.PE.SYNC_HOLD)))

/-- A carrier starts over at an entry to Kindling: LOST and without lock (R221, R226, R243, R246). What mutes for it stands
(R232). -/
def carrierKindling (s k : Nat) : Script := withDev fun d => seqs [
  donorLost s k, stopTimer (.donorHold (peU s) k),
  putB (sdU s) Reg.SD.K_FRAME_LOCK false k, putB (sdU s) Reg.SD.K_MARKS false k, put (sdU s) Reg.SD.K_RATE 0 k,
  putB (peU s) Reg.PE.FRAME_LOCK false k,
  when (d.is (sdU s) Reg.SD.K_FRAME_LOCK k) (lockChanged (s * 8 + k)),
  modCarrier (s * 8 + k) fun _ => {}]

/-- All that a path has gathered goes with an entry to Kindling (R36, R200), and its measures are none until the first update with a
used hop (DESIGN CHOICE, log entry 166; unsafe). -/
def freshPath (s p : Nat) : Script := withDev fun _ => seqs [
  modP s p fun x => { shown := x.shown, latched := x.latched },
  forEach [Reg.DS.P_COUPLING, Reg.DS.P_RESID, Reg.DS.P_RESID_NF, Reg.DS.P_DEPTH, Reg.DS.P_LOOP_C, Reg.DS.P_EDGE_DB] fun f =>
    put (dsU s) f noLevel p,
  putB (dsU s) Reg.DS.P_STALE false p, putB (dsU s) Reg.DS.P_EDGE_HI false p, condEnd (dsU s) 3 p]

/-- An entry to Kindling clears in one section what its rules say it clears: links (R102, R106), response sets (R126, R142),
Damper paths (R36, R190, R197), engine latches (R208, R220, R228, R266), carriers, groups and synthesisers (R267). -/
def sectionKindling (s : Nat) : Script := withDev fun d => seqs [
  forEach ((List.range 4).map (rxlU s) ++ (List.range 4).map (txlU s)) linkKindling,
  forEach ((List.range 32).map (bcU s)) fun c => seqs [
    putB c Reg.BC.RESP_SEL false, putB c Reg.BC.RESP_ACTIVE false, putB c Reg.BC.RESP_PEND false,
    putB c Reg.BC.SWITCH_AT_SYNC false,
    when (d.is c Reg.BC.ENABLE) (seqs [
      stopTimer (.settle c), putB c Reg.BC.SETTLING false,
      modCell c fun x => { x with
        syncMute := false, noise := [], taps := none, tg := none, ctl := [], blocks := 0, settleEnd := 0, respFrom := 0, respEnd := 0 },
      clearCause c mcLatch, clearCause c mcAllow, clearCause c mcLockstep])],
  forEach (List.range 8) (carrierKindling s),
  condEnd (peU s) 0 0,
  forEach (List.range 32) fun i => seqs [condEnd (peU s) 9 i, condEnd (peU s) 11 i],
  putB (peU s) Reg.PE.LOCKSTEP_ERR false, putB (peU s) Reg.PE.SELFTEST_OK false,
  forEach (d.pathsOf s) fun p => seqs [
    zeroPath s p .kindling, freshPath s p,
    put (dsU s) Reg.DS.P_SV_COUP noLevel p, put (dsU s) Reg.DS.P_SV_DEPTH noLevel p],
  forEach (List.range 4) fun k => seqs [
    groupOff s k,
    when (d.is (rcU s) Reg.RC.G_OPEN_SHORT k) (seqs [putB (rcU s) Reg.RC.G_OPEN_SHORT false k, condEnd (rcU s) 4 k]),
    modGrp s k fun g => { g with step0 := 8, step1 := 8 }],
  forEach (List.range 4) fun i => modMaster s i fun _ => {},
  putB (rcU s) Reg.RC.XFER_GO false, put (rcU s) Reg.RC.SYN_CTRL_RECAL 0,
  forEach (List.range 8) fun y => seqs [
    stopTimer (.synSettle s y), stopTimer (.seqWait s y),
    putB (rcU s) Reg.RC.SYN_SEQ_RUN false y, putB (rcU s) Reg.RC.SYN_SETTLING false y, putB (rcU s) Reg.RC.SYN_READY false y,
    modSyn s y fun _ => {}]]

/-- Cold powers the links down and holds band cells, Damper and engines in reset (R76): their windows above the common
header return to their reset values. -/
def sectionCold (s : Nat) : Script := seqs [
  forEach ((List.range 4).map (rxlU s) ++ (List.range 4).map (txlU s)) linkOff,
  forEach (List.range 4) fun k => groupOff s k,
  forEach ((List.range 32).map (bcU s)) fun c => seqs [
    stopTimer (.gainSlew c), stopTimer (.settle c), upd (.clearRegs c 0x100 0xFFF), upd (.clearWide c 0x100 0xFFF)],
  upd (.clearRegs (dsU s) 0x100 0x7FFF), upd (.clearRegs (peU s) 0x100 0xFFF), showLoadLim s]

/-- A cell on an entry to Carry, from any mode (R82): it starts at −40.00 dB, and holds there until the digital ramp-up of its
group's first Send state ends. Where the group is in a Send state already, the steps count from the end of that ramp-up, or
from now where it has ended (DEDUCED, log entry 98; unsafe). -/
def carryCell (c : Nat) : Script := withDev fun d => seqs [
  when (d.gApplied c).isSome (setApplied c (some (-4000))), stopTimer (.gainSlew c),
  match (d.groupOf c).bind fun k => (d.groupAt (grpKey (secOf c) k)).sendFrom.map (· + d.rampLen (secOf c) k) with
  | some e => seqs [modCell c fun x => { x with rampHold := false }, startTimerAt (.gainSlew c) (max d.dt e + d.slewStep c)]
  | none => modCell c fun x => { x with rampHold := true }]

/-- What the entry to a mode does besides the mode registers. -/
def onEntry (new : Mode) : Script := withDev fun d =>
  match new with
  | .kindling => seqs [
      forEach d.sections sectionKindling, thermalKindling, modPlane fun _ => { upTo := d.dt },
      putB MC Reg.MC.SURVEY_DONE false,
      modMc fun m => { m with kindled := true, emberSeen := 0 },
      putB TB Reg.TB.ALIGN_ARMED true, modBase fun b => { b with prevEdge := none, relockAlign := false },
      startTimer .kindle (dtOfMs (d.rd MC Reg.MC.KINDLE_TIMEOUT))]
  | .cold => seqs [forEach d.sections sectionCold, thermalCold, upd .cellClear, upd .pathClear, stopTimer .kindle,
      modCe fun e => { e with ramps := [] }]
  | .survey => seqs [clearLatches, startSurvey]
  | .carry => forEach d.allCells carryCell
  | _ => skip

/-- Sum of UNSETTLED over the Slices (R197, R361). -/
def Dev.unsettled (d : Dev) : Nat := (d.sections.map fun s => d.rd (dsU s) Reg.DS.UNSETTLED).sum

/-- What leaving a mode with a cause does. -/
def onExit (old new : Mode) (cause : Nat) : Script :=
  match old with
  | .survey => withDev fun d => seqs [
      endSurvey,
      when (cause == 0x20) (putB MC Reg.MC.SURVEY_DONE true),
      modMc fun m => { m with surveyEnd := some ((if cause = 0x20 then 0x20 else 0x21) + 256 * d.unsettled) }]
  | .service => seqs [clearLinkTests, stopTimer .serviceToken]
  | .kindling => when (new != .kindling) (stopTimer .kindle)
  | .backoff => stopTimer .backoffDwell
  | .ember => seqs [stopTimer .holdoff, put MC Reg.MC.HOLDOFF_LEFT 0, modMc fun m => { m with holdoffDone := false }]
  | _ => skip

/-- A transition of R80: the mode registers, the record, vector 85, and what leaving and entering do. -/
def changeMode (new : Mode) (cause : Nat) : Script := withDev fun d =>
  let old := d.mode
  seqs [
    onExit old new cause,
    put MC Reg.MC.PREV_MODE old.enc, put MC Reg.MC.MODE new.enc, put MC Reg.MC.CAUSE cause,
    incWrap MC Reg.MC.TRANS_CNT, putLive MC Reg.MC.MODE_DT_LO d.dt,
    modeRecord old new cause,
    sendMsix 85,
    onEntry new]

/-! ### LOCKOUT (R84) -/

/-- LOCKOUT sets with its cause, and the marker waits to be written into P0. -/
def setLockout (cause : Nat) : Script := seqs [
  putB MC Reg.MC.LOCKOUT true, put MC Reg.MC.LOCKOUT_CAUSE cause,
  modMc fun m => { m with markerDue := some cause }]

/-! ### Ember (R83) -/

/-- EMBER_CAUSE as a mask: CLOCK, THERMAL, DEV_MUTE, SUPPLY (R93). -/
def Dev.emberMask (d : Dev) : Nat :=
  d.rd MC Reg.MC.EMBER_CLOCK + 2 * d.rd MC Reg.MC.EMBER_THERMAL + 4 * d.rd MC Reg.MC.EMBER_DEV_MUTE +
    8 * d.rd MC Reg.MC.EMBER_SUPPLY

/-- The cause code of the lowest set cause: R90 does not say which code is reported when several become active in one step
(DESIGN CHOICE, log entry 154; unsafe). -/
def emberCode (m : Nat) : Nat := if m.testBit 0 then 0x40 else if m.testBit 1 then 0x41 else if m.testBit 2 then 0x42 else 0x43

/-- The retries within the preceding 3,600 s (R83). -/
def Dev.recentRetries (d : Dev) : List Nat := d.mc.retries.filter fun t => decide (d.dt < t + dtOfS 3600)

/-- The mode to which Ember returns (R83). -/
def returnMode : Mode → Mode
  | .carry => .carry
  | .backoff => .carry
  | .kindling => .kindling
  | _ => .banked

/-- Entry to Ember with a cause code (R83, R84). -/
def enterEmber (code : Nat) : Script := withDev fun d =>
  let rs := d.recentRetries
  let n := rs.length
  let back := returnMode d.mode
  seqs [
    changeMode .ember code,
    put MC Reg.MC.RETURN_MODE back.enc, put MC Reg.MC.RETRY_HOUR n,
    modMc fun m => { m with retries := rs, holdoffDone := false },
    if n < d.rd MC Reg.MC.MAX_RETRY then
      startTimer .holdoff (dtOfS (min (d.rd MC Reg.MC.HOLDOFF_BASE * 2 ^ n) (d.rd MC Reg.MC.HOLDOFF_MAX)))
    else seqs [setLockout code, changeMode .banked 0x45]]

/-- The retry (R83): the device leaves Ember for its return mode. -/
def retryEmber : Script := withDev fun d => seqs [
  modMc fun m => { m with retries := d.dt :: m.retries },
  changeMode (Mode.ofCode (d.rd MC Reg.MC.RETURN_MODE)) 0x44,
  put MC Reg.MC.RETRY_HOUR (d.recentRetries.length + 1)]

/-- No Ember cause is active, and the sync event that R136 or R31 asks for has taken place. -/
def Dev.emberClear (d : Dev) : Bool := d.emberMask == 0 && !d.mc.awaitSync && !d.mc.dspSync

/-! ### Backoff (R89, R93) -/

/-- The amounts of the active Backoff causes. -/
def Dev.backoffAmounts (d : Dev) : List Nat := [d.mc.boThermal, d.mc.boMargin, d.mc.boDroop].filterMap id

/-- The code of the first active Backoff cause, thermal before margin before droop: R90 does not say which code is reported when
several are active at the entry to Backoff (DESIGN CHOICE, log entry 155; unsafe). -/
def Dev.backoffCode (d : Dev) : Nat :=
  if d.mc.boThermal.isSome then 0x30 else if d.mc.boMargin.isSome then 0x31 else 0x32

end Sys2Proof.Machine
end

