-- ==== Sys2Proof/Machine/CyOps.lean ====
section
/-! DEFINITION. The Caddy as the rest of the block sees it: OTP slots and the floor (R323 to R325, R333, R341), profile
objects (R340), tokens (R335 to R338), and the signing engine's queue (R330 to R332). -/

namespace Sys2Proof.Machine

/-! ### OTP (R323 to R325) -/

/-- An OTP byte. -/
def Dev.otpByte (d : Dev) (a : Nat) : Nat := d.otp.get 0 a
/-- A run of OTP bytes. -/
def Dev.otpBytes (d : Dev) (a n : Nat) : List Byte := (List.range n).map fun i => BitVec.ofNat 8 (d.otpByte (a + i))
/-- The two marker bytes of R324 stand at an address. -/
def Dev.marker (d : Dev) (a : Nat) : Bool := d.otpByte a == 0x5A && d.otpByte (a + 1) == 0xA5
/-- Every byte of a run reads 0. -/
def Dev.blank (d : Dev) (a n : Nat) : Bool := (List.range n).all fun i => d.otpByte (a + i) == 0

/-- Burn bytes from an address on. -/
def burnBytes (a : Nat) (bs : List Byte) : Script := forEach bs.zipIdx fun (b, i) => upd (.burn (a + i) b.toNat)

/-- Address of owner slot `i` (R323). -/
def ownerAt (i : Nat) : Nat := 0x0A00 + 128 * i
/-- Address of profile slot `i` (R323). -/
def profileAt (i : Nat) : Nat := 0x0C00 + 80 * i

/-- OWNER_STATE of a slot (R333): 0 empty, 1 enrolled, 2 spoiled, 3 revoked. -/
def Dev.ownerState (d : Dev) (i : Nat) : Nat :=
  let a := ownerAt i
  if !d.blank (a + 66) 2 then 3
  else if d.marker (a + 64) then 1
  else if d.blank a 128 then 0
  else 2

/-- The key of an owner slot. -/
def Dev.ownerKey (d : Dev) (i : Nat) : List Byte := d.otpBytes (ownerAt i) 57
/-- Only an enrolled slot's signatures are accepted (R333). -/
def Dev.enrolled (d : Dev) (i : Nat) : Bool := decide (i < 4) && d.ownerState i == 1

/-- The floor: thermometer bits below the lowest bit still 0 (R325). -/
def Dev.floor (d : Dev) : Nat :=
  ((List.range 64).takeWhile fun i => (d.otpByte (0x0E80 + i / 8)).testBit (i % 8)).length

/-- State of a profile slot (R324): empty, valid or spoiled as 0, 1, 2. -/
def Dev.profileState (d : Dev) (i : Nat) : Nat :=
  if d.marker (profileAt i + 78) then 1 else if d.blank (profileAt i) 80 then 0 else 2

/-- The valid profile slot with the highest index (R341). -/
def Dev.activeSlot (d : Dev) : Option Nat := ((List.range 8).filter fun i => d.profileState i == 1).getLast?
/-- The active profile digest (R341). -/
def Dev.activeDigest (d : Dev) : Option (List Byte) := d.activeSlot.map fun i => d.otpBytes (profileAt i) 64

/-! ### Byte fields -/

/-- The bytes of a field at an offset. -/
def field (bs : List Byte) (off n : Nat) : List Byte := (bs.drop off).take n
/-- A little-endian number at an offset. -/
def num (bs : List Byte) (off n : Nat) : Nat := leVal (field bs off n)
/-- Every byte of a run is zero. -/
def zeros (bs : List Byte) (off n : Nat) : Bool := (field bs off n).all (· == 0)
/-- The bytes of an ASCII context string (R330). -/
def ascii (s : String) : List Byte := s.toList.map fun c => BitVec.ofNat 8 c.toNat
/-- A 512-bit digest. -/
def digest64 (bs : List Byte) : List Byte := Config.shake256 bs 64

/-! ### Profile objects (R340) -/

/-- The bytes of P_MAX and NET_MAX of a band are both 0x8000 or neither. -/
def bandOk (o : List Byte) (b : Nat) : Bool := (num o (64 + 4 * b) 2 == 0x8000) == (num o (66 + 4 * b) 2 == 0x8000)
/-- A band is present. -/
def bandPresent (o : List Byte) (b : Nat) : Bool := num o (64 + 4 * b) 2 != 0x8000
/-- A range entry within RANGE_CNT meets R340. -/
def rangeOk (o : List Byte) (i : Nat) : Bool :=
  let a := 320 + 12 * i
  decide (num o a 4 < num o (a + 4) 4) && decide (num o (a + 8) 1 ≤ 63) && bandPresent o (num o (a + 8) 1) &&
    decide (num o (a + 9) 1 ≤ 1) && zeros o (a + 10) 2

/-- The fields of an object meet R340, its signature apart. -/
def profileFields (o : List Byte) : Bool :=
  let n := num o 17 1
  o.length == 1280 && num o 0 4 == 0x50525644 && num o 4 2 == 1 && num o 6 2 == 1280 && decide (num o 16 1 ≤ 3) &&
    decide (1 ≤ n ∧ n ≤ 64) && (num o 18 1 &&& 0x67) == 0x67 && zeros o 19 1 &&
    decide (1 ≤ num o 20 2 ∧ num o 20 2 ≤ 10000) && decide (1 ≤ num o 22 2 ∧ num o 22 2 ≤ 3600) && zeros o 32 32 &&
    (List.range 64).all (bandOk o) && (List.range n).all (rangeOk o) && zeros o (320 + 12 * n) (12 * (64 - n)) &&
    field o 1088 64 == digest64 (o.take 1088) && zeros o 1266 14

/-- The signature of an object verifies under its enrolled owner (R330, R340). -/
def Dev.profileSigned (d : Dev) (o : List Byte) : Bool :=
  d.enrolled (num o 16 1) &&
    Config.ed448Verify (d.ownerKey (num o 16 1)) (ascii "DV96 profile v1") (o.take 1088) (field o 1152 114)

/-- The digest of an object. -/
def profileDigest (o : List Byte) : List Byte := field o 1088 64

/-- An object is well formed (R340); the signature of one with the active digest is not checked again (R342, R343). -/
def Dev.wellFormed (d : Dev) (o : List Byte) : Bool :=
  profileFields o && (d.profileSigned o || d.activeDigest == some (profileDigest o))

/-- An object in ACTIVE whose digest equals a burned slot is not checked again against its signing slot (R343). -/
def Dev.burned (d : Dev) (dg : List Byte) : Bool :=
  (List.range 8).any fun i => d.profileState i == 1 && d.otpBytes (profileAt i) 64 == dg

/-- The profile object that a PROFILE_DIGEST names, where R343 lets it pass check 0x07. -/
def Dev.profileFor (d : Dev) (dg : List Byte) : Option (List Byte) :=
  let p := d.p0
  if d.activeDigest = some dg ∧ profileFields p.active ∧ profileDigest p.active = dg then some p.active
  else if d.wellFormed p.waiting ∧ profileDigest p.waiting = dg then some p.waiting
  else none

/-- Show slots, floor and profiles in the registers of the Caddy and the Config Controller (R348, R321). -/
def showCaddy : Script := withDev fun d =>
  let owners := (List.range 4).foldl (fun a i => a + d.ownerState i * 4 ^ i) 0
  let pend := d.wellFormed d.p0.waiting
  seqs [
    put CY Reg.CY.OWNER_STATE owners,
    put CY Reg.CY.FLOOR d.floor, put CC Reg.CC.FLOOR d.floor,
    put CY Reg.CY.PROFILES_USED ((List.range 8).filter fun i => d.profileState i != 0).length,
    put CY Reg.CY.ACTIVE_SLOT (d.activeSlot.getD 15),
    putB CY Reg.CY.PROFILE_ACTIVE d.activeSlot.isSome,
    forEach (List.range 16) fun i => put CY Reg.CY.ACTIVE_DIGEST (num (d.activeDigest.getD []) (4 * i) 4) i,
    putB CY Reg.CY.PROFILE_PEND pend,
    forEach (List.range 16) fun i =>
      put CY Reg.CY.PENDING_DIGEST (if pend then num (profileDigest d.p0.waiting) (4 * i) 4 else 0) i,
    putB CY Reg.CY.TEST_LOCK (d.marker 0x30)]

/-! ### Tokens (R335 to R338) -/

/-- PARAM_LEN of a token type (R336); none for a type that R336 does not list. -/
def paramLen (ty : Nat) : Option Nat :=
  match ty with
  | 1 => some 0 | 2 => some 1 | 3 => some 1 | 4 => some 57 | 5 => some 1 | 6 => some 64 | _ => none

/-- Check 1 of R338. -/
def tokenFormat (k : List Byte) : Bool :=
  let ty := num k 6 2
  k.length == 264 && num k 0 4 == 0x4B545644 && num k 4 2 == 1 && zeros k 9 7 && zeros k 74 6 && zeros k 258 6 &&
    (match paramLen ty with
     | none => true
     | some n => num k 72 2 == n && zeros k (80 + n) (64 - n) &&
        (ty != 2 || (decide (num k 80 1 < 8) && num k 80 1 != 0)) && (ty != 5 || decide (num k 80 1 ≤ 3)))

/-- Owner slots that burns in progress will revoke. -/
def Dev.revoking (d : Dev) : List Nat := d.cy.burns.filterMap fun b => match b with
  | .revoke _ i => some i
  | _ => none

/-- Signatures and revocations of the slot are accepted: it is enrolled, and no revocation has been accepted (R338, R345). -/
def Dev.ownerStands (d : Dev) (i : Nat) : Bool := d.enrolled i && !d.revoking.contains i

/-- The result of checking a token for a command that needs type `ty` (R338). -/
def Dev.tokenResult (d : Dev) (ty : Nat) (k : List Byte) : Nat :=
  let exp := num k 64 8
  let slot := num k 8 1
  if !tokenFormat k then 1
  else if num k 6 2 ≠ ty then 2
  else if field k 16 32 ≠ d.cy.devId then 3
  else if !d.ownerStands slot then 4
  else if !d.is CY Reg.CY.NONCE_VALID ∨ field k 48 16 ≠ d.cy.nonce then 5
  else if d.dt ≥ exp ∨ exp > d.live CY Reg.CY.NONCE_DT_LO + d.rd CY Reg.CY.TOKEN_MAX_S * 491520000 then 6
  else if !Config.ed448Verify (d.ownerKey slot) (ascii "DV96 token v1") (k.take 144) (field k 144 114) then 7
  else if (ty = 3 ∧ num k 80 1 ≠ d.rd MC Reg.MC.LOCKOUT_CAUSE) ∨ (ty = 5 ∧ !d.ownerStands (num k 80 1)) then 8
  else 0

/-- The nonce is gone (R337). -/
def clearNonce : Script := seqs [
  putB CY Reg.CY.NONCE_VALID false, modCy fun c => { c with nonce := [] },
  forEach (List.range 4) fun i => put CY Reg.CY.NONCE 0 i]

/-- The outcome of a token: registers, counters, the audit record, the refused source, and the nonce consumed on
acceptance (R337, R338). A command that carries no token is judged with FORMAT and TYPE 0. -/
def tokenOutcome (k : List Byte) (res : Nat) : Script := withDev fun _ => seqs [
  put CY Reg.CY.TOKEN_RESULT res, put CY Reg.CY.TOKEN_TYPE (num k 6 1), put CY Reg.CY.TOKEN_SLOT (num k 8 1),
  auditRec CY 0x40 (leBytes 2 (num k 6 2) ++ leBytes 1 (num k 8 1) ++ leBytes 1 res ++ leBytes 8 (num k 64 8)),
  if res = 0 then seqs [inc CY Reg.CY.TOK_ACC, clearNonce]
  else seqs [inc CY Reg.CY.TOK_REJ, fireEvent CY 3 noScope []]]

/-! ### The signing engine (R332) -/

/-- A request is a waiting ATTEST. -/
def SignReq.isAttest : SignReq → Bool
  | .attest _ _ => true
  | _ => false

/-- Put a request into the queue: seals go ahead of waiting ATTEST requests, never of the one in service (R332). -/
def queueSign (r : SignReq) (q : List SignReq) : List SignReq :=
  match r, q with
  | .seal a, x :: rest =>
    x :: (rest.takeWhile (fun y => !y.isAttest) ++ .seal a :: rest.dropWhile (fun y => !y.isAttest))
  | _, _ => q ++ [r]

/-- A token verification is in progress (R332). -/
def Dev.verifying (d : Dev) : Bool := d.cy.queue.any fun r => match r with
  | .token _ _ => true
  | _ => false

/-- The owner's signature of a container waits for the engine or is being verified. -/
def Dev.checking (d : Dev) : Bool := d.cy.queue.any fun r => match r with
  | .container => true
  | _ => false

/-- A request arrives at the Caddy. -/
def requestSign (r : SignReq) : Script := seqs [
  modCy fun c => { c with queue := queueSign r c.queue }, putB CY Reg.CY.BUSY true]

/-- A burn is asked for; burns are made one at a time, in order. -/
def requestBurn (b : Burn) : Script := modCy fun c => { c with burns := c.burns ++ [b] }

/-- A reset cuts off the burn in progress (R324, R325, R345): which of its bits have burned is left open, byte by byte in order up to the
one that was burning; the burns that wait are forgotten. A marker is begun only once what stands before it reads back right. -/
def cutBurn : Script := withDev fun d => seqs [
  modCy fun c => { c with burns := [] },
  match d.cy.burns with
  | [] => skip
  | b :: _ => drawBelow 2048 fun v =>
    let n := v / 256 % 128
    let part := fun (body : List Byte) => body.take n ++ (body.drop n).take 1 |>.zipIdx.map fun x =>
      if x.2 < n then x.1 else x.1 &&& BitVec.ofNat 8 (v % 256)
    match b with
    | .enrol _ i key => burnBytes (ownerAt i) (part (key ++ List.replicate 7 0 ++ [0x5A, 0xA5]))
    | .revoke _ i => burnBytes (ownerAt i + 66) (part [0x5A, 0xA5])
    | .profile _ i dg ver => burnBytes (profileAt i) (part (dg ++ leBytes 8 ver ++ List.replicate 6 0 ++ [0x5A, 0xA5]))
    | .floor _ target => forEach ((List.range (target - d.floor)).take n) fun i =>
        upd (.burn (0x0E80 + (d.floor + i) / 8) (2 ^ ((d.floor + i) % 8)))]

end Sys2Proof.Machine
end

