-- ==== Sys2Proof/Machine/CcOps.lean ====
section
/-! DEFINITION. The Config Controller's slots, directory and Kindling loop (R308 to R316): what a directory operation makes of
the directory, its records, its display, and how an attempt starts, fails and reverts. -/

namespace Sys2Proof.Machine

/-! ### Directory pages (R308, R309) -/

/-- The slot block of a directory page (96 bytes). -/
def SlotRec.bytes (r : SlotRec) : List Byte :=
  leBytes 1 r.state ++ leBytes 1 (b2n r.confirmed) ++ leBytes 2 r.secVer ++ leBytes 4 r.length ++ leBytes 8 r.configVer ++
    (r.digest ++ List.replicate 64 0).take 64 ++ List.replicate 16 0

/-- Bytes 0 to 335 of a directory page. -/
def Directory.bytes (x : Directory) : List Byte :=
  leBytes 4 0x52445644 ++ leBytes 2 1 ++ leBytes 2 0 ++ leBytes 8 x.seq ++ leBytes 1 (x.cur.getD 0xFF) ++
    leBytes 1 (x.prev.getD 0xFF) ++ leBytes 1 x.stg ++ leBytes 1 (b2n x.probation + 2 * b2n x.lockout) ++
    leBytes 1 x.bootTries ++ leBytes 1 x.lockoutCause ++ leBytes 2 0 ++ leBytes 8 x.dt ++
    leBytes 4 x.wall.ns ++ leBytes 4 x.wall.sec ++ leBytes 2 x.epoch ++ List.replicate 6 0 ++
    x.slots.flatMap SlotRec.bytes

/-- A directory page as P0 stores it, with REC_DIGEST. -/
def Directory.page (x : Directory) : List Byte := x.bytes ++ digest64 x.bytes

/-- The directory of the two pages: the valid page with the higher SEQ; none while neither is valid. -/
def Parcel.directory (p : Parcel) : Option Directory :=
  match p.dirA, p.dirB with
  | some a, some b => some (if a.seq ≥ b.seq then a else b)
  | some a, none => some a
  | none, b => b

/-- The directory in force for an operation: the initial directory while neither page is valid (R309). -/
def Dev.dirNow (d : Dev) : Directory := (d.p0.directory).getD {}

/-- A slot's entry. -/
def Directory.slot (x : Directory) (i : Nat) : SlotRec := x.slots.getD i {}
/-- Change a slot's entry. -/
def Directory.setSlot (x : Directory) (i : Nat) (f : SlotRec → SlotRec) : Directory :=
  { x with slots := x.slots.modify i f }
/-- STATE of the slot that a role names; EMPTY where it names none, and for WRITING (R308). -/
def Directory.stateOf (x : Directory) (r : Option Nat) : Nat :=
  match r with
  | none => 0
  | some i => if (x.slot i).state = 1 then 0 else (x.slot i).state

/-- The lowest physical slot that neither CUR nor PREV names (R309). -/
def Directory.freeSlot (x : Directory) : Nat :=
  ((List.range 3).find? fun i => x.cur != some i && x.prev != some i).getD 0

/-- Bytes of a physical slot. -/
def Parcel.slotBytes (p : Parcel) (i : Nat) : List Byte := if i = 0 then p.slot0 else if i = 1 then p.slot1 else p.slot2
/-- Write a physical slot. -/
def setSlotBytes (i : Nat) (bs : List Byte) : Script := modP0 fun p =>
  if i = 0 then { p with slot0 := bs } else if i = 1 then { p with slot1 := bs } else { p with slot2 := bs }

/-! ### Container header (R300) -/

/-- CONFIG_VER of a container. -/
def hConfigVer (c : List Byte) : Nat := num c 8 8
/-- SEC_VER of a container. -/
def hSecVer (c : List Byte) : Nat := num c 16 2
/-- FLOOR_RAISE of a container. -/
def hFloorRaise (c : List Byte) : Bool := (num c 26 1).testBit 0
/-- PROB_BOOTS of a container. -/
def hProbBoots (c : List Byte) : Nat := num c 27 1
/-- PROB_S of a container. -/
def hProbS (c : List Byte) : Nat := num c 28 4
/-- OWNER_SLOT of a container. -/
def hOwner (c : List Byte) : Nat := num c 32 1
/-- PROFILE_DIGEST of a container. -/
def hProfile (c : List Byte) : List Byte := field c 40 64
/-- DIGEST of a container (R304). -/
def cDigest (c : List Byte) : List Byte := field c (c.length - 184) 64

/-! ### What a directory operation writes (R310) -/

/-- Commit: Staging becomes Current on probation, Current becomes Previous (R310). -/
def Directory.committed (x : Directory) : Directory :=
  let oldPrev := x.prev
  let y := { x with cur := some x.stg, prev := x.cur, probation := true, bootTries := 0 }
  let y := y.setSlot x.stg fun r => { r with state := 3, confirmed := false }
  match oldPrev with
  | some p => { y.setSlot p (fun _ => {}) with stg := p }
  | none => { y with stg := y.freeSlot }

/-- Revert: Current and Previous swapped (R310, R312). -/
def Directory.reverted (x : Directory) : Directory :=
  let conf := match x.prev with
    | some i => (x.slot i).confirmed
    | none => true
  let y := { x with cur := x.prev, prev := x.cur, probation := !conf, bootTries := 0 }
  { y with stg := y.freeSlot }

/-- The directory that an operation writes, but for SEQ and the stamps. -/
def DirOp.result (op : DirOp) (p : Parcel) (x : Directory) : Directory :=
  match op with
  | .stageBegin _ _ _ _ => x.setSlot x.stg fun _ => { state := 1 }
  | .stageEnd _ ok =>
    let c := p.slotBytes x.stg
    x.setSlot x.stg fun _ =>
      if ok then { state := 2, secVer := hSecVer c, length := c.length, configVer := hConfigVer c, digest := cDigest c } else {}
  | .commit _ => x.committed
  | .promote => x.committed
  | .bootTry => { x with bootTries := x.bootTries + 1 }
  | .confirm _ => match x.cur with
    | some i => { x.setSlot i (fun r => { r with confirmed := true }) with probation := false }
    | none => { x with probation := false }
  | .revert _ => x.reverted
  | .autoRevert => x.reverted
  | .kindleRevert _ => x.reverted
  | .lockoutSet c => { x with lockout := true, lockoutCause := c }
  | .lockoutClear _ _ => { x with lockout := false, lockoutCause := 0 }

/-- The operation code of R310. -/
def DirOp.code : DirOp → Nat
  | .stageBegin _ _ _ _ => 1 | .stageEnd _ _ => 1 | .commit _ => 2 | .promote => 3 | .bootTry => 4 | .confirm _ => 5
  | .revert _ => 6 | .autoRevert => 7 | .kindleRevert _ => 8 | .lockoutSet _ => 9 | .lockoutClear _ _ => 10

/-- The slots that an operation touches, before `x` and after `y`. -/
def DirOp.touches (op : DirOp) (x y : Directory) : List Nat :=
  match op with
  | .stageBegin _ _ _ _ => [x.stg]
  | .stageEnd _ _ => [x.stg]
  | .commit _ => (y.cur.toList ++ y.prev.toList ++ [y.stg]).eraseDups
  | .promote => (y.cur.toList ++ y.prev.toList ++ [y.stg]).eraseDups
  | .bootTry => x.cur.toList
  | .confirm _ => x.cur.toList
  | .revert _ => y.cur.toList ++ y.prev.toList
  | .autoRevert => y.cur.toList ++ y.prev.toList
  | .kindleRevert _ => y.cur.toList ++ y.prev.toList
  | .lockoutSet _ => []
  | .lockoutClear _ _ => []

/-- The SLOT_OP records of a verified operation (R310): two for each slot, or one where it touches none. -/
def slotRecords (op : DirOp) (x y : Directory) : Script :=
  match op.touches x y with
  | [] => auditRec CC 0x40 (leBytes 1 op.code ++ leBytes 1 0xFF ++ leBytes 1 y.lockoutCause)
  | ss => forEach ss fun i =>
    let r := y.slot i
    let dg := (r.digest ++ List.replicate 16 0).take 16
    seqs [
      auditRec CC 0x40 (leBytes 1 op.code ++ leBytes 1 i ++ leBytes 2 r.secVer ++ leBytes 8 r.configVer ++ dg.take 4),
      auditRec CC 0x40 (leBytes 1 op.code ++ leBytes 1 (0x80 + i) ++ (dg.drop 4).take 12)]

/-! ### Display (R321) -/

/-- Show one slot block of a role. -/
def showSlot (x : Directory) (r : Nat) (i : Option Nat) : Script :=
  let s := match i with
    | some k => x.slot k
    | none => {}
  seqs [
    put CC Reg.CC.SLOT_PHYS (i.getD 15) r, putB CC Reg.CC.SLOT_CONFIRMED s.confirmed r, put CC Reg.CC.SLOT_STATE s.state r,
    put CC Reg.CC.SLOT_SEC_VER s.secVer r, putLive CC Reg.CC.SLOT_VER_LO s.configVer r, put CC Reg.CC.SLOT_LENGTH s.length r,
    forEach (List.range 4) fun j => put CC Reg.CC.SLOT_DIGEST (num s.digest (4 * j) 4) r j]

/-- Previous is VALID with SEC_VER at or above the floor (R314). -/
def Dev.prevOk (d : Dev) (x : Directory) : Bool :=
  x.stateOf x.prev == 3 && x.prev.any fun i => decide ((x.slot i).secVer ≥ d.floor)

/-- A floor raise of the confirmed Current awaits step 7 of R313. -/
def Dev.floorPend (d : Dev) (x : Directory) : Bool :=
  x.cur.any fun i => (x.slot i).confirmed && hFloorRaise (d.p0.slotBytes i) && decide ((x.slot i).secVer > d.floor)

/-- Show the directory in force in the registers of the Config Controller and the Mode Controller. -/
def showDirectory : Script := withDev fun d =>
  match d.cc.dir with
  | none => putB CC Reg.CC.DIR_OK false
  | some x => seqs [
      putB CC Reg.CC.DIR_OK d.p0.directory.isSome,
      putB CC Reg.CC.PROBATION x.probation, putB MC Reg.MC.PROBATION x.probation,
      putB CC Reg.CC.CONFIRMED (x.cur.any fun i => (x.slot i).confirmed),
      putB CC Reg.CC.PREV_OK (d.prevOk x), putB CC Reg.CC.STG_OK (x.stateOf (some x.stg) == 2),
      putB CC Reg.CC.FLOOR_PEND (d.floorPend x),
      put CC Reg.CC.BOOT_TRIES x.bootTries, putLive CC Reg.CC.DIR_SEQ_LO x.seq,
      -- LOCKOUT clears by a lockout clear alone (R86)
      when (!d.is MC Reg.MC.LOCKOUT) (seqs [
        putB MC Reg.MC.LOCKOUT x.lockout, put MC Reg.MC.LOCKOUT_CAUSE (if x.lockout then x.lockoutCause else 0)]),
      showSlot x 0 x.cur, showSlot x 1 x.prev, showSlot x 2 (some x.stg)]

/-- The Config Controller reads the directory (R308, R309). -/
def readDirectory : Script := withDev fun d => seqs [
  modCc fun c => { c with dir := some d.dirNow }, showDirectory,
  -- a Halt event before discovery is still to be marked (R84)
  withDev fun d => match d.mc.markerDue with
    | some c => seqs [putB MC Reg.MC.LOCKOUT true, put MC Reg.MC.LOCKOUT_CAUSE c]
    | none => skip]

/-- An operation asks for its directory write. -/
def requestDir (op : DirOp) : Script := modCc fun c => { c with ops := c.ops ++ [op] }

/-- The verified write of an operation (R308): SEQ + 1 into the page that does not hold the directory. -/
def writeDirectory (op : DirOp) : Script := withDev fun d =>
  let x := d.dirNow
  let y := { op.result d.p0 x with seq := x.seq + 1, dt := d.dt, wall := d.clock.wall, epoch := d.clock.epoch }
  let toB := d.p0.directory.isSome && d.p0.dirA == some x
  seqs [
    modP0 fun p => if toB then { p with dirB := some y } else { p with dirA := some y },
    modCc fun c => { c with dir := some y },
    slotRecords op x y, showDirectory]

/-! ### Kindling (R312, R313) -/

/-- A slot that the loop may try. -/
def Dev.kindleUsable (d : Dev) (x : Directory) : Bool :=
  x.stateOf x.cur == 3 && x.cur.any fun i => decide ((x.slot i).secVer ≥ d.floor) && !d.cc.tried.contains i

/-- The loop ends in Cold (R312). -/
def kindleCold (err : Nat) : Script := withDev fun d => seqs [
  put CC Reg.CC.KINDLE_ERR err, put CC Reg.CC.STEP 0,
  modCc fun c => { c with phase := .idle, tried := [], timedOut := false },
  changeMode .cold (if d.cc.timedOut then 0x18 else 0x17)]

/-- An attempt fails: the slot joins those tried, and the revert asks for its directory write (R312). -/
def failAttempt (err cause : Nat) : Script := withDev fun d => seqs [
  put CC Reg.CC.KINDLE_ERR err,
  modCc fun c => { c with phase := .writing, tried := c.tried ++ (d.dirNow.cur.toList), timedOut := cause == 0x18 },
  requestDir (.kindleRevert cause)]

/-- The chosen slot is read, and its signature goes to the Caddy's engine (R313, R332). -/
def startLoad : Script := seqs [modCc fun c => { c with phase := .loading }, put CC Reg.CC.STEP 2, requestSign .container]

/-- The head of the loop of R312: promotion of a first installation, the choice of Current, and the boot tries. -/
def kindleHead : Script := withDev fun d =>
  match d.p0.directory with
  | none => kindleCold 0x01
  | some x =>
    if x.stateOf x.cur ≠ 3 ∧ x.stateOf (some x.stg) = 2 ∧ d.cc.firstPass then
      seqs [modCc fun c => { c with phase := .writing, firstPass := false }, requestDir .promote]
    else if !d.kindleUsable x then kindleCold 0x06
    else if x.probation then
      if x.bootTries ≥ hProbBoots (d.p0.slotBytes (x.cur.getD 0)) then seqs [
        put CC Reg.CC.KINDLE_ERR 0x07,
        modCc fun c => { c with phase := .writing, timedOut := false },
        requestDir (.kindleRevert 0x15)]
      else seqs [modCc fun c => { c with phase := .writing }, requestDir .bootTry]
    else startLoad

/-- Kindling starts (R312): step 1 waits for the Config Controller. `fresh` starts the loop over. -/
def enterKindling (cause : Nat) (fresh : Bool) : Script := seqs [
  changeMode .kindling cause,
  modCc fun c => { c with phase := .entry, tried := if fresh then [] else c.tried, shadow := [], reloading := false,
                          firstPass := fresh,
                          timedOut := if fresh then false else c.timedOut },
  putB CC Reg.CC.SHADOW_OK false, stopTimer .revertRetry,
  when fresh (put CC Reg.CC.KINDLE_ERR 0),
  put CC Reg.CC.STEP 1]

/-! ### Probation (R314) -/

/-- The probation timer counts in this mode (R314). -/
def Dev.probCounts (d : Dev) : Bool := d.modeIn [.banked, .survey, .carry, .backoff]

/-- A CONFIRM waits for its directory write (R315). -/
def Dev.confirming (d : Dev) : Bool := d.cc.ops.any fun o => match o with
  | .confirm _ => true
  | _ => false

/-- Start or stop the probation timer as the mode asks (R314); an accepted CONFIRM stops it at once (R315). -/
def refreshProbation : Script := withDev fun d =>
  let on := (d.cc.dir.any (·.probation)) && d.probCounts && decide (d.cc.probLeft > 0) && !d.confirming
  match d.deadline .probation with
  | some t0 =>
    if on then skip
    else seqs [modCc fun c => { c with probLeft := t0 - d.dt }, stopTimer .probation]
  | none => when on (startTimer .probation d.cc.probLeft)

end Sys2Proof.Machine
end

