-- ==== Sys2Proof/Machine/Configure.lean ====
section
/-! DEFINITION. How a container's frames become register values (R301 to R306), and the fields that Kindling derives (R125,
R130, R174, R175, R186, R199, R212, R228, R305). -/

namespace Sys2Proof.Machine

/-! ### Fields of a register word -/

/-- Every field of a unit type, its own and those of the common header. -/
def typeFields (t : Nat) : List Fld :=
  (match t with
   | 0x01 => Reg.RXL.all | 0x02 => Reg.TXL.all | 0x03 => Reg.BC.all | 0x04 => Reg.DS.all | 0x05 => Reg.CB.all
   | 0x06 => Reg.RC.all | 0x07 => Reg.SD.all | 0x08 => Reg.PE.all | 0x09 => Reg.CR.all | 0x10 => Reg.HP.all
   | 0x11 => Reg.CY.all | 0x12 => Reg.CC.all | 0x13 => Reg.WS.all | 0x14 => Reg.EV.all | 0x15 => Reg.HA.all
   | 0x16 => Reg.TM.all | 0x17 => Reg.CK.all | 0x18 => Reg.CE.all | 0x19 => Reg.MC.all | 0x1A => Reg.TB.all
   | _ => [])

/-- The instance of a field that stands at a window offset: none when the field has no word there. -/
def Fld.instanceAt (f : Fld) (off : Nat) : Option (Nat × Nat) :=
  (List.range f.count2).findSome? fun j =>
    let base := f.off + f.stride2 * j
    if off < base then none
    else if f.count ≤ 1 ∨ f.stride = 0 then (if off = base then some (0, j) else none)
    else if (off - base) % f.stride = 0 ∧ (off - base) / f.stride < f.count then some ((off - base) / f.stride, j)
    else none

/-- A severity word of R66: the fields of the sources that R465 lists for the type. -/
def sevFields (t off : Nat) : List (Fld × Nat × Nat) :=
  if 0x20 ≤ off ∧ off ≤ 0x2C ∧ off % 4 = 0 then
    ((List.range 16).filter fun i => (srcInfo t ((off - 0x20) / 4 * 16 + i)).isSome).map fun i =>
      (sevFld t ((off - 0x20) / 4 * 16 + i), 0, 0)
  else []

/-- The fields of the word at window offset `off` of a unit type, with their instances. -/
def wordFields (t off : Nat) : List (Fld × Nat × Nat) :=
  sevFields t off ++
    (((if off < 0x100 then Reg.HDR.all else typeFields t).filterMap fun f =>
      (f.instanceAt off).map fun ij => (f, ij.1, ij.2)))

/-- A field's value in a word. -/
def Fld.of (f : Fld) (w : Nat) : Nat := w / 2 ^ f.lo % 2 ^ f.width

/-- The window offset at which the model holds a configuration word: the Damper path table has its own place (R303). -/
def pathOffset (t off index : Nat) : Nat :=
  if t = 0x04 ∧ (off = 0x184 ∨ off = 0x188) then 0x1000 + 0x40 * index + (off - 0x180) else off

/-! ### Frames (R301 to R303) -/

/-- One word that a container sets. -/
structure CfgWord where
  /-- byte offset in the container -/
  pos : Nat
  level : Nat
  /-- UNIT of the frame -/
  unit : Nat
  /-- unit type: TYPE of the entry, or that of the frame's unit at level 3 -/
  ty : Nat
  off : Nat
  init : Bool
  index : Nat
  value : Nat
  deriving DecidableEq, Repr

/-- The words of one entry. -/
def entryWords (c : List Byte) (level unit pos : Nat) : List CfgWord :=
  let off := num c pos 2
  let ty := if level = 3 then typeOf unit else num c (pos + 2) 1
  (List.range (num c (pos + 4) 2)).map fun i =>
    { pos := pos + 8 + 4 * i, level := level, unit := unit, ty := ty, off := off + 4 * i,
      init := (num c (pos + 3) 1).testBit 0, index := num c (pos + 6) 2, value := num c (pos + 8 + 4 * i) 4 }

/-- The entries of a field block that ends at `stop`: their positions. -/
def blockEntries (c : List Byte) (stop : Nat) : Nat → Nat → List Nat
  | 0, _ => []
  | f + 1, pos =>
    if pos + 8 > stop then [] else pos :: blockEntries c stop f (pos + 8 + 4 * num c (pos + 4) 2)

/-- The frames of a container section: their positions. -/
def sectionFrames (c : List Byte) : Nat → Nat → List Nat
  | 0, _ => []
  | n + 1, pos => pos :: sectionFrames c n (pos + 8 + num c (pos + 4) 4)

/-- The container sections: TYPE, OFFSET, SIZE, FRAMES. -/
def sectionTable (c : List Byte) : List (Nat × Nat × Nat × Nat) :=
  (List.range (num c 24 2)).map fun i =>
    let a := 128 + 16 * i
    (num c a 2, num c (a + 4) 4, num c (a + 8) 4, num c (a + 12) 4)

/-- Every word that a valid container sets, level by level. -/
def containerWords (c : List Byte) : List CfgWord :=
  (sectionTable c).flatMap fun (_, off, _, frames) =>
    (sectionFrames c frames off).flatMap fun p =>
      let len := num c (p + 4) 4
      (blockEntries c (p + 8 + len) (len / 8 + 1) (p + 8)).flatMap fun e =>
        entryWords c (num c p 1) (num c (p + 2) 2) e

/-- The present units that a word reaches (R305). -/
def CfgWord.targets (w : CfgWord) (d : Dev) : List Nat :=
  if w.level ≠ 3 ∧ w.ty = 0x04 ∧ (w.off = 0x184 ∨ w.off = 0x188) then []
  else if w.level = 3 then (if d.present w.unit then [w.unit] else [])
  else if w.ty ≥ 0x10 then (if w.level = 1 then [unitAddr 7 w.ty 0] else [])
  else (d.sections.filter fun s => w.level = 1 || s == w.unit / 8192).flatMap fun s =>
    (List.range (unitCount w.ty)).map fun i => unitAddr s w.ty i

/-- The fields that a word sets: every LK field it covers, and with INIT every RW field (R306). -/
def CfgWord.fields (w : CfgWord) : List (Fld × Nat × Nat) :=
  (wordFields w.ty (pathOffset w.ty w.off w.index)).filter fun x => x.1.acc == .lk || (x.1.acc == .rw && w.init)

/-- Apply one word. -/
def applyWord (w : CfgWord) : Script := withDev fun d =>
  forEach (w.targets d) fun u => forEach w.fields fun x => put u x.1 (x.1.of w.value) x.2.1 x.2.2

/-! ### Step 1 of R305 -/

/-- The unit and window offset that a register key names. -/
def keyUnit (k : RegKey) : Nat := k / 32 / 0x8000
/-- See `keyUnit`. -/
def keyOff (k : RegKey) : Nat := k / 32 % 0x8000

/-- The field instance at a register key. -/
def fieldOfKey (k : RegKey) : Option (Fld × Nat × Nat) :=
  (wordFields (typeOf (keyUnit k)) (keyOff k)).find? fun x => x.1.lo == k % 32

/-- Every LK field of every present unit returns to its reset value. -/
def clearLocked : Script := withDev fun d =>
  forEach d.regs fun e => match fieldOfKey e.1 with
    | some (f, i, j) => when (f.acc == .lk && d.present (keyUnit e.1)) (put (keyUnit e.1) f (f.rsts.getD i f.rst) i j)
    | none => skip

/-! ### Derived fields -/

/-- The sum of the shifts of a chain's positions (R125). -/
def shiftSum (word p0 s : Nat) : Nat := ((List.range (s + 1 - p0)).map fun i => word / 2 ^ (2 * (p0 + i - 1)) % 4).foldl (· + ·) 0

/-- RX_GAIN of a cell (R125). -/
def Dev.rxGain (d : Dev) (c : Nat) : Int :=
  let s := d.rd c Reg.BC.CELL_RATE
  let p0 := firstPos (d.fmt (d.rxlOf c))
  602 * ((s + 1 - p0 : Nat) - (shiftSum (d.rd c Reg.BC.RX_SHIFT) p0 s : Int))

/-- TX_GAIN of a cell (R125). -/
def Dev.txGain (d : Dev) (c : Nat) : Int :=
  -602 * (shiftSum (d.rd c Reg.BC.TX_SHIFT) (firstPos (d.fmt (d.txlOf c))) (d.rd c Reg.BC.CELL_RATE) : Int)

/-- Gains, delays and latencies of a cell (R125, R130). -/
def deriveCell (c : Nat) : Script := withDev fun d =>
  seqs [
    putS c Reg.BC.RX_GAIN (d.rxGain c),
    putS c Reg.BC.TX_GAIN (d.txGain c),
    put c Reg.BC.RX_CHAIN_DT (d.rxChain c), put c Reg.BC.TX_CHAIN_DT (d.txChain c),
    put c Reg.BC.CELL_LATENCY (d.cellLatency c), put c Reg.BC.PATH_LATENCY (d.pathLatency c),
    put c Reg.BC.G_AGC 4000,
    setGate c (!d.is c Reg.BC.SQ_EN)]

/-- VALID of both latencies: both links report PATH_DT with VALID = 1 (R130). -/
def refreshLatency : Script := withDev fun d =>
  forEach d.allCells fun c =>
    let ok := d.is (d.rxlOf c) Reg.RXL.PATH_VALID && d.is (d.txlOf c) Reg.TXL.PATH_VALID
    when (d.is c Reg.BC.CELL_LAT_VALID != ok) (seqs [putB c Reg.BC.CELL_LAT_VALID ok, putB c Reg.BC.PATH_LAT_VALID ok])

/-- v of R175 for a link. -/
def narrow (fmt : Nat) : Nat := if fmt = 2 then 1 else 0

/-- A 48-bit tuning word. -/
def Dev.ftw (d : Dev) (c : Nat) (tx : Bool) : Int :=
  if tx then signed 48 (d.rd c Reg.BC.TX_FTW_HI * 2 ^ 32 + d.rd c Reg.BC.TX_FTW_LO)
  else signed 48 (d.rd c Reg.BC.RX_FTW_HI * 2 ^ 32 + d.rd c Reg.BC.RX_FTW_LO)

/-- ΔFTW of a path (R175). -/
def Dev.deltaFtw (d : Dev) (s p : Nat) : Nat :=
  let src := d.srcOf s p
  let rcv := d.rcvOf s p
  let k := d.rd rcv Reg.BC.CELL_RATE
  codeOf 48 (d.ftw src true * 2 ^ (k - narrow (d.fmt (d.txlOf src))) - d.ftw rcv false * 2 ^ (k - narrow (d.fmt (d.rxlOf rcv))))

/-- BASE_LAG of a path from the grid origins (R174). -/
def Dev.baseLag (d : Dev) (s p : Nat) : Nat :=
  let src := d.srcOf s p
  let rcv := d.rcvOf s p
  let per := d.period rcv
  -- use at g_r(n) + RX_CHAIN_DT_r, publication at g_s(j) + RX_CHAIN_DT_s + CORE_s
  let use := ((d.cellAt rcv).tg.getD 0) + d.rxChain rcv
  let pub := ((d.cellAt src).tg.getD 0) + d.rxChain src + d.core src
  -- lag = use − pub modulo P, brought into 40 .. 40 + P − 1
  40 + (use + per * (pub / per + 41) - pub - 40) % per

/-- What Kindling derives for a path (R175, R186). -/
def derivePath (s p : Nat) : Script := withDev fun d =>
  let u := dsU s
  let v := d.deltaFtw s p
  seqs [
    put u Reg.DS.P_DFTW_LO (v % 2 ^ 32) p, put u Reg.DS.P_DFTW_HI (v / 2 ^ 32) p,
    put u Reg.DS.P_BASE_LAG (d.baseLag s p) p,
    putB u Reg.DS.P_GUARD_OK (decide (d.rd u Reg.DS.P_BULK p * d.period (d.rcvOf s p) ≥
      d.core (d.srcOf s p) + d.rd u Reg.DS.GUARD_DT)) p]

/-- LOAD of a section in 10⁹ tap·samples/s, rounded up (R199). -/
def Dev.sectionLoad (d : Dev) (s : Nat) : Nat :=
  ceilDiv (((d.pathsOf s).map fun p => d.taps s p * d.cellRate (d.rcvOf s p)).foldl (· + ·) 0) 1000000000

/-- f_link of a cell's TX link in Hz (R118). -/
def Dev.txRate (d : Dev) (c : Nat) : Nat := if d.fmt (d.txlOf c) = 2 then 245760000 else 491520000

/-- A cell's transmitted RF band in kHz, rounded outward (R227). -/
def Dev.rfBand (d : Dev) (c : Nat) : Int × Int :=
  let u := peOf c
  let k := d.rd c Reg.BC.CB
  let fl : Int := d.txRate c
  let sg : Int := if d.is u Reg.PE.INV k then -1 else 1
  -- in units of 2^−48 Hz / 1000
  let mid := sg * d.ftw c true * fl
  let w : Int := d.halfBand c * 2 ^ 48
  let q : Int := 1000 * 2 ^ 48
  let ctr : Int := d.rd u Reg.PE.RF_CTR k
  (ctr + (mid - w) / q, ctr - (-(mid + w)) / q)

/-- The range of a profile that holds a cell's band (R227). -/
def Dev.rangeOf (d : Dev) (o : List Byte) (c : Nat) : Option Nat :=
  let b := d.rfBand c
  (List.range (num o 17 1)).find? fun i =>
    let a := 320 + 12 * i
    decide ((num o a 4 : Int) ≤ b.1) && decide (b.2 ≤ (num o (a + 4) 4 : Int)) &&
      num o (a + 8) 1 == d.rd c Reg.BC.BAND_ID && num o (a + 9) 1 == d.rd c Reg.BC.DIR

/-- The profile's fields in a Protection Engine (R238, R239). -/
def applyProfile (s : Nat) (o : List Byte) : Script := seqs [
  put (peU s) Reg.PE.UL_DUTY_MAX (num o 20 2), put (peU s) Reg.PE.UL_DUTY_WIN (num o 22 2),
  put (peU s) Reg.PE.MODES_OK (num o 18 1),
  forEach (List.range 64) fun b => seqs [
    put (peU s) Reg.PE.B_P_MAX (num o (64 + 4 * b) 2) b, put (peU s) Reg.PE.B_NET_MAX (num o (66 + 4 * b) 2) b]]

/-- Every field that R305 step 5 and the rules cited above derive from the configuration. -/
def deriveAll (profile : List Byte) : Script := withDev fun d => seqs [
  forEach d.sections fun s => seqs [
    applyProfile s profile,
    put (dsU s) Reg.DS.LOAD (d.sectionLoad s),
    showLoadLim s,
    forEach (List.range 32) fun i => put (dsU s) Reg.DS.NPATH ((d.pathsInto (bcU s i)).length) i,
    forEach (List.range 4) fun i => put (cbU s i) Reg.CB.CELL_MAP
      (((List.range 32).filter fun j => (d.cellsOfCb s i).contains (bcU s j)).map (2 ^ ·)).sum,
    forEach (List.range 4) fun k => seqs [
      put (rcU s) Reg.RC.G_CODE0 (d.rd (rcU s) Reg.RC.G_INIT0 k) k,
      put (rcU s) Reg.RC.G_CODE1 (d.rd (rcU s) Reg.RC.G_INIT1 k) k],
    forEach (List.range 8) fun y => when (d.is (rcU s) Reg.RC.SYN_EN y)
      (modSyn s y fun x => { x with prog := true }),
    showSettled s],
  forEach d.allCells deriveCell,
  withDev fun d => seqs [
    forEach d.sections fun s => forEach (d.pathsOf s) (derivePath s),
    forEach d.allCells fun c => seqs [
      modCell c fun x => { x with range := (d.rangeOf profile c).map fun i =>
        (num profile (320 + 12 * i) 4, num profile (324 + 12 * i) 4) },
      withDev fun d => seqs [pePutS c Reg.PE.C_G_NET (d.gNet c), pePutS c Reg.PE.C_G_UL (d.gUl c)]]]]

/-- The engines' mutes follow the new configuration's donors: a cell that relies on a carrier, which is LOST since the entry to
Kindling, is muted (R221), one that relies on none is not; a cell with TDD_EN has no frame lock, so its SYNC_HOLD runs (R226). The
first search span of a carrier starts now. -/
def armDonors : Script := withDev fun d => seqs [
  forEach d.sections fun s => seqs [
    forEach (List.range 8) fun k => when (d.is (sdU s) Reg.SD.K_EN k)
      (modCarrier (s * 8 + k) fun x => { x with tp := (d.dt : Int) * 65536 }),
    forEach ((List.range 32).map (bcU s)) fun c => seqs [
      when (!(d.is c Reg.BC.ENABLE && (d.donorOf c).isSome)) (clearCause c mcDonor),
      when (!(d.is c Reg.BC.ENABLE && (d.donorOf c).isSome && d.peRd c Reg.PE.C_TDD_EN == 1)) (clearCause c mcSync)],
    forEach (List.range 32) fun car => when ((d.tddCells s car).isEmpty)
      (seqs [stopTimer (.syncHold (peU s) car), condEnd (peU s) 8 car]),
    forEach (List.range 8) fun k => when ((d.cellsOfDonor (s * 8 + k)).isEmpty) (condEnd (peU s) 7 k)],
  forEach (d.allCells.filterMap d.donorOf).eraseDups fun car => muteDonor (car / 8) (car % 8),
  forEach d.allCells fun c => match d.donorOf c with
    | some car => when (d.peRd c Reg.PE.C_TDD_EN = 1)
        (startIfIdle (.syncHold (peOf c) car) (dtOfMs (d.rd (peOf c) Reg.PE.SYNC_HOLD)))
    | none => skip]

/-- The frames of a container, level by level (R305). -/
def applyWords (c : List Byte) : Script :=
  forEach ([1, 2, 3].flatMap fun l => (containerWords c).filter fun w => w.level == l) applyWord

/-- Apply a validated container (R305): LK fields cleared and GAIN_SET at −40.00 dB, for a bit-stream that gives no initial value
(R152); then the frames by level, then the derived fields. -/
def applyContainer (c profile : List Byte) : Script := withDev fun d => seqs [
  clearLocked,
  forEach d.sections fun s => forEach (List.range 32) fun i => put (bcU s i) Reg.BC.GAIN_SET Reg.BC.GAIN_SET.rst,
  applyWords c, deriveAll profile,
  -- every cell is Off in Kindling, so a response set that an INIT word asks for is taken at once
  withDev fun d => forEach d.sections fun s => forEach (List.range 32) fun i => respSwitch (bcU s i) d.dt,
  armDonors]

end Sys2Proof.Machine
end

