-- ==== Sys2Proof/Machine/HostOps.lean ====
section
/-! DEFINITION. The Host Port as the rest of the block sees it: host memory writes (R350, R364), outstanding commands and how
they start and complete (R355 to R361), queue pairs (R354, R365), and taps (R366 to R370). -/

namespace Sys2Proof.Machine

/-! ### Host memory (R350, R364) -/

/-- DMA runs: the link is up, Bus Master Enable is 1 and the function is in D0. -/
def Dev.dmaUp (d : Dev) : Bool := d.is HP Reg.HP.LINK_UP && d.is HP Reg.HP.BME && !d.is HP Reg.HP.D3

/-- Write to host memory; DMA that is held is made later, in order. -/
def hostWrite (a : Nat) (bs : List Byte) : Script := withDev fun d =>
  if d.dmaUp then emit (.hostWrite a bs) else modHp fun h => { h with heldWrites := h.heldWrites ++ [(a, bs)] }

/-- Make the writes that were held. -/
def flushWrites : Script := withDev fun d => when (d.dmaUp && !d.hp.heldWrites.isEmpty) (seqs [
  forEach d.hp.heldWrites fun w => emit (.hostWrite w.1 w.2),
  modHp fun h => { h with heldWrites := [] }])

/-- Send the messages whose pending bits are set and which may be sent (R353). -/
def flushMsix : Script := withDev fun d => when d.dmaUp <| forEach (List.range 86) fun v =>
  when (d.hp.pba.testBit v && !d.hp.masked.testBit v) (seqs [
    modHp fun h => { h with pba := h.pba &&& (h.pba ^^^ 2 ^ v) }, sendMsix v])

/-! ### Statuses (R359) -/

/-- SUCCESS. -/
abbrev stSuccess : Nat := 0x00
/-- EMPTY. -/
abbrev stEmpty : Nat := 0x02
/-- BAD_OPCODE. -/
abbrev stBadOpcode : Nat := 0x03
/-- BAD_FIELD. -/
abbrev stBadField : Nat := 0x04
/-- TAG_CONFLICT. -/
abbrev stTagConflict : Nat := 0x05
/-- MODE. -/
abbrev stMode : Nat := 0x06
/-- BUSY. -/
abbrev stBusy : Nat := 0x07
/-- REFUSED. -/
abbrev stRefused : Nat := 0x08
/-- TOKEN. -/
abbrev stToken : Nat := 0x09
/-- INVALID. -/
abbrev stInvalid : Nat := 0x0A
/-- MEDIA. -/
abbrev stMedia : Nat := 0x0B
/-- TIMEOUT. -/
abbrev stTimeout : Nat := 0x0C
/-- DMA_ERROR. -/
abbrev stDmaError : Nat := 0x0D
/-- ABORTED. -/
abbrev stAborted : Nat := 0x0E
/-- IDENTITY. -/
abbrev stIdentity : Nat := 0x0F
/-- OTP. -/
abbrev stOtp : Nat := 0x10

/-! ### Commands -/

/-- The command has completed. -/
def Cmd.isDone (c : Cmd) : Bool := match c.state with
  | .done _ _ _ => true
  | _ => false

/-- OPCODE of an entry. -/
def Cmd.opcode (c : Cmd) : Nat := num c.entry 0 1
/-- DATA_ADDR of an entry. -/
def Cmd.addr (c : Cmd) : Nat := num c.entry 8 8
/-- DATA_LEN of an entry. -/
def Cmd.len (c : Cmd) : Nat := num c.entry 16 4
/-- A PARAM field of an entry. -/
def Cmd.par (c : Cmd) (off n : Nat) : Nat := num c.entry off n

/-- The command that holds a tag. -/
def Dev.cmdOf (d : Dev) (tag : Nat) : Option Cmd := d.cmds.find? fun c => c.tag == tag && !c.conflict

/-- The command of a tag and opcode that its unit has not taken up yet. -/
def Dev.passed (d : Dev) (tag op : Nat) : Option Cmd :=
  d.cmds.find? fun c => c.tag == tag && !c.conflict && c.state == .passed && c.opcode == op

/-- Change the outstanding commands, and show their numbers (R374). -/
def setCmds (f : List Cmd → List Cmd) : Script := withDev fun d =>
  let cs := f d.cmds
  let own := cs.filter fun c => !c.conflict
  seqs [
    modCmds fun _ => cs,
    put HP Reg.HP.OUTSTANDING own.length,
    forEach (List.range 16) fun q =>
      let n := (own.filter (·.q == q)).length
      when (d.rd HP Reg.HP.Q_INFLIGHT q != n) (put HP Reg.HP.Q_INFLIGHT n q)]

/-- Change the command that holds a tag. -/
def modCmd (tag : Nat) (f : Cmd → Cmd) : Script := setCmds (List.map fun c => if c.tag == tag && !c.conflict then f c else c)

/-- The unit takes the command up and completes it later. -/
def takeUp (tag : Nat) : Script := modCmd tag fun c => { c with state := .running }

/-- A command completes: its result is 0 unless it succeeded (R356); where its completion is discarded its tag is freed at
once (R350). -/
def complete (tag st det res : Nat) (data : List Byte := []) : Script := withDev fun d =>
  match d.cmds.find? fun c => c.tag == tag && !c.conflict && !c.isDone with
  | none => skip
  | some c =>
    if c.discard then setCmds (List.filter fun x => x.tag != tag || x.conflict)
    else seqs [
      modCmd tag fun x => { x with state := .done st det (if st = stSuccess then res else 0), data := data,
                                   order := d.hp.doneCnt },
      modHp fun h => { h with doneCnt := h.doneCnt + 1 }]

/-! ### Opcodes (R361) -/

/-- What R361 says of an opcode: how its data buffer runs (0 none, 1 to the DV96, 2 from it, 3 a ring), what Cold asks
(0 accepted, 1 configured, 2 medium), and the bytes of PARAM that it uses, as masks from byte 24. -/
structure OpInfo where
  data : Nat
  cold : Nat
  mask : List Nat

/-- The opcodes of R361. -/
def opInfo (op : Nat) : Option OpInfo :=
  let f := fun n : Nat => List.replicate n 0xFF
  match op with
  | 0x01 => some ⟨1, 2, f 4 ++ [0x01]⟩
  | 0x02 => some ⟨0, 1, []⟩
  | 0x03 => some ⟨0, 1, []⟩
  | 0x04 => some ⟨0, 1, []⟩
  | 0x08 => some ⟨1, 1, [0x07, 0x01]⟩
  | 0x09 => some ⟨0, 1, []⟩
  | 0x0A => some ⟨0, 1, [0xFF, 0, 0xFF, 0xFF] ++ f 4 ++ [0x01]⟩
  | 0x0B => some ⟨0, 1, []⟩
  | 0x0C => some ⟨0, 0, f 16⟩
  | 0x0D => some ⟨2, 0, f 32⟩
  | 0x10 => some ⟨1, 1, f 16⟩
  | 0x11 => some ⟨3, 1, f 5 ++ [0, 0, 0] ++ f 8⟩
  | 0x12 => some ⟨0, 1, [0xFF]⟩
  | 0x18 => some ⟨2, 2, [0xFF] ++ List.replicate 7 0 ++ f 8⟩
  | 0x19 => some ⟨0, 2, [0x01]⟩
  | 0x1A => some ⟨1, 2, []⟩
  | 0x20 => some ⟨2, 2, f 8⟩
  | 0x21 => some ⟨1, 2, f 8⟩
  | 0x28 => some ⟨1, 2, []⟩
  | 0x29 => some ⟨1, 0, []⟩
  | 0x2A => some ⟨1, 0, [0xFF]⟩
  | _ => none

/-- Step 2 of R360: the byte offset of the first field that breaks R355. -/
def badLayout (e : List Byte) (o : OpInfo) : Option Nat :=
  if num e 1 1 &&& 0xFE ≠ 0 then some 1
  else if num e 2 2 > 2047 then some 2
  else if num e 4 4 ≠ 0 then some 4
  else if (o.data = 0 ∧ num e 8 8 ≠ 0) ∨ num e 8 8 % 8 ≠ 0 then some 8
  else if o.data = 0 ∧ num e 16 4 ≠ 0 then some 16
  else if num e 20 4 ≠ 0 then some 20
  else (List.range 40).findSome? fun i =>
    if num e (24 + i) 1 &&& (0xFF ^^^ o.mask.getD i 0) ≠ 0 then some (24 + i) else none

/-- Step 4 of R360: a zero length, count or size (R56, R363). -/
def Cmd.isEmpty (c : Cmd) (o : OpInfo) : Bool :=
  (o.data != 0 && c.opcode != 0x08 && c.len == 0) || (c.opcode == 0x10 && (c.par 28 4 == 0 || c.par 32 1 == 0))

/-- The first offset whose condition holds. -/
def firstBad (xs : List (Nat × Bool)) : Option Nat := (xs.find? (·.2)).map (·.1)

/-- A power of two from 64 KiB to 1 GiB (R367). -/
def ringSize (n : Nat) : Bool := (List.range 15).any fun i => n == 2 ^ (16 + i)

/-- Step 7 of R360: the first parameter whose value R361 to R367 and R278 do not allow. -/
def Cmd.badValue (c : Cmd) (d : Dev) : Option Nat :=
  let n := c.len
  match c.opcode with
  | 0x01 => firstBad [(16, decide (n > 4194304))]
  | 0x08 => firstBad [(16, n != 0 && n != 264)]
  | 0x0A => firstBad [(24, decide (c.par 24 1 = 0 ∨ c.par 24 1 > 7)), (28, decide (c.par 28 4 < 10 ∨ c.par 28 4 > 60000))]
  | 0x0C => firstBad [(24, decide (c.par 24 4 > 999999999)),
      (32, c.par 32 8 != 0 && decide (c.par 32 8 < d.dt + 64 ∨ c.par 32 8 > d.dt + 491520000))]
  | 0x0D => firstBad [(16, n != 512)]
  | 0x10 =>
    let t := c.par 33 1
    firstBad [(16, n != 2 * c.par 32 1), (24, decide (c.par 24 4 > 2 ^ 26)), (28, decide (c.par 24 4 + c.par 28 4 > 2 ^ 26)),
      (32, decide (c.par 32 1 > 16)), (33, decide (t > 4)),
      (34, if t = 0 then c.par 34 2 != 0 else if t = 1 then decide (c.par 34 2 > 3)
           else c.par 34 2 != 0xFFFF && !isUnit (c.par 34 2)),
      (36, if t = 4 then decide (c.par 36 2 > 255) else c.par 36 2 != 0), (38, c.par 38 2 == 0)]
  | 0x11 => firstBad [(8, c.addr % 4096 != 0), (16, !ringSize n), (26, decide (c.par 26 1 > 63)),
      (27, decide (c.par 27 1 > 1) || (c.par 27 1 == 1 && typeOf (c.par 24 2) != 0x03)), (28, decide (c.par 28 1 > 1)),
      (29, c.par 29 3 != 0), (32, c.par 32 8 % 64 != 0)]
  | 0x12 => firstBad [(24, decide (c.par 24 1 > 63))]
  | 0x18 => firstBad [(16, n % 64 != 0), (24, c.par 24 1 != 1 && c.par 24 1 != 2)]
  | 0x1A => firstBad [(16, n != 264)]
  | 0x20 => firstBad [(16, n % 4096 != 0 || decide (n > 16777216)), (24, c.par 24 8 % 4096 != 0)]
  | 0x21 => firstBad [(16, n % 4096 != 0 || decide (n > 16777216)), (24, c.par 24 8 % 4096 != 0)]
  | 0x28 => firstBad [(16, n != 1280 && n != 1544)]
  | 0x29 => firstBad [(16, n != 64 && n != 328)]
  | 0x2A => firstBad [(16, n != 264), (24, decide (c.par 24 1 > 3))]
  | _ => none

/-- R76 excludes the opcode in the present mode. -/
def Dev.excluded (d : Dev) (op : Nat) : Bool :=
  match d.mode with
  | .survey => op == 0x01 || op == 0x02
  | .backoff => op == 0x09
  | .ember => op == 0x09 || op == 0x0A
  | _ => false

/-- Steps 4 to 7 of R360 for a command that starts: its status and detail, or none where it goes to its unit. -/
def Dev.startCheck (d : Dev) (c : Cmd) : Option (Nat × Nat) :=
  match opInfo c.opcode with
  | none => some (stBadOpcode, 0)
  | some o =>
    if c.isEmpty o then some (stEmpty, 0)
    else if d.mode = .kindling then some (stBusy, 0)
    else if d.mode = .cold ∧ o.cold = 1 ∧ ¬(c.opcode = 0x08 ∧ c.par 24 1 = 1) then some (stMode, 0)
    else if d.mode = .cold ∧ o.cold = 2 ∧ d.is WS Reg.WS.READY = false then some (stBusy, 0)
    else if d.excluded c.opcode then some (stMode, 0)
    else (c.badValue d).map fun off => (stBadField, off)

/-- A fetched command may start: no earlier command of its SQ waits, and behind a FENCE every earlier one has completed
(R355, R358). -/
def mayStart (c : Cmd) (before : List Cmd) : Bool :=
  let mine := before.filter (·.q == c.q)
  !mine.any (fun x => x.state == .waiting) && (!(num c.entry 1 1).testBit 0 || mine.all (·.isDone))

/-- Start the commands that may start, in the order of their fetch. -/
def startCmds : Script := withDev fun d =>
  forEach (d.cmds.filter fun c => c.state == .waiting) fun c => withDev fun d =>
    when (mayStart c (d.cmds.takeWhile fun x => !(x.tag == c.tag && !x.conflict))) <|
      match d.startCheck c with
      | some (st, det) => complete c.tag st det 0
      | none => modCmd c.tag fun x => { x with state := .passed }

/-! ### Queue pairs (R354, R365) -/

/-- The queue pair is enabled and not stopped. -/
def Dev.queueOn (d : Dev) (q : Nat) : Bool := d.is HP Reg.HP.Q_ENABLE q && !d.is HP Reg.HP.Q_STOPPED q

/-- Completions of a queue pair's outstanding commands are discarded from now on; those already held are dropped. -/
def discardQueue (q : Nat) : Script := setCmds fun cs =>
  (cs.filter fun c => !(c.q == q && c.isDone)).map fun c => if c.q == q then { c with discard := true } else c

/-- A queue pair stops with a cause (R354, R365). -/
def stopQueue (q cause : Nat) : Script := seqs [
  putB HP Reg.HP.Q_STOPPED true q, put HP Reg.HP.Q_STOP_CAUSE cause q,
  discardQueue q, stopTimer (.coalesce q), fireEvent HP (if cause = 3 then 1 else 0) noScope [q]]

/-- Send the completion interrupt of a queue pair (R374). -/
def sendCoalesced (q : Nat) : Script := withDev fun d => seqs [
  stopTimer (.coalesce q),
  when (decide ((d.queueAt q).coal > 0)) (seqs [
    modQueue q fun x => { x with coal := 0 }, sendMsix (d.queueAt q).vec])]

/-! ### Taps (R366 to R370) -/

/-- A tap is open. -/
def Dev.tapOpen (d : Dev) (t : Nat) : Bool := d.rd HP Reg.HP.TAP_STATE t != 0

/-- A unit that a tap or a capture can name is present and configured. -/
def Dev.sourceOk (d : Dev) (u : Nat) : Bool :=
  (typeOf u == 0x01 || typeOf u == 0x02 || typeOf u == 0x03) && isUnit u && d.present u &&
    (if typeOf u = 0x03 then d.is u Reg.BC.ENABLE else d.linkOn u)

/-- A source's sample rate. -/
def Dev.sourceRate (d : Dev) (u : Nat) : Nat :=
  if typeOf u = 0x03 then d.cellRate u else if d.fmt u = 2 then 245760000 else 491520000

/-- Samples per segment (R366). -/
def segSamples (u : Nat) : Nat := if typeOf u = 0x03 then 256 else 4096

/-- RATE of R369 in MB/s. -/
def Dev.rateOf (d : Dev) (u fmt : Nat) : Nat :=
  let n := segSamples u
  ceilDiv (d.sourceRate u * (n * (4 + 4 * fmt) + 64)) (n * 1000000)

/-- The rate of an open tap. -/
def Dev.tapRate (d : Dev) (t : Nat) : Nat := d.rateOf (d.rd HP Reg.HP.TAP_SOURCE t) (d.rd HP Reg.HP.TAP_FORMAT t)

/-- The tap limit of R369 in MB/s. -/
def Dev.tapLimit (d : Dev) : Nat :=
  if !d.is HP Reg.HP.LINK_UP then 0
  else if d.variant.bondS then 24000 * d.rd HP Reg.HP.SPEED / 16
  else 96000 * d.rd HP Reg.HP.WIDTH * d.rd HP Reg.HP.SPEED / 1024

/-- The open taps, in rising order of index. -/
def Dev.openTaps (d : Dev) : List Nat := (List.range 64).filter d.tapOpen

/-- The taps that fit the limit: taps are dropped in falling order of index until the rest fits (R370). -/
def fitTaps (d : Dev) (lim : Nat) : List Nat → List Nat
  | [] => []
  | t :: ts => if ((t :: ts).map d.tapRate).foldl (· + ·) 0 ≤ lim then t :: ts else fitTaps d lim ts

/-- PAUSE_CAUSE of an open tap: thermal, bandwidth or link (R370). -/
def Dev.pauseOf (d : Dev) (t : Nat) : Nat :=
  if decide (d.rd TM Reg.TM.LEVEL ≥ 2) then 1
  else if !d.dmaUp then 3
  else if (fitTaps d d.tapLimit d.openTaps.reverse).contains t then 0
  else 2

/-- Bring the taps' states, USED and LIMIT up to date. -/
def refreshTaps : Script := withDev fun d =>
  let used := ceilDiv ((d.openTaps.map d.tapRate).foldl (· + ·) 0) 10
  seqs [
    when (d.rd HP Reg.HP.USED != used) (put HP Reg.HP.USED used),
    when (d.rd HP Reg.HP.LIMIT != d.tapLimit / 10) (put HP Reg.HP.LIMIT (d.tapLimit / 10)),
    forEach d.openTaps fun t =>
      let p := d.pauseOf t
      when (d.rd HP Reg.HP.TAP_PAUSE_CAUSE t != p) (seqs [
        put HP Reg.HP.TAP_PAUSE_CAUSE p t, put HP Reg.HP.TAP_STATE (if p = 0 then 1 else 2) t])]

/-- The status block of a tap (R368). -/
def tapStatus (t : Nat) : Script := withDev fun d =>
  let x := d.tapAt t
  hostWrite x.statusAt (leBytes 8 x.prod ++ leBytes 4 (d.rd HP Reg.HP.TAP_LOST t) ++
    leBytes 1 (d.rd HP Reg.HP.TAP_STATE t) ++ leBytes 3 0)

end Sys2Proof.Machine
end

