-- ==== Sys2Proof/Machine/CalOps.lean ====
section
/-! DEFINITION. The Calibration Engine as the rest of the block sees it: live values and the Steep (R276, R285 to R287), how a
run ends (R279 to R281), the calibration set (R291 to R294), and the reference (R288 to R290, R458). -/

namespace Sys2Proof.Machine

/-! ### Rounding -/

/-- The largest whole number whose square is at most `n`, for `n` below 2^128. -/
def isqrt (n : Nat) : Nat := (searchUp (fun v => decide (0 ≤ v) && decide (v.toNat * v.toNat ≤ n)) 64 0).toNat

/-- x/√n for n > 0, as a whole number: one of its neighbours, left open. -/
def rootQuotient (x : Int) (n : Nat) : Int :=
  let f := isqrt (x.natAbs ^ 2 / n)
  let exact := decide (f ^ 2 * n = x.natAbs ^ 2)
  let lo : Int := if 0 ≤ x then f else if exact then -(f : Int) else -(f : Int) - 1
  lo + (if !exact && Config.roundsUp x.natAbs n then 1 else 0)

/-! ### Live values (R276, R277, R285) -/

/-- The live value of a quantity: KIND and index; the taps of a cell for FLAT. -/
def Dev.calLive (d : Dev) (kind idx : Nat) : List (Int × Int) :=
  match kind with
  | 1 => [(d.rdS CE Reg.CE.RX_ALPHA_I idx, d.rdS CE Reg.CE.RX_ALPHA_Q idx)]
  | 2 => [(d.rdS CE Reg.CE.RX_DC_I idx, d.rdS CE Reg.CE.RX_DC_Q idx)]
  | 3 => [(d.rdS CE Reg.CE.TX_BETA_I idx, d.rdS CE Reg.CE.TX_BETA_Q idx)]
  | 4 => [(d.rdS CE Reg.CE.TX_LO_I idx, d.rdS CE Reg.CE.TX_LO_Q idx)]
  | 5 => (List.range 16).map fun k => (d.rdS idx Reg.BC.EQ_I k, d.rdS idx Reg.BC.EQ_Q k)
  | 6 => [(d.rdS CE Reg.CE.DET_OFS idx, 0)]
  | 7 => [((d.rd CE Reg.CE.VT_CUR : Int), 0)]
  | _ => []

/-- Give a quantity a live value; for FLAT a set of taps is delivered to the cell (R148). -/
def putCal (kind idx : Nat) (v : List (Int × Int)) : Script :=
  let x := v.headD (0, 0)
  match kind with
  | 1 => seqs [putS CE Reg.CE.RX_ALPHA_I x.1 idx, putS CE Reg.CE.RX_ALPHA_Q x.2 idx]
  | 2 => seqs [putS CE Reg.CE.RX_DC_I x.1 idx, putS CE Reg.CE.RX_DC_Q x.2 idx]
  | 3 => seqs [putS CE Reg.CE.TX_BETA_I x.1 idx, putS CE Reg.CE.TX_BETA_Q x.2 idx]
  | 4 => seqs [putS CE Reg.CE.TX_LO_I x.1 idx, putS CE Reg.CE.TX_LO_Q x.2 idx]
  | 5 => modCell idx fun c => { c with taps := some (v.map fun t => (codeOf 16 t.1, codeOf 16 t.2)) }
  | 6 => putS CE Reg.CE.DET_OFS x.1 idx
  | 7 => put CE Reg.CE.VT_CUR x.1.toNat
  | _ => skip

/-- Identity taps (R147): h_7 = 1.0 in Q2.14. -/
def identityTaps : List (Int × Int) := (List.range 16).map fun k => (if k = 7 then (16384, 0) else (0, 0))

/-- EQ_BOUND of a set of taps in Q2.14 (R148). -/
def eqBound (taps : List (Int × Int)) : Int :=
  let s := (taps.map fun t => t.1.natAbs + t.2.natAbs).foldl (· + ·) 0
  if s = 0 then Config.zeroBound else cdbUp (s ^ 2) (2 ^ 28)

/-- The taps that a cell holds, with their EQ_BOUND (R148). -/
def setTaps (c : Nat) (taps : List (Int × Int)) : Script := seqs [
  forEach taps.zipIdx fun x => seqs [putS c Reg.BC.EQ_I x.1.1 x.2, putS c Reg.BC.EQ_Q x.1.2 x.2],
  putS c Reg.BC.EQ_BOUND (eqBound taps)]

/-! ### The Steep (R285, R286) -/

/-- step_max of a quantity in LSBs of its live value. -/
def Dev.stepMax (d : Dev) (kind : Nat) : Nat :=
  if kind = 1 ∨ kind = 3 then 64 * d.rd CE Reg.CE.STEP_IQ
  else if kind = 2 ∨ kind = 4 then 64 * d.rd CE Reg.CE.STEP_DC
  else if kind = 6 then d.rd CE Reg.CE.STEP_DET
  else d.rd CE Reg.CE.VT_STEP

/-- The value of a complex ramp after `i` ticks, and whether it is the target (R285). With |t − c| / n below one LSB the step
is one LSB; above step_max it is step_max; else the ramp takes n ticks. -/
def rampAt (a b : Int × Int) (n sm i : Nat) : (Int × Int) × Bool :=
  let dr := b.1 - a.1
  let di := b.2 - a.2
  let nn := dr.natAbs ^ 2 + di.natAbs ^ 2
  let s := if nn ≥ (sm * n) ^ 2 then sm else 1
  if nn < n ^ 2 ∨ nn ≥ (sm * n) ^ 2 then
    if nn ≤ (i * s) ^ 2 then (b, true)
    else ((a.1 + rootQuotient (dr * i * s) nn, a.2 + rootQuotient (di * i * s) nn), false)
  else if i ≥ n then (b, true)
  else ((a.1 + roundOpen (dr * i) n, a.2 + roundOpen (di * i) n), false)

/-- Ticks of a FLAT ramp (R286). -/
def flatTicks (d : Dev) (r : Ramp) : Nat :=
  let m := ((r.start.zip r.goal).map fun x => max (x.2.1 - x.1.1).natAbs (x.2.2 - x.1.2).natAbs).foldl max 0
  max (d.rd CE Reg.CE.STEEP_MS) (ceilDiv m (max 1 (d.rd CE Reg.CE.STEP_EQ)))

/-- The values of a ramp after `i` ticks, and whether they are the target. -/
def Dev.rampValue (d : Dev) (r : Ramp) (i : Nat) : List (Int × Int) × Bool :=
  if r.kind = 5 then
    let n := flatTicks d r
    if i ≥ n then (r.goal, true)
    else ((r.start.zip r.goal).map fun x =>
      (x.1.1 + roundOpen ((x.2.1 - x.1.1) * i) n, x.1.2 + roundOpen ((x.2.2 - x.1.2) * i) n), false)
  else
    let v := rampAt (r.start.headD (0, 0)) (r.goal.headD (0, 0)) (d.rd CE Reg.CE.STEEP_MS) (d.stepMax r.kind) i
    ([v.1], v.2)

/-- The Steep gives up a quantity's target (R286, R295). -/
def dropRamp (kind idx : Nat) : Script :=
  modCe fun e => { e with ramps := e.ramps.filter fun r => !(r.kind == kind && r.idx == idx) }

/-- A new target replaces one that is still being reached (R285, R295); a target equal to the live value is reached. -/
def setGoal (kind idx : Nat) (goal : List (Int × Int)) : Script := withDev fun d =>
  let live := d.calLive kind idx
  seqs [
    dropRamp kind idx,
    if live = goal then modCe fun e => { e with due := e.due || decide (kind ≤ 6) }
    else modCe fun e => { e with ramps := e.ramps ++ [{ kind := kind, idx := idx, start := live, goal := goal }] }]

/-- The new VTUNE code is noted for the mean of R289, back to 60 s ago. -/
def logVt : Script := withDev fun d => modCe fun e =>
  let xs := (d.dt, d.rd CE Reg.CE.VT_CUR) :: e.vtLog
  let recent := xs.takeWhile fun x => decide (d.dt < x.1 + dtOfS 61)
  { e with vtLog := recent ++ (xs.drop recent.length).take 1 }

/-- One tick of one ramp. -/
def tickRamp (r : Ramp) : Script := withDev fun d =>
  let v := d.rampValue r (r.i + 1)
  seqs [
    putCal r.kind r.idx v.1,
    when (r.kind == 7) logVt,
    if v.2 then seqs [dropRamp r.kind r.idx, modCe fun e => { e with due := e.due || decide (r.kind ≤ 6) }]
    else modCe fun e => { e with ramps := e.ramps.map fun x =>
      if x.kind == r.kind && x.idx == r.idx then { x with i := x.i + 1 } else x }]

/-! ### Runs (R279 to R281) -/

/-- ACCEPTED of R280. -/
abbrev caAccepted : Nat := 0x00
/-- RUNNING. -/
abbrev caRunning : Nat := 0x01
/-- ESTIMATED. -/
abbrev caEstimated : Nat := 0x02
/-- MODE. -/
abbrev caMode : Nat := 0x19
/-- NOT_CONFIGURED. -/
abbrev caNotConfigured : Nat := 0x1A
/-- ABORTED. -/
abbrev caAborted : Nat := 0x1B
/-- BUSY. -/
abbrev caBusy : Nat := 0x1C

/-- The modes in which a run of a KIND may start and continue (R279). -/
def Dev.calMode (d : Dev) (kind : Nat) : Bool :=
  d.modeIn [.survey, .carry, .backoff, .service] || (d.mode == .banked && kind != 3 && kind != 4)

/-- Status of a CAL-RUN that ended, or was refused, with a reason (R359). -/
def calStatus (reason : Nat) : Nat :=
  if reason = caAccepted ∨ reason = caEstimated then stSuccess
  else if reason = caMode then stMode
  else if reason = caBusy then stBusy
  else if reason = caAborted then stAborted
  else stRefused

/-- The run in slot `k` ends with a reason and the result's bytes (R280): its slot, its record, its counter and its command. -/
def endRun (k : Nat) (reason : Nat) (result : List Byte) : Script := withDev fun d =>
  match d.ce.runs.find? fun x => x.1 == k with
  | none => skip
  | some (_, r) => seqs [
      modCe fun e => { e with runs := e.runs.filter fun x => x.1 != k },
      stopTimer (.calHalf k),
      put CE Reg.CE.SLOT_PHASE 3 k, put CE Reg.CE.SLOT_REASON reason k,
      if reason = caAccepted then inc CE Reg.CE.ACC_CNT else inc CE Reg.CE.REJ_CNT,
      noteRec CE 0x40 (leBytes 1 r.kind ++ leBytes 2 r.target ++ leBytes 1 reason ++ result.take 12),
      match r.tag with
      | some t => complete t (calStatus reason) (if reason = caAborted then 0 else reason) (r.runId + k * 2 ^ 32)
      | none => skip]

/-- End with ABORTED every run that the present mode does not let continue (R279). -/
def abortRuns : Script := withDev fun d =>
  forEach (d.ce.runs.filter fun x => !d.calMode x.2.kind) fun x => endRun x.1 caAborted []

/-- A detector entry is assigned to a group of section `s` (R283, R444). -/
def Dev.hasDetector (d : Dev) (s : Nat) : Bool :=
  (List.range 64).any fun e =>
    (d.rd HA Reg.HA.ENT_FUNC e == 2 || d.rd HA Reg.HA.ENT_FUNC e == 3) && d.rd HA Reg.HA.ENT_GRP_SS e == s

/-- The target is configured for runs of a KIND, with the further start conditions of R279. -/
def Dev.calTarget (d : Dev) (kind u : Nat) : Bool :=
  d.present u &&
  match kind with
  | 1 => typeOf u == 0x01 && d.linkOn u && d.inData u
  | 2 => typeOf u == 0x01 && d.linkOn u && d.inData u
  | 3 => typeOf u == 0x02 && d.linkOn u && d.is CE Reg.CE.IMG_EN (linkL u)
  | 4 => typeOf u == 0x02 && d.linkOn u && d.is CE Reg.CE.LO_EN (linkL u)
  | 5 => typeOf u == 0x03 && d.is u Reg.BC.ENABLE && d.is u Reg.BC.EQ_EN
  | 6 => typeOf u == 0x06 && d.hasDetector (secOf u)
  | _ => false

/-- The first run slot with no run in progress (R278). -/
def Dev.freeRun (d : Dev) : Option Nat := (List.range 16).find? fun k => !(d.ce.runs.any fun x => x.1 == k)

/-- The reason for which a run is refused at its start; none where it starts (R279). -/
def Dev.runRefusal (d : Dev) (kind u : Nat) : Option Nat :=
  if !d.calTarget kind u then some caNotConfigured
  else if !d.calMode kind then some caMode
  else if d.ce.runs.any (fun x => (x.2.kind == kind && x.2.target == u) || (x.2.kind == 3 && secOf x.2.target == secOf u)) ||
      d.freeRun.isNone then some caBusy
  else none

/-- dt of one half of a run. -/
def CalRun.halfDt (r : CalRun) : Nat := dtOfMs r.runMs / 2

/-- A run starts in the first free slot (R278, R280). -/
def startRun (kind u ms : Nat) (noApply auto : Bool) (tag : Option Nat) : Script := withDev fun d =>
  match d.freeRun with
  | none => skip
  | some k =>
    let r : CalRun := {
      kind := kind, target := u, runMs := ms, noApply := noApply, auto := auto, tag := tag
      runId := d.ce.nextRun, acc := { since := d.dt }, live0 := (d.calLive kind (linkL u)).headD (0, 0) }
    seqs [
      modCe fun e => { e with runs := e.runs ++ [(k, r)], nextRun := (e.nextRun + 1) % 2 ^ 32 },
      put CE Reg.CE.SLOT_TARGET u k, put CE Reg.CE.SLOT_KIND kind k, putB CE Reg.CE.SLOT_NO_APPLY noApply k,
      putB CE Reg.CE.SLOT_AUTO auto k, put CE Reg.CE.SLOT_PHASE 1 k, put CE Reg.CE.SLOT_REASON caRunning k,
      put CE Reg.CE.SLOT_RUN_ID r.runId k,
      startTimer (.calHalf k) r.halfDt]

/-- Automatic runs start as their turn comes, at most four at once (R278); one that is refused is passed over. -/
def startAutos : Script := withDev fun d =>
  forEach d.ce.autoQ fun x => withDev fun d =>
    when (decide ((d.ce.runs.filter (·.2.auto)).length < 4)) (seqs [
      modCe fun e => { e with autoQ := e.autoQ.erase x },
      when ((d.runRefusal x.1 x.2).isNone) (startRun x.1 x.2 (d.rd CE Reg.CE.AUTO_RUN_MS) false true none)])

/-! ### The calibration set (R291 to R294) -/

/-- The order of entries: unit, KIND, and for DET the input. -/
def CalEntry.key (e : CalEntry) : Nat := (e.unit * 256 + e.kind) * 256 + (if e.kind = 6 then num e.payload 2 1 else 0)

/-- Put an entry into a list in the order of R292. -/
def putEntry (x : CalEntry) : List CalEntry → List CalEntry
  | [] => [x]
  | e :: es => if x.key < e.key then x :: e :: es else if x.key = e.key then x :: es else e :: putEntry x es

/-- One entry's bytes (R292). -/
def CalEntry.bytes (e : CalEntry) : List Byte :=
  leBytes 2 e.unit ++ leBytes 1 e.kind ++ leBytes 1 (e.payload.length / 8) ++ leBytes 4 e.runId ++ e.payload

/-- Header and body of a set (R292). -/
def CalSet.bytes (s : CalSet) : List Byte :=
  let body := s.entries.flatMap CalEntry.bytes
  leBytes 4 0x4C435644 ++ leBytes 2 1 ++ leBytes 2 s.entries.length ++ leBytes 8 s.seq ++ leBytes 8 s.dt ++
    leBytes 4 s.wall.ns ++ leBytes 4 s.wall.sec ++ leBytes 2 s.epoch ++ leBytes 2 0 ++ leBytes 4 body.length ++
    List.replicate 24 0 ++ body

/-- The valid slot with the higher SEQ: the set and whether it is CAL_B (R293). -/
def Parcel.calSet (p : Parcel) : Option (CalSet × Bool) :=
  match p.calA, p.calB with
  | some a, some b => some (if a.seq ≥ b.seq then (a, false) else (b, true))
  | some a, none => some (a, false)
  | none, some b => some (b, true)
  | none, none => none

/-- A pair of 32-bit numbers as a payload (R292). -/
def pairBytes (x : Int × Int) : List Byte := leBytes 4 (codeOf 32 x.1) ++ leBytes 4 (codeOf 32 x.2)

/-- The payload of a value of a KIND; `input` is the Housekeeping input of a detector offset. -/
def calPayload (kind input : Nat) (v : List (Int × Int)) : List Byte :=
  if kind = 5 then v.flatMap fun t => leBytes 2 (codeOf 16 t.1) ++ leBytes 2 (codeOf 16 t.2)
  else if kind = 6 then leBytes 2 (codeOf 16 (v.headD (0, 0)).1) ++ leBytes 1 input ++ List.replicate 5 0
  else pairBytes (v.headD (0, 0))

/-- Show the set in force (R298). -/
def showSet (s : CalSet) (slotB : Bool) : Script :=
  let dg := digest64 s.bytes
  seqs [
    putB CE Reg.CE.SET_VALID true, putB CE Reg.CE.SET_SLOT slotB, putLive CE Reg.CE.SET_SEQ_LO s.seq,
    forEach (List.range 16) fun i => put CE Reg.CE.SET_DIGEST (num dg (4 * i) 4) i]

/-- The payload of the live value behind an entry (R292): of REF the code in force with the entry's T_HOLD. -/
def Dev.livePayload (d : Dev) (e : CalEntry) : List Byte :=
  let input := num e.payload 2 1
  match e.kind with
  | 5 => calPayload 5 0 (d.calLive 5 e.unit)
  | 6 => calPayload 6 input (d.calLive 6 input)
  | 7 => leBytes 2 (d.rd CE Reg.CE.VT_CUR) ++ e.payload.drop 2
  | k => calPayload k 0 (d.calLive k (linkL e.unit))

/-- The payload of the identity value of an entry's quantity (R293). -/
def CalEntry.identity (e : CalEntry) : List Byte :=
  match e.kind with
  | 5 => calPayload 5 0 identityTaps
  | k => calPayload k (num e.payload 2 1) [(0, 0)]

/-- The live value behind an entry differs from what the stored set gives its quantity: the entry of the set, or none and so the
identity. A FLAT entry of a cell that does not take it has no live value. -/
def Dev.differs (d : Dev) (e : CalEntry) : Bool :=
  (e.kind != 5 || d.is e.unit Reg.BC.EQ_EN) &&
    d.livePayload e != ((d.ce.stored.find? fun x => x.key == e.key).map (·.payload)).getD e.identity

/-- DIRTY: live values differ from the stored set (R294). -/
def showDirty : Script := withDev fun d =>
  let on := d.ce.stored.any d.differs || d.ce.entries.any d.differs
  when (d.is CE Reg.CE.DIRTY != on) (putB CE Reg.CE.DIRTY on)

/-- The REF entry at a commit: VT_HOLD and T_HOLD once a second has been accepted, else the entry the set holds (R294). -/
def Dev.refEntries (d : Dev) : List CalEntry :=
  if d.ce.accepted then
    putEntry { unit := CE, kind := 7, runId := 0,
               payload := leBytes 2 (d.rd CE Reg.CE.VT_HOLD) ++ leBytes 2 (d.rd CE Reg.CE.T_HOLD) ++ leBytes 4 0 } d.ce.entries
  else d.ce.entries

/-- A commit starts (R293 steps 1 and 2): the marker page of the slot that does not hold the current set is zeroed. -/
def startCommit : Script := withDev fun d =>
  let es := d.refEntries
  let s : CalSet := {
    seq := (if d.is CE Reg.CE.SET_VALID then d.live CE Reg.CE.SET_SEQ_LO else 0) + 1
    dt := d.dt, wall := d.clock.wall, epoch := d.clock.epoch, entries := es }
  let toB := d.is CE Reg.CE.SET_VALID && !d.is CE Reg.CE.SET_SLOT
  seqs [
    modCe fun e => { e with due := false, committing := some s, entries := es, discAt := d.dt },
    stopTimer .calRetry,
    modP0 fun p => if toB then { p with calB := none } else { p with calA := none }]

/-- A commit ends: the marker verified and the other slot zeroed, or failed (R293, R294, R296). -/
def finishCommit (ok : Bool) : Script := withDev fun d =>
  match d.ce.committing with
  | none => skip
  | some s =>
    let toB := d.is CE Reg.CE.SET_VALID && !d.is CE Reg.CE.SET_SLOT
    seqs [
      modCe fun e => { e with committing := none, stored := if ok then s.entries else e.stored },
      if ok then seqs [
        modP0 fun p => if toB then { p with calA := none, calB := some s } else { p with calA := some s, calB := none },
        showSet s toB]
      else seqs [
        putB CE Reg.CE.STORE_ERR true, inc CE Reg.CE.STORE_FAIL, fireEvent CE 0 noScope [],
        startTimer .calRetry (dtOfS 1)]]

/-- The target of an entry is present and configured (R293). -/
def Dev.calApplies (d : Dev) (e : CalEntry) : Bool :=
  if e.kind = 6 then e.unit == HA && decide (num e.payload 2 1 < 32)
  else if e.kind = 7 then e.unit == CE
  else if e.kind = 5 then isUnit e.unit && typeOf e.unit == 0x03 && d.is e.unit Reg.BC.ENABLE && d.present e.unit
  else isUnit e.unit && d.present e.unit && d.linkOn e.unit &&
    typeOf e.unit == (if e.kind = 1 ∨ e.kind = 2 then 0x01 else 0x02)

/-- An entry's value goes to its live register at once, without a ramp (R287). A stored FLAT set is taken without the test of EQ_MAX
that R148 puts before a delivery, of which no rule says whether it stands before a load at Kindling (DESIGN CHOICE, log entry
160; unsafe). -/
def loadEntry (e : CalEntry) : Script := withDev fun d =>
  let re := signed 32 (num e.payload 0 4)
  let im := signed 32 (num e.payload 4 4)
  if e.kind = 5 then
    when (d.is e.unit Reg.BC.EQ_EN) (setTaps e.unit ((List.range 16).map fun k =>
      (signed 16 (num e.payload (4 * k) 2), signed 16 (num e.payload (4 * k + 2) 2))))
  else if e.kind = 6 then putCal 6 (num e.payload 2 1) [(signed 16 (num e.payload 0 2), 0)]
  else if e.kind = 7 then seqs [
    put CE Reg.CE.VT_CUR (num e.payload 0 2), put CE Reg.CE.VT_TGT (num e.payload 0 2),
    put CE Reg.CE.VT_HOLD (num e.payload 0 2), put CE Reg.CE.T_HOLD (num e.payload 2 2)]
  else putCal e.kind (linkL e.unit) [(re, im)]

/-- REF_STATE changes, with its record, and the reference-held source follows it (R289, R296). -/
def setRefState (v : Nat) : Script := withDev fun d =>
  when (d.rd CE Reg.CE.REF_STATE != v) (seqs [
    noteRec CE 0x41 (leBytes 1 (d.rd CE Reg.CE.REF_STATE) ++ leBytes 1 v),
    put CE Reg.CE.REF_STATE v,
    condSet (v == 2) CE 1 0 noScope []])

/-- VT_TGT at an end of its range holds source 2 (R296). -/
def judgeVt : Script := withDev fun d =>
  let v := d.rd CE Reg.CE.VT_TGT
  let on := d.is CE Reg.CE.REF_EN && (v == 0 || v == 16383)
  when (on != d.holds CE 2) (condSet on CE 2 0 noScope [])

/-- A new VT_TGT, within its range; the Steep moves VTUNE to it (R288). -/
def setVt (v : Int) : Script :=
  let t := clamp 0 16383 v
  seqs [put CE Reg.CE.VT_TGT t.toNat, setGoal 7 0 [(t, 0)], judgeVt]

/-- Kindling loads the calibration set (R287, R290, R293): identity values, then the entries of the valid slot with the higher
SEQ; without one a Note record. -/
def loadCal : Script := withDev fun d => seqs [
  forEach (List.range 16) fun l => forEach [1, 2, 3, 4] fun k => putCal k l [(0, 0)],
  forEach (List.range 32) fun h => putCal 6 h [(0, 0)],
  forEach d.allCells fun c => setTaps c identityTaps,
  put CE Reg.CE.VT_CUR (d.rd CE Reg.CE.VT_INIT), put CE Reg.CE.VT_TGT (d.rd CE Reg.CE.VT_INIT),
  match d.p0.calSet with
  | none => seqs [
      putB CE Reg.CE.SET_VALID false, put CE Reg.CE.IGNORED 0,
      modCe fun e => { e with entries := [], stored := [] },
      noteRec CE 0x42 (leBytes 1 0)]
  | some (s, slotB) =>
    let good := s.entries.filter d.calApplies
    seqs [
      forEach good loadEntry,
      put CE Reg.CE.IGNORED (s.entries.length - good.length),
      modCe fun e => { e with entries := good, stored := good },
      showSet s slotB],
  modCe fun e => { e with vtLog := [], accepted := false, inRow := 0 },
  logVt, judgeVt]

/-- An entry to Kindling ends every run and every Steep target (R279, R287), and the reference starts over (R290). -/
def calKindling : Script := withDev fun d => seqs [
  forEach d.ce.runs fun x => endRun x.1 caAborted [],
  modCe fun e => { e with ramps := [], autoQ := [], due := false, accepted := false, inRow := 0, refDet := [] },
  stopTimer .autoCal, stopTimer .refHold,
  setRefState 0]

/-! ### The compensation curve (R458) -/

/-- comp of a temperature in 0.01 °C: linear between the curve's points, held at its ends, to the nearest code. -/
def Dev.comp (d : Dev) (t : Int) : Int :=
  let pt := fun i => d.rdS TM Reg.TM.CURVE_T_PT i
  let dc := fun i => d.rdS TM Reg.TM.CURVE_DCODE i
  if t ≤ pt 0 then dc 0
  else if t ≥ pt 15 then dc 15
  else match (List.range 15).find? fun i => decide (pt i ≤ t ∧ t < pt (i + 1)) with
    | some i => roundHalf (dc i * (pt (i + 1) - t) + dc (i + 1) * (t - pt i)) (pt (i + 1) - pt i).toNat
    | none => dc 15

/-- The mean VTUNE code of the 60 s up to now (R289), or since Kindling. -/
def Dev.vtMean (d : Dev) : Nat :=
  let from0 := d.dt - dtOfS 60
  let parts := d.ce.vtLog.foldl (fun (acc : Nat × Nat × Nat) x =>
    let lo := max x.1 from0
    (min acc.1 lo, acc.2.1 + x.2 * (acc.1 - lo), acc.2.2 + (acc.1 - lo))) (d.dt, 0, 0)
  if parts.2.2 = 0 then d.rd CE Reg.CE.VT_CUR else (roundOpen parts.2.1 parts.2.2).toNat

end Sys2Proof.Machine
end

