-- ==== Sys2Proof/Machine/EvOps.lean ====
section
/-! DEFINITION. The Event Recorder as the rest of the block sees it: chains, seals and partitions (R410, R412, R414 to R418), and
captures and Capture Rings (R424 to R430). -/

namespace Sys2Proof.Machine

/-! ### Chains (R410, R412) -/

/-- A class's chain. -/
def Recorder.chain (e : Recorder) (audit : Bool) : Chain := if audit then e.aud else e.op
/-- Change a class's chain. -/
def Recorder.setChain (e : Recorder) (audit : Bool) (c : Chain) : Recorder := if audit then { e with aud := c } else { e with op := c }

/-- The seed of a class's chain after a format (R410). -/
def Dev.chainSeed (d : Dev) (audit : Bool) : List Byte := Config.shake256 (d.med.setId ++ leBytes 1 (if audit then 1 else 2)) 16

/-- Show the chain heads (R434). -/
def showHeads : Script := withDev fun d => seqs [
  forEach (List.range 4) fun i => put EV Reg.EV.AUD_HEAD (num d.ev.aud.head (4 * i) 4) i,
  forEach (List.range 4) fun i => put EV Reg.EV.OP_HEAD (num d.ev.op.head (4 * i) 4) i,
  putLive EV Reg.EV.AUD_HEAD_SEQ_LO d.ev.aud.headSeq, putLive EV Reg.EV.OP_HEAD_SEQ_LO d.ev.op.headSeq]

/-! ### Seals (R414) -/

/-- A seal of a class falls due over its last closed record: the Caddy is asked for its signature, or it stays unsigned while
ID_OK is 0 (R328). One seal of a class is due at a time. -/
def requestSeal (audit : Bool) : Script := withDev fun d =>
  let c := d.ev.chain audit
  match c.lastRec with
  | none => skip
  | some r => when (!c.sealDue) (seqs [
      modEv fun e => e.setChain audit { c with
        closed := 0, sealDue := true, covered := some r, coveredChain := c.head
        signedAt := if d.is CY Reg.CY.ID_OK then none else some d.dt
        blank := !d.is CY Reg.CY.ID_OK },
      when (d.is CY Reg.CY.ID_OK) (requestSign (.seal audit))])

/-- The seal message of R331 over a record and its CHAIN. -/
def sealMessage (r : Rec) (chain : List Byte) : List Byte :=
  leBytes 8 (r.seq.getD 0) ++ leBytes 8 r.dt ++ leBytes 4 r.wall.ns ++ leBytes 4 r.wall.sec ++ leBytes 2 r.epoch ++
    List.replicate 6 0 ++ chain

/-- The signature of the seal that is due: zeros where it is unsigned. -/
def Dev.sealSignature (d : Dev) (c : Chain) : List Byte :=
  if c.blank then List.replicate 114 0
  else Config.ed448Sign d.cy.seed (ascii "DV96 seal v1") (sealMessage (c.covered.getD { audit := false, sev := 0, code := 0, source := 0 }) c.coveredChain)

/-- Part `k` of a seal, 1 to 3 (R414). -/
def sealPart (r : Rec) (chain sig : List Byte) (blank : Bool) (at' : Nat) (k : Nat) : List Byte :=
  let head := leBytes 1 ((if r.audit then 1 else 2) * 64 + k) ++ leBytes 1 0x40 ++ leBytes 2 EV
  if k = 1 then head ++ leBytes 6 (r.seq.getD 0) ++ leBytes 4 (b2n blank) ++ leBytes 2 r.epoch ++ leBytes 8 r.dt ++
    leBytes 4 r.wall.ns ++ leBytes 4 r.wall.sec ++ chain ++ sig.take 16
  else if k = 2 then head ++ (sig.drop 16).take 60
  else head ++ (sig.drop 76).take 38 ++ leBytes 8 at' ++ List.replicate 14 0

/-- Put queue slots directly after the records with SEQ at most `n`. -/
def insertAfter (n : Nat) (parts : List QSlot) (q : List QSlot) : List QSlot :=
  (q.takeWhile fun x => decide (x.r.seq.getD 0 ≤ n)) ++ parts ++ (q.dropWhile fun x => decide (x.r.seq.getD 0 ≤ n))

/-- Place a class's seal when it is signed and three slots are free. -/
def placeSeal (audit : Bool) : Script := withDev fun d =>
  let c := d.ev.chain audit
  match c.signedAt, c.covered with
  | some t, some r => when (decide (d.ev.freeSlots ≥ 3)) (
      let sig := d.sealSignature c
      let r' : Rec := { r with sev := 0, code := 0x40, source := EV, rept := 1 }
      seqs [
        setEv fun e =>
          let s1 := e.nextSlot
          let s2 := freeFrom (e.queue.map (·.slot)) queueSlots ((s1 + 1) % queueSlots)
          let s3 := freeFrom (e.queue.map (·.slot)) queueSlots ((s2 + 1) % queueSlots)
          let part := fun (k sl : Nat) =>
            ({ slot := sl, r := r', kind := .sealPart k (sealPart r c.coveredChain sig c.blank t k) } : QSlot)
          let e' := { e with
            queue := insertAfter (r.seq.getD 0) [part 1 s1, part 2 s2, part 3 s3] e.queue, tail := (s3 + 1) % queueSlots
            p1Left := if audit then e.p1Left - 3 else e.p1Left }
          e'.setChain audit { c with sealDue := false, covered := none, coveredChain := [], signedAt := none, blank := false },
        incWrap EV Reg.EV.SEAL_CNT,
        putB EV Reg.EV.UNSIGNED c.blank])
  | _, _ => skip

/-- The signing engine has finished a class's seal (R332). -/
def sealSigned (audit : Bool) : Script := withDev fun d =>
  let c := d.ev.chain audit
  when (c.sealDue && c.signedAt.isNone) (modEv fun e => e.setChain audit { c with signedAt := some d.dt })

/-- What the recorder does as soon as it can: place seals, start the scan once the medium is ready, and hold the
unsigned-seals condition while ID_OK stays 0 (R328, R414, R418). -/
def answerRecorder : Script := withDev fun d =>
  let blank := d.is CY Reg.CY.ID_DONE && !d.is CY Reg.CY.ID_OK
  seqs [
    placeSeal true, placeSeal false,
    when (d.is WS Reg.WS.READY && !d.ev.scanned && !d.is EV Reg.EV.SCANNING) (putB EV Reg.EV.SCANNING true),
    when (blank != d.holds EV 4) (condSet blank EV 4 0 noScope [])]

/-! ### Order within a cycle (R411) -/

/-- Two open records of the present dt stand in the wrong order: ascending SOURCE, then ascending CODE. The recorder's own keep their
places (DEDUCED, log entry 176). -/
def outOfOrder (now : Nat) (a b : QSlot) : Bool :=
  a.isOpen && b.isOpen && a.r.dt == now && b.r.dt == now && a.r.source != EV && b.r.source != EV &&
    decide (b.r.source < a.r.source ∨ (b.r.source = a.r.source ∧ b.r.code < a.r.code))

/-- One pass over a queue that starts with `a`: neighbours in the wrong order exchange their records; slots and SEQs stay. -/
def orderFrom (now : Nat) (a : QSlot) : List QSlot → List QSlot
  | [] => [a]
  | b :: qs =>
    if outOfOrder now a b then
      { a with r := { b.r with seq := a.r.seq } } :: orderFrom now { b with r := { a.r with seq := b.r.seq } } qs
    else a :: orderFrom now b qs

/-- `n` passes. -/
def orderQueue (now : Nat) : Nat → List QSlot → List QSlot
  | n + 1, a :: qs => orderQueue now n (orderFrom now a qs)
  | _, qs => qs

/-- Records created in one cycle are taken in ascending SOURCE, then ascending CODE (R411). -/
def orderRecords : Script := withDev fun d =>
  let q := orderQueue d.dt (d.ev.queue.filter fun q => q.isOpen && q.r.dt == d.dt).length d.ev.queue
  when (q != d.ev.queue) (modEv fun e => { e with queue := q })

/-! ### Partitions (R415 to R418) -/

/-- Slots of a log of `zones` zones without its tail shadows, and without those a CLEAR record leaves empty. -/
def logSlots (zones skip : Nat) : Nat := (256 * zones - 2) * 64 - skip

/-- Slots of P1 and of P2. -/
def Dev.p1Slots (d : Dev) : Nat := logSlots d.med.p1 d.store.skip1
/-- See `p1Slots`. -/
def Dev.p2Slots (d : Dev) : Nat := logSlots d.med.p2 d.store.skip2

/-- Unreserved P1 slots: those neither stored nor reserved by a queued audit record or seal part (R415). -/
def Dev.p1Room (d : Dev) : Nat := d.p1Slots - d.store.p1.length - (d.ev.queue.filter (·.r.audit)).length

/-- P1 has grown or is cleared: its room is counted anew, and audit records return to it (R415), unless R396 stops them. -/
def resumeP1 : Script := withDev fun d => seqs [
  setEv fun e => { e with p1Left := d.p1Room },
  putB EV Reg.EV.P1_FULL false,
  putB EV Reg.EV.P1_DIVERT (d.is WS Reg.WS.AUDIT_STOPPED)]

/-! ### Capture Rings (R34, R424) -/

/-- KiB of a section's Capture Ring: 11 MiB − D. -/
def Dev.ringKib (d : Dev) (s : Nat) : Nat := 11264 - 256 * d.rd (dsU s) Reg.DS.D_SIZE

/-- Enabled entries of a ring. -/
def Dev.ringEntries (d : Dev) (s : Nat) : List Nat := (List.range 8).filter fun k => d.is (crU s) Reg.CR.EN k

/-- DEPTH of R424. -/
def Dev.ringDepth (d : Dev) (s : Nat) : Nat :=
  let n := (d.ringEntries s).length
  if n = 0 then 0 else d.ringKib s / (4 * n)

/-- Capture point of a source (R423). -/
def Dev.capturePoint (d : Dev) (u : Nat) : Nat :=
  if typeOf u = 0x03 then b2n ((d.rd (crU (secOf u)) Reg.CR.CELL_POINT).testBit (idxOf u)) else 0

/-- Samples that a ring holds for an entry after `n` of them: whole chunks of 1,024, the oldest overwritten as soon as the next
begins (R424). -/
def ringHeld (depth n : Nat) : Nat := n - 1024 * (ceilDiv n 1024 - depth)

/-- A ring starts afresh: its history is gone. -/
def restartRing (s : Nat) : Script := withDev fun d => seqs [
  upd (.ring s d.dt),
  modPlane fun pl => { pl with rings := (List.range 8).foldl (fun b k => b.put {} (8 * s + k) {}) pl.rings },
  put (crU s) Reg.CR.RING_KIB (d.ringKib s), put (crU s) Reg.CR.DEPTH (d.ringDepth s),
  forEach (List.range 8) fun k => put (crU s) Reg.CR.HELD 0 k]

/-- dt between samples of a source: a link's sample period, a cell's P. -/
def Dev.sourcePeriod (d : Dev) (u : Nat) : Nat := if typeOf u = 0x03 then d.period u else samplePeriod (d.fmt u)

/-- Complete chunks that a ring holds for each entry, of the samples since it started (R424, R435). -/
def showRings : Script := withDev fun d =>
  forEach d.sections fun s => forEach (d.ringEntries s) fun k =>
    let u := d.rd (crU s) Reg.CR.UNIT k
    let n := ringHeld (d.ringDepth s) ((d.dt - d.ringAt s) / d.sourcePeriod u) / 1024
    when (d.rd (crU s) Reg.CR.HELD k != n) (put (crU s) Reg.CR.HELD n k)

/-! ### Captures (R425 to R430) -/

/-- Chunks that capture staging can hold besides its 64 KiB for headers and gap entries (R426). -/
def Dev.stagingChunks (d : Dev) : Nat := (1024 * d.rd WS Reg.WS.CAP_MIB - 64) / 4

/-- Show the captures in progress and the free staging (R434). -/
def showCaptures : Script := withDev fun d => seqs [
  put EV Reg.EV.PENDING d.ev.captures.length,
  put EV Reg.EV.STREAMING (d.ev.captures.filter (·.tTrig.isSome)).length,
  put EV Reg.EV.STG_FREE (d.stagingChunks - (d.ev.captures.map (·.staged.length)).sum),
  put EV Reg.EV.CAP_STORED d.store.captures.length,
  put EV Reg.EV.CAP_OLDEST ((d.store.captures.head?.map (·.number)).getD 0)]

/-- A pending capture ends without being stored, with a status. -/
def dropCapture (tag st : Nat) : Script := seqs [
  stopTimer (.capWait tag),
  modEv fun e => { e with captures := e.captures.filter fun c => c.tag != tag },
  modPlane fun pl => { pl with caps := (List.range 16).foldl (fun b j => b.put {} (16 * tag + j) {}) pl.caps },
  complete tag st 0 0]

/-- An entry to Kindling ends every pending capture with ABORTED (R371, R427), clears RING_SRC and zeroes rings and staging
(R36, R424). -/
def evKindling : Script := withDev fun d => seqs [
  forEach d.ev.captures fun c => dropCapture c.tag stAborted,
  modEv fun e => { e with rdCopy := none, staging := [] },
  when (d.rd EV Reg.EV.RD_STATE == 1) (put EV Reg.EV.RD_STATE 0),
  forEach d.sections fun s => seqs [
    forEach (List.range 8) fun k => seqs [putB (crU s) Reg.CR.EN false k, put (crU s) Reg.CR.UNIT 0 k],
    restartRing s],
  showCaptures]

end Sys2Proof.Machine
end

