-- ==== Sys2Proof/Machine/Strainer.lean ====
section
/-! DEFINITION. The Strainer on samples: the response ROM (R120, R122), the half-band stages (R120, R121), the NCOs and mixers
(R118, R119), and the two chains (R116, R123, R135). -/

namespace Sys2Proof.Machine

/-! ### The response ROM (R122) -/

/-- Taps and β, in thousandths, of a response code. -/
def respShape (c : Nat) : Nat × Nat :=
  [(11, 5653), (15, 6755), (19, 7306), (23, 8959), (31, 8959), (39, 8959), (47, 8408), (63, 9510)].getD c (11, 5653)

/-- h(c, k) in Q2.18: 1.0 at the centre, 0 at every other even distance from it. -/
def respTap (c k : Nat) : Int :=
  let m : Int := ((respShape c).1 - 1) / 2
  let x : Int := (k : Int) - m
  if x = 0 then 2 ^ 18
  else if x % 2 = 0 then 0
  else
    let side : Int := if (x.natAbs / 2) % 2 = 0 then 1 else -1
    side * divAway (2 * kaiser (respShape c).2 x m * 2 ^ 18) (fxPi * x.natAbs).toNat

/-- The eight responses, each with its pad of R120 in front: the weights of the newest 63 samples of a delay line or fewer. -/
def respRom : List (List Int) :=
  (List.range 8).map fun c => List.replicate (31 - ((respShape c).1 - 1) / 2) 0 ++ (List.range (respShape c).1).map (respTap c)

/-! ### One stage (R120, R121) -/

/-- Round, shift and saturate the sum over a delay line, newest sample first: the sample and whether a component saturated. -/
def stageOut (code shift : Nat) (line : List Cx) : Cx × Bool :=
  let acc := Cx.sum (((respRom.getD code []).zip line).map fun t => Cx.scale t.1 t.2)
  let y := acc.divBy (2 ^ (18 + shift))
  (y.sat 24, y.sat 24 != y)

/-- A sample enters a delay line of 63. -/
def pushLine (line : List Cx) (x : Cx) : List Cx := (x :: line).take 63

/-- The delay line of position `p`. -/
def lineAt (ls : List (List Cx)) (p : Nat) : List Cx := ls.getD (p - 1) []

/-- Replace the delay line of position `p`. -/
def setLine (ls : List (List Cx)) (p : Nat) (l : List Cx) : List (List Cx) :=
  (ls ++ List.replicate (7 - ls.length) []).set (p - 1) l

/-- Add one to entry `i` of a list of counts. -/
def bump (cs : List Nat) (i : Nat) (b : Bool) : List Nat :=
  if b then (cs ++ List.replicate (i + 1 - cs.length) 0).set i (cs.getD i 0 + 1) else cs

/-- Codes and shifts of a chain's positions. -/
structure Responses where
  codes : Nat
  shifts : Nat

/-- The code at a position. -/
def Responses.code (c : Responses) (p : Nat) : Nat := codeAt c.codes p
/-- The shift at a position (R142). -/
def Responses.shift (c : Responses) (p : Nat) : Nat := c.shifts / 2 ^ (2 * (p - 1)) % 4

/-- A mixed sample goes down the positions listed, at `t` dt from t_g + D_dec: each stage takes it in, and one whose output falls
due at `t` passes a sample on. -/
def goDown (c : Responses) (t : Int) : List Nat → Cx → CellSig → Option Cx × CellSig
  | [], x, g => (some x, g)
  | p :: ps, x, g =>
    let line := pushLine (lineAt g.down p) x
    let g := { g with down := setLine g.down p line }
    if t % 2 ^ p = 0 then
      let (y, ovf) := stageOut (c.code p) (c.shift p) line
      goDown c t ps y { g with cnt := bump g.cnt p ovf }
    else (none, g)

/-- Samples go up the positions listed: each stage follows every sample with a zero and filters at its output rate. -/
def goUp (c : Responses) : List Nat → List Cx → CellSig → List Cx × CellSig
  | [], xs, g => (xs, g)
  | p :: ps, xs, g =>
    let (ys, g) := (xs.flatMap fun x => [x, (0, 0)]).foldl (fun (a : List Cx × CellSig) x =>
      let line := pushLine (lineAt a.2.up p) x
      let (y, ovf) := stageOut (c.code p) (c.shift p) line
      (a.1 ++ [y], { a.2 with up := setLine a.2.up p line, cnt := bump a.2.cnt (8 + p) ovf })) (([] : List Cx), g)
    goUp c ps ys g

/-! ### NCOs and mixers (R118, R119) -/

/-- acc(t): the phase offset and FTW times the link samples from t_g. -/
def ncoPhase (ofs ftw : Nat) (per : Nat) (tg : Nat) (t : Nat) : Int :=
  ((ofs : Int) * 2 ^ 32 + (ftw : Int) * (((t : Int) - tg) / per)) % 2 ^ 48

/-- The product of a sample and a rotor, rounded and saturated to Q1.23, and whether a component saturated. -/
def mixed (x r : Cx) : Cx × Bool :=
  let y := (x.mul r).divBy (2 ^ 18)
  (y.sat 24, y.sat 24 != y)

/-- FTW of a cell's RX and TX NCOs. -/
def Dev.ftwRx (d : Dev) (c : Nat) : Nat := d.rd c Reg.BC.RX_FTW_LO + 2 ^ 32 * d.rd c Reg.BC.RX_FTW_HI
/-- See `ftwRx`. -/
def Dev.ftwTx (d : Dev) (c : Nat) : Nat := d.rd c Reg.BC.TX_FTW_LO + 2 ^ 32 * d.rd c Reg.BC.TX_FTW_HI

/-- acc of the RX NCO at a Device Time, from the grid origin `tg`. -/
def Dev.accRx (d : Dev) (c tg t : Nat) : Int :=
  ncoPhase (d.rd c Reg.BC.RX_PHASE_OFS) (d.ftwRx c) (samplePeriod (d.fmt (d.rxlOf c))) tg t
/-- acc of the TX NCO. -/
def Dev.accTx (d : Dev) (c tg t : Nat) : Int :=
  ncoPhase (d.rd c Reg.BC.TX_PHASE_OFS) (d.ftwTx c) (samplePeriod (d.fmt (d.txlOf c))) tg t

/-! ### Chains -/

/-- The positions of a chain (R116), in rising order. -/
def positions (p0 s : Nat) : List Nat := (List.range s).map (· + 1) |>.filter fun p => decide (p0 ≤ p)

/-- The receive chain of a cell under response set `resp`. -/
def Dev.rxOf (d : Dev) (c resp : Nat) : Responses :=
  ⟨if resp = 0 then d.rd c Reg.BC.RX_RESP_A else d.rd c Reg.BC.RX_RESP_B, d.rd c Reg.BC.RX_SHIFT⟩
/-- The transmit chain. -/
def Dev.txOf (d : Dev) (c resp : Nat) : Responses :=
  ⟨if resp = 0 then d.rd c Reg.BC.TX_RESP_A else d.rd c Reg.BC.TX_RESP_B, d.rd c Reg.BC.TX_SHIFT⟩

/-- The stream sample `x` (20 bits) that reaches the section at `t` passes the RX NCO and the receive chain, on the grid of
`tg`. A cell sample that falls due is numbered m, where t = t_g + m × P + D_dec (R132), and reaches the cell input sum RX_FIX
later. -/
def Dev.rxStep (d : Dev) (c tg resp t : Nat) (x : Cx) (g : CellSig) : CellSig :=
  let (z, ovf) := mixed (Cx.scale 16 x) (rotor (d.accRx c tg t)).conj
  let u : Int := (t : Int) - tg - d.dDec c
  let (y, g) := goDown (d.rxOf c resp) u (positions (firstPos (d.fmt (d.rxlOf c))) (d.rd c Reg.BC.CELL_RATE)) z
    { g with cnt := bump g.cnt 0 ovf }
  match y with
  | none => g
  | some y => { g with inQ := g.inQ ++ [{ due := t + 28, m := u / d.period c, x := y }] }

/-- Samples join a stream at `t`: what stood there is replaced, and a gap is filled with zeros. -/
def Tape.put (w : Tape) (t per : Nat) (ys : List Cx) : Tape :=
  if w.xs.isEmpty then ⟨t, per, ys⟩
  else
    let n := (t - w.start) / per
    ⟨w.start, per, w.xs.take n ++ List.replicate (n - w.xs.length) (0, 0) ++ ys⟩

/-- The sample of a stream at a Device Time; none outside it. -/
def Tape.get? (w : Tape) (t : Nat) : Option Cx := if t < w.start then none else w.xs[(t - w.start) / w.per]?

/-- The samples of a stream from `t` on. -/
def Tape.from (w : Tape) (t : Nat) : Tape :=
  let n := ceilDiv (t - w.start) w.per
  ⟨w.start + n * w.per, w.per, w.xs.drop n⟩

/-- The cell output `x` at t_c passes the transmit chain and the TX NCO; the first of its stream samples enters the Combiner
TX_ALIGN + TX_FIX later. -/
def Dev.txStep (d : Dev) (c tg resp tc : Nat) (x : Cx) (g : CellSig) : CellSig :=
  let per := samplePeriod (d.fmt (d.txlOf c))
  let t0 := tc + d.txAlign c
  let (ys, g) := goUp (d.txOf c resp) (positions (firstPos (d.fmt (d.txlOf c))) (d.rd c Reg.BC.CELL_RATE)).reverse [x] g
  let zs := ys.zipIdx.map fun y => mixed y.1 (rotor (d.accTx c tg (t0 + per * y.2)))
  let g := zs.foldl (fun a z => { a with cnt := bump a.cnt 8 z.2 }) g
  { g with tx := g.tx.put (t0 + 18) per (zs.map (·.1)) }

end Sys2Proof.Machine
end

