-- ==== Sys2Proof/Machine/Taps.lean ====
section
/-! DEFINITION. Samples on their way to taps, Capture Rings and captures (R34, R366, R368, R370, R423, R424): what each taker keeps,
the segments of a tap, and its close. -/

namespace Sys2Proof.Machine

/-! ### Sample words (R423) -/

/-- Bits of a component of a source's word: a stream's 20, a cell's 24. -/
def wordWidth (u : Nat) : Nat := if typeOf u = 0x03 then 24 else 20

/-- A component in 16 bits: its most significant ones, to nearest with ties away from zero, saturated. -/
def word16 (u : Nat) (x : Int) : Int := satTo 16 (divAway x (2 ^ (wordWidth u - 16)))

/-- A sample of 4 bytes: I, then Q. -/
def shortSample (u : Nat) (x : Cx) : List Byte := leBytes 2 (codeOf 16 (word16 u x.1)) ++ leBytes 2 (codeOf 16 (word16 u x.2))

/-- A sample of 8 bytes, each component left-justified in 32 bits. -/
def longSample (u : Nat) (x : Cx) : List Byte :=
  let k : Int := 2 ^ (32 - wordWidth u)
  leBytes 4 (codeOf 32 (k * x.1)) ++ leBytes 4 (codeOf 32 (k * x.2))

/-- The samples of a segment in a tap's format. -/
def tapSamples (u fmt : Nat) (xs : List Heard) : List Byte :=
  xs.flatMap fun h => if fmt = 0 then shortSample u h.x else longSample u h.x

/-! ### What a taker keeps -/

/-- A track takes the samples of a slice, oldest first, that come at its start or later. -/
def Track.take (t : Track) (since : Nat) (hs : List Heard) : Track :=
  let ys := hs.filter fun h => decide (since ≤ h.there)
  { t with
    n := t.n + ys.length, xs := ys.reverse ++ t.xs
    stamp0 := if t.n = 0 then (ys.head?.map (·.stamp)).getD 0 else t.stamp0 }

/-- The newest samples of a track, as many as a ring holds. -/
def Track.ring (t : Track) (depth : Nat) : Track := { t with xs := t.xs.take (ringHeld depth t.n) }

/-! ### Segments (R366, R368) -/

/-- Where in a list of samples, oldest first, the first whole segment of a source starts: a cell's is a block, and samples before it
are of none (R128). -/
def segStart (u : Nat) (xs : List Heard) : Option Nat :=
  if typeOf u = 0x03 then
    (List.range (xs.length - 255)).find? fun i =>
      ((xs.drop i).head?.map (·.first)).getD false && !((xs.drop (i + 1)).take 255).any (·.first)
  else if xs.length ≥ 4096 then some 0 else none

/-- The next segment of a tap that is complete, and the track without it. -/
def Dev.nextSegment (d : Dev) (t : Nat) : Option (List Heard × Track) :=
  let u := d.rd HP Reg.HP.TAP_SOURCE t
  let tr := d.plane.taps.get {} t
  let xs := tr.xs.reverse
  (segStart u xs).map fun i => ((xs.drop i).take (segSamples u), { tr with xs := (xs.drop (i + segSamples u)).reverse })

/-- Wall time at another Device Time, by the rate of R32. -/
def Clock.wallAt (c : Clock) (t : Nat) : Wall :=
  -- nanoseconds since zero, in units of 1/1,536 ns
  let now := (c.wall.sec * 1000000000 + c.wall.ns) * 1536 + c.rem
  let there := (now + 3125 * (t - c.dt) - 3125 * (c.dt - t)) / 1536
  { sec := there / 1000000000 % 2 ^ 32, ns := there % 1000000000 }

/-- The header of a segment whose first sample is `h` (R368): an RX link's samples and those at point 1 carry an RX stamp, a TX
link's and those at point 0 a TX stamp. -/
def segHeader (d : Dev) (t : Nat) (h : Heard) : List Byte :=
  let u := d.rd HP Reg.HP.TAP_SOURCE t
  let x := d.tapAt t
  let rx := typeOf u == 0x01 || (typeOf u == 0x03 && d.is HP Reg.HP.TAP_POINT t)
  let settling := typeOf u == 0x03 && d.settles u h.g
  leBytes 4 x.seg ++ leBytes 2 (segSamples u) ++ leBytes 1 (d.rd HP Reg.HP.TAP_FORMAT t) ++
    leBytes 1 (b2n (decide (x.skipped > 0)) + 2 * b2n settling + 4 * b2n x.paused) ++ leBytes 2 u ++ leBytes 2 0 ++
    leBytes 4 x.skipped ++ leBytes 8 (if rx then h.stamp else 0) ++ leBytes 8 (if rx then 0 else h.stamp) ++
    (let w := d.clock.wallAt h.stamp; leBytes 4 w.ns ++ leBytes 4 w.sec) ++ leBytes 2 d.clock.epoch ++
    List.replicate 22 0

/-- Write bytes into a tap's ring at its producer count, wrapping at RING_BYTES. -/
def ringWrite (d : Dev) (t : Nat) (bs : List Byte) : Script :=
  let n := d.rd HP Reg.HP.TAP_RING_BYTES t
  let start := (d.tapAt t).prod % n
  let room := n - start
  seqs [hostWrite ((d.tapAt t).ring + start) (bs.take room),
    when (decide (bs.length > room)) (hostWrite (d.tapAt t).ring (bs.drop room))]

/-- A segment of a tap: written with its header and status block where the ring holds room for it and nothing pauses the tap, else
skipped and counted (R368, R370). -/
def writeSegment (t : Nat) (xs : List Heard) : Script := withDev fun d =>
  let x := d.tapAt t
  let u := d.rd HP Reg.HP.TAP_SOURCE t
  let fmt := d.rd HP Reg.HP.TAP_FORMAT t
  let size := 64 + segSamples u * (4 + 4 * fmt)
  let ring := d.rd HP Reg.HP.TAP_RING_BYTES t
  let used := (x.prod + 2 ^ 32 - d.rd HP Reg.HP.TAP_CONS t) % 2 ^ 32
  let paused := d.rd HP Reg.HP.TAP_STATE t == 2
  if !paused && d.dmaUp && decide (ring ≥ used + size) then seqs [
    ringWrite d t (segHeader d t (xs.head?.getD {}) ++ tapSamples u fmt xs),
    modTap t fun x => { x with prod := x.prod + size, seg := x.seg + 1, skipped := 0, paused := false },
    put HP Reg.HP.TAP_PROD ((x.prod + size) % 2 ^ 32) t, incWrap HP Reg.HP.TAP_SEGMENTS t,
    tapStatus t,
    when (decide (2 * used ≤ ring ∧ 2 * (used + size) > ring)) (sendMsix (16 + t))]
  else seqs [
    inc HP Reg.HP.TAP_LOST t,
    modTap t fun x => { x with seg := x.seg + 1, skipped := x.skipped + 1, paused := x.paused || paused },
    when (x.lossAt.all fun l => decide (d.dt ≥ l + dtOfMs 1)) (seqs [
      modTap t fun x => { x with lossAt := some d.dt }, fireEvent HP 5 noScope [t]])]

/-- The next segment of an open tap, where it is complete. -/
def takeSegment (t : Nat) : Script := withDev fun d => when (d.tapOpen t) <|
  match d.nextSegment t with
  | none => skip
  | some (xs, rest) => seqs [modPlane fun pl => { pl with taps := pl.taps.put {} t rest }, writeSegment t xs]

/-- A tap closes (R370): complete segments are written, then the status block with STATE closed, and the tap's vector is sent. -/
def closeTap (t : Nat) : Script := withDev fun d => seqs [
  forEach (List.range ((d.plane.taps.get {} t).xs.length / 256)) fun _ => takeSegment t,
  put HP Reg.HP.TAP_STATE 0 t, put HP Reg.HP.TAP_PAUSE_CAUSE 0 t, tapStatus t,
  modPlane fun pl => { pl with taps := pl.taps.put {} t {} },
  sendMsix (16 + t)]

/-! ### The takers on the plane -/

/-- The samples of one source at one point that a slice of `n` dt from `a` on brings, oldest first. -/
def Dev.heardIn (d : Dev) (times : List Nat) (stream : Nat → Cx) (pl : Plane) (u pt : Nat) : List Heard :=
  if typeOf u = 0x03 then ((pl.cells.get {} u).heard.filter (·.1 == pt)).reverse.map (·.2)
  else if typeOf u = 0x01 then times.map fun t => { there := t, stamp := t - d.pathDt u, x := stream t }
  else times.map fun t => {
    there := t, stamp := t + d.pathDt u, x := ((pl.combs.get {} (cbU (secOf u) (idxOf u))).y.get? t).getD (0, 0) }

/-- Rings, taps and captures take the samples of a slice; `heard` gives those of a source and a point. -/
def Dev.takeAll (d : Dev) (heard : Nat → Nat → List Heard) (pl : Plane) : Plane :=
  let rings := d.sections.foldl (fun b s => (d.ringEntries s).foldl (fun b k =>
    let u := d.rd (crU s) Reg.CR.UNIT k
    b.put {} (8 * s + k) (((b.get {} (8 * s + k)).take (d.ringAt s) (heard u (d.capturePoint u))).ring (d.ringDepth s))) b) pl.rings
  let taps := d.openTaps.foldl (fun b t =>
    let x := b.get {} t
    b.put {} t (x.take x.since (heard (d.rd HP Reg.HP.TAP_SOURCE t) (d.rd HP Reg.HP.TAP_POINT t)))) pl.taps
  let caps := (d.ev.captures.filter (·.tTrig.isSome)).foldl (fun b c => c.sources.zipIdx.foldl (fun b x =>
    let t := b.get {} (16 * c.tag + x.2)
    b.put {} (16 * c.tag + x.2) (t.take t.since (heard x.1.1 x.1.2))) b) pl.caps
  { pl with rings := rings, taps := taps, caps := caps }

end Sys2Proof.Machine
end

