-- ==== Sys2Proof/Machine/Validate.lean ====
section
/-! DEFINITION. Validation of a container (R307): stage A over header and trailer (R300, R304), stage B over sections, frames,
entries and words (R301 to R306), stages C and D over the values that R305 would apply. -/

namespace Sys2Proof.Machine

/-- A failure: its code and its place (R307). -/
structure ValErr where
  code : Nat
  pos : Nat := 0
  level : Nat := 0
  unit : Nat := 0
  off : Nat := 0
  index : Nat := 0
  deriving DecidableEq, Repr

/-- A failure unless the condition holds. -/
def need (ok : Bool) (e : ValErr) : List ValErr := if ok then [] else [e]

/-! ### Stage A -/

/-- The offset of the first byte of a run that is not zero, if the run holds one. -/
def nonZeroAt (c : List Byte) (off n : Nat) : Option Nat :=
  ((field c off n).findIdx? (· != 0)).map (off + ·)

/-- A run of bytes must be zero. -/
def needZero (c : List Byte) (code off n : Nat) : List ValErr :=
  match nonZeroAt c off n with
  | none => []
  | some p => [{ code := code, pos := p }]

/-- Stage A: header and trailer, in the order of the table of R307. `size` is the number of bytes staged or stored. -/
def stageA (d : Dev) (c : List Byte) (size : Nat) : List ValErr :=
  let len := num c 20 4
  need (num c 0 4 == 0x53425644) { code := 0x01, pos := 0 } ++
  need (num c 4 2 == 1) { code := 0x01, pos := 4 } ++
  need (num c 6 2 == 128) { code := 0x01, pos := 6 } ++
  need (decide (328 ≤ len ∧ len ≤ 4194304 ∧ len % 8 = 0) && len == size && size == c.length) { code := 0x02, pos := 20 } ++
  need (cDigest c == digest64 (c.take (len - 184))) { code := 0x03, pos := len - 184 } ++
  need (d.enrolled (hOwner c)) { code := 0x04, pos := 32 } ++
  need (Config.ed448Verify (d.ownerKey (hOwner c)) (ascii "DV96 bitstream v1") (c.take (len - 184)) (field c (len - 120) 114))
    { code := 0x04, pos := len - 120 } ++
  need (decide (hSecVer c ≤ 64 ∧ d.floor ≤ hSecVer c)) { code := 0x05, pos := 16 } ++
  need ((num c 18 2).testBit d.variant.index) { code := 0x06, pos := 18 } ++
  need (d.profileFor (hProfile c)).isSome { code := 0x07, pos := 40 } ++
  need (decide (num c 18 2 < 4096)) { code := 0x08, pos := 18 } ++
  need (decide (1 ≤ num c 24 2 ∧ num c 24 2 ≤ 4)) { code := 0x08, pos := 24 } ++
  need (decide (num c 26 1 ≤ 1)) { code := 0x08, pos := 26 } ++
  need (decide (1 ≤ hProbBoots c ∧ hProbBoots c ≤ 15)) { code := 0x08, pos := 27 } ++
  need (decide (60 ≤ hProbS c ∧ hProbS c ≤ 604800)) { code := 0x08, pos := 28 } ++
  needZero c 0x08 33 7 ++ needZero c 0x08 120 8 ++ needZero c 0x08 (len - 6) 6

/-! ### Stage B (R301 to R303, R306) -/

/-- A unit that a field names where the field's use bit is set: none where the word names none (R38, check 0x13). Each pair
is a section that the word names. -/
def namedSections (t off w : Nat) : List Nat :=
  if t = 0x03 ∧ off = 0x100 then (if Reg.BC.PARTNER_EN.of w = 1 then [secOf (Reg.BC.PARTNER.of w)] else [])
  else if t = 0x04 ∧ off = Reg.DS.P_SRC.off then [secOf (Reg.DS.P_SRC.of w)]
  else if t = 0x08 ∧ 0x400 ≤ off ∧ off < 0x800 ∧ off % 0x20 = 0 then
    (if Reg.PE.C_DONOR_EN.of w = 1 then [Reg.PE.C_DONOR_SS.of w] else [])
  else if t = 0x06 ∧ off ∈ [0x100, 0x140, 0x180, 0x1C0] then
    (if Reg.RC.G_ENABLE.of w = 1 ∧ Reg.RC.G_TDD.of w = 1 then [Reg.RC.G_CAR_SS.of w] else [])
  else if t = 0x18 ∧ off = 0x300 then (if Reg.CE.REF_EN.of w = 1 then [Reg.CE.REF_SS.of w] else [])
  else if t = 0x18 ∧ 0x700 ≤ off ∧ off < 0x780 ∧ off % 8 = 0 then
    (if Reg.CE.IMG_EN.of w = 1 then [Reg.CE.IMG_SS.of w, secOf (Reg.CE.IMG_SRC.of w)] else [])
  -- R461: an urgent slot with SRC 2, and an entry of FUNC 2 or 3
  else if t = 0x15 ∧ 0x120 ≤ off ∧ off < 0x130 then (if Reg.HA.U_SRC.of w = 2 then [Reg.HA.U_SS.of w] else [])
  else if t = 0x15 ∧ 0x200 ≤ off ∧ off < 0x400 ∧ off % 8 = 0 then
    (if Reg.HA.ENT_FUNC.of w = 2 ∨ Reg.HA.ENT_FUNC.of w = 3 then [Reg.HA.ENT_GRP_SS.of w] else [])
  else if t = 0x18 ∧ 0x700 ≤ off ∧ off < 0x780 then (if Reg.CE.LO_EN.of w = 1 then [Reg.CE.LO_SS.of w] else [])
  else []

/-- A field that Kindling derives: 0 in every word (R306). -/
def isDerived (f : Fld) : Bool := f == Reg.DS.LOAD

/-- The fields of a word that may be other than 0 (R306). -/
def settable (init : Bool) (f : Fld) : Bool := !isDerived f && (f.acc == .lk || (f.acc == .rw && init))

/-- A value within a field's stated range, in the field's own units (R55, R307). -/
def Fld.inRange (f : Fld) (v : Nat) : Bool :=
  (!f.zeroRejected || v != 0) &&
    match f.range with
    | none => true
    | some (lo, hi) => let x := if lo < 0 then signed f.width v else (v : Int); decide (lo ≤ x ∧ x ≤ hi)

/-- A severity word keeps every safety source at Mute or above (R466). -/
def sevOk (t off w : Nat) : Bool :=
  (sevFields t off).all fun x => x.1.acc != .lk || decide (x.1.of w ≥ 2)

/-- The failures of one word. -/
def wordErrs (d : Dev) (x : CfgWord) : List ValErr :=
  let e : ValErr := { code := 0x12, pos := x.pos, level := x.level, unit := x.unit, off := x.off % 4096, index := x.index }
  let off := pathOffset x.ty x.off x.index
  let fs := (wordFields x.ty off).map (·.1)
  let allowed := (fs.filter (settable x.init)).map fun f => f.of x.value * 2 ^ f.lo
  need (decide (0x20 ≤ x.off ∧ x.off ≤ 0x2C) || (x.off == 0x40 && x.init) || decide (0x100 ≤ x.off ∧ x.off ≤ 0xFFC)) e ++
  need ((namedSections x.ty off x.value).all fun s => decide (s ≥ 4) || d.sectionOn s) { e with code := 0x13 } ++
  need (allowed.sum == x.value) { e with code := 0x14 } ++
  need (((fs.filter (settable x.init)).all fun f => f.inRange (f.of x.value)) && sevOk x.ty x.off x.value) { e with code := 0x15 }

/-- What an entry covers: type, offset and path index of each word. -/
def entryCover (c : List Byte) (p : Nat) : List (Nat × Nat × Nat) :=
  (List.range (num c (p + 4) 2)).map fun i =>
    let off := num c p 2 + 4 * i
    (num c (p + 2) 1, off, if off = 0x184 ∨ off = 0x188 then num c (p + 6) 2 else 0)

/-- The place of an entry in the order of R303. -/
def entryKey (c : List Byte) (p : Nat) : Nat := (num c (p + 2) 1 * 65536 + num c p 2) * 65536 + num c (p + 6) 2

/-- The failures of an entry's head, given the entries before it in its block. -/
def entryErrs (c : List Byte) (level unit p stop : Nat) (before : List Nat) : List ValErr :=
  let off := num c p 2
  let ty := num c (p + 2) 1
  let t := if level = 3 then typeOf unit else ty
  let n := num c (p + 4) 2
  let idx := num c (p + 6) 2
  let ok := off % 4 == 0 && decide (num c (p + 3) 1 ≤ 1) && decide (1 ≤ n ∧ n ≤ 1024) &&
    (if level = 3 then ty == 0
     else if level = 2 then decide (1 ≤ ty ∧ ty ≤ 9)
     else decide ((1 ≤ ty ∧ ty ≤ 9) ∨ (0x10 ≤ ty ∧ ty ≤ 0x1A))) &&
    (if t = 0x04 ∧ (off = 0x184 ∨ off = 0x188) then decide (idx ≤ 255) else idx == 0) &&
    decide (off + 4 * n ≤ 4096) && decide (p + 8 + 4 * n ≤ stop) &&
    before.all fun q => decide (entryKey c q < entryKey c p) &&
      (entryCover c q).all fun w => !(entryCover c p).contains w
  need ok { code := 0x12, pos := p, level := level, unit := unit, off := off % 4096, index := idx % 256 }

/-- The failures of a field block, entry by entry and word by word. -/
def blockErrs (d : Dev) (c : List Byte) (level unit stop : Nat) : Nat → Nat → List Nat → List ValErr
  | 0, _, _ => []
  | f + 1, p, before =>
    if p ≥ stop then []
    else if p + 8 > stop then [{ code := 0x12, pos := p, level := level, unit := unit }]
    else
      match entryErrs c level unit p stop before with
      | e :: es => e :: es
      | [] => (entryWords c level unit p).flatMap (wordErrs d) ++
          blockErrs d c level unit stop f (p + 8 + 4 * num c (p + 4) 2) (p :: before)

/-- UNIT of a frame names something of its level (R302). -/
def frameUnitOk (level unit : Nat) : Bool :=
  if level = 1 then unit == 0xFFFF
  else if level = 2 then unit % 8192 == 0 && decide (unit / 8192 < 4)
  else isUnit unit

/-- UNIT of a frame is what the variant removes (R38). -/
def frameAbsent (d : Dev) (level unit : Nat) : Bool :=
  if level = 1 then false else if level = 2 then !d.sectionOn (unit / 8192) else !d.present unit

/-- The failures of the frames of one container section: `n` frames are to come, `prev` is the last UNIT. -/
def frameErrs (d : Dev) (c : List Byte) (ty stop : Nat) : Nat → Nat → Option Nat → List ValErr
  | 0, p, _ => match nonZeroAt c p (stop - p) with
    | none => []
    | some q => [{ code := 0x11, pos := q, level := ty }]
  | n + 1, p, prev =>
    let unit := num c (p + 2) 2
    let len := num c (p + 4) 4
    let e : ValErr := { code := 0x11, pos := p, level := ty, unit := unit }
    let ok := decide (p + 8 ≤ stop) && num c p 1 == ty && num c (p + 1) 1 == 0 && frameUnitOk ty unit &&
      len % 4 == 0 && decide (12 ≤ len ∧ p + 8 + len ≤ stop) && prev.all fun u => decide (u < unit)
    if !ok then [e]
    else if frameAbsent d ty unit then [{ e with code := 0x13 }]
    else blockErrs d c ty unit (p + 8 + len) (len / 8 + 1) (p + 8) [] ++ frameErrs d c ty stop n (p + 8 + len) (some unit)

/-- The failures of one entry of the section table, given the end and TYPE of the entry before it. -/
def tableErrs (c : List Byte) (i low : Nat) (prev : Option Nat) : List ValErr :=
  let a := 128 + 16 * i
  let ty := num c a 2
  let off := num c (a + 4) 4
  let size := num c (a + 8) 4
  let ok := (ty == 1 || ty == 2 || ty == 3 || ty == 0xF0) && num c (a + 2) 2 == 0 && off % 8 == 0 && size % 8 == 0 &&
    (ty != 0xF0 || num c (a + 12) 4 == 0) && decide (low ≤ off ∧ off + size ≤ c.length - 184) &&
    prev.all fun t => decide (t < ty)
  need ok { code := 0x10, pos := a }

/-- The failures of the section table. -/
def tableScan (c : List Byte) : Nat → Nat → Nat → Option Nat → List ValErr
  | 0, _, _, _ => []
  | n + 1, i, low, prev =>
    let a := 128 + 16 * i
    tableErrs c i low prev ++ tableScan c n (i + 1) (num c (a + 4) 4 + num c (a + 8) 4) (some (num c a 2))

/-- The failures of the container sections in byte order, with the bytes between them. -/
def sectionScan (d : Dev) (c : List Byte) : Nat → Nat → Nat → List ValErr
  | 0, _, low => needZero c 0x10 low (c.length - 184 - low)
  | n + 1, i, low =>
    let a := 128 + 16 * i
    let ty := num c a 2
    let off := num c (a + 4) 4
    let size := num c (a + 8) 4
    needZero c 0x10 low (off - low) ++
      (if ty = 0xF0 then [] else frameErrs d c ty (off + size) (num c (a + 12) 4) off none) ++
      sectionScan d c n (i + 1) (off + size)

/-- Stage B. -/
def stageB (d : Dev) (c : List Byte) : List ValErr :=
  let n := num c 24 2
  match tableScan c n 0 (128 + 16 * n) none with
  | [] => sectionScan d c n 0 (128 + 16 * n)
  | es => es

/-! ### The values that R305 would apply -/

/-- The block as the container's frames would set it: no register but what the frames set differs from its reset value. -/
def Dev.proposed (d : Dev) (c : List Byte) : Dev :=
  (applyWords c).run { d with regs := [], cell := [], carrier := [] }

/-- A failing field of the values: its unit, the field and its instance, and the path where one applies. -/
structure Fail where
  unit : Nat
  f : Fld
  i : Nat := 0
  j : Nat := 0
  deriving DecidableEq, Repr

/-- A failing field unless the condition holds. -/
def want (ok : Bool) (u : Nat) (f : Fld) (i : Nat := 0) (j : Nat := 0) : List Fail :=
  if ok then [] else [{ unit := u, f := f, i := i, j := j }]

/-- Where a failing field stands: register word, path, and the frame word that sets it (R307). -/
def Fail.place (x : Fail) (d : Dev) (c : List Byte) (code : Nat) : ValErr :=
  let off := x.f.off + x.f.stride * x.i + x.f.stride2 * x.j
  let isPath := typeOf x.unit == 0x04 && decide (off ≥ 0x1000)
  let shown := if isPath then (off - 0x1000) % 0x40 + 0x180 else off
  let setters := (containerWords c).filter fun w =>
    (w.targets d).contains x.unit && pathOffset w.ty w.off w.index == off
  let best := (setters.filter (·.level == 3)).getLast? <|> ((setters.filter (·.level == 2)).getLast? <|> setters.getLast?)
  { code := code, unit := x.unit, off := shown, index := if isPath then x.i else 0
    pos := (best.map (·.pos)).getD 0, level := (best.map (·.level)).getD 0 }

/-! ### Ranges that depend on another field (code 0x15) -/

/-- N' of a link's format bounds N − 1 from 11 up (R114). -/
def nOk (d : Dev) (u : Nat) (f : Fld) : Bool := decide (11 ≤ d.rd u f ∧ d.rd u f < wordBits (d.fmt u))

/-- Values of an array strictly rise. -/
def rising (xs : List Int) : Bool := (xs.zip xs.tail).all fun p => decide (p.1 < p.2)

/-- Ranges of one section's units that depend on another field. -/
def crossSection (d : Dev) (s : Nat) : List Fail :=
  (List.range 4).flatMap (fun i => let u := rxlU s i
    want (decide (d.rd u Reg.RXL.RBD ≤ d.rd u Reg.RXL.K_M1)) u Reg.RXL.RBD ++ want (nOk d u Reg.RXL.N_M1) u Reg.RXL.N_M1) ++
  (List.range 4).flatMap (fun i => let u := txlU s i; want (nOk d u Reg.TXL.N_M1) u Reg.TXL.N_M1) ++
  (List.range 32).flatMap (fun i => let u := bcU s i
    want (decide (d.rdS u Reg.BC.GAIN_SET ≤ d.rdS u Reg.BC.GAIN_MAX) && decide (-4000 ≤ d.rdS u Reg.BC.GAIN_SET))
      u Reg.BC.GAIN_SET ++
    want (!d.is u Reg.BC.ENABLE || d.rd u Reg.BC.CELL_RATE != 0) u Reg.BC.CELL_RATE) ++
  (List.range 4).flatMap (fun k => let u := rcU s
    let per := d.rd u Reg.RC.G_PERIOD_DT k
    let tdd := d.is u Reg.RC.G_ENABLE k && d.grpTdd s k
    want (!tdd || per != 0) u Reg.RC.G_PERIOD_DT k ++
    (List.range (if tdd then d.rd u Reg.RC.G_N_ENT k else 0)).flatMap fun e =>
      want (d.rd u Reg.RC.T_KIND k e == kindSend || d.rd u Reg.RC.T_KIND k e == kindListen) u Reg.RC.T_KIND k e ++
      want (decide (d.rd u Reg.RC.T_START k e < per)) u Reg.RC.T_START k e ++
      want (decide (1 ≤ d.rd u Reg.RC.T_LEN k e ∧ d.rd u Reg.RC.T_LEN k e ≤ per)) u Reg.RC.T_LEN k e) ++
  (List.range 8).flatMap (fun k => want (!d.is (sdU s) Reg.SD.K_EN k ||
    decide (d.rd (sdU s) Reg.SD.K_PSS_OFS_DT k < d.markPeriod (s * 8 + k))) (sdU s) Reg.SD.K_PSS_OFS_DT k) ++
  want (decide (d.rd (peU s) Reg.PE.MARGIN_MUTE + 100 ≤ d.rd (peU s) Reg.PE.MARGIN_BACKOFF)) (peU s) Reg.PE.MARGIN_MUTE

/-- Ranges of the Common Section that depend on another field. Curves are judged where an entry or the reference
discipline uses them. -/
def crossCommon (d : Dev) : List Fail :=
  (List.range 6).flatMap (fun r =>
    want (decide (d.rd HA Reg.HA.R_FAIL_LO r < d.rd HA Reg.HA.R_DROOP_LO r ∧
      d.rd HA Reg.HA.R_DROOP_LO r < d.rd HA Reg.HA.R_DROOP_HI r)) HA Reg.HA.R_DROOP_LO r ++
    want (decide (d.rd HA Reg.HA.R_DROOP_HI r < d.rd HA Reg.HA.R_FAIL_HI r)) HA Reg.HA.R_FAIL_HI r) ++
  (List.range 64).flatMap (fun e =>
    want (decide (d.rdS HA Reg.HA.ENT_WIN_LO e < d.rdS HA Reg.HA.ENT_WIN_HI e)) HA Reg.HA.ENT_WIN_LO e ++
    want (d.rd HA Reg.HA.ENT_FUNC e != 4 || decide (d.rd HA Reg.HA.ENT_CURVE e ≤ 7)) HA Reg.HA.ENT_CURVE e) ++
  (List.range 16).flatMap (fun k =>
    let used := (List.range (d.rd HA Reg.HA.SEQ_LEN)).any fun e =>
      (d.rd HA Reg.HA.ENT_FUNC e == 2 || d.rd HA Reg.HA.ENT_FUNC e == 3) && d.rd HA Reg.HA.ENT_CURVE e == k
    want (!used || rising ((List.range 16).map fun j => (d.rd HA Reg.HA.CURVE_CODE k j : Int))) HA Reg.HA.CURVE_CODE k) ++
  want (decide (d.rd TM Reg.TM.BO_T2 ≤ d.rd TM Reg.TM.BO_T3 ∧ d.rd TM Reg.TM.BO_T3 ≤ 4000)) TM Reg.TM.BO_T3 ++
  (List.range 8).flatMap (fun n =>
    want (decide (d.rd TM Reg.TM.N_TH1 n < d.rd TM Reg.TM.N_TH2 n)) TM Reg.TM.N_TH1 n ++
    want (decide (d.rd TM Reg.TM.N_TH2 n < d.rd TM Reg.TM.N_TH3 n)) TM Reg.TM.N_TH2 n) ++
  want (!d.is CE Reg.CE.REF_EN || rising ((List.range 16).map fun j => d.rdS TM Reg.TM.CURVE_T_PT j)) TM Reg.TM.CURVE_T_PT ++
  want (decide (d.rdS CE Reg.CE.PWR_MIN < d.rdS CE Reg.CE.PWR_MAX)) CE Reg.CE.PWR_MIN ++
  want (!d.is CE Reg.CE.REF_EN || d.rd CE Reg.CE.CAR_RF != 0) CE Reg.CE.CAR_RF

/-! ### Stage C (codes 0x20 to 0x29) -/

/-- 0x20 LINKS: R94, R95, R97, R140. -/
def checkLinks (d : Dev) : List Fail :=
  let per := d.rd TB Reg.TB.SYSREF_PERIOD
  d.linksOn.flatMap (fun u =>
    let k := if isRxl u then Reg.RXL.K_M1 else Reg.TXL.K_M1
    let fk := octetsPerFrame (d.fmt u) * (d.rd u k + 1)
    want (!d.sub0 u) u (if isRxl u then Reg.RXL.SUB0_TEST else Reg.TXL.SUB0_TEST) ++
    want (decide (17 ≤ fk ∧ fk ≤ 1024) && per % d.lmfc u == 0) u k) ++
  want (per % 128 == 0) TB Reg.TB.SYSREF_PERIOD

/-- A band f_c ± E'_c in units of 2^−48 Hz (R169). -/
def Dev.band (d : Dev) (c : Nat) : Int × Int :=
  let mid := d.ftw c true * (d.txRate c : Int)
  let w : Int := (d.halfBand c : Int) * 2 ^ 48
  (mid - w, mid + w)

/-- Two bands overlap. -/
def overlaps (a b : Int × Int) : Bool := decide (a.1 < b.2 ∧ b.1 < a.2)

/-- The group of a link carries the role and duplexing that a cell needs (R247). -/
def Dev.groupFits (d : Dev) (c : Nat) (g : Option Nat) (service : Bool) : Bool :=
  let s := secOf c
  match g with
  | none => false
  | some k => d.grpService s k == service &&
      (if d.peRd c Reg.PE.C_TDD_EN = 1 then d.grpTdd s k && d.donorOf c == some (d.grpCarrier s k) else !d.grpTdd s k)

/-- 0x21 WIRING: R12, R143, R144, R169, R247. -/
def checkWiring (d : Dev) : List Fail :=
  d.sections.flatMap fun s =>
    (d.cellsOf s).flatMap (fun c =>
      let rx := d.rxlOf c
      let tx := d.txlOf c
      let cb := cbU s (d.rd c Reg.BC.CB)
      let p := d.rd c Reg.BC.PARTNER
      let b := d.band c
      let lim : Int := d.txRate c * 2 ^ 47
      want (d.linkOn rx && d.is cb Reg.CB.ENABLE && d.linkOn tx) c Reg.BC.RXL ++
      want ((d.cellsOf s).all fun x => !(d.rxlOf x == rx || d.txlOf x == tx) || d.isUplink x == d.isUplink c) c Reg.BC.DIR ++
      want (if d.is c Reg.BC.PARTNER_EN then d.allCells.contains p && d.isUplink p != d.isUplink c else !d.isUplink c)
        c Reg.BC.PARTNER ++
      want (decide (-lim ≤ b.1 ∧ b.2 ≤ lim) &&
        (d.cellsOfCb s (d.rd c Reg.BC.CB)).all fun x => decide (x ≥ c) || !overlaps b (d.band x)) c Reg.BC.TX_FTW_LO ++
      want (d.groupFits c (d.txGroup s (d.rd c Reg.BC.CB)) (!d.isUplink c) &&
        d.groupFits c (d.rxGroup s (d.rd c Reg.BC.RXL)) (d.isUplink c)) c Reg.BC.RXL) ++
    (List.range 4).flatMap (fun i => want (decide ((d.cellsOfCb s i).length ≤ 16)) (cbU s i) Reg.CB.ENABLE) ++
    (List.range 4).flatMap (fun k =>
      let on := fun m => d.is (rcU s) Reg.RC.G_ENABLE m
      want ((List.range k).all fun m => !on k || !on m ||
        ((d.rd (rcU s) Reg.RC.G_RX_MAP k &&& d.rd (rcU s) Reg.RC.G_RX_MAP m) == 0 &&
         (d.rd (rcU s) Reg.RC.G_TX_MAP k &&& d.rd (rcU s) Reg.RC.G_TX_MAP m) == 0)) (rcU s) Reg.RC.G_RX_MAP k)

/-- A response set uses only positions p0 to s, and meets R124 there. -/
def setOk (set p0 s : Nat) : Bool :=
  (List.range 7).all fun i =>
    let p := i + 1
    if p < p0 ∨ p > s then codeAt set p == 0
    else decide (edgeOf (codeAt set p) * 2 ^ (s - p) ≥ edgeOf (codeAt set s))

/-- A shift word uses only positions p0 to s (R142). -/
def shiftOk (word p0 s : Nat) : Bool :=
  (List.range 7).all fun i => decide (p0 ≤ i + 1 ∧ i + 1 ≤ s) || word / 2 ^ (2 * i) % 4 == 0

/-- 0x22 STRAINER: R117, R124, R142, R155. -/
def checkStrainer (d : Dev) : List Fail :=
  d.allCells.flatMap fun c =>
    let s := d.rd c Reg.BC.CELL_RATE
    let pr := firstPos (d.fmt (d.rxlOf c))
    let pt := firstPos (d.fmt (d.txlOf c))
    want (decide (d.rdS c Reg.BC.SQ_CLOSE ≤ d.rdS c Reg.BC.SQ_OPEN)) c Reg.BC.SQ_CLOSE ++
    want (s != 0 && !(s == 1 && d.evenGrid c)) c Reg.BC.CELL_RATE ++
    want (setOk (d.rd c Reg.BC.RX_RESP_A) pr s) c Reg.BC.RX_RESP_A ++
    want (setOk (d.rd c Reg.BC.RX_RESP_B) pr s) c Reg.BC.RX_RESP_B ++
    want (setOk (d.rd c Reg.BC.TX_RESP_A) pt s) c Reg.BC.TX_RESP_A ++
    want (setOk (d.rd c Reg.BC.TX_RESP_B) pt s) c Reg.BC.TX_RESP_B ++
    want (shiftOk (d.rd c Reg.BC.RX_SHIFT) pr s && shiftOk (d.rd c Reg.BC.TX_SHIFT) pt s) c Reg.BC.RX_SHIFT

/-- Every path of the device: section and index. -/
def Dev.allPaths (d : Dev) : List (Nat × Nat) := d.sections.flatMap fun s => (d.pathsOf s).map fun p => (s, p)

/-- 0x23 PATHS: R172, R173, R186. -/
def checkPaths (d : Dev) : List Fail :=
  d.allPaths.flatMap fun (s, p) =>
    let src := d.srcOf s p
    let rcv := d.rcvOf s p
    want (d.allCells.contains src && d.allCells.contains rcv) (dsU s) Reg.DS.P_SRC p ++
    want (d.rd src Reg.BC.CELL_RATE == d.rd rcv Reg.BC.CELL_RATE && overlaps (d.band src) (d.band rcv)) (dsU s) Reg.DS.P_SRC p ++
    want ((d.pathsOf s).all fun q => decide (q ≥ p) || d.srcOf s q != src || d.rcvOf s q != rcv) (dsU s) Reg.DS.P_SRC p ++
    want (!d.is (dsU s) Reg.DS.P_REFINE_EN p ||
      decide (d.rd (dsU s) Reg.DS.P_BULK p * d.period rcv ≥ d.core src + d.rd (dsU s) Reg.DS.GUARD_DT)) (dsU s) Reg.DS.P_REFINE_EN p ++
    want (decide (1 ≤ d.rd (dsU s) Reg.DS.P_TAPS32 p ∧ d.rd (dsU s) Reg.DS.P_TAPS32 p ≤ 32)) (dsU s) Reg.DS.P_TAPS32 p

/-- The cells of a section that publish (R16). -/
def Dev.publishers (d : Dev) (s : Nat) : List Nat :=
  (d.cellsOf s).filter fun c => d.allPaths.any fun x => d.srcOf x.1 x.2 == c

/-- 0x24 CAPACITY: R16, R199. -/
def checkCapacity (d : Dev) : List Fail :=
  let lim := if d.variant.half then 2500000000000 else 5000000000000
  d.sections.flatMap fun s =>
    let load := ((d.pathsOf s).map fun p => d.taps s p * d.cellRate (d.rcvOf s p)).sum
    want (decide (((d.publishers s).map d.cellRate).sum ≤ 3932160000) && decide (load ≤ lim)) (dsU s) Reg.DS.PATH_CNT

/-- Damper state that a section needs, in bytes (R200). -/
def Dev.damperNeed (d : Dev) (s : Nat) : Nat :=
  let ps := d.pathsOf s
  let per := ps.map fun p => 1280 + 3072 * ceilDiv (d.taps s p - 32) 64 + 8 * (d.taps s p + 32)
  let srcs := (ps.map (d.srcOf s)).eraseDups
  let hist := srcs.map fun x =>
    2048 * ceilDiv (((ps.filter fun p => d.srcOf s p == x).map fun p => d.rd (dsU s) Reg.DS.P_BULK p + d.taps s p).foldl max 0 + 48) 256
  per.sum + hist.sum

/-- 0x25 MEMORY: R35, R200. -/
def checkMemory (d : Dev) : List Fail :=
  d.sections.flatMap (fun s =>
    want (decide (d.damperNeed s ≤ d.rd (dsU s) Reg.DS.D_SIZE * 262144)) (dsU s) Reg.DS.D_SIZE) ++
  want (decide (1 ≤ d.rd WS Reg.WS.CAP_MIB ∧ d.rd WS Reg.WS.CAP_MIB ≤ 6)) WS Reg.WS.CAP_MIB

/-- The distance from one instant of a period to another, going forward. -/
def ahead (per : Nat) (a b : Int) : Nat := ((b - a) % (per : Int)).toNat

/-- The rules of R251 over one TDD table. -/
def tddOk (d : Dev) (s k : Nat) : Bool :=
  let u := rcU s
  let per := d.rd u Reg.RC.G_PERIOD_DT k
  let es := (List.range (d.rd u Reg.RC.G_N_ENT k)).map fun e => (d.rd u Reg.RC.T_KIND k e, d.entrySpan s k e 0)
  d.markPeriod (d.grpCarrier s k) % per == 0 &&
  es.zipIdx.all fun (x, i) => es.zipIdx.all fun (y, j) =>
    let len := (x.2.2 - x.2.1).toNat
    (i == j || decide (ahead per x.2.1 y.2.1 ≥ len)) &&
    (i != j || x.1 != kindSend || decide (len ≥ 2 * d.rd u Reg.RC.G_BURST_RAMP k + 1)) &&
    (y.1 != kindSend || decide (ahead per x.2.2 y.2.1 ≥ tddLead)) &&
    (x.1 != kindSend || decide (ahead per x.2.2 y.2.1 ≥ d.rd u Reg.RC.G_SWITCH_DT k))

/-- The instants at which a table moves a pin of a function (R256), modulo the period. -/
def pinInstants (d : Dev) (s k func : Nat) : List Nat :=
  let u := rcU s
  let per : Int := d.rd u Reg.RC.G_PERIOD_DT k
  let es := List.range (d.rd u Reg.RC.G_N_ENT k)
  let sends := (es.filter fun e => d.rd u Reg.RC.T_KIND k e == kindSend).map fun e => d.entrySpan s k e 0
  let raw : List Int :=
    if func = 2 ∨ func = 3 then sends.flatMap fun x => [x.1 - tddLead, x.2]
    else if func = 4 then sends.flatMap fun x => [x.1 - tddLead, x.2 + d.rd u Reg.RC.G_SWITCH_DT k]
    else if func = 5 then (es.filter (d.entryDl s k)).flatMap fun e =>
      [(d.rd u Reg.RC.T_START k e : Int), d.rd u Reg.RC.T_START k e + d.rd u Reg.RC.T_LEN k e]
    else []
  (raw.map fun x => (x % per).toNat).eraseDups

/-- No advanced instant of a pin precedes the pin's previous instant (R257). -/
def advOk (d : Dev) (s p : Nat) : Bool :=
  let u := rcU s
  let k := d.rd u Reg.RC.PIN_GROUP p
  let per := d.rd u Reg.RC.G_PERIOD_DT k
  let xs := pinInstants d s k (d.rd u Reg.RC.PIN_FUNC p)
  !(d.is u Reg.RC.G_ENABLE k && d.grpTdd s k) ||
    xs.all fun a => xs.all fun b => a == b || decide (ahead per a b ≥ d.rd u Reg.RC.PIN_ADV_DT p)

/-- 0x26 RADIO: R221, R226, R251, R256, R257, R266. -/
def checkRadio (d : Dev) : List Fail :=
  d.sections.flatMap fun s =>
    (List.range 4).flatMap (fun k =>
      want (!d.grpOn s k || !d.grpTdd s k || tddOk d s k) (rcU s) Reg.RC.G_PERIOD_DT k ++
      want (decide (d.rd (rcU s) Reg.RC.G_RL_FAULT k < d.rd (rcU s) Reg.RC.G_RL_MUTE k) &&
        decide (d.rd (rcU s) Reg.RC.G_RL_MUTE k < d.rd (rcU s) Reg.RC.G_RL_BO k)) (rcU s) Reg.RC.G_RL_FAULT k) ++
    (List.range 16).flatMap (fun p =>
      let f := d.rd (rcU s) Reg.RC.PIN_FUNC p
      want (decide (f ≤ 9)) (rcU s) Reg.RC.PIN_FUNC p ++
      want (!((f == 2 || f == 3) && d.is (rcU s) Reg.RC.PIN_SAFE p)) (rcU s) Reg.RC.PIN_SAFE p ++
      want (advOk d s p) (rcU s) Reg.RC.PIN_ADV_DT p) ++
    (d.cellsOf s).flatMap fun c =>
      want (!d.isUplink c || d.peRd (d.donorCell c) Reg.PE.C_DONOR_EN == 1) (peU s) Reg.PE.C_DONOR_EN (idxOf c) ++
      want (d.peRd c Reg.PE.C_TDD_EN != 1 || (d.donorOf c).isSome) (peU s) Reg.PE.C_TDD_EN (idxOf c)

/-- A field holds one value in every enabled section. -/
def uniform (d : Dev) (u : Nat → Nat) (f : Fld) : List Fail :=
  match d.sections with
  | [] => []
  | a :: ss => ss.flatMap fun s => want (d.rd (u s) f == d.rd (u a) f) (u s) f

/-- 0x27 UNIFORM: R93, R195, R217. -/
def checkUniform (d : Dev) : List Fail :=
  uniform d dsU Reg.DS.SURVEY_TIME ++ uniform d peU Reg.PE.GM_CELLS ++ uniform d peU Reg.PE.GM_DEPTH ++ uniform d peU Reg.PE.GM_DB ++
  want (decide (d.rd MC Reg.MC.HOLDOFF_MAX ≥ d.rd MC Reg.MC.HOLDOFF_BASE)) MC Reg.MC.HOLDOFF_MAX

/-- A cell's band contains stream frequency 0 of its link. -/
def Dev.holdsZero (d : Dev) (c : Nat) : Bool := let b := d.band c; decide (b.1 ≤ 0 ∧ 0 ≤ b.2)

/-- The image pair of a TX link meets R283. -/
def imageOk (d : Dev) (l : Nat) : Bool :=
  let s := d.rd CE Reg.CE.IMG_SS l
  let q := d.rd CE Reg.CE.IMG_PATH l
  let a := d.srcOf s q
  let b := d.rd CE Reg.CE.IMG_SRC l
  (d.pathsOf s).contains q && d.allCells.contains b && d.txlOf a == txlU (l / 4) (l % 4) && d.txlOf b == d.txlOf a && b != a &&
    codeOf 48 (d.ftw b true) == codeOf 48 (-(d.ftw a true)) && d.rd a Reg.BC.CELL_RATE == d.rd b Reg.BC.CELL_RATE &&
    d.halfBand a == d.halfBand b && d.txGain a == d.txGain b && decide (d.taps s q ≤ 256)

/-- The LO path of a TX link meets R283. -/
def loOk (d : Dev) (l : Nat) : Bool :=
  let s := d.rd CE Reg.CE.LO_SS l
  let q := d.rd CE Reg.CE.LO_PATH l
  (d.pathsOf s).contains q && d.holdsZero (d.srcOf s q) && d.holdsZero (d.rcvOf s q)

/-- 0x28 CALDECL: R283. -/
def checkCal (d : Dev) : List Fail :=
  (List.range 16).flatMap fun l =>
    want (!d.is CE Reg.CE.IMG_EN l || imageOk d l) CE Reg.CE.IMG_EN l ++
    want (!d.is CE Reg.CE.LO_EN l || loOk d l) CE Reg.CE.LO_EN l

/-- Zones that a record partition has written (R393): 16,384 slots to a zone. -/
def zonesWritten (xs : List Stored) : Nat := ceilDiv xs.length 16384

/-- 0x29 STORAGE: R393, against the capacity that the medium reports. -/
def checkStorage (real d : Dev) : List Fail :=
  let v := fun f => d.rd WS f
  want (decide (1 ≤ v Reg.WS.P1_MIN ∧ v Reg.WS.P1_MIN ≤ v Reg.WS.P1_MIB)) WS Reg.WS.P1_MIN ++
  want (decide (256 + v Reg.WS.P1_MIB + v Reg.WS.P2_MIB + v Reg.WS.P3_MIB + v Reg.WS.P4_MIB ≤ real.rd WS Reg.WS.CAP_ZONES))
    WS Reg.WS.P1_MIB ++
  want (decide (zonesWritten real.store.p1 ≤ v Reg.WS.P1_MIB)) WS Reg.WS.P1_MIB ++
  want (decide (zonesWritten real.store.p2 ≤ v Reg.WS.P2_MIB)) WS Reg.WS.P2_MIB

/-! ### Stage D (codes 0x30 to 0x32) -/

/-- A band's entry in a profile object; none for 0x8000. -/
def profileLevel (o : List Byte) (b k : Nat) : Option Int := levelOf (num o (64 + 4 * b + 2 * k) 2)

/-- 0x30 NET_GAIN: R149, R212. -/
def checkNet (d : Dev) (o : List Byte) : List Fail :=
  d.allCells.flatMap fun c =>
    want (match profileLevel o (d.rd c Reg.BC.BAND_ID) 1 with
      | none => true
      | some lim => decide (d.rdS c Reg.BC.GAIN_MAX + d.rd c Reg.BC.EQ_MAX + d.rxGain c + d.txGain c + d.txFs c - d.rxFs c ≤ lim))
      c Reg.BC.GAIN_MAX

/-- 0x31 ALLOW: R227. -/
def checkAllow (d : Dev) (o : List Byte) : List Fail :=
  d.allCells.flatMap fun c =>
    want ((d.rangeOf o c).isSome && bandPresent o (d.rd c Reg.BC.BAND_ID)) c Reg.BC.BAND_ID

/-- 0x32 DUTY: R225. -/
def checkDuty (d : Dev) (o : List Byte) : List Fail :=
  d.allCells.flatMap fun c => want (decide (num o 20 2 ≥ 10000) || !d.isUplink c || d.is c Reg.BC.SQ_EN) c Reg.BC.SQ_EN

/-- The checks after stage B, in order, with their codes. -/
def laterChecks (real d : Dev) (o : List Byte) : List (Nat × List Fail) :=
  [(0x15, d.sections.flatMap (crossSection d) ++ crossCommon d), (0x20, checkLinks d), (0x21, checkWiring d),
   (0x22, checkStrainer d), (0x23, checkPaths d), (0x24, checkCapacity d), (0x25, checkMemory d), (0x26, checkRadio d),
   (0x27, checkUniform d), (0x28, checkCal d), (0x29, checkStorage real d), (0x30, checkNet d o), (0x31, checkAllow d o),
   (0x32, checkDuty d o)]

/-- Validation of a container of which `size` bytes are stored: none when it passes, else the first failure (R307). -/
def Dev.validate (d : Dev) (c : List Byte) (size : Nat) : Option ValErr :=
  match stageA d c size with
  | e :: _ => some e
  | [] =>
    match stageB d c with
    | e :: _ => some e
    | [] =>
      let v := d.proposed c
      let o := (d.profileFor (hProfile c)).getD []
      (laterChecks d v o).findSome? fun (code, fs) => fs.head?.map fun x => x.place d c code

/-- Show the outcome of a validation; `kindling` tells its source (R307, R321). -/
def showValidation (r : Option ValErr) (kindling : Bool) : Script :=
  let e := r.getD { code := 0 }
  seqs [
    putB CC Reg.CC.VAL_VALID true, putB CC Reg.CC.PASSED r.isNone, put CC Reg.CC.VAL_ERR e.code, putB CC Reg.CC.VAL_SRC kindling,
    put CC Reg.CC.ERR_UNIT e.unit, put CC Reg.CC.ERR_LEVEL e.level, put CC Reg.CC.ERR_OFFSET e.off, put CC Reg.CC.ERR_INDEX e.index,
    put CC Reg.CC.ERR_POS e.pos,
    -- VALIDATION_FAILED (R310)
    when r.isSome (auditRec CC 0x41 (leBytes 1 e.code ++ leBytes 2 e.unit ++ leBytes 3 e.pos))]

end Sys2Proof.Machine
end

