-- ==== Sys2Proof/Machine/Frames.lean ====
section
/-! DEFINITION. Pages as the medium stores them: the Reed–Solomon code over GF(2¹⁰) (R382), frames and tags (R381), device labels
(R380), and what SFDP asks of a device (R376). -/

namespace Sys2Proof.Machine

/-! ### GF(2¹⁰) with x¹⁰ + x³ + 1 (R382) -/

/-- Product with x. -/
def gfTwice (a : Nat) : Nat := if a ≥ 512 then 2 * a ^^^ 0x409 else 2 * a

/-- Product with the `k` lowest bits of `b`. -/
def gfMulBits : Nat → Nat → Nat → Nat
  | 0, _, _ => 0
  | k + 1, a, b => (if b % 2 = 1 then a else 0) ^^^ gfMulBits k (gfTwice a) (b / 2)

/-- Product. -/
def gfMul (a b : Nat) : Nat := gfMulBits 10 a b

/-- Power by the `k` lowest bits of `n`. -/
def gfPowBits : Nat → Nat → Nat → Nat
  | 0, _, _ => 1
  | k + 1, a, n => if n % 2 = 1 then gfMul a (gfPowBits k (gfMul a a) (n / 2)) else gfPowBits k (gfMul a a) (n / 2)

/-- Power. -/
def gfPow (a n : Nat) : Nat := gfPowBits 10 a n
/-- Inverse of an element other than 0. -/
def gfInv (a : Nat) : Nat := gfPow a 1022
/-- α^n, with α = x. -/
def alpha (n : Nat) : Nat := gfPow 2 (n % 1023)

/-- Value of a polynomial, lowest coefficient first. -/
def gfEval (p : List Nat) (x : Nat) : Nat := p.foldr (fun c a => c ^^^ gfMul x a) 0

/-- Sum of two polynomials. -/
def gfAdd : List Nat → List Nat → List Nat
  | [], q => q
  | p, [] => p
  | a :: p, b :: q => (a ^^^ b) :: gfAdd p q

/-- Product of two polynomials. -/
def gfTimes : List Nat → List Nat → List Nat
  | [], _ => []
  | a :: p, q => gfAdd (q.map (gfMul a)) (0 :: gfTimes p q)

/-! ### One codeword (R382) -/

/-- The generator ∏ (x − α^i) for i from 0 to 50, lowest coefficient first. -/
def rsGenerator : List Nat := (List.range 51).foldl (fun g i => gfTimes [alpha i, 1] g) [1]

/-- The 51 parity symbols of data symbols, each list highest coefficient first: the remainder of the division by the generator. -/
def rsParity (data : List Nat) : List Nat :=
  let g := (rsGenerator.take 51).reverse
  data.foldl (fun r d =>
    let f := d ^^^ r.headD 0
    gfAdd (r.drop 1 ++ [0]) (g.map (gfMul f))) (List.replicate 51 0)

/-- Syndromes of a word given by its symbols other than 0: power of x, value. -/
def rsSyndromes (e : List (Nat × Nat)) : List Nat :=
  (List.range 51).map fun i => e.foldl (fun a s => a ^^^ gfMul s.2 (alpha (i * s.1))) 0

/-- One step of the search for the error locator: locator, the one before the last change of length, the length, steps since, the
discrepancy then. -/
def locatorStep (syn : List Nat) (x : List Nat × List Nat × Nat × Nat × Nat) (n : Nat) : List Nat × List Nat × Nat × Nat × Nat :=
  let (c, b, l, m, bd) := x
  let disc := (List.range (l + 1)).foldl (fun a i => a ^^^ gfMul (c.getD i 0) (syn.getD (n - i) 0)) 0
  if disc = 0 then (c, b, l, m + 1, bd)
  else
    let c' := gfAdd c (List.replicate m 0 ++ b.map (gfMul (gfMul disc (gfInv bd))))
    if 2 * l ≤ n then (c', c, n + 1 - l, 1, disc) else (c', b, l, m + 1, bd)

/-- The error locator of a word's syndromes and its length. -/
def rsLocator (syn : List Nat) : List Nat × Nat :=
  let x := (List.range 51).foldl (locatorStep syn) ([1], [1], 0, 1, 1)
  (x.1, x.2.2.1)

/-- The formal derivative of a polynomial. -/
def gfDerive (p : List Nat) : List Nat := (p.drop 1).zipIdx.map fun x => if x.2 % 2 = 0 then x.1 else 0

/-- The errors that the decoder corrects: the pattern of at most 12 symbols among the 874 of a codeword that has these syndromes;
none where there is none. -/
def rsSolve (syn : List Nat) : Option (List (Nat × Nat)) :=
  if syn.all (· == 0) then some []
  else
    let (lam, l) := rsLocator syn
    let omega := (gfTimes syn lam).take 51
    let ks := (List.range 874).filter fun k => gfEval lam (alpha (1023 - k)) == 0
    let e := ks.map fun k =>
      let x := alpha (1023 - k)
      (k, gfMul (alpha k) (gfMul (gfEval omega x) (gfInv (gfEval (gfDerive lam) x))))
    if l ≤ 12 ∧ ks.length = l ∧ rsSyndromes e = syn then some e else none

/-! ### Frames (R381, R382) -/

/-- Symbols of a frame that differ from what was written: number, 0 to 3,291 the data symbols and 3,292 to 3,495 the parity, and the
bits that differ. -/
abbrev Errs : Type := List (Nat × Nat)

/-- Codeword of a symbol of a frame: the data and the parity symbols are interleaved alike (DEDUCED, log entry 174). -/
def symWord (j : Nat) : Nat := if j < 3292 then j % 4 else (j - 3292) % 4
/-- Power of x of a symbol in its codeword, the first data symbol highest. -/
def symPower (j : Nat) : Nat := if j < 3292 then 873 - j / 4 else 50 - (j - 3292) / 4
/-- The symbol of a codeword and a power. -/
def symAt (w k : Nat) : Nat := if k > 50 then 4 * (873 - k) + w else 3292 + 4 * (50 - k) + w

/-- What the decoder corrects in a frame whose symbols differ by `e`: none where a codeword is uncorrectable. The code is linear, so it
depends on the differences alone. -/
def frameSolve (e : Errs) : Option Errs :=
  if e.isEmpty then some []
  else
    let one := fun w => (rsSolve (rsSyndromes ((e.filter fun s => symWord s.1 == w).map fun s => (symPower s.1, s.2)))).map
      (List.map fun s => (symAt w s.1, s.2))
    match one 0, one 1, one 2, one 3 with
    | some a, some b, some c, some d => some (a ++ b ++ c ++ d)
    | _, _, _, _ => none

/-- Symbols that a read corrects: 0 Clean, none for Lost (R383). -/
def readSyms (e : Errs) : Option Nat := (frameSolve e).map List.length

/-- Bytes with symbols of 10 bits changed. -/
def xorSymbols (bs : List Byte) (e : Errs) : List Byte :=
  leBytes bs.length (e.foldl (fun n s => if s.1 < 3292 then n ^^^ s.2 * 2 ^ (10 * s.1) else n) (leVal bs))

/-- What a read gives of data and tag that stand on the medium with differences `e`: beyond 39 errors in a codeword the decoder may
correct to another codeword. -/
def readData (bs : List Byte) (e : Errs) : Option (List Byte) :=
  (frameSolve e).map fun f => if e.isEmpty then bs else xorSymbols bs (e ++ f)

/-- `n` symbols of 10 bits of a number, lowest first. -/
def symbolsOf (n v : Nat) : List Nat := (List.range n).map fun j => v / 2 ^ (10 * j) % 1024

/-- The 256 parity bytes of 4,112 bytes of data and tag. -/
def parityBytes (bs : List Byte) : List Byte :=
  let xs := symbolsOf 3292 (leVal bs)
  let ps := (List.range 4).map fun w => rsParity ((xs.zipIdx.filter fun x => x.2 % 4 == w).map (·.1))
  leBytes 255 ((List.range 204).foldl (fun n k => n + (ps.getD (k % 4) []).getD (k / 4) 0 * 2 ^ (10 * k)) 0) ++ [0x00#8]

/-- The tag of R381. -/
def pageTag (lz p wseq : Nat) : List Byte := leBytes 4 lz ++ leBytes 1 p ++ leBytes 3 0 ++ leBytes 8 wseq

/-- A frame of 4,368 bytes. -/
def frameBytes (data : List Byte) (lz p wseq : Nat) : List Byte :=
  let bs := (data ++ List.replicate 4096 0x00#8).take 4096 ++ pageTag lz p wseq
  bs ++ parityBytes bs

/-- Data and tag of a frame as it was read, when it decodes: every symbol other than 0 is a difference from the codeword of zeros. -/
def frameDecode (frame : List Byte) : Option (List Byte) :=
  let bs := frame.take 4112
  let xs := symbolsOf 3292 (leVal bs) ++ symbolsOf 204 (leVal ((frame.drop 4112).take 255))
  (frameSolve ((xs.zipIdx.filter fun x => x.1 != 0).map fun x => (x.2, x.1))).map (xorSymbols bs)

/-! ### Labels (R380) -/

/-- A device's label (R380). -/
structure Label where
  devId : List Byte
  setId : List Byte
  map : List Nat
  deriving DecidableEq, Repr

/-- A label read from one frame: valid when the frame decodes and its MAGIC matches. -/
def labelOf (frame : List Byte) : Option Label :=
  match frameDecode frame with
  | none => none
  | some bs => if num bs 0 4 = 0x53575644 then
      some { devId := field bs 8 32, setId := field bs 40 16
             map := (List.range (num bs 56 2)).map fun i => num bs (84 + 2 * i) 2 }
    else none

/-- The 4,096 bytes of a label: channel, chip select, DEV_ID, SET_ID, the devices of the set as channel × 256 + chip select, density in
GiB, zones, and the Device Time, wall time and epoch of the format. -/
def labelBytes (ch cs : Nat) (devId setId : List Byte) (map : List Nat) (gib zones dt : Nat) (wall : Nat × Nat) (epoch : Nat) : List Byte :=
  (leBytes 4 0x53575644 ++ leBytes 2 1 ++ leBytes 1 ch ++ leBytes 1 cs ++ (devId ++ List.replicate 32 0x00#8).take 32 ++
    (setId ++ List.replicate 16 0x00#8).take 16 ++ leBytes 2 map.length ++ leBytes 2 gib ++ leBytes 4 zones ++ leBytes 8 dt ++
    leBytes 4 wall.2 ++ leBytes 4 wall.1 ++ leBytes 2 epoch ++ leBytes 2 0 ++ map.flatMap (leBytes 2) ++
    List.replicate 4096 0x00#8).take 4096

/-! ### Devices (R376, R384, R388) -/

/-- Bytes from one zone's start to the next. -/
abbrev zoneBytes : Nat := 1122576

/-- Zones of a device of `g` GiB. -/
def zonesOf (g : Nat) : Nat := (g * 2 ^ 30 - 2 ^ 20) / zoneBytes

end Sys2Proof.Machine

namespace Sys2Proof

open Sys2Proof.Machine

/-- Density in GiB. -/
def FoundDevice.gib (x : FoundDevice) : Nat := x.density / 2 ^ 30

/-- The device is usable (R376), and it confirmed the switch to 8D-8D-8D (R378). -/
def FoundDevice.usable (x : FoundDevice) : Bool :=
  decide (192 ≤ x.mhz) && x.addr4 && x.inPlace && x.confirmed &&
    decide (1 ≤ x.gib ∧ x.gib ≤ 16 ∧ x.density % 2 ^ 30 = 0)

/-- The label of a device: that of its first valid frame. -/
def FoundDevice.label (x : FoundDevice) : Option Label := x.frames.findSome? labelOf

/-- The zones that contain a byte of the factory defect list. -/
def FoundDevice.bad (x : FoundDevice) : List Nat :=
  (List.range (zonesOf x.gib)).filter fun i =>
    x.defects.any fun r => decide (r.1 < 2 ^ 20 + (i + 1) * zoneBytes ∧ 2 ^ 20 + i * zoneBytes ≤ r.2)

/-- The same as physical zone numbers. -/
def FoundDevice.badZones (x : FoundDevice) : List Nat := x.bad.map fun i => x.ch * 65536 + x.cs * 32768 + i

end Sys2Proof
end

