-- ==== Sys2Proof/Machine/WsOps.lean ====
section
/-! DEFINITION. The Woodshed as the rest of the block sees it: what its registers show of the medium (R405, R406), capacity,
replacements and shrinks (R390, R393 to R396), and the wear of a zone (R385 to R387). -/

namespace Sys2Proof.Machine

/-! ### Zones (R384) -/

/-- PZONE's channel. -/
def zoneCh (z : Nat) : Nat := z / 65536
/-- PZONE's device, as channel × 2 + chip select. -/
def zoneDev (z : Nat) : Nat := z / 32768

/-- PZONE's index on its device. -/
def zoneIdx (z : Nat) : Nat := z % 32768

/-- A zone of the medium. -/
def Medium.zone (m : Medium) (z : Nat) : Zone := m.zones.get {} z
/-- Change a zone. -/
def Medium.setZone (m : Medium) (z : Nat) (f : Zone → Zone) : Medium := { m with zones := m.zones.put {} z (f (m.zone z)) }

/-- What the journal keeps of a channel. -/
def Medium.chan (m : Medium) (c : Nat) : Channel := m.channels.getD c {}
/-- Change it. -/
def Medium.setChan (m : Medium) (c : Nat) (f : Channel → Channel) : Medium := { m with channels := m.channels.modify c f }

/-- IN_SERVICE (R406). -/
def Channel.inService (c : Channel) : Nat := c.zones - c.spares - c.bad - c.retired

/-- The physical zone that holds a logical zone. -/
def Medium.holder (m : Medium) (lz : Nat) : Option Nat :=
  (m.zones.find? fun e => (e.2.state == 1 || e.2.state == 5) && e.2.lzone == lz).map (·.1)

/-- Zones of a channel that the map lists in a state. -/
def Medium.listed (m : Medium) (c : Nat) (p : Zone → Bool) : List (Nat × Zone) :=
  m.zones.filter fun e => zoneCh e.1 == c && p e.2

/-- Lowest WEAR among the in-use and free zones of a channel (R386): a zone that is not listed has none. -/
def Medium.minWear (m : Medium) (c : Nat) : Nat :=
  let live := m.listed c fun z => z.state != 3 && z.state != 4
  let gone := (m.listed c fun z => z.state == 3 || z.state == 4).length
  if live.length + gone < (m.chan c).zones then 0 else live.foldl (fun a e => min a e.2.wear) (2 ^ 32 - 1)

/-- Highest WEAR in service on a channel. -/
def Medium.maxWear (m : Medium) (c : Nat) : Nat :=
  (m.listed c fun z => z.state != 3 && z.state != 4).foldl (fun a e => max a e.2.wear) 0

/-- The zone lies on a device of the set that is in service. -/
def Medium.exists (m : Medium) (z : Nat) : Bool :=
  !m.failed.contains (zoneDev z) && m.devices.any fun x => x.ch * 2 + x.cs == zoneDev z && decide (zoneIdx z < zonesOf x.gib)

/-- The zone can take data: it exists and holds none. -/
def Medium.takes (m : Medium) (z : Nat) : Bool := m.exists z && (m.zone z).state == 0

/-- Byte address of a frame of a zone (R384). -/
def frameAddr (z f : Nat) : Nat := 2 ^ 20 + zoneIdx z * zoneBytes + 4368 * f

/-- The frame of logical page `p` (R385). -/
def Zone.frameOf (z : Zone) (p : Nat) : Nat :=
  let f := (p + z.start) % 256
  if f ≥ z.gap then f + 1 else f

/-- Zones in a partition (P0 has 256) (R392, R393). -/
def Medium.used (m : Medium) : Nat := 256 + m.p1 + m.p2 + m.p3 + m.p4

/-! ### Registers (R405, R406) -/

/-- CH_STATE of a channel: ABSENT without a device that the bonding reaches, UNSUPPORTED with none that is usable, DEGRADED when a
device that the labels name is missing or failed, FAILED when every one is. -/
def Dev.chState (d : Dev) (c : Nat) : Nat :=
  let mine := d.med.devices.filter (·.ch == c)
  let bad := mine.filter fun x => d.med.failed.contains (x.ch * 2 + x.cs)
  if d.variant.bondS ∧ c ≥ 4 then 0
  else if mine.isEmpty then (if d.med.unsup.any (· / 2 == c) then 4 else 0)
  else if bad.isEmpty then 1
  else if bad.length = mine.length then 3 else 2

/-- The density on a chip select. -/
def Dev.gib (d : Dev) (c k : Nat) : Nat :=
  ((d.med.devices.find? fun x => x.ch == c && x.cs == k && !d.med.failed.contains (x.ch * 2 + x.cs)).map (·.gib)).getD 0

/-- Show the medium in the registers. -/
def showMedium : Script := withDev fun d =>
  let m := d.med
  seqs [
    put WS Reg.WS.CAP_ZONES m.cap, put WS Reg.WS.FREE_ZONES (m.cap - m.used),
    put WS Reg.WS.P1_LIVE m.p1, put WS Reg.WS.P2_LIVE m.p2, put WS Reg.WS.P3_LIVE m.p3, put WS Reg.WS.P4_LIVE m.p4,
    put WS Reg.WS.RETIRED_WEAR (min 65535 m.wearRetired), put WS Reg.WS.RETIRED_DEFECT (min 65535 m.defectRetired),
    put WS Reg.WS.SHRINK_CNT (min 65535 m.shrinks), putB WS Reg.WS.AUDIT_STOPPED m.audStopped,
    putB WS Reg.WS.SPARES_OUT (m.channels.any fun c => c.sparesInit > 0 && c.spares == 0),
    putB WS Reg.WS.WORN_IN_USE (m.zones.any fun e => e.2.state == 5),
    putLive WS Reg.WS.JSEQ_LO m.jseq,
    forEach (List.range 4) fun i => put WS Reg.WS.SET_ID (num m.setId (4 * i) 4) i,
    forEach (List.range 8) fun c =>
      let x := m.chan c
      seqs [
        put WS Reg.WS.CH_DEV0_GIB (d.gib c 0) c, put WS Reg.WS.CH_DEV1_GIB (d.gib c 1) c,
        put WS Reg.WS.CH_CH_STATE (d.chState c) c,
        put WS Reg.WS.CH_BAD x.bad c, put WS Reg.WS.CH_SPARES_INIT x.sparesInit c, put WS Reg.WS.CH_SPARES_LEFT x.spares c,
        put WS Reg.WS.CH_RETIRED x.retired c, put WS Reg.WS.CH_ZONES x.zones c, put WS Reg.WS.CH_IN_SERVICE x.inService c,
        put WS Reg.WS.CH_MAX_WEAR (m.maxWear c) c, put WS Reg.WS.CH_MIN_WEAR (m.minWear c) c],
    condSet (m.channels.any fun c => c.sparesInit > 0 && c.spares == 0) WS 4 0 noScope [],
    condSet m.audStopped WS 6 0 devScope [],
    condSet (m.zones.any fun e => e.2.state == 5) WS 7 0 devScope []]

/-- Change the medium and show it. -/
def setMed (f : Medium → Medium) : Script := seqs [modMed f, showMedium]

/-- The medium can be read and written: discovered, its clock running, no rebuild in progress (R24, R378, R398). -/
def Dev.mediaUp (d : Dev) : Bool :=
  d.is CK Reg.CK.ROOT_LOCK && d.is WS Reg.WS.READY && !d.holds CK 7 && !d.med.rebuilding

/-! ### Shrinks (R394 to R396) -/

/-- Pages that captures hold in P3 (R428). -/
def RecordStore.capturePages (s : RecordStore) : Nat := (s.captures.map fun c => c.pages.length).foldl (· + ·) 0

/-- The captures that remain when P3 has `zones` zones: the oldest go first (R394, R395). -/
def keepCaptures (zones : Nat) : List StoredCapture → List StoredCapture
  | [] => []
  | c :: cs =>
    if ((c :: cs).map fun x => x.pages.length).foldl (· + ·) 0 ≤ 256 * zones then c :: cs else keepCaptures zones cs

/-- A PART entry (R397): the partition's new live size waits for its journal page. -/
def partEntry (p n : Nat) : JEntry := { kind := 6, lzone := p, wear := n }

/-- P3 takes a new size. -/
def sizeP3 (n : Nat) : Script := seqs [
  modMed fun m => { m with p3 := n },
  modStore fun s => { s with captures := keepCaptures n s.captures }]

/-- P4 takes a new size; the pages of zones it gives up are gone. -/
def sizeP4 (n : Nat) : Script := modMed fun m => { m with p4 := n, user := m.user.keep fun k => decide (k < 256 * n) }

/-- Slots of P2 that remain when it has `zones` zones: the oldest go first (R395). -/
def sizeP2 (n : Nat) : Script := seqs [
  modMed fun m => { m with p2 := n },
  modStore fun s => { s with p2 := s.p2.drop (s.p2.length - 16384 * n) }]

/-- Zones that P1 has written. -/
def Dev.p1Written (d : Dev) : Nat := ceilDiv d.store.p1.length 16384

/-- The partition that gives up a zone next, and its live size then (R395); none where P1 is what is left (R396). -/
def Dev.giver (d : Dev) : Option (Nat × Nat) :=
  let m := d.med
  if m.p3 > 0 then some (3, m.p3 - 1)
  else if m.p4 > 0 then some (4, m.p4 - 1)
  else if m.p2 > 0 then some (2, m.p2 - 1)
  else if m.p1 > d.p1Written ∧ m.p1 > d.rd WS Reg.WS.P1_MIN then some (1, m.p1 - 1)
  else none

/-- A partition takes a new live size. -/
def sizePart (p n : Nat) : Script :=
  if p = 3 then sizeP3 n else if p = 4 then sizeP4 n else if p = 2 then sizeP2 n else modMed fun m => { m with p1 := n }

/-- A zone is given up under R395: SHRINK_CNT, a PART entry, and the source, whose audit record names the partition. Without one audit
recording stops (R396). -/
def giveUp : Script := withDev fun d =>
  match d.giver with
  | some (p, n) => seqs [
      sizePart p n,
      setMed fun m => { m with shrinks := m.shrinks + 1, cap := m.cap - 1, changes := m.changes ++ [partEntry p n] },
      fireEvent WS 5 noScope [p]]
  | none => setMed fun m => { m with audStopped := true, changes := m.changes ++ [{ kind := 7 }] }

/-- Where the replacement of a zone comes from (R390): 1 a spare of its channel, 2 or 3 a free zone, 4 a zone given up, none without
one. A zone of P0 stays in its own channel: `dest` is the free or spare zone that is to take the data. -/
def Dev.source (d : Dev) (z dest : Nat) : Option Nat :=
  let own := zoneCh dest == zoneCh z
  let p0 := (d.med.zone z).lzone / 2 ^ 20 == 0
  if (d.med.chan (zoneCh z)).spares > 0 then (if own then some 1 else none)
  else if p0 && !own then none
  else if d.med.cap > d.med.used then some (if own then 2 else 3)
  else d.giver.map fun _ => 4

/-- What taking the replacement costs: a spare, a free zone, or a zone given up. -/
def takeReplacement (z dest : Nat) : Script := withDev fun d =>
  match d.source z dest with
  | some 1 => setMed fun m => m.setChan (zoneCh z) fun x => { x with spares := x.spares - 1 }
  | some 4 => giveUp
  | some _ => setMed fun m => { m with cap := m.cap - 1 }
  | none => when (decide (d.med.cap ≤ d.med.used) && (d.med.zone z).lzone / 2 ^ 20 != 0) giveUp

/-- At each Kindling the live sizes become the configured ones (R394); P1 and P2 never shrink. -/
def resizePartitions : Script := withDev fun d =>
  let p1 := max d.med.p1 (d.rd WS Reg.WS.P1_MIB)
  let p2 := max d.med.p2 (d.rd WS Reg.WS.P2_MIB)
  let p3 := d.rd WS Reg.WS.P3_MIB
  let p4 := d.rd WS Reg.WS.P4_MIB
  let changed := [(1, d.med.p1, p1), (2, d.med.p2, p2), (3, d.med.p3, p3), (4, d.med.p4, p4)].filter fun x => x.2.1 != x.2.2
  when (d.is WS Reg.WS.READY) <| seqs [
    sizeP3 p3, sizeP4 p4,
    setMed fun m => { m with p1 := p1, p2 := p2, changes := m.changes ++ changed.map fun x => partEntry x.1 x.2.2 }]

/-- The medium takes writes (R37, R398). -/
def Dev.writesUp (d : Dev) : Bool := d.mediaUp && !d.is WS Reg.WS.WRITES_HELD

/-! ### Wear (R385 to R387) -/

/-- Frame writes to a zone: WEAR rises once per 257 of them. -/
def Zone.wrote (z : Zone) (n : Nat) : Zone :=
  { z with wear := min (2 ^ 32 - 1) (z.wear + (z.frames + n) / 257), frames := (z.frames + n) % 257 }

/-- A gap move (R385). -/
def Zone.gapMove (z : Zone) : Zone :=
  if z.gap = 0 then ({ z with gap := 256, start := (z.start + 1) % 256 }).wrote 1
  else ({ z with gap := z.gap - 1 }).wrote 1

/-- One page write to a zone, with the gap move that it may bring. -/
def Zone.pageWrite (z : Zone) (gapN now : Nat) : Zone :=
  let z := { z with moves := z.moves + 1, wseq := z.wseq + 1, isOpen := true, lastWrite := now }.wrote 1
  if z.moves ≥ gapN then { z.gapMove with moves := 0 } else z

/-- What a zone's new WEAR calls for: retirement at 95 % of the endurance (R387), or an exchange when WEAR reaches a multiple
of 4,096 and lies LEVEL_GAP above the lowest (R386). -/
def wearDue (d : Dev) (z oldWear newWear : Nat) : Option Nat :=
  if newWear * 100 ≥ 95 * d.rd WS Reg.WS.ENDURANCE * 1000000 then some 1
  else if newWear / 4096 > oldWear / 4096 ∧ newWear - d.med.minWear (zoneCh z) ≥ d.rd WS Reg.WS.LEVEL_GAP then some 0
  else none

/-! ### P0 (R392) -/

/-- The P0 object that a page of half A (`b` false) or half B holds is gone: directory, certificate copy, profile area, calibration set
or slot. -/
def losePart (b : Bool) (q : Nat) (p : Parcel) : Parcel :=
  if q = 0 then (if b then { p with dirB := none } else { p with dirA := none })
  else if q = 1 then (if b then { p with certB := [] } else { p with certA := [] })
  else if q = 2 then (if b then { p with waiting := [] } else { p with active := [] })
  else if 16 ≤ q ∧ q < 32 then (if b then { p with calB := none } else { p with calA := none })
  else if 256 ≤ q ∧ q < 1280 then (if b then { p with slot1 := [] } else { p with slot0 := [] })
  else if 1280 ≤ q ∧ q < 2304 ∧ ¬b then { p with slot2 := [] }
  else p

/-- Page `p` of logical zone `lz` is Lost: later reads of what it held report it (R383, R389, R392). -/
def losePage (lz p : Nat) : Script :=
  if lz / 2 ^ 20 = 4 then modMed fun m => { m with user := m.user.put [] (lz % 2 ^ 20 * 256 + p) [] }
  else if lz < 256 then modP0 (losePart (decide (128 ≤ lz)) (lz % 128 * 256 + p))
  else skip

/-- The Woodshed keeps a copy of the certificate in each half of P0 (R327). -/
def copyCertificate : Script := withDev fun d =>
  let c := d.otpBytes 0x0840 400
  when (d.p0.certA != c || d.p0.certB != c) (modP0 fun p => { p with certA := c, certB := c })

/-! ### Journal pages (R397, R398) -/

/-- A zone as a journal entry names it. -/
def Medium.entry (m : Medium) (kind z : Nat) (cause : Nat := 0) : JEntry :=
  let x := m.zone z
  { kind := kind, state := x.state, cause := cause, pzone := z, lzone := x.lzone, wear := x.wear, start := x.start, gap := x.gap
    wseq := x.wseq }

/-- The 32 bytes of an entry. -/
def JEntry.bytes (e : JEntry) : List Byte :=
  leBytes 1 e.kind ++ leBytes 1 e.state ++ leBytes 1 e.cause ++ leBytes 1 0 ++ leBytes 4 e.pzone ++ leBytes 4 e.lzone ++
    leBytes 4 e.wear ++ leBytes 1 e.start ++ leBytes 1 0 ++ leBytes 2 e.gap ++ leBytes 8 e.wseq ++ leBytes 4 0

/-- A journal page: sequence number, Device Time, where the snapshot continues, and its entries. -/
def journalBytes (jseq dt next : Nat) (es : List JEntry) : List Byte :=
  let head := leBytes 4 0x4E4A5644 ++ leBytes 2 1 ++ leBytes 2 es.length ++ leBytes 8 jseq ++ leBytes 8 dt ++ leBytes 4 next ++
    leBytes 20 0
  let body := (es.flatMap JEntry.bytes ++ List.replicate 4032 0x00#8).take 4032
  head ++ Config.shake256 (head ++ leBytes 16 0 ++ body) 16 ++ body

/-- PZONEs from `z` on, at most `n`, over runs of first zone and count in rising order. -/
def zonesFrom (rs : List (Nat × Nat)) (z n : Nat) : List Nat :=
  rs.foldl (fun acc r =>
    let a := max r.1 z
    acc ++ (List.range (min (n - acc.length) (r.1 + r.2 - a))).map (a + ·)) []

/-- The next `n` zones of the snapshot, in PZONE order. -/
def Medium.snapZones (m : Medium) (n : Nat) : List Nat :=
  let rs := (List.range 16).filterMap fun i => (m.devices.find? fun x => x.ch * 2 + x.cs == i).map fun x => (32768 * i, zonesOf x.gib)
  let xs := zonesFrom rs m.snapNext n
  xs ++ zonesFrom rs 0 (min (n - xs.length) m.snapNext)

/-- A journal page goes to the copies that can be written, at its place in the ring of 28,672 pages. -/
def writeJournal (okA okB : Bool) (next : Nat) (es : List JEntry) : Script := withDev fun d =>
  let n := d.med.jseq + 1
  let bs := journalBytes n d.dt next es
  seqs [
    modMed fun m => { m with jseq := n },
    when okA (emit (.journalWrite 0 (n % 28672) bs)), when okB (emit (.journalWrite 1 (n % 28672) bs))]

end Sys2Proof.Machine
end

