-- ==== Sys2Proof/Machine/Settle.lean ====
section
/-! DEFINITION. What follows from a command at once, whatever the command was: the device's own causes in the order of R89
(R80, R83, R84, R88, R89), the values that follow from the state (R150 to R159, R188, R255 to R257, R314), and the unit
interrupts (R65, R353); and how a command's meaning is carried out. -/

namespace Sys2Proof.Machine

/-! ### Halt, Ember and Backoff -/

/-- A Halt event (R66, R84): Banked with LOCKOUT from every mode but Cold, where the mode stays. -/
def answerHalt : Script := withDev fun d =>
  when d.mc.halt <| seqs [
    modMc fun m => { m with halt := false },
    setLockout 0x50,
    if d.mode = .cold then modeRecord .cold .cold 0x50
    else seqs [
      changeMode .banked 0x50,
      modCc fun c => { c with phase := .idle, tried := [] }, put CC Reg.CC.STEP 0]]

/-- EMBER_CAUSE.DEV_MUTE: a Mute event of device scope holds (R84, R93). -/
def showDevMute : Script := withDev fun d =>
  let on := d.mutes.any (·.device)
  when (d.is MC Reg.MC.EMBER_DEV_MUTE != on) (putB MC Reg.MC.EMBER_DEV_MUTE on)

/-- The causes that lead to Ember in the present mode (R80, R84). -/
def Dev.emberNow (d : Dev) : Nat :=
  match d.mode with
  | .cold => 0
  | .ember => 0
  | .kindling => d.emberMask &&& 3
  | _ => d.emberMask

/-- Ember's causes are levels (R83, R84). A cause leads to Ember once while it holds: one that still holds after a Halt or the
retry limit has brought the device to Banked leads there again only once it has cleared, or after the next entry to Kindling
(DESIGN CHOICE, log entry 153; unsafe). An automatic revert that awaits its directory write goes before it (R89, R316), and the
cause is judged again in Kindling. -/
def answerEmber : Script := withDev fun d =>
  let m := d.emberMask
  let seen := if d.mode = .cold then 0 else if d.mode = .ember then m else d.mc.emberSeen &&& m
  let fresh := d.emberNow &&& (seen ^^^ 0xF)
  let reverting := d.cc.ops.any fun o => match o with
    | .autoRevert => true
    | _ => false
  if reverting then skip
  else if fresh = 0 then when (d.mc.emberSeen != seen) (modMc fun x => { x with emberSeen := seen })
  else seqs [
    modMc fun x => { x with emberSeen := m },
    when (d.mode == .kindling) (seqs [modCc fun c => { c with phase := .idle, tried := [] }, put CC Reg.CC.STEP 0]),
    enterEmber (emberCode fresh)]

/-- Backoff and its dwell (R80, R89, R93). -/
def answerBackoff : Script := withDev fun d =>
  let as := d.backoffAmounts
  seqs [
    putB MC Reg.MC.BACKOFF_THERMAL d.mc.boThermal.isSome, putB MC Reg.MC.BACKOFF_MARGIN d.mc.boMargin.isSome,
    putB MC Reg.MC.BACKOFF_DROOP d.mc.boDroop.isSome,
    when (d.mode == .carry && !as.isEmpty) (changeMode .backoff d.backoffCode),
    withDev fun d => seqs [
      if d.mode = .backoff ∧ as = [] then startIfIdle .backoffDwell (dtOfMs (d.rd MC Reg.MC.BACKOFF_DWELL))
      else when (d.running .backoffDwell) (stopTimer .backoffDwell),
      put MC Reg.MC.BACKOFF_DB (if d.mode = .backoff then as.foldl max 0 else 0)]]

/-! ### The recorder and the markers -/

/-- The records-lost source (R413), and the condition that P1 is full or diverting (R415). -/
def answerLoss : Script := withDev fun d => seqs [
  when d.ev.lossPend (seqs [modEv fun e => { e with lossPend := false }, fireEvent EV 1 noScope []]),
  when (d.is EV Reg.EV.P1_DIVERT != d.holds EV 2)
    (condSet (d.is EV Reg.EV.P1_DIVERT) EV 2 0 devScope [])]

/-- The lockout marker is written once the directory has been read (R84, R86). -/
def flushMarker : Script := withDev fun d =>
  match d.mc.markerDue with
  | some c => when d.cc.dir.isSome (seqs [modMc fun m => { m with markerDue := none }, requestDir (.lockoutSet c)])
  | none => skip

/-! ### Entries to Kindling and ends of a Survey -/

/-- What an entry to Kindling does to runs, captures and taps (R279, R371). -/
def answerKindled : Script := withDev fun d =>
  when d.mc.kindled (seqs [
    modMc fun m => { m with kindled := false },
    calKindling, evKindling, forEach d.openTaps closeTap])

/-- SURVEY completes when the Survey ends, with its cause and the paths left unsettled (R197, R361). -/
def answerSurvey : Script := withDev fun d =>
  match d.mc.surveyEnd with
  | none => skip
  | some r => seqs [
      modMc fun m => { m with surveyEnd := none },
      forEach (d.cmds.filter fun c => c.opcode == 0x09 && c.state == .running) fun c => complete c.tag stSuccess 0 r]

/-- The LOCKOUT source (R84). -/
def answerLockout : Script := withDev fun d =>
  let on := d.is MC Reg.MC.LOCKOUT
  when (on != d.holds MC 0) (condSet on MC 0 0 noScope [])

/-! ### What the registers show of the timers -/

/-- The fields that count down, and RETRY_HOUR (R93, R314, R420, R472). -/
def showTimers : Script := withDev fun d =>
  let left := fun (t : Timer) (unit : Nat) => match d.deadline t with
    | some t0 => ceilDiv (t0 - d.dt) unit
    | none => 0
  seqs [
    put EV Reg.EV.FREEZE_LEFT (left .thaw 491520),
    put MC Reg.MC.HOLDOFF_LEFT (min 65535 (left .holdoff 4915200)),
    put MC Reg.MC.RETRY_HOUR (min 255 d.recentRetries.length),
    put MC Reg.MC.HW_LEFT (if d.is MC Reg.MC.HW_PHASE then ceilDiv (left .faultPhase 1 * 100) 49152 else 0),
    put CC Reg.CC.PROB_LEFT (if d.cc.dir.any (·.probation) then
      (if d.running .probation then left .probation 491520 else ceilDiv d.cc.probLeft 491520) else 0)]

/-! ### Unit interrupts (R65, R353) -/

/-- IRQ_SUM of a section's units, or of the Common Section for 4. -/
def Dev.irqSum (d : Dev) (n : Nat) : Nat :=
  let us := if n = 4 then commonUnits else if d.sectionOn n then sectionUnits n else []
  ((us.filter d.interrupt).map typeOf).eraseDups.foldl (fun a t => a ||| 2 ^ t) 0

/-- Bring IRQ_SUM up to date; a rising bit sends the section's vector. -/
def refreshIrq : Script := withDev fun d =>
  forEach (List.range 5) fun n =>
    let old := d.rd HP Reg.HP.IRQ_SUM n
    let now := d.irqSum n
    when (old != now) (seqs [put HP Reg.HP.IRQ_SUM now n, when ((now &&& old) != now) (sendMsix (80 + n))])

/-! ### All of it -/

/-- What follows from a command at once. -/
def settle : Script := seqs [
  refreshTxLinks, answerLoss, answerHalt, showDevMute, answerEmber, answerBackoff,
  answerKindled, answerSurvey, answerLockout, abortRuns, startAutos,
  refreshCells, refreshGroups, flushTuners, refreshCombiners, refreshDamper, refreshGm, refreshFaultMute, refreshLatency, refreshPins,
  refreshProbation, refreshTaps, startCmds, answerLoss, flushMarker, answerRecorder, orderRecords, showDirty, showRings, showTimers, noteControls, noteLoud, refreshIrq]

/-! ### Carrying out a command -/

/-- A reset pin or the supply detector holds the block, and nothing happens (R80, R505). -/
def Dev.held (d : Dev) : Bool := d.porst || d.resetn

/-- A command whose meaning is a script: no effect while the block is held in reset. -/
def perform (p : Script) (s : State) : Host.Outcome State Fault Refusal :=
  .next { s with dev := if s.dev.held then s.dev else p.run s.dev }

/-- As `perform`, with what follows at once. -/
def performSettled (p : Script) (s : State) : Host.Outcome State Fault Refusal := perform (andThen p settle) s

/-- A command that a hardware event makes at Device Time `t`. -/
def atTime (t : Nat) (p : Script) : Script := andThen (advanceTo t) p

end Sys2Proof.Machine
end

