-- ==== Sys2Proof/Machine/SyncOps.lean ====
section
/-! DEFINITION. Sync events (R135 to R139), the response switch (R127), SYSREF alignment (R28, R31), and the clock causes that
follow (R24, R31). -/

namespace Sys2Proof.Machine

/-! ### Sync events (R135, R137, R139) -/

/-- The publishing cell's TX NCO and the receiving cell's RX NCO of a path run at the same frequency (R139): FTW × f_link of both,
signed (R118). -/
def Dev.sameTone (d : Dev) (s p : Nat) : Bool :=
  let src := d.srcOf s p
  let rcv := d.rcvOf s p
  d.ftw src true * samplePeriod (d.fmt (d.rxlOf rcv)) == d.ftw rcv false * samplePeriod (d.fmt (d.txlOf src))

/-- The path keeps its state over a sync event (R139). -/
def Dev.pathKeeps (d : Dev) (s p : Nat) : Bool :=
  let src := d.srcOf s p
  let rcv := d.rcvOf s p
  d.sameTone s p && d.rd src Reg.BC.CELL_RATE == d.rd rcv Reg.BC.CELL_RATE && d.evenGrid src == d.evenGrid rcv

/-- A sync event at t_s on one configured cell (R135, R137). -/
def syncCell (c ts : Nat) : Script := withDev fun d => seqs [
  modCell c fun x => { x with
    tg := some (if d.evenGrid c then ts + ts % 2 else ts)
    settleEnd := ts + d.settling c, agc := [], traffic := [], blocks := 0
    syncMute := x.syncMute || (d.mode == .service && d.live? c) },
  put c Reg.BC.BLK_CNT 0, putLive c Reg.BC.SYNC_DT_LO ts, inc c Reg.BC.SYNC_CNT,
  noteRec c 0x41 (leBytes 8 ts),
  putB c Reg.BC.SETTLING true, startTimerAt (.settle c) (ts + d.settling c),
  respSwitch c ts, floorProbe c,
  setGate c (!d.is c Reg.BC.SQ_EN)]

/-- A sync event at t_s: every configured cell, the paths that do not keep their state, and the base lag of every path on the new
grids (R174). Ember's clock cause no longer waits for one (R31). Events of one dt are one event (R138). -/
def syncEvent (ts : Nat) : Script := withDev fun d => when (d.base.lastSync != some ts) <| seqs [
  modBase fun b => { b with lastSync := some ts },
  forEach d.allCells fun c => syncCell c ts,
  forEach d.sections fun s => forEach (d.pathsOf s) fun p => seqs [
    when (!d.pathKeeps s p) (zeroPath s p .sync),
    withDev fun d => put (dsU s) Reg.DS.P_BASE_LAG (d.baseLag s p) p],
  modMc fun m => { m with awaitSync := false, dspSync := false }]

/-- The mode takes sync events (R137). -/
def Dev.takesSync (d : Dev) : Bool := d.modeIn [.kindling, .banked, .ember, .service]

/-! ### Clock causes (R24, R31, R93) -/

/-- A clock in the RF path is failed: any but the media clock. -/
def Dev.clockBad (d : Dev) : Bool := [0, 1, 2, 3, 4, 5, 6, 8].any fun i => d.holds CK i

/-- EMBER_CAUSE.CLOCK: a failed clock in the RF path, or the sync event of R31 is awaited. -/
def showClockCause : Script := withDev fun d => putB MC Reg.MC.EMBER_CLOCK (d.clockBad || d.mc.awaitSync)

/-! ### Alignment (R28, R31) -/

/-- Alignment is armed; `relock` says that it is the one of R31. -/
def armAlignment (relock : Bool) : Script := seqs [
  putB TB Reg.TB.ALIGN_ARMED true, modBase fun b => { b with prevEdge := none, relockAlign := relock }]

/-- J of R28 for an edge at `t`. -/
def alignJump (t per : Nat) : Nat := (per - t % per) % per

/-- Alignment completes at the second edge of a qualifying pair, at Device Time `t`. -/
def alignAt (t per : Nat) : Script :=
  let j := alignJump t per
  seqs [
    upd (.jump j),
    put TB Reg.TB.ALIGN_JUMP j, putB TB Reg.TB.ALIGNED true, putB TB Reg.TB.ALIGN_ARMED false,
    modBase fun b => { b with prevEdge := none, relockAlign := false, autoSync := true },
    auditRec TB 0x41 (leBytes 8 t ++ leBytes 4 j),
    restartAligned]

end Sys2Proof.Machine
end

