-- ==== Sys2Proof/Machine/BlockOps.lean ====
section
/-! DEFINITION. What a band cell computes from one block of samples: input sum and equaliser (R146 to R148), powers and
spectra (R160, R161), the AGC (R154), the probe level (R180), the spectral peak detector (R219), and the uplink noise terms
(R223, R224). -/

namespace Sys2Proof.Machine

/-! ### Samples (R146, R147) -/

/-- The equaliser taps in use, in Q2.14. -/
def Dev.eqTaps (d : Dev) (c : Nat) : List (Int × Int) :=
  if d.is c Reg.BC.EQ_EN then (List.range 16).map fun k => (signed 16 (d.rd c Reg.BC.EQ_I k), signed 16 (d.rd c Reg.BC.EQ_Q k))
  else identityTaps

/-- One output of the equaliser over the 16 most recent inputs, newest first, in Q1.23 before saturation. -/
def eqSample (h win : List Cx) : Cx := (Cx.sum ((h.zip win).map fun t => t.1.mul t.2)).divBy (2 ^ 14)

/-! ### Taking up a tap set (R148) -/

/-- The block boundary takes up a delivered set, or rejects it. -/
def takeTaps (c : Nat) : Script := withDev fun d =>
  match (d.cellAt c).taps with
  | none => skip
  | some ts => seqs [
      modCell c fun x => { x with taps := none },
      when (d.is c Reg.BC.EQ_EN) (
        let hs := ts.map fun t => (signed 16 t.1, signed 16 t.2)
        if eqBound hs > (d.rd c Reg.BC.EQ_MAX : Int) then seqs [inc c Reg.BC.EQ_REJ, fireEvent c 2 (cellScope c) []]
        else setTaps c hs)]

/-! ### AGC and probe (R154, R180) -/

/-- 10 log10 of a sum of |y|² over `n` samples, rounded up; none for zero. -/
def meanUp (sum n : Nat) : Option Int := if sum = 0 then none else some (cdbUp sum (n * 2 ^ 46))

/-- g_agc over the block sums kept, newest first. -/
def Dev.agcGain (d : Dev) (c : Nat) (sums : List Nat) : Int :=
  let xs := sums.take (2 ^ d.rd c Reg.BC.AGC_AVG)
  let blk := (meanUp (sums.headD 0) 256).map fun p => p - (d.rd c Reg.BC.AGC_HEAD : Int)
  let avg := meanUp (xs.foldl (· + ·) 0) (256 * xs.length)
  match avg with
  | none => 4000
  | some a => clamp (-4000) 4000 (d.rdS c Reg.BC.AGC_TARGET - max a (blk.getD a))

/-- The AGC at a block end that does not carry the settling flag. -/
def agcBlock (c sum : Nat) : Script := withDev fun d =>
  let sums := (sum :: (d.cellAt c).agc).take 1024
  if d.is c Reg.BC.AGC_EN then seqs [modCell c fun x => { x with agc := sums }, putS c Reg.BC.G_AGC (d.agcGain c sums)]
  else putS c Reg.BC.G_AGC 4000

/-- P_pr at a block end (R180): T_avg is over at most 16 blocks of traffic power. -/
def probeBlock (c traffic : Nat) : Script := withDev fun d =>
  let u := dsU (secOf c)
  let ts := (traffic :: (d.cellAt c).traffic).take 16
  let floor := d.rdS u Reg.DS.PROBE_FLOOR
  let sum := ts.foldl (· + ·) 0
  let lvl := if d.mode = .survey then d.rdS u Reg.DS.SURVEY_LVL
    else if sum = 0 then floor
    else max (cdbOpen sum (256 * ts.length * 2 ^ 46) - (d.rd u Reg.DS.PROBE_DB (idxOf c) : Int)) floor
  seqs [modCell c fun x => { x with traffic := ts },
    when (d.live? c) (putS u Reg.DS.PROBE_LVL lvl (idxOf c))]

/-! ### Powers and spectra (R160, R161) -/

/-- A block mean as its field shows it. -/
def blockLevel (sum n : Nat) : Nat := levelCode cdbOpen sum (n * 2 ^ 46)

/-- The powers of block `n`, with the averages over the last 2^PWR_AVG blocks without the settling flag. -/
def powerBlock (c n : Nat) (p : Nat × Nat × Nat × Nat) (flag : Bool) : Script := withDev fun d =>
  let ps := if flag then (d.cellAt c).powers else (p :: (d.cellAt c).powers).take 1024
  let xs := ps.take (2 ^ d.rd c Reg.BC.PWR_AVG)
  let avg := fun (f : Nat × Nat × Nat × Nat → Nat) => blockLevel ((xs.map f).foldl (· + ·) 0) (256 * xs.length)
  seqs [
    put c Reg.BC.P_RAW (blockLevel p.1 256), put c Reg.BC.P_IN (blockLevel p.2.1 256),
    modCell c fun x => { x with
      powers := ps
      latest := [blockLevel p.2.2.1 256, blockLevel p.2.2.2 1, n, avg (·.1), avg (·.2.1), avg (·.2.2.1),
        blockLevel ((xs.map (·.2.2.2)).foldl max 0) 1] }]

/-- Bin `k` of a transform of `n` points, without a factor; the unit is that of the samples times 2^−30. -/
def fourier (n : Nat) (xs : List Cx) (k : Int) : Cx :=
  Cx.sum (xs.zipIdx.map fun x => Cx.mul x.1 (Cx.divBy (2 ^ 34) (turnCosSin (-(k * x.2 * 2 ^ 48 / n)))))

/-- The periodic Hann window over 256 samples, in units of 2^−31. -/
def hann (i : Nat) : Int := 2 ^ 30 - divAway (turnCosSin (i * 2 ^ 40)).1 (2 ^ 34)

/-- Power of each bin of a block, bin 128 at 0 Hz, scaled so that a sine at a bin centre reads its own power: in units of 2^−182
(R161). -/
def spectrum (xs : List Cx) : List Nat :=
  let ys := xs.zipIdx.map fun x => Cx.scale (hann x.2) x.1
  (List.range 256).map fun (b : Nat) => (fourier 256 ys ((b : Int) - 128)).norm

/-- Add two lists of bin powers. -/
def addBins (xs ys : List Nat) : List Nat := if xs.isEmpty then ys else (xs.zip ys).map fun t => t.1 + t.2

/-- The words of a spectrum: bin 2w low, bin 2w + 1 high. -/
def specWords (bins : List Nat) (n : Nat) (w : Nat) : Nat :=
  levelCode cdbOpen (bins.getD (2 * w) 0) (n * 2 ^ 182) + 65536 * levelCode cdbOpen (bins.getD (2 * w + 1) 0) (n * 2 ^ 182)

/-- The bin powers of the block from grid instant `g` on enter both averages; a completed average replaces the readable copy. A
block before the boundary at which the averages restart belongs to neither (R161). -/
def spectrumBlock (c g : Nat) (binsIn binsOut : List Nat) : Script := withDev fun d =>
  let x := d.cellAt c
  if x.measRestart.any fun t => decide (g < t) then modCell c fun x => { x with specIn := [], specOut := [], specCnt := 0 }
  else
    let fresh := x.measRestart.isSome
    let i := addBins (if fresh then [] else x.specIn) binsIn
    let o := addBins (if fresh then [] else x.specOut) binsOut
    let n := (if fresh then 0 else x.specCnt) + 1
    if n ≥ 2 ^ d.rd c Reg.BC.SPEC_AVG then seqs [
      forEach (List.range 128) fun w => seqs [
        put c Reg.BC.SPEC_IN (specWords i n w) w, put c Reg.BC.SPEC_OUT (specWords o n w) w],
      incWrap c Reg.BC.SPEC_SEQ,
      modCell c fun x => { x with specIn := [], specOut := [], specCnt := 0, measRestart := none }]
    else modCell c fun x => { x with specIn := i, specOut := o, specCnt := n, measRestart := none }

/-! ### The spectral peak detector (R219) -/

/-- The in-band bins of the active response set, as bin number and power. -/
def Dev.inBand (d : Dev) (c : Nat) (bins : List Nat) : List (Nat × Nat) :=
  let e := d.edgeNow c * 256 / 100
  (bins.zipIdx.map fun t => (t.2, t.1)).filter fun t => decide (128 ≤ t.1 + e ∧ t.1 ≤ 128 + e)

/-- The largest of the bins; the lowest of equals. -/
def peakBin (xs : List (Nat × Nat)) : Nat × Nat := xs.foldl (fun a b => if b.2 > a.2 then b else a) (0, 0)

/-- A trip: the first cuts the gain for SPK_HOLD, one while the cut is held mutes. -/
def spectralTrip (c : Nat) : Script := withDev fun d =>
  let u := peOf c
  if d.running (.spkHold c) then spectralMute c
  else seqs [
    pePutS c Reg.PE.C_G_SPK ((d.gApplied c).getD 4000 - (d.rd u Reg.PE.SPK_CUT : Int)),
    startTimer (.spkHold c) (dtOfMs (d.rd u Reg.PE.SPK_HOLD)),
    fireEvent u 3 noScope []]

/-- The detector at a block end; `sum` is the block sum of the cell output. -/
def spectralBlock (c sum : Nat) (bins : List Nat) (flag : Bool) : Script := withDev fun d =>
  let u := peOf c
  let x := d.cellAt c
  let band := d.inBand c bins
  let pk := peakBin band
  let total := (band.map (·.2)).foldl (· + ·) 0
  let hit := !flag && d.live? c && d.mode != .survey && decide (0 < sum) && decide (0 < total) &&
    powAtMost 1000 (d.rd u Reg.PE.SPK_THRESH) (pk.2 * band.length) total &&
    powAtMost 1000 (d.rdS u Reg.PE.GROW_FLOOR) sum (256 * 2 ^ 46)
  let n := d.rd u Reg.PE.SPK_N
  let run := (pk.1 :: x.spkRun).take n
  let near := run.getLast?.any fun f => run.all fun p => decide (p ≤ f + 1 ∧ f ≤ p + 1)
  if !hit then when (!x.spkRun.isEmpty) (modCell c fun x => { x with spkRun := [] })
  else if run.length ≥ n && near then seqs [modCell c fun x => { x with spkRun := [] }, spectralTrip c]
  else modCell c fun x => { x with spkRun := run }

/-! ### Uplink noise (R223, R224) -/

/-- The probe-noise Note of an uplink cell (R224); without a path loss it is not tested. -/
def judgeProbeNoise (c : Nat) : Script := withDev fun d =>
  let u := peOf c
  match d.isUplink c, (d.donorOf c).bind d.pathLoss with
  | true, some pl =>
    let on := decide (d.rdS (dsU (secOf c)) Reg.DS.PROBE_FLOOR + d.rdS c Reg.BC.TX_GAIN + d.txFs c - pl >
      d.rdS u Reg.PE.BS_NF_DENS + d.bwDb c - (d.rd u Reg.PE.UL_MARGIN : Int))
    condSet on u 12 (idxOf c) noScope []
  | _, _ => skip

/-- g_ul and what follows from it. -/
def refreshUplink (c : Nat) : Script := withDev fun d => when (d.isUplink c) (seqs [
  pePut c Reg.PE.C_N_IN (codeLevel (d.nIn c)), pePutS c Reg.PE.C_G_UL (d.gUl c),
  judgeProbeNoise c, refreshTerms c])

/-- P_IN of a block whose samples all fall inside the cell's Listen state enters the noise estimate. -/
def noiseBlock (c t0 sum : Nat) : Script := withDev fun d =>
  let s := secOf c
  let inside := match d.rxGroup s (d.rd c Reg.BC.RXL) with
    | some k => d.listened s k t0 (t0 + 255 * d.period c)
    | none => false
  when (d.isUplink c && inside) (
    modCell c fun x => { x with noise := ((if sum = 0 then none else some (cdbOpen sum (256 * 2 ^ 46))) :: x.noise).take 64 })

end Sys2Proof.Machine
end

