-- ==== Sys2Proof/Machine/Plane.lean ====
section
/-! DEFINITION. The signal plane of the band cells: samples from the RX links through the Strainer, the cell input sum with the echo
estimate, equaliser, gain, squelch, probe and reference (R13, R14, R17, R132, R145 to R157, R174 to R181), in steps of Device
Time no longer than the lag of a reference. -/

namespace Sys2Proof.Machine

/-! ### References (R14, R174, R175) -/

/-- An even parity bit over `n` bits (R14, R181). -/
def parityOf (n v : Nat) : Bool := ones n v % 2 == 1

/-- The reference word of the cell output `x` in Q1.23. -/
def refWord (c : Nat) (x : Cx) (probe : Nat) (chip : Bool × Bool) : RefWord :=
  let r := (x.divBy 16).sat 20
  { i := r.1, q := r.2, parI := parityOf 20 (codeOf 20 r.1), parQ := parityOf 20 (codeOf 20 r.2), sec := secOf c, cell := idxOf c
    probe := probe, parP := parityOf 16 probe, chip := chip }

/-- How many samples before the newest the reference `k` samples before the latest of instant `lim` or earlier lies. -/
def backOf (g : CellSig) (per : Nat) (lim : Int) (k : Int) : Int := k - (lim - g.refAt) / per

/-- Source `src`'s reference `k` samples before the latest whose t_c is not after `lim`, with that t_c; one that was not published
is zero. -/
def refBack (g : CellSig) (per : Nat) (lim k : Int) : RefWord × Int :=
  let q := backOf g per lim k
  ((if q < 0 then none else g.refs[q.toNat]?).getD {}, g.refAt - q * per)

/-- The rotation of R175 for the sample of source `src` with instant t_c = `t`, in Q2.18; 1.0 where ΔFTW is 0. -/
def Dev.refRotor (d : Dev) (s p : Nat) (t : Int) : Cx :=
  let src := d.srcOf s p
  let f := d.deltaFtw s p
  if f = 0 then (2 ^ 18, 0)
  else
    let t0 : Int := (((d.cellAt src).tg).getD 0 + d.rxChain src + d.core src : Nat)
    rotor ((f : Int) * ((t - t0) / d.period src))

/-- The rotated reference `k` samples before the zero-lag reference of a receiving sample that reaches its input sum at `due`
(R174), in units of 2^−37. -/
def Dev.rotated (d : Dev) (pl : Plane) (s p : Nat) (due : Nat) (k : Int) : Cx :=
  let src := d.srcOf s p
  let (r, t) := refBack (pl.cells.get {} src) (d.period src) ((due : Int) - 40) k
  Cx.mul (r.i, r.q) (d.refRotor s p t)

/-! ### The echo estimate (R176 to R178) -/

/-- Output `o` of a circular convolution of 128 points. -/
def circular (h x : List Cx) (o : Nat) : Cx :=
  Cx.sum ((List.range 128).map fun k => Cx.mul (h.getD k (0, 0)) (x.getD ((o + 128 - k) % 128) (0, 0)))

/-- The direct part: taps 0 to 31, in units of 2^−61. -/
def Dev.directPart (d : Dev) (pl : Plane) (s p due : Nat) : Cx :=
  let w := (d.pathAt' s p).w
  let b := d.rd (dsU s) Reg.DS.P_BULK p
  Cx.sum ((List.range (min 32 (d.taps s p))).map fun k => Cx.mul (w.getD k (0, 0)) (d.rotated pl s p due (b + k)))

/-- The reference samples that partition `q` reaches over a hop, oldest first: 128, of which the newest meets the first of its taps
at the last sample of the hop. `i` is the place in the hop of the sample that reaches its input sum at `due`. -/
def Dev.partWindow (d : Dev) (pl : Plane) (s p due i off : Nat) : List Cx :=
  let b := d.rd (dsU s) Reg.DS.P_BULK p
  (List.range 128).map fun (r : Nat) => d.rotated pl s p due ((b + off : Nat) - (31 - i : Nat) + (127 - r : Nat))

/-- Partition `q` from 1 by overlap-save: taps 32 + 64(q − 1) onward, those past the window 0. -/
def Dev.partPart (d : Dev) (pl : Plane) (s p due i q : Nat) : Cx :=
  let off := 32 + 64 * (q - 1)
  let h := (((d.pathAt' s p).w.take (d.taps s p)).drop off).take 64
  circular h (d.partWindow pl s p due i off) (96 + i)

/-- n_p of a path (R177). -/
def Dev.partitions (d : Dev) (s p : Nat) : Nat := ceilDiv (d.taps s p - 32) 64

/-- e(n) of receiving cell `c` for the sample `m` that reaches its input sum at `due`, in Q5.23. -/
def Dev.echo (d : Dev) (pl : Plane) (c : Nat) (m : Int) (due : Nat) : Cx :=
  let s := secOf c
  let i := (m % 32).toNat
  (Cx.sum (((d.pathsOf s).filter fun p => d.rcvOf s p == c).map fun p =>
    (d.directPart pl s p due).add
      (Cx.sum ((List.range (d.partitions s p)).map fun q => d.partPart pl s p due i (q + 1))))).divBy (2 ^ 38)

/-! ### The probe (R179, R180) -/

/-- One step of a register of 31 bits whose polynomial is x^31 + x^t + 1: its output, and the register after it. -/
def lfsrStep (t s : Nat) : Bool × Nat :=
  (s.testBit 0, s / 2 + 2 ^ 30 * b2n (s.testBit 0 ^^ s.testBit t))

/-- The seed of register B. -/
def seedB (c : Nat) : Nat := c * 2 ^ 15 + 1

/-- The output bits d0 and d1 of the next chip, and the registers after it. -/
def nextChip (a b : Nat) : (Bool × Bool) × Nat × Nat :=
  let (a0, a1) := lfsrStep 3 a
  let (b0, b1) := lfsrStep 13 b
  let (a2, a3) := lfsrStep 3 a1
  let (b2, b3) := lfsrStep 13 b1
  ((a0 ^^ b0, a2 ^^ b2), a3, b3)

/-- The signs of a chip: c(i) is this over √2. -/
def chipSigns (x : Bool × Bool) : Cx := (if x.1 then -1 else 1, if x.2 then -1 else 1)

/-! ### The core of a cell (R145) -/

/-- Stages 1 and 2: the cell input sum and the equaliser (R146, R147). The sum of the sample at tap 7 is the output for that sample:
with the period of the input sum and that of the pipeline it comes 9 × P after it, and 2 × P after the newest (R145). -/
def Dev.inputStage (d : Dev) (pl : Plane) (c : Nat) (f : InFlight) (g : CellSig) : CellSig :=
  let x := (f.x.sub (d.echo pl c f.m f.due))
  let xin := x.sat 24
  let line := (xin :: g.eqLine).take 16
  let raws := (f.x :: g.rawLine).take 8
  let e := eqSample (d.eqTaps c) line
  let y := e.sat 24
  { g with
    eqLine := line, rawLine := raws
    eps := ((f.m, xin) :: g.eps).take 4096
    heard := (1, {
      there := f.due, g := f.due - d.rxChain c, first := decide (0 ≤ f.m ∧ f.m % 256 = 0), x := xin
      stamp := f.due - d.rxChain c - d.rd (d.rxlOf c) Reg.RXL.PATH_DT }) :: g.heard
    cnt := bump (bump g.cnt 16 (xin != x)) 17 (y != e)
    midQ := g.midQ ++ [{ due := f.due + 2 * d.period c, m := f.m - 7, x := y
                         raw := raws.getD 7 (0, 0), xin := line.getD 7 (0, 0), y := y }] }

/-- p_sq(m) is at least a level: the mean over the 16 most recent samples (R155). -/
def sumReaches (lvl : Int) (sum : Nat) : Bool := decide (0 < sum) && powAtMost 1000 lvl sum (16 * 2 ^ 46)

/-- Stage 3: the squelch detector takes the sample in, and the gain in force multiplies it (R150, R151, R155). -/
def Dev.gainStage (d : Dev) (c : Nat) (f : InFlight) (g : CellSig) : CellSig :=
  let sq := (f.x.norm :: g.sq).take 16
  let p := sq.foldl (· + ·) 0
  let k := match ((d.cellAt c).ctlAt f.due).bind fun e => levelOf e.gain with
    | some v => linGain v
    | none => 0
  let z := (Cx.scale k f.x).divBy (2 ^ 40)
  { g with
    sq := sq
    openRun := if sumReaches (d.rdS c Reg.BC.SQ_OPEN) p then g.openRun + 1 else 0
    lowFrom := if sumReaches (d.rdS c Reg.BC.SQ_CLOSE) p then none else some (g.lowFrom.getD f.due)
    cnt := bump g.cnt 18 (z.sat 24 != z)
    outQ := g.outQ ++ [{ f with due := f.due + 5 * d.period c, x := z.sat 24 }] }

/-- The DAC instant of the sample that leaves the cell at t_c (R133). -/
def Dev.dacInstant (d : Dev) (c tc : Nat) : Nat := tc + d.txChain c + d.rd (d.txlOf c) Reg.TXL.PATH_DT

/-- The cell's antenna group sends at the DAC instant of its sample (R181, R249). -/
def Dev.radiates (d : Dev) (c tc : Nat) : Bool :=
  match d.groupOf c with
  | none => false
  | some k => (d.sendSpan (secOf c) k (d.dacInstant c tc)).isSome && !d.paRamp (secOf c) k (d.dacInstant c tc)

/-- A sample enters the block in progress; the last of a block completes it. -/
def Dev.countSample (d : Dev) (c : Nat) (f : InFlight) (out traffic : Cx) (g : CellSig) : CellSig :=
  if f.m < 0 then g
  else
    let b := if f.m % 256 = 0
      then ({ num := (f.m / 256).toNat, g := f.due - d.rxChain c - d.core c } : BlockSum) else g.blk
    let b := { b with raw := f.raw :: b.raw, xin := f.xin :: b.xin, out := out :: b.out
                      eqE := b.eqE + f.y.norm, traffic := b.traffic + traffic.norm }
    if f.m % 256 = 255 then { g with blk := {}, done := if b.raw.length = 256 then g.done ++ [b] else g.done } else { g with blk := b }

/-- Stages 4 and 5: the squelch gate with its ramps, the Send gate, the probe, the mute, the reference word and the transmit chain
(R14, R17, R155, R157, R180, R181). -/
def Dev.outputStage (d : Dev) (c : Nat) (f : InFlight) (g : CellSig) : CellSig :=
  let x := d.cellAt c
  let per := d.period c
  let tc := f.due
  let at0 := x.ctlAt (tc - 3 * per)
  let isOpen := at0.any (·.gate)
  let live := at0.any (·.live)
  let ramp := if !live || !g.was then (if isOpen then 8 else 0) else if isOpen then min 8 (g.ramp + 1) else g.ramp - 1
  let ((chip, a, b) : (Bool × Bool) × Nat × Nat) :=
    if f.m = 0 then nextChip 0x7FFFFFFF (seedB c) else nextChip g.lfsrA g.lfsrB
  let now := x.ctlAt tc
  let sends := now.any (·.live) && d.radiates c tc
  let traffic : Cx := if sends then (Cx.scale ramp f.x).divBy 8 else (0, 0)
  let probe := if sends then (now.map (·.probe)).getD noLevel else noLevel
  let amp : Int := match levelOf probe with
    | some v => linGain v
    | none => 0
  let chipV := Cx.scale (amp * fxHalfRoot) (chipSigns chip)
  let sum := ((Cx.scale (2 ^ 81) traffic).add chipV).divBy (2 ^ 81)
  let out := sum.sat 24
  let g := { g with
    ramp := ramp, was := live, lfsrA := a, lfsrB := b
    refs := (refWord c out probe chip :: g.refs).take 17536, refAt := tc
    heard := (0, {
      there := tc, g := tc - d.rxChain c - d.core c, first := decide (0 ≤ f.m ∧ f.m % 256 = 0), x := out
      stamp := d.dacInstant c tc }) :: g.heard
    cnt := bump g.cnt 18 (out != sum) }
  let g := d.countSample c f out traffic g
  match x.gridAt tc with
  | none => g
  | some tg => d.txStep c tg ((now.map (·.resp)).getD 0) tc out g

/-! ### Streams (R13, R34) -/

/-- x' = x − d and y = x' − α × conj x' for a 20-bit sample of an RX link (R276), to nearest with ties away from zero and saturated to
the 20 bits of the stream word (DESIGN CHOICE, log entry 180: the rule names no rounding). -/
def rxCorrected (cor : Cx × Cx) (x : Cx) : Cx :=
  if cor = ((0, 0), (0, 0)) then x
  else
    let x' := (Cx.scale (2 ^ 11) x).sub cor.2
    (((Cx.scale (2 ^ 30) x').sub (cor.1.mul x'.conj)).divBy (2 ^ 41)).sat 20

/-- z = x − β × conj x − d for a 20-bit sample of a Combiner (R276), in units of 2^−60. -/
def txCorrected (cor : Cx × Cx) (x : Cx) : Cx :=
  ((Cx.scale (2 ^ 41) x).sub (Cx.scale (2 ^ 11) (cor.1.mul x.conj))).sub (Cx.scale (2 ^ 30) cor.2)

/-- The sample that RX link `u` received for `t`, 20 bits a component, before its corrections; none outside the data phase. -/
def Dev.receivedAt (d : Dev) (u t : Nat) : Option Cx := (d.linkAt u).buf.get? t

/-- The stream sample that link `u` delivers at `t`: corrected (R276), but one that R105 zeroes stays zero (DEDUCED, log entry 180).
Outside the data phase the spec states none. -/
def Dev.streamAt (d : Dev) (u t : Nat) : Cx :=
  match d.receivedAt u t with
  | some x => if (d.linkAt u).zeroed.contains t then x else rxCorrected ((d.linkAt u).corAt t) x
  | none => (signed 20 (Config.idleSample u t 0 % 2 ^ 20), signed 20 (Config.idleSample u t 1 % 2 ^ 20))

/-- The instants from `a` on, `n` of them, that carry a sample of a stream of the given format. -/
def streamTimes (fmt a n : Nat) : List Nat :=
  ((List.range n).map (a + ·)).filter fun t => t % samplePeriod fmt == 0

/-- Samples of a queue that fall due by `b` pass through a stage. -/
def passDue (b : Nat) (stage : InFlight → CellSig → CellSig) (q : List InFlight) (g : CellSig) : CellSig :=
  (q.takeWhile fun f => decide (f.due ≤ b)).foldl (fun g f => stage f g) g

/-- One cell from Device Time `a` to before `a + n`. -/
def Dev.cellSlice (d : Dev) (a n c : Nat) (pl : Plane) : Plane :=
  let x := d.cellAt c
  let b := a + n - 1
  let g := (streamTimes (d.fmt (d.rxlOf c)) a n).foldl (fun g t =>
    match x.gridAt t with
    | none => g
    | some tg => d.rxStep c tg (((x.ctlAt t).map (·.resp)).getD 0) t (d.streamAt (d.rxlOf c) t) g) (pl.cells.get {} c)
  let late := fun (q : List InFlight) => q.dropWhile fun f => decide (f.due ≤ b)
  let g := passDue b (d.inputStage pl c) g.inQ { g with inQ := late g.inQ }
  let g := passDue b (d.gainStage c) g.midQ { g with midQ := late g.midQ }
  let g := passDue b (d.outputStage c) g.outQ { g with outQ := late g.outQ }
  { pl with cells := pl.cells.put {} c g }

end Sys2Proof.Machine
end

