-- ==== Sys2Proof/Machine/Estimate.lean ====
section
/-! DEFINITION. What a calibration run gathers of the live signal in its two halves, and the estimate it forms from each (R280,
R283). -/

namespace Sys2Proof.Machine

/-! ### The half in progress (R280) -/

/-- Something of Device Time `t` belongs to the half in progress: the halves follow one another without a gap, each with its end and
without its start (DESIGN CHOICE, log entry 181). -/
def CalRun.covers (r : CalRun) (t : Nat) : Bool := decide (r.acc.since < t ∧ t ≤ r.acc.since + r.halfDt)

/-- Change what the runs that meet `p` have gathered. -/
def gather (p : CalRun → Bool) (f : CalRun → CalAcc) : Script := withDev fun d =>
  when (d.ce.runs.any fun x => p x.2)
    (modCe fun e => { e with runs := e.runs.map fun x => if p x.2 then (x.1, { x.2 with acc := f x.2 }) else x })

/-! ### Links (RX_IQ, RX_DC) -/

/-- A stream sample enters a half, and with 255 before it a 256-point spectrum: windowed as that of R161, on blocks that follow one
another and start over after an excluded sample (DESIGN CHOICE, log entry 181). -/
def CalAcc.sample (a : CalAcc) (iq : Bool) (x : Cx) : CalAcc :=
  let line := x :: a.line
  let full := decide (line.length ≥ 256)
  { a with
    held := a.held + 1, sum := a.sum.add (if iq then x.mul x else x), pow := a.pow + x.norm
    bins := if full then addBins a.bins (spectrum line.reverse) else a.bins
    line := if full then [] else line }

/-- The stream sample of instant `t` at a run on an RX link: after the live corrections for RX_IQ, before them for RX_DC. One that
R105 zeroed, and an instant without a sample, are excluded. -/
def Dev.calSample (d : Dev) (r : CalRun) (t : Nat) (a : CalAcc) : CalAcc :=
  match d.receivedAt r.target t with
  | some x => if (d.linkAt r.target).zeroed.contains t then { a with line := [] }
    else a.sample (r.kind == 1) (if r.kind = 1 then d.streamAt r.target t else x)
  | none => { a with line := [] }

/-- The samples of the links under a run from Device Time `t0` to the plane's. -/
def calLinks (t0 : Nat) : Script := withDev fun d =>
  gather (fun r => r.kind == 1 || r.kind == 2) fun r =>
    ((streamTimes (d.fmt r.target) t0 (d.plane.upTo - t0)).filter r.covers).foldl (fun a t => d.calSample r t a) r.acc

/-! ### Cells (FLAT) -/

/-- A block of cell `c` without the settling flag, by its samples at the cell input sum. -/
def calBlock (c : Nat) (xin : List Cx) : Script := withDev fun d =>
  gather (fun r => r.kind == 5 && r.target == c && r.covers d.dt) fun r =>
    { r.acc with held := r.acc.held + 1, pow := r.acc.pow + energy xin, bins := addBins r.acc.bins (spectrum xin.reverse) }

/-! ### Detectors (DET) -/

/-- Group `k` of section `s` was outside any Send state and PA ramp at `t`, and had been for DET_SETTLE (R283). -/
def Dev.quietAt (d : Dev) (s k t : Nat) : Bool :=
  let settle := dtOfUs (d.rd (rcU s) Reg.RC.G_DET_SETTLE k)
  (d.grp s k).loud.all fun x => decide (t < x.1) || x.2.any fun e => decide (e + settle ≤ t)

/-- Add a raw code to the count of a detector input. -/
def addCode (input raw : Nat) (det : List (Nat × Int × Nat)) : List (Nat × Int × Nat) :=
  let old := ((det.find? fun x => x.1 == input).map (·.2)).getD (0, 0)
  (input, old.1 + raw, old.2 + 1) :: det.filter fun x => x.1 != input

/-- The conversions of entry `e`, a detector entry of a group: raw codes and sampling instants. -/
def calDet (e : Nat) (codes : List (Nat × Nat)) : Script := withDev fun d =>
  let s := d.rd HA Reg.HA.ENT_GRP_SS e
  gather (fun r => r.kind == 6 && secOf r.target == s) fun r =>
    let good := codes.filter fun x => r.covers x.2 && d.quietAt s (d.rd HA Reg.HA.ENT_GRP e) x.2
    { r.acc with det := good.foldl (fun m x => addCode (d.rd HA Reg.HA.ENT_CH e) x.1 m) r.acc.det }

/-- The Housekeeping inputs of a section's assigned detectors, in rising order. -/
def Dev.detInputs (d : Dev) (s : Nat) : List Nat :=
  (List.range 32).filter fun i => (List.range 64).any fun e =>
    (d.rd HA Reg.HA.ENT_FUNC e == 2 || d.rd HA Reg.HA.ENT_FUNC e == 3) && d.rd HA Reg.HA.ENT_GRP_SS e == s &&
      d.rd HA Reg.HA.ENT_CH e == i

/-! ### Paths (TX_IQ, TX_LO) -/

/-- The Damper path that R299 declares for a TX link's run: section and index. -/
def Dev.calPath (d : Dev) (kind l : Nat) : Nat × Nat :=
  if kind = 3 then (d.rd CE Reg.CE.IMG_SS l, d.rd CE Reg.CE.IMG_PATH l) else (d.rd CE Reg.CE.LO_SS l, d.rd CE Reg.CE.LO_PATH l)

/-- H of a path at the source's baseband frequency of its TX stream's centre, in units of 2^−88: by the rotation of R175 and the TX
NCO, the phase from one source sample to the next is ΔFTW less the TX NCO's. -/
def Dev.centreResponse (d : Dev) (s p : Nat) : Cx :=
  let src := d.srcOf s p
  let step : Int := d.deltaFtw s p - (d.ftwTx src * (d.period src / samplePeriod (d.fmt (d.txlOf src))) : Nat)
  Cx.sum ((d.pathAt' s p).w.zipIdx.map fun x => Cx.mul x.1 (turnCosSin (-(step * x.2))))

/-! ### The taps of FLAT (R283) -/

/-- A system of `n` linear equations: each row holds its coefficients and its right side, all in fixed point. -/
def solveRows : Nat → List (List Int × Cx) → List Cx
  | 0, _ => []
  | _ + 1, [] => []
  | n + 1, (p, b) :: rows =>
    let piv := p.headD 1
    let xs := solveRows n (rows.map fun r =>
      let f := r.1.headD 0 * 2 ^ 64 / piv
      (((r.1.zip p).map fun x => x.1 - fxMul f x.2).drop 1, (r.2.1 - fxMul f b.1, r.2.2 - fxMul f b.2)))
    let s := ((p.drop 1).zip xs).foldl (fun (a : Cx) x => (a.1 - fxMul x.1 x.2.1, a.2 - fxMul x.1 x.2.2)) b
    (s.1 * 2 ^ 64 / piv, s.2 * 2 ^ 64 / piv) :: xs

/-- The middle of a sorted list, twice: of an even count the two middle ones (R280 and R283 name the median and no more). -/
def median2 (xs : List Nat) : Nat :=
  let ys := xs.mergeSort (· ≤ ·)
  ys.getD ((ys.length - 1) / 2) 0 + ys.getD (ys.length / 2) 0

/-- C(b) in fixed point: the root of the in-band median over S(b); 1 outside the band. An empty bin has none. -/
def flatGain (inBand : List Nat) (bins : List Nat) (b : Nat) : Int :=
  let s := bins.getD b 0
  if !inBand.contains b then fxOne
  else if s = 0 then Config.emptyBinGain b
  else rootOf (median2 (inBand.map fun i => bins.getD i 0) * 2 ^ 127 / s)

/-- The taps that fit C(b) × exp(−j2π × 7 × (b − 128)/256) best, in fixed point: weight 16 in band and 1 elsewhere. -/
def flatTaps (inBand : List Nat) (bins : List Nat) : List Cx :=
  let weight := fun (b : Nat) => if inBand.contains b then (16 : Int) else 1
  let phase := fun (b : Nat) (n : Int) => turnCosSin (((b : Int) - 128) * n * 2 ^ 40)
  let sum := fun (f : Nat → Cx) => Cx.sum ((List.range 256).map f)
  let gains := (List.range 256).map (flatGain inBand bins)
  let row := (List.range 16).map fun (n : Nat) => (sum fun b => Cx.scale (weight b) (phase b n)).1
  solveRows 16 ((List.range 16).map fun (k : Nat) =>
    ((List.range 16).map fun l => row.getD (k - l + (l - k)) 0,
     sum fun b => Cx.scale (weight b) (let e := phase b ((k : Int) - 7); let g := gains.getD b 0; (fxMul g e.1, fxMul g e.2))))

/-- |H(b)|² of a set of taps in fixed point, in units of 2^−128. -/
def tapPower (taps : List Cx) (b : Nat) : Nat :=
  (Cx.sum (taps.zipIdx.map fun x =>
    (Cx.mul x.1 (turnCosSin (-(((b : Int) - 128) * x.2 * 2 ^ 40)))).divBy (2 ^ 64))).norm

/-! ### What a half comes to -/

/-- The in-band bins of a run's 256-point spectrum (R280). -/
def Dev.calBins (d : Dev) (r : CalRun) : List Nat :=
  if r.kind = 5 then
    (List.range 256).filter fun b => decide (((b : Int) - 128).natAbs * d.cellRate r.target ≤ 256 * d.halfBand r.target)
  else
    let rate := 491520000 / samplePeriod (d.fmt r.target)
    (List.range 256).filter fun b => (d.cellsOf (secOf r.target)).any fun c =>
      d.rxlOf c == r.target &&
        decide (((((b : Int) - 128) * 2 ^ 40 - signed 48 (d.ftwRx c)) * rate).natAbs ≤ d.halfBand c * 2 ^ 48)

/-- What a half holds at the most. -/
def Dev.calPossible (d : Dev) (r : CalRun) : Nat :=
  let q := d.calPath r.kind (linkL r.target)
  match r.kind with
  | 3 => r.halfDt / (32 * d.period (d.rcvOf q.1 q.2))
  | 4 => r.halfDt / (32 * d.period (d.rcvOf q.1 q.2))
  | 5 => r.halfDt / (256 * d.period r.target)
  | _ => r.halfDt / samplePeriod (d.fmt r.target)

/-- An estimate as a fraction; one whose denominator is 0, for which the rule states no value, is a free value. -/
def openFraction (kind : Nat) (num : Cx) (den : Nat) : List Cx × Nat :=
  if den = 0 then ([(Config.zeroEstimate kind 0, Config.zeroEstimate kind 1)], 2 ^ 30) else ([num], den)

/-- The estimate of the half in progress (R283). -/
def Dev.calEstimate (d : Dev) (r : CalRun) : List Cx × Nat :=
  let a := r.acc
  let q := d.calPath r.kind (linkL r.target)
  match r.kind with
  | 1 => openFraction 1 a.sum a.pow
  | 2 => openFraction 2 a.sum (a.held * 2 ^ 19)
  | 3 => openFraction 3 (Cx.sum ((a.img.zip a.wq).map fun x => Cx.mul x.1 x.2.conj)) (energy a.wq * 2 ^ 24)
  | 4 =>
    let h := d.centreResponse q.1 q.2
    openFraction 4 (Cx.scale (2 ^ 69) (Cx.mul a.sum h.conj))
      (32 * a.held * h.norm * linGain (d.rdS (d.srcOf q.1 q.2) Reg.BC.TX_GAIN))
  | 5 => (flatTaps (d.calBins r) a.bins, 2 ^ 64)
  | _ => ([], 1)

/-- What the half in progress comes to at its end. -/
def Dev.calHalf (d : Dev) (r : CalRun) : HalfStat :=
  let a := r.acc
  let bins := if r.kind = 1 ∨ r.kind = 2 ∨ r.kind = 5 then d.calBins r else []
  let est := d.calEstimate r
  { held := a.held, possible := d.calPossible r
    power := (a.pow, max 1 a.held * (if r.kind = 5 then 256 * 2 ^ 46 else 2 ^ 38))
    bins := bins.map fun b => a.bins.getD b 0
    num := est.1, den := est.2
    mags := if r.kind = 5 then bins.map (tapPower est.1) else []
    det := if r.kind = 6 then (d.detInputs (secOf r.target)).map fun i =>
      (i, ((a.det.find? fun x => x.1 == i).map (·.2)).getD (0, 0)) else [] }

end Sys2Proof.Machine
end

