-- ==== Sys2Proof/Machine/Combine.lean ====
section
/-! DEFINITION. The Combiner on samples (R13, R159, R163 to R167): the input sum, crest-factor reduction, the gated output, and the
run of the whole signal plane to a Device Time. -/

namespace Sys2Proof.Machine

/-! ### Gates (R159, R163) -/

/-- Device Time since which the cell has been Passing or Limited, as it stands at `t`. -/
def Cell.liveSince (x : Cell) (t : Nat) : Option Nat :=
  ((x.ctl.dropWhile fun e => decide (t < e.start)).takeWhile (·.live)).getLast?.map (·.start)

/-- The gate at the Combiner output is open at `t`. -/
def Dev.gateAt (d : Dev) (c t : Nat) : Bool := ((d.cellAt c).liveSince t).any fun r => decide (d.gateOpens c r ≤ t)

/-- The configured cells of Combiner `u`. -/
def Dev.combCells (d : Dev) (u : Nat) : List Nat := d.cellsOfCb (secOf u) (idxOf u)

/-! ### Pulses (R164, R166) -/

/-- 2E_c/f_link as a fraction, with the narrower final edge. -/
def Dev.pulseWidth (d : Dev) (c : Nat) : Nat × Nat :=
  (min (d.edgeA c) (d.edgeB c) * samplePeriod (d.fmt (d.txlOf c)), 50 * d.period c)

/-- q_c(n), before mixing, in units of 2^−64. -/
def Dev.pulsePart (d : Dev) (c : Nat) (n : Int) : Int :=
  let (a, b) := d.pulseWidth c
  if n.natAbs > 127 then 0
  else if n = 0 then (a : Int) * 2 ^ 64 / b
  else fxMul ((turnCosSin ((a : Int) * n * 2 ^ 47 / b)).2 * 2 ^ 64 / (fxPi * n)) (kaiser 7000 n 127)

/-- Σ w_c × q_c(0) over the cells of a peak, in units of 2^−64. -/
def Dev.pulseDenom (d : Dev) (parts : List (Nat × Nat)) : Int := (parts.map fun p => (p.2 : Int) * d.pulsePart p.1 0).foldl (· + ·) 0

/-- A peak's share of cancel_c `n` link samples after it, in units of 2^−40. -/
def Dev.cancelPart (d : Dev) (p : Peak) (c : Nat) (n : Int) : Cx :=
  let e := turnCosSin ((d.ftwTx c : Int) * n)
  Cx.divBy ((d.pulseDenom p.parts).toNat * 2 ^ 64) (Cx.mul p.c (Cx.scale (d.pulsePart c n) e))

/-- c_k × p(n), in units of 2^−40. -/
def Dev.peakPulse (d : Dev) (p : Peak) (n : Int) : Cx :=
  Cx.sum (p.parts.map fun q => Cx.scale q.2 (d.cancelPart p q.1 n))

/-! ### Crest-factor reduction (R165) -/

/-- |z| of a sample. -/
def Cx.abs (x : Cx) : Nat := rootOf x.norm

/-- The samples of a stream less a peak's pulse. -/
def Dev.lessPulse (d : Dev) (p : Peak) (z : Tape) : Tape :=
  { z with xs := z.xs.zipIdx.map fun x =>
      let n : Int := (((z.start + x.2 * z.per : Nat) : Int) - p.t) / z.per
      if n.natAbs > 127 then x.1 else Cx.sub x.1 (d.peakPulse p n) }

/-- Insert by falling magnitude; of equals the earlier first. -/
def insertPeak (x : Nat × Nat) : List (Nat × Nat) → List (Nat × Nat)
  | [] => [x]
  | y :: ys => if x.2 > y.2 then x :: y :: ys else y :: insertPeak x ys

/-- The peaks of the window of 128 samples from `w`: local maxima above `ath`, largest first. -/
def windowPeaks (z : Tape) (w ath : Nat) : List (Nat × Nat) :=
  let mag := fun t => ((z.get? t).map Cx.abs).getD 0
  ((List.range 128).map (w + z.per * ·)).foldl (fun ps t =>
    if mag t > ath && decide (mag (t - z.per) ≤ mag t) && decide (mag (t + z.per) ≤ mag t) then insertPeak (t, mag t) ps else ps) []

/-- One stage over one window: each peak in turn is measured where z stands by then, cancelled and recorded. -/
def Dev.cfrStage (d : Dev) (u : Nat) (parts : List (Nat × Nat)) (w ath : Nat) (g : CombSig) : CombSig :=
  ((windowPeaks g.z w ath).take (d.rd u Reg.CB.PC_MAX)).foldl (fun g x =>
    let v := (g.z.get? x.1).getD (0, 0)
    let m := v.abs
    let p : Peak := { t := x.1, c := if m = 0 then (0, 0) else Cx.divBy m (Cx.scale ((m : Int) - ath) v), parts := parts }
    { g with z := d.lessPulse p g.z, peaks := p :: g.peaks, sums := { g.sums with any := true }, cnt := bump g.cnt 2 true }) g

/-- a_th in units of 2^−40. -/
def Dev.cfrThresh (d : Dev) (u : Nat) : Nat := linGain (-(d.rd u Reg.CB.CFR_THRESH : Int))

/-- Samples of a window that are left above a_th. -/
def residIn (z : Tape) (w ath : Nat) : Nat :=
  ((List.range 128).filter fun i => decide ((((z.get? (w + z.per * i)).map Cx.abs).getD 0) > ath)).length

/-- At a window end `t`: stage 1 on the window that has ended, stage 2 on the one before, and the count of what the last stage has
left. -/
def Dev.cfrWindow (d : Dev) (u t : Nat) (g : CombSig) : CombSig :=
  let parts := ((d.combCells u).filter fun c => d.gateAt c t).map fun c => (c, d.rd c Reg.BC.CFR_WEIGHT)
  let ath := d.cfrThresh u
  let win := 128 * g.z.per
  let two := d.rd u Reg.CB.CFR_STAGES == 2
  let g := if d.pulseDenom parts ≤ 0 then g
    else
      let g := d.cfrStage u parts (t - win) ath g
      if two then d.cfrStage u parts (t - 2 * win) ath g else g
  { g with cnt :=
      (g.cnt ++ List.replicate (4 - g.cnt.length) 0).set 3 (g.cnt.getD 3 0 + residIn g.z (if two then t - 3 * win else t - 2 * win) ath) }

/-! ### The Combiner (R163) -/

/-- What cell `c` hands to its Combiner at `t`, in Q1.23. -/
def combIn (pl : Plane) (c t : Nat) : Cx := ((pl.cells.get {} c).tx.get? t).getD (0, 0)

/-- cancel_c at the link instant `n`, in units of 2^−40. -/
def Dev.cancelOf (d : Dev) (g : CombSig) (c n : Nat) : Cx :=
  Cx.sum ((g.peaks.filter fun p => p.parts.any fun q => q.1 == c).map fun p =>
    d.cancelPart p c (((n : Int) - p.t) / g.z.per))

/-- The antenna group's factor at the DAC instant of the sample that TX link `v` takes at `t`. -/
def Dev.outShape (d : Dev) (v t : Nat) : Nat × Nat :=
  match d.txGroup (secOf v) (idxOf v) with
  | none => (0, 1)
  | some k => d.sendShape (secOf v) k (t + d.rd v Reg.TXL.PATH_DT)

/-- Add to entry `i` of the counts of a Combiner. -/
def CombSig.count (g : CombSig) (i : Nat) (b : Bool) : CombSig := { g with cnt := bump g.cnt i b }

/-- The interval sums after a sample; 65,536 samples complete an interval (R167). -/
def CombSig.enter (g : CombSig) (x : CombSums) : CombSig :=
  if x.n ≥ 65536 then { g with sums := {}, report := some x } else { g with sums := x }

/-- The Combiner of unit `u` at the link instant `t`: the input sum s and the working copy, the windows of crest-factor reduction
where one ends, and the output y of the samples of COMB_DT before. -/
def Dev.combStep (d : Dev) (pl : Plane) (u t : Nat) (g : CombSig) : CombSig :=
  let v := txlU (secOf u) (idxOf u)
  let per := samplePeriod (d.fmt v)
  let cs := d.combCells u
  let sum := Cx.sum (cs.map fun c => combIn pl c t)
  let s := sum.sat 24
  let z := (g.peaks.filter fun p => decide (t ≤ p.t + 127 * per)).foldl (fun z p =>
    Cx.sub z (d.peakPulse p (((t : Int) - p.t) / per))) (Cx.scale (2 ^ 17) s)
  let g := { g with
    z := (g.z.put t per [z]).from (t - 640 * per)
    peaks := g.peaks.filter fun p => decide (t < p.t + 1024 * per) }
  let g := g.count 0 (s != sum)
  let g := if d.is u Reg.CB.CFR_EN && t / per % 128 == 0 then d.cfrWindow u t g else g
  let n := t - 384
  let gated := cs.filter fun c => d.gateAt c t
  let canc := Cx.sum (gated.map fun c => Cx.scale (d.rd c Reg.BC.CFR_WEIGHT) (d.cancelOf g c n))
  let y := ((Cx.scale (2 ^ 17) (Cx.sum (gated.map fun c => combIn pl c n))).sub canc).divBy (2 ^ 21)
  let (p, q) := d.outShape v t
  let out := (Cx.scale p (y.sat 20)).divBy q
  let g := g.count 1 (y.sat 20 != y)
  let g := { g with y := g.y.put t per [out] }
  g.enter { g.sums with
    n := g.sums.n + 1, maxIn := max g.sums.maxIn s.norm, sumIn := g.sums.sumIn + s.norm
    maxOut := max g.sums.maxOut out.norm, sumOut := g.sums.sumOut + out.norm, canc := g.sums.canc + canc.norm }

/-- The Combiner is enabled and a configuration runs. -/
def Dev.combOn (d : Dev) (u : Nat) : Bool := d.present u && typeOf u == 0x05 && d.applied && d.is u Reg.CB.ENABLE

/-- The Combiners of the enabled sections. -/
def Dev.combsOn (d : Dev) : List Nat := (d.sections.flatMap fun s => (List.range 4).map (cbU s)).filter d.combOn

/-- One Combiner from Device Time `a` to before `a + n`. -/
def Dev.combSlice (d : Dev) (a n u : Nat) (pl : Plane) : Plane :=
  let fmt := d.fmt (txlU (secOf u) (idxOf u))
  { pl with combs := pl.combs.put {} u ((streamTimes fmt a n).foldl (fun g t => d.combStep pl u t g) (pl.combs.get {} u)) }

end Sys2Proof.Machine
end

