-- ==== Sys2Proof/Machine/Pss.lean ====
section
/-! DEFINITION. The Sync Detectors on samples (R241, R242, R245): mixing, filtering and decimation of a donor carrier, the
correlation against the PSS replicas, and what a correlation peak gives. The sequences are those of 3GPP TS 38.211 and TS 36.211,
which the spec names and does not repeat (PRESUMED, log entry 163; unsafe). -/

namespace Sys2Proof.Machine

/-- The carrier is tracked: it is enabled in an enabled section and a configuration has been applied. -/
def Dev.carrierOn (d : Dev) (s k : Nat) : Bool :=
  d.sectionOn s && decide (k < 8) && d.mode != .cold && d.is (sdU s) Reg.SD.K_EN k

/-- The carrier is locked. -/
def Dev.locked (d : Dev) (s k : Nat) : Bool := d.is (sdU s) Reg.SD.K_FRAME_LOCK k

/-- The correlator looks for this N_ID2 (R241). -/
def Dev.seeks (d : Dev) (s k nid2 : Nat) : Bool :=
  let want := d.rd (sdU s) Reg.SD.K_NID2 k
  if want < 3 then nid2 == want
  else !(d.carrierAt (s * 8 + k)).fixed || nid2 == d.rd (sdU s) Reg.SD.K_NID2_FOUND k

/-! ### Replicas -/

/-- The m-sequence of the NR PSS: x(i + 7) = x(i + 4) + x(i), from x(0) to x(6) = 0, 1, 1, 0, 1, 1, 1; the state holds x(i) lowest. -/
def nrBit (i : Nat) : Bool :=
  ((List.range i).foldl (fun (s : Nat) _ => s / 2 + 64 * b2n (s.testBit 4 ^^ s.testBit 0)) 0b1110110).testBit 0

/-- A subcarrier of the replica: its number from the centre, and the phase of its unit value in units of 2^−48 turn. -/
def pssTones (lte : Bool) (nid2 : Nat) : List (Int × Int) :=
  if lte then
    let root : Int := [25, 29, 34].getD nid2 25
    (List.range 62).map fun (n : Nat) =>
      let m : Int := if n < 31 then n else n + 1
      ((if n < 31 then (n : Int) - 31 else (n : Int) - 30), -(root * (m * (m + 1)) % 126 * 2 ^ 48 / 126))
  else (List.range 127).map fun (n : Nat) => ((n : Int) - 64, if nrBit ((n + 43 * nid2) % 127) then 2 ^ 47 else 0)

/-- The useful part of the time-domain PSS: 256 samples in units of 2^−30. -/
def replica (lte : Bool) (nid2 : Nat) : List Cx :=
  (List.range 256).map fun (i : Nat) =>
    (Cx.sum ((pssTones lte nid2).map fun t => turnCosSin (t.2 + t.1 * i * 2 ^ 40))).divBy (2 ^ 34)

/-- Σ x × conj(r). -/
def correlate (x r : List Cx) : Cx := Cx.sum ((x.zip r).map fun t => Cx.mul t.1 t.2.conj)

/-! ### From the link to the correlator (R241) -/

/-- dt from one decimated sample to the next: 7.68 MSPS for NR with 30 kHz spacing, else 3.84 MSPS. -/
def Dev.sdPer (d : Dev) (s k : Nat) : Nat :=
  if !d.is (sdU s) Reg.SD.K_LTE k && d.is (sdU s) Reg.SD.K_SCS30 k then 64 else 128

/-- The RX link of a carrier. -/
def Dev.sdLink (d : Dev) (s k : Nat) : Nat := rxlU s (d.rd (sdU s) Reg.SD.K_RXL k)

/-- Link samples to one decimated sample. -/
def Dev.sdRatio (d : Dev) (s k : Nat) : Nat := d.sdPer s k / samplePeriod (d.fmt (d.sdLink s k))

/-- A decimated sample at `t`: the correlations of the hypotheses sought, over its two halves. -/
def Dev.corrStep (d : Dev) (s k t : Nat) (y : Cx) (g : PssSig) : PssSig :=
  let dec := (y :: g.dec).take 256
  let win := dec.reverse
  let new := if win.length < 256 then [] else
    ((List.range 3).filter (d.seeks s k)).map fun n =>
      let r := replica (d.is (sdU s) Reg.SD.K_LTE k) n
      ({ t := t, nid2 := n, a := correlate (win.take 128) (r.take 128), b := correlate (win.drop 128) (r.drop 128)
         ex := energy win } : Corr)
  { g with dec := dec, corr := (new ++ g.corr).take (3 * 257) }

/-- A link sample at `t` is mixed by PSS_FTW, filtered, and decimated at the multiples of the decimated period. -/
def Dev.pssStep (d : Dev) (s k t : Nat) (g : PssSig) : PssSig :=
  let u := d.sdLink s k
  let taps := Config.pssFilter (d.sdRatio s k)
  let z := Cx.mul (d.streamAt u t) (rotor ((d.rd (sdU s) Reg.SD.K_PSS_FTW k : Int) * 2 ^ 16 * (t / samplePeriod (d.fmt u) : Nat))).conj
  let line := (z :: g.line).take taps.length
  let g := { g with line := line }
  if t % d.sdPer s k = 0 then d.corrStep s k t (Cx.sum ((taps.zip line).map fun x => Cx.scale x.1 x.2)) g else g

/-- One carrier from Device Time `a` to before `a + n`. -/
def Dev.pssSlice (d : Dev) (a n s k : Nat) (pl : Plane) : Plane :=
  let g := (streamTimes (d.fmt (d.sdLink s k)) a n).foldl (fun g t => d.pssStep s k t g) (pl.pss.get {} (s * 8 + k))
  { pl with pss := pl.pss.put {} (s * 8 + k) g }

/-- The carriers that are tracked. -/
def Dev.carriersOn (d : Dev) : List (Nat × Nat) :=
  (d.sections.flatMap fun s => (List.range 8).map fun k => (s, k)).filter fun x => d.carrierOn x.1 x.2

/-! ### Peaks (R242, R245) -/

/-- E_r. -/
def replicaEnergy (lte : Bool) (nid2 : Nat) : Nat := energy (replica lte nid2)

/-- |C|² of a correlation. -/
def Corr.power (x : Corr) : Nat := (Cx.add x.a x.b).norm

/-- ρ in units of 2^−64. -/
def Corr.rho (x : Corr) (er : Nat) : Nat := if x.ex * er = 0 then 0 else x.power * 2 ^ 64 / (x.ex * er)

/-- What a detection delivers (R242, R245): t_det, P_pss in 0.01 dBFS, ρ in units of 1/256, N_ID2, and the phase advance in units of
2^−48 turn. -/
structure Detection where
  tdet : Nat
  pwr : Int
  rho : Nat
  nid2 : Nat
  adv : Int

/-- The angle of a sample in the first quarter turn, in units of 2^−48 turn, rounded down: bits below `b`, on top of `t`. -/
def angleBits (z : Cx) : Nat → Int → Int
  | 0, t => t
  | b + 1, t =>
    let c := turnCosSin (t + 2 ^ b)
    angleBits z b (if z.1 * c.2 ≤ z.2 * c.1 then t + 2 ^ b else t)

/-- The angle of a sample in units of 2^−48 turn, from −2^47 to below 2^47. -/
def angleOf (z : Cx) : Int :=
  let q := if z.1 > 0 ∧ z.2 ≥ 0 then ((0 : Int), z)
    else if z.1 ≤ 0 ∧ z.2 > 0 then (1, (z.2, -z.1))
    else if z.1 < 0 ∧ z.2 ≤ 0 then (2, (-z.1, -z.2))
    else (3, (-z.2, z.1))
  if z = (0, 0) then 0
  else (q.1 * 2 ^ 46 + angleBits q.2 46 0 + 2 ^ 47) % 2 ^ 48 - 2 ^ 47

/-- The correlation that the newest decimated sample of a carrier puts to the test: the largest of those completed 128 decimated
samples ago, with its neighbours on either side; none where a larger one lies within 128 samples, or ρ is below DET_THR. The
peak position is interpolated on ρ (DESIGN CHOICE, log entry 163). -/
def Dev.peakOf (d : Dev) (s k : Nat) : Option (Corr × Nat × Nat × Nat) :=
  let per := d.sdPer s k
  let xs := (d.plane.pss.get {} (s * 8 + k)).corr
  let er := fun n => replicaEnergy (d.is (sdU s) Reg.SD.K_LTE k) n
  let rho := fun (x : Corr) => x.rho (er x.nid2)
  match xs.head? with
  | none => none
  | some last =>
    let at' := xs.filter fun x => x.t + 128 * per == last.t
    let best := at'.find? fun x => at'.all fun y => decide (rho y ≤ rho x)
    match best with
    | none => none
    | some x =>
      let near := xs.filter fun y => decide (y.t ≤ x.t + 128 * per ∧ x.t ≤ y.t + 128 * per)
      let one := fun (t : Nat) => ((near.find? fun y => y.t == t && y.nid2 == x.nid2).map rho).getD 0
      if near.all (fun y => decide (rho y ≤ rho x)) &&
          decide (256 * x.power ≥ d.rd (sdU s) Reg.SD.K_DET_THR k * (x.ex * er x.nid2)) && decide (0 < x.power)
      then some (x, one (x.t - per), rho x, one (x.t + per)) else none

/-- The detection of a carrier's correlator at the present instant. -/
def Dev.detected (d : Dev) (s k : Nat) : Option Detection := (d.peakOf s k).map fun p =>
  let (x, l, m, r) := p
  let per := d.sdPer s k
  let er := replicaEnergy (d.is (sdU s) Reg.SD.K_LTE k) x.nid2
  let den : Nat := 2 * (2 * m - l - r)
  let shift : Int := if den = 0 then 0 else roundOpen (((r : Int) - l) * per) den
  let gain := Config.pssGain (d.sdRatio s k) + 1
  { tdet := ((x.t : Int) + shift - 255 * per - Config.pssDelay (d.sdRatio s k) - d.rd (d.sdLink s k) Reg.RXL.PATH_DT).toNat
    pwr := clamp (-32767) 32767 (cdbOpen x.power (256 * er * gain * 2 ^ 74))
    rho := min 255 (roundOpen (256 * m) (2 ^ 64)).toNat
    nid2 := x.nid2
    adv := angleOf (Cx.mul x.b x.a.conj) }

end Sys2Proof.Machine
end

