-- ==== Sys2Proof/Machine/Stream.lean ====
section
/-! DEFINITION. The signal plane runs: code groups from the serial lanes enter the elastic buffers (R94 to R96, R101, R105), every
cell, Combiner and carrier follows to the present instant (R13), the TX links frame the Combiners' samples (R95, R96, R103), and the
saturations reach their counters (R96, R119 to R121, R141, R146, R147, R150, R163). -/

namespace Sys2Proof.Machine

/-! ### Code groups from the lanes (R94, R101, R105) -/

/-- What the serial lanes of an RX link brought since the last feed: the link, and the code groups of physical lanes 0 and 1. -/
abbrev Feed : Type := List (Nat × List Nat × List Nat)

/-- The groups of a logical lane out of those of the physical lanes. -/
def Dev.logical (d : Dev) (u j : Nat) (g : List Nat × List Nat) : List Nat :=
  let p := d.physLane u j
  (if p = 0 then g.1 else g.2).map (d.onLine u p)

/-- One frame on the lanes in use enters the elastic buffer; the samples of an affected one are zero (R105). -/
def Dev.takeFrame (d : Dev) (u : Nat) (a b : List Nat) (l : Link) : Link :=
  let fmt := d.fmt u
  let (x, l0) := rxFrame (d.scrOn u) a l.lane0
  let (y, l1) := if formatLanes fmt = 2 then rxFrame (d.scrOn u) b l.lane1 else (some [], l.lane1)
  let at' := l.buf.start + l.buf.xs.length * l.buf.per
  let (xs, bad) : List Cx × List Nat := match x, y with
    | some p, some q => (frameSamples fmt p q, [])
    | _, _ =>
      let n := if fmt = 1 then 2 else 1
      (List.replicate n (0, 0), (List.range n).map fun i => at' + i * l.buf.per)
  { l with lane0 := l0, lane1 := l1, buf := { l.buf with xs := l.buf.xs ++ xs }
           zeroed := (bad.reverse ++ l.zeroed).take 8192, frames := l.frames + 1 }

/-- The first `n` frames of the lanes' groups. -/
def Dev.takeFrames (d : Dev) (u : Nat) : Nat → List Nat → List Nat → Link → Link
  | 0, _, _, l => l
  | n + 1, a, b, l =>
    let f := octetsPerFrame (d.fmt u)
    d.takeFrames u n (a.drop f) (b.drop f) (d.takeFrame u (a.take f) (b.take f) l)

/-- The code groups of one RX link in its data phase. -/
def feedLink (x : Nat × List Nat × List Nat) : Script := withDev fun d =>
  let u := x.1
  let a := d.logical u 0 x.2
  let b := d.logical u 1 x.2
  let n := (if formatLanes (d.fmt u) = 2 then min a.length b.length else a.length) / octetsPerFrame (d.fmt u)
  when (isRxl u && d.linkOn u && d.inData u) (modLink u (d.takeFrames u n a b))

/-! ### The run -/

/-- Every cell, Combiner and carrier over one slice; what no later sample reads is dropped. -/
def Dev.planeSlice (d : Dev) (n : Nat) (pl : Plane) : Plane :=
  let a := pl.upTo
  let pl := if d.applied then d.allCells.foldl (fun pl c => d.cellSlice a n c pl) pl else pl
  let pl := d.combsOn.foldl (fun pl u => d.combSlice a n u pl) pl
  let pl := d.carriersOn.foldl (fun pl x => d.pssSlice a n x.1 x.2 pl) pl
  let pl := d.takeAll (fun u pt => d.heardIn (streamTimes (d.fmt u) a n) (d.streamAt u) pl u pt) pl
  { pl with
    upTo := a + n
    cells := if d.applied then d.allCells.foldl (fun b c =>
      let g := b.get {} c
      b.put {} c { g with tx := g.tx.from (a + n - 512), heard := [] }) pl.cells else pl.cells }

/-- Up to `k` slices, none longer than 32 dt, so that no sample of a slice reads a reference of the same slice: every lag is at
least 40 dt (R174). -/
def Dev.planeSlices (d : Dev) : Nat → Plane → Plane
  | 0, pl => pl
  | k + 1, pl => d.planeSlices k (d.planeSlice (min 32 (d.dt + 1 - pl.upTo)) pl)

/-- The plane at the present instant, its samples included. -/
def Dev.planeNow (d : Dev) : Plane := d.planeSlices (ceilDiv (d.dt + 1 - d.plane.upTo) 32) d.plane

/-! ### Counters -/

/-- The saturations of a cell reach its counters. -/
def flushCell (c : Nat) : Script := withDev fun d =>
  let g := d.plane.cells.get {} c
  let n := fun i => g.cnt.getD i 0
  when (!g.cnt.isEmpty) <| seqs [
    incBy c Reg.BC.RX_SAT_NCO (n 0), forEach (List.range 7) fun i => incBy c Reg.BC.RX_SAT_P (n (1 + i)) i,
    incBy c Reg.BC.TX_SAT_NCO (n 8), forEach (List.range 7) fun i => incBy c Reg.BC.TX_SAT_P (n (9 + i)) i,
    incBy c Reg.BC.IN_SAT (n 16), incBy c Reg.BC.EQ_SAT (n 17), incBy c Reg.BC.GAIN_SAT (n 18),
    modCell c fun x => { x with
      strSeen := x.strSeen || (List.range 16).any fun i => n i != 0
      satSeen := x.satSeen || n 16 + n 17 + n 18 != 0 },
    modPlane fun pl => { pl with cells := pl.cells.put {} c { g with cnt := [] } }]

/-- The counts of a Combiner reach its counters. -/
def flushComb (u : Nat) : Script := withDev fun d =>
  let g := d.plane.combs.get {} u
  let n := fun i => g.cnt.getD i 0
  when (!g.cnt.isEmpty) <| seqs [
    incBy u Reg.CB.SUM_SAT (n 0), incBy u Reg.CB.OUT_SAT (n 1), incBy u Reg.CB.CFR_PEAKS (n 2), incBy u Reg.CB.CFR_RESID (n 3),
    modComb u fun x => { x with satSeen := x.satSeen || n 0 + n 1 != 0 },
    modPlane fun pl => { pl with combs := pl.combs.put {} u { g with cnt := [] } }]

/-! ### Frames to the DAC (R94 to R96, R103, R113) -/

/-- The Device Time at which a TX link takes the first sample of its frame `n`. -/
def Link.frameAt (l : Link) (fmt n : Nat) : Nat := l.buf.start + n * framePeriod fmt

/-- Frames that a TX link can send: those whose samples lie before `t`. -/
def Link.framesDue (l : Link) (fmt t : Nat) : Nat := (t - l.buf.start) / framePeriod fmt - l.frames

/-- The next frame of a TX link from its Combiner's samples: the code groups of the two lanes, the samples that saturate, and the
link after it. A Combiner that is not enabled gives zeros. -/
def Dev.sendFrame (d : Dev) (u : Nat) (y : Tape) (l : Link) : (List Nat × List Nat × Nat) × Link :=
  let fmt := d.fmt u
  let t := l.frameAt fmt l.frames
  let xs := (List.range (if fmt = 1 then 2 else 1)).map fun i =>
    let t := t + i * samplePeriod fmt
    txCorrected (l.corAt t) ((y.get? t).getD (0, 0))
  let (a, b) := frameOctets fmt (xs.map fun x => (txWord fmt x.1, txWord fmt x.2))
  let last := (l.frames + 1) % d.kOf u == 0
  let (ga, l0) := txFrame (d.scrOn u) last a l.lane0
  let (gb, l1) := if formatLanes fmt = 2 then txFrame (d.scrOn u) last b l.lane1 else ([], l.lane1)
  ((ga, gb, (xs.filter (txSaturates fmt)).length), { l with lane0 := l0, lane1 := l1, frames := l.frames + 1 })

/-- `n` frames. -/
def Dev.sendMany (d : Dev) (u : Nat) (y : Tape) : Nat → Link → (List Nat × List Nat × Nat) × Link
  | 0, l => (([], [], 0), l)
  | n + 1, l =>
    let (x, l) := d.sendFrame u y l
    let (z, l) := d.sendMany u y n l
    ((x.1 ++ z.1, x.2.1 ++ z.2.1, x.2.2 + z.2.2), l)

/-- A TX link in its data phase sends the frames that are due, on its physical lanes. -/
def sendFrames (u : Nat) : Script := withDev fun d =>
  let l := d.linkAt u
  let cb := cbU (secOf u) (idxOf u)
  let y := (d.plane.combs.get {} cb).y
  let n := l.framesDue (d.fmt u) d.plane.upTo
  let (x, l') := d.sendMany u y n l
  let out := fun j => emit (.laneSent u (d.physLane u j) (l.frameAt (d.fmt u) l.frames)
    ((if j = 0 then x.1 else x.2.1).map (d.onLine u (d.physLane u j))))
  when (!isRxl u && d.inData u && decide (0 < n)) <| seqs [
    modLink u fun _ => { l' with satSeen := l.satSeen || x.2.2 != 0 },
    incBy u Reg.TXL.TX_SAT x.2.2,
    out 0, when (formatLanes (d.fmt u) == 2) (out 1)]

/-- The samples of a Combiner that its TX link has framed, or will not frame, are dropped. -/
def dropFramed (u : Nat) : Script := withDev fun d =>
  let t := txlU (secOf u) (idxOf u)
  let g := d.plane.combs.get {} u
  let from' := if d.inData t then (d.linkAt t).frameAt (d.fmt t) (d.linkAt t).frames else d.plane.upTo
  modPlane fun pl => { pl with combs := pl.combs.put {} u { g with y := g.y.from from' } }

/-- Samples of an RX link that have reached the section are dropped. -/
def dropTaken (u : Nat) : Script := withDev fun d =>
  when (isRxl u) (modLink u fun l => { l with buf := l.buf.from (min d.plane.upTo (l.buf.start + l.buf.xs.length * l.buf.per)) })

/-- The block's samples follow Device Time to the present instant, on what the lanes have brought since the last run. -/
def runPlane (feed : Feed) : Script := seqs [
  forEach feed feedLink,
  withDev fun d =>
    if d.mode = .cold then modPlane fun _ => { upTo := d.dt + 1 }
    else seqs [
      modPlane fun _ => d.planeNow, calLinks d.plane.upTo,
      forEach d.allCells flushCell, forEach d.combsOn flushComb,
      forEach d.linksOn sendFrames, forEach d.combsOn dropFramed, forEach d.linksOn dropTaken]]

end Sys2Proof.Machine
end

