-- ==== Sys2Proof/Machine/Calibration.lean ====
section
/-! DEFINITION. Commands on the Calibration Engine: runs (R278 to R284), the Steep (R285, R286), the reference (R288 to R290), and
commits of the calibration set (R293, R294). -/

namespace Sys2Proof.Machine

/-! ### Starting runs (R278, R279) -/

/-- CAL-RUN passed the checks of R360. -/
def calRun (tag : Nat) : Script := withDev fun d =>
  match d.passed tag 0x0A with
  | none => skip
  | some c =>
    match d.runRefusal (c.par 24 1) (c.par 26 2) with
    | some r => complete tag (calStatus r) r 0
    | none => seqs [takeUp tag, startRun (c.par 24 1) (c.par 26 2) (c.par 28 4) ((c.par 32 1).testBit 0) false (some tag)]

/-- CAL_RUN (R278). -/
def execCalRun (tag : Nat) (s : State) : Host.Outcome State Fault Refusal := performSettled (calRun tag) s

/-- The targets of automatic runs, in rising order of unit address (R278). -/
def Dev.autoTargets (d : Dev) : List (Nat × Nat) :=
  d.sections.flatMap fun s =>
    ((List.range 4).map (rxlU s)).flatMap (fun u => if d.linkOn u then [(1, u), (2, u)] else []) ++
    ((d.cellsOf s).filter fun c => d.is c Reg.BC.EQ_EN).map (fun c => (5, c)) ++
    (if d.hasDetector s then [(6, rcU s)] else [])

/-- AUTO_MIN minutes have passed (R278): every configured target's automatic runs wait for their turn. -/
def autoStart : Script := withDev fun d => seqs [
  startTimer .autoCal (dtOfS (60 * d.rd CE Reg.CE.AUTO_MIN)),
  when (d.is CE Reg.CE.AUTO_EN) (seqs [modCe fun e => { e with autoQ := d.autoTargets }, startAutos])]

/-- AUTO_CAL_START (R278). -/
def execAutoCalStart (s : State) : Host.Outcome State Fault Refusal := performSettled (onExpiry .autoCal autoStart) s

/-! ### Judging a run (R280 to R284) -/

/-- p/q is at most 10^(t/1000). -/
def ratioOk (t p q : Nat) : Bool := powAtMost 1000 (-(t : Int)) q p

/-- At least 25 % of what is possible; for DET 64 conversions of each input (R280). -/
def enough (kind : Nat) (h : HalfStat) : Bool :=
  if kind = 6 then !h.det.isEmpty && h.det.all fun x => decide (x.2.2 ≥ 64)
  else decide (4 * h.held ≥ h.possible) && decide (0 < h.held)

/-- COVERAGE: at least COVER_PCT % of the in-band bins lie within COVER_DB of their median. -/
def covered (pct db : Nat) (xs : List Nat) : Bool :=
  let m := median2 xs
  let near := xs.filter fun x => powAtMost 10 (-(db : Int)) m (2 * x) && powAtMost 10 (-(db : Int)) (2 * x) m
  decide (100 * near.length ≥ pct * xs.length)

/-- FLATNESS: the ratio of geometric to arithmetic mean is at least −FLAT_DB, in 0.1 dB. -/
def flatEnough (db : Nat) (xs : List Nat) : Bool :=
  let n := xs.length
  powAtMost 100 (-((db * n : Nat) : Int)) (xs.foldl (· * ·) 1 * n ^ n) ((xs.foldl (· + ·) 0) ^ n)

/-- MODEL: the named path has DEPTH at REFINE_MIN or above, and is not stale. -/
def Dev.modelOk (d : Dev) (r : CalRun) : Bool :=
  let q := d.calPath r.kind (linkL r.target)
  (r.kind != 3 && r.kind != 4) ||
    (!d.is (dsU q.1) Reg.DS.P_STALE q.2 &&
      (levelOf (d.rd (dsU q.1) Reg.DS.P_DEPTH q.2)).any fun x => decide (x ≥ 100 * (d.rd (dsU q.1) Reg.DS.REFINE_MIN : Int)))

/-- COUPLING of the named path. -/
def Dev.calCoupling (d : Dev) (r : CalRun) : Nat :=
  let q := d.calPath r.kind (linkL r.target)
  d.rd (dsU q.1) Reg.DS.P_COUPLING q.2

/-- Two levels differ by at most `t`, in 0.01 dB. -/
def levelsNear (t : Nat) (a b : Nat) : Bool :=
  match levelOf a, levelOf b with
  | some x, some y => decide ((x - y).natAbs ≤ t)
  | none, none => true
  | _, _ => false

/-- The estimate of a half as a total, in LSBs of the live value, over its denominator (R282, R283): residuals are added to the
live value at the start; RX_DC and the taps are absolute. -/
def calTotal (r : CalRun) (h : HalfStat) : List (Int × Int) × Nat :=
  let den := h.den * (if r.kind = 1 then 2 else 1)
  let lsb : Int := if r.kind = 5 then 2 ^ 14 else 2 ^ 30
  let base := if r.kind = 2 ∨ r.kind = 5 then (0, 0) else r.live0
  (h.num.map fun x => (base.1 * den + x.1 * lsb, base.2 * den + x.2 * lsb), den)

/-- The mean of two totals, as whole LSBs; the rounding is left open. -/
def calMean (a b : List (Int × Int) × Nat) : List (Int × Int) :=
  (a.1.zip b.1).map fun x =>
    (roundOpen (x.1.1 * b.2 + x.2.1 * a.2) (2 * a.2 * b.2), roundOpen (x.1.2 * b.2 + x.2.2 * a.2) (2 * a.2 * b.2))

/-- |x|² of a complex number. -/
def sq (x : Int × Int) : Nat := x.1.natAbs ^ 2 + x.2.natAbs ^ 2

/-- The two estimates agree (R282). π is taken to 20 places. -/
def Dev.calAgree (d : Dev) (r : CalRun) (ha hb : HalfStat) : Bool :=
  let a := calTotal r ha
  let b := calTotal r hb
  let x := a.1.headD (0, 0)
  let y := b.1.headD (0, 0)
  let p := sq x * b.2 ^ 2
  let q := sq y * a.2 ^ 2
  if r.kind = 1 ∨ r.kind = 3 then
    ratioOk (d.rd CE Reg.CE.TOL_IRR) p q && ratioOk (d.rd CE Reg.CE.TOL_IRR) q p &&
      decide (36000 * (x.2 * b.2 - y.2 * a.2).natAbs * 10 ^ 20 ≤
        d.rd CE Reg.CE.TOL_PH * (a.2 * b.2) * 2 ^ 30 * 314159265358979323846)
  else if r.kind = 2 ∨ r.kind = 4 then
    powAtMost 1000 (-(d.rdS CE Reg.CE.TOL_DC)) ((a.2 * b.2) ^ 2 * 2 ^ 60) (sq (x.1 * b.2 - y.1 * a.2, x.2 * b.2 - y.2 * a.2))
  else if r.kind = 5 then
    (ha.mags.zip hb.mags).all fun m => ratioOk (d.rd CE Reg.CE.TOL_FLAT) m.1 m.2 && ratioOk (d.rd CE Reg.CE.TOL_FLAT) m.2 m.1
  else
    ha.det.map (·.1) == hb.det.map (·.1) && (ha.det.zip hb.det).all fun m =>
      decide ((m.1.2.1 * m.2.2.2 - m.2.2.1 * m.1.2.2).natAbs ≤ d.rd CE Reg.CE.DET_TOL * (m.1.2.2 * m.2.2.2))

/-- The combined offsets of the detector inputs (R281). -/
def detMean (ha hb : HalfStat) : List (Nat × Int × Nat) :=
  (ha.det.zip hb.det).map fun m => (m.1.1, m.1.2.1 * m.2.2.2 + m.2.2.1 * m.1.2.2, 2 * m.1.2.2 * m.2.2.2)

/-- The combined result lies within R284. -/
def Dev.calBound (d : Dev) (r : CalRun) (ha hb : HalfStat) : Bool :=
  let v := calMean (calTotal r ha) (calTotal r hb)
  if r.kind = 1 ∨ r.kind = 3 then powAtMost 10 (d.rd CE Reg.CE.IQ_LIM) (2 ^ 60) (sq (v.headD (0, 0))) || sq (v.headD (0, 0)) == 0
  else if r.kind = 2 ∨ r.kind = 4 then
    powAtMost 10 (d.rd CE Reg.CE.DC_LIM) (2 ^ 60) (sq (v.headD (0, 0))) || sq (v.headD (0, 0)) == 0
  else if r.kind = 5 then decide (eqBound v ≤ d.rd r.target Reg.BC.EQ_MAX)
  else (detMean ha hb).all fun m => decide (m.2.1.natAbs ≤ 4096 * m.2.2)

/-- The first check of R280 that fails; none where all pass. `coup` and `model` are those at the end of half B. -/
def Dev.calReason (d : Dev) (r : CalRun) (ha hb : HalfStat) (coup : Nat) (model : Bool) : Option Nat :=
  let both := fun p : HalfStat → Bool => p ha && p hb
  let stream := r.kind == 1 || r.kind == 2 || r.kind == 5
  if !both (enough r.kind) then some 0x16
  else if stream && !both (fun h => powAtMost 1000 (d.rdS CE Reg.CE.PWR_MIN) h.power.1 h.power.2) then some 0x10
  else if stream && !both (fun h => powAtMost 1000 (-(d.rdS CE Reg.CE.PWR_MAX)) h.power.2 h.power.1) then some 0x11
  else if stream && !both (fun h => covered (d.rd CE Reg.CE.COVER_PCT) (d.rd CE Reg.CE.COVER_DB) h.bins) then some 0x12
  else if stream && !both (fun h => flatEnough (d.rd CE Reg.CE.FLAT_DB) h.bins) then some 0x13
  else if stream && !both (fun h => ratioOk (10 * d.rd CE Reg.CE.STAT_DB) (h.power.1 * (ha.power.2 * hb.power.2))
      (h.power.2 * min (ha.power.1 * hb.power.2) (hb.power.1 * ha.power.2))) then some 0x14
  else if (r.kind == 3 || r.kind == 4) && !levelsNear (10 * d.rd CE Reg.CE.STAT_DB) r.coup coup then some 0x14
  else if !(r.model && model) then some 0x17
  else if !d.calAgree r ha hb then some 0x15
  else if !d.calBound r ha hb then some 0x18
  else none

/-- The image accumulator failed its parity check: the run ends ABORTED and its Slice raises source 7 (R283). -/
def parityLost (k : Nat) (r : CalRun) : Script := withDev fun d => seqs [
  fireEvent (dsU (d.calPath r.kind (linkL r.target)).1) 7 noScope [], endRun k caAborted []]

/-- Half A of the run in slot `k` ends, and half B begins (R280); `parity` is a failure of the image accumulator in it. -/
def halfEnd (k : Nat) (parity : Bool) : Script := withDev fun d =>
  match d.ce.runs.find? fun x => x.1 == k with
  | none => skip
  | some (_, r) =>
    if r.kind = 3 ∧ parity then parityLost k r
    else seqs [
      modCe fun e => { e with runs := e.runs.map fun x =>
        if x.1 == k then (k, { x.2 with
          half := some (d.calHalf r), acc := { since := d.dt }, coup := d.calCoupling r, model := d.modelOk r }) else x },
      put CE Reg.CE.SLOT_PHASE 2 k, startTimer (.calHalf k) r.halfDt]

/-- CAL_HALF_END (R280): only the run in slot `k` that is in half A. -/
def execCalHalfEnd (k : Nat) (feed : Feed) (parity : Bool) (s : State) : Host.Outcome State Fault Refusal :=
  performSettled (withDev fun d => when (d.rd CE Reg.CE.SLOT_PHASE k == 1)
    (onExpiry (.calHalf k) (seqs [runPlane feed, halfEnd k parity]))) s

/-- The entry of a run's value. -/
def CalRun.entry (r : CalRun) (v : List (Int × Int)) : CalEntry :=
  { unit := r.target, kind := r.kind, runId := r.runId, payload := calPayload r.kind 0 v }

/-- An accepted value enters the set and becomes the Steep's target (R281). -/
def acceptRun (r : CalRun) (ha hb : HalfStat) : Script :=
  let v := calMean (calTotal r ha) (calTotal r hb)
  if r.kind = 6 then forEach (detMean ha hb) fun m =>
    let o := roundOpen m.2.1 m.2.2
    let x : CalEntry := { unit := HA, kind := 6, runId := r.runId, payload := calPayload 6 m.1 [(o, 0)] }
    seqs [modCe fun e => { e with entries := putEntry x e.entries }, setGoal 6 m.1 [(o, 0)]]
  else seqs [
    modCe fun e => { e with entries := putEntry (r.entry v) e.entries },
    setGoal r.kind (if r.kind = 5 then r.target else linkL r.target) v]

/-- Half B of the run in slot `k` ends and the run is judged (R280, R281). -/
def runEnd (k : Nat) (parity : Bool) : Script := withDev fun d =>
  match d.ce.runs.find? fun x => x.1 == k with
  | none => skip
  | some (_, r) =>
    match r.half with
    | none => skip
    | some ha =>
      let hb := d.calHalf r
      let result := if r.kind = 6 then (detMean ha hb).flatMap fun m => leBytes 2 (codeOf 16 (roundOpen m.2.1 m.2.2))
        else calPayload r.kind 0 (calMean (calTotal r ha) (calTotal r hb))
      if r.kind = 3 ∧ parity then parityLost k r
      else match d.calReason r ha hb (d.calCoupling r) (d.modelOk r) with
        | some e => endRun k e (if e = 0x18 then result else [])
        | none =>
          if r.noApply then endRun k caEstimated result
          else seqs [acceptRun r ha hb, endRun k caAccepted result]

/-- CAL_RUN_END (R280). -/
def execCalRunEnd (k : Nat) (feed : Feed) (parity : Bool) (s : State) : Host.Outcome State Fault Refusal :=
  performSettled (withDev fun d => when (d.rd CE Reg.CE.SLOT_PHASE k == 2)
    (onExpiry (.calHalf k) (seqs [runPlane feed, runEnd k parity]))) s

/-! ### The Steep (R285) -/

/-- The Steep's tick at the multiple `t` of 1 ms, in every mode from Banked to Service. -/
def steepTick (t : Nat) : Script := onMultiple 0 491520 t (withDev fun d => when d.configured (forEach d.ce.ramps tickRamp))

/-- STEEP_TICK (R285). -/
def execSteepTick (t : Nat) (s : State) : Host.Outcome State Fault Refusal := performSettled (steepTick t) s

/-! ### The reference (R288 to R290) -/

/-- What REF_CAR brought in one half of a second: Σ CFO in 0.1 Hz, times 2^55, and detections (R245, R288). -/
structure RefHalf where
  sum : Int
  n : Nat

/-- The half that ends at `t`: the detections delivered in the half second up to it (DEDUCED, log entry 182). -/
def Dev.refHalf (d : Dev) (t : Nat) : RefHalf :=
  let advs := (d.ce.refDet.filter fun x => decide (t < x.1 + 245760000 ∧ x.1 ≤ t)).map (·.2)
  { sum := advs.foldl (· + ·) 0 * (4915200000 / d.sdPer (d.rd CE Reg.CE.REF_SS) (d.rd CE Reg.CE.REF_CAR) : Nat), n := advs.length }

/-- CAR_RF in the unit of `RefHalf.sum`: e = −mean × 10^6 / CAR_RF in 0.1 ppb. -/
def Dev.refScale (d : Dev) : Nat := d.rd CE Reg.CE.CAR_RF * 2 ^ 55

/-- A second is accepted: at least 8 detections in each half, frame lock, halves that agree and an error of at most 2 ppm. -/
def Dev.secondOk (d : Dev) (a b : RefHalf) : Bool :=
  let rf := d.refScale
  let sd := sdU (d.rd CE Reg.CE.REF_SS)
  decide (8 ≤ a.n ∧ 8 ≤ b.n ∧ 0 < rf) && d.present sd && d.is sd Reg.SD.K_FRAME_LOCK (d.rd CE Reg.CE.REF_CAR) &&
    decide ((a.sum * b.n - b.sum * a.n).natAbs * 1000000 ≤ d.rd CE Reg.CE.REF_TOL * (a.n * b.n * rf)) &&
    decide ((a.sum * b.n + b.sum * a.n).natAbs * 1000000 ≤ 20000 * (2 * a.n * b.n * rf))

/-- VT_TGT moves by the fraction DISC_GAIN/256 of the error (R288). -/
def discipline (e : Int) (q : Nat) : Script := withDev fun d =>
  setVt (d.rd CE Reg.CE.VT_TGT - roundHalf (d.rd CE Reg.CE.DISC_GAIN * 100 * e) (256 * q * max 1 (d.rd CE Reg.CE.KV)))

/-- An accepted second: REF_ERR, VT_HOLD and T_HOLD, and what REF_STATE makes of it. In HOLD the REF_RELOCK-th in a row returns
to DISC, and R288 goes on with the next second. -/
def secondAccepted (e : Int) (q : Nat) : Script := withDev fun d =>
  let st := d.rd CE Reg.CE.REF_STATE
  seqs [
    putS CE Reg.CE.REF_ERR (roundOpen e q),
    startTimer .refHold (dtOfS (d.rd CE Reg.CE.DISC_HOLD)),
    modCe fun x => { x with accepted := true },
    if st = 2 then
      if d.ce.inRow + 1 ≥ d.rd CE Reg.CE.REF_RELOCK then seqs [
        modCe fun x => { x with inRow := 0, discAt := d.dt }, setRefState 1]
      else modCe fun x => { x with inRow := x.inRow + 1 }
    else seqs [
      put CE Reg.CE.VT_HOLD d.vtMean, put CE Reg.CE.T_HOLD (d.rd TM Reg.TM.COMP_T),
      when (st != 1) (seqs [modCe fun x => { x with discAt := d.dt }, setRefState 1]),
      discipline e q]]

/-- In HOLD the VTUNE target follows the compensation curve, every second (R289). -/
def holdTarget : Script := withDev fun d => when (d.rd CE Reg.CE.REF_STATE == 2)
  (setVt (d.rd CE Reg.CE.VT_HOLD + d.comp (d.rdS TM Reg.TM.COMP_T) - d.comp (d.rdS CE Reg.CE.T_HOLD)))

/-- A commit is due when REF_STATE has been DISC for 3,600 s since the last one and VT_HOLD differs by 4 or more (R294). -/
def refCommit : Script := withDev fun d =>
  let code := match d.ce.stored.find? fun e => e.kind == 7 with
    | some e => (num e.payload 0 2 : Int)
    | none => -4
  when (d.rd CE Reg.CE.REF_STATE == 1 && decide (d.dt ≥ d.ce.discAt + dtOfS 3600) &&
      decide (((d.rd CE Reg.CE.VT_HOLD : Int) - code).natAbs ≥ 4)) (modCe fun e => { e with due := true })

/-- A second of Device Time ends at the multiple `t` (R288, R289). -/
def refSecond (t : Nat) : Script := onMultiple 1 491520000 t (withDev fun d =>
  let a := d.refHalf (t - 245760000)
  let b := d.refHalf t
  seqs [
    modCe fun x => { x with refDet := x.refDet.filter fun y => decide (t < y.1) },
    when (d.configured && d.is CE Reg.CE.REF_EN) (seqs [
      if d.secondOk a b then secondAccepted (-((a.sum * b.n + b.sum * a.n) * 1000000)) (2 * a.n * b.n * d.refScale)
      else modCe fun x => { x with inRow := 0 },
      holdTarget, refCommit])])

/-- REF_SECOND (R288). -/
def execRefSecond (t : Nat) (s : State) : Host.Outcome State Fault Refusal := performSettled (refSecond t) s

/-- No second has been accepted for DISC_HOLD (R289). -/
def refHoldEntry : Script := withDev fun d => when (d.is CE Reg.CE.REF_EN && d.rd CE Reg.CE.REF_STATE == 1)
  (seqs [modCe fun x => { x with inRow := 0 }, setRefState 2])

/-- REF_HOLD_ENTRY (R289). -/
def execRefHoldEntry (s : State) : Host.Outcome State Fault Refusal := performSettled (onExpiry .refHold refHoldEntry) s

/-! ### Commits (R293, R294) -/

/-- CAL_SET_COMMIT (R294): only when one is due, none is in progress, none waits for its retry, and the medium is ready. -/
def execCalSetCommit (s : State) : Host.Outcome State Fault Refusal :=
  performSettled (withDev fun d =>
    when (d.ce.due && d.ce.committing.isNone && d.configured && d.writesUp && !d.running .calRetry) startCommit) s

/-- CAL_SET_COMMIT_DONE (R293). -/
def execCalSetCommitDone (ok : Bool) (s : State) : Host.Outcome State Fault Refusal := performSettled (finishCommit ok) s

/-- CAL_COMMIT_RETRY (R294). -/
def execCalCommitRetry (s : State) : Host.Outcome State Fault Refusal :=
  performSettled (onExpiry .calRetry (withDev fun d => when d.ce.committing.isNone startCommit)) s

end Sys2Proof.Machine
end

