-- ==== Sys2Proof/Machine/SlotOps.lean ====
section
/-! DEFINITION. What several commands share of slots and profiles: the steps that follow a confirmation (R315, R343; step 7 of
R313), and results of the commands of R311. -/

namespace Sys2Proof.Machine

/-! ### Results (R311, R359) -/

/-- CMD_RESULT codes of R311. -/
abbrev ccMode : Nat := 1
/-- SEQUENCE. -/
abbrev ccSequence : Nat := 2
/-- BUSY. -/
abbrev ccBusy : Nat := 3
/-- PROBATION. -/
abbrev ccProbation : Nat := 4
/-- NO_STAGED. -/
abbrev ccNoStaged : Nat := 5
/-- NOT_ON_PROBATION. -/
abbrev ccNotOnProbation : Nat := 6
/-- NO_PREVIOUS. -/
abbrev ccNoPrevious : Nat := 7
/-- FLOOR. -/
abbrev ccFloor : Nat := 8
/-- MEDIA. -/
abbrev ccMedia : Nat := 9
/-- INVALID. -/
abbrev ccInvalid : Nat := 0xA

/-- Status that a code of R311 maps to (R359); INVALID carries VAL_ERR as its DETAIL. -/
def ccStatus (r : Nat) : Nat :=
  if r = 0 then stSuccess
  else if r = ccMode then stMode
  else if r = ccBusy then stBusy
  else if r = ccMedia then stMedia
  else if r = ccInvalid then stInvalid
  else stRefused

/-- A command of the Config Controller ends with a code, and with `res` when it succeeds. -/
def ccComplete (tag r res : Nat) : Script := withDev fun d => seqs [
  put CC Reg.CC.CMD_RESULT r,
  complete tag (ccStatus r) (if r = ccInvalid then d.rd CC Reg.CC.VAL_ERR else r) res]

/-- Directory SEQ in force. -/
def Dev.dirSeq (d : Dev) : Nat := d.live CC Reg.CC.DIR_SEQ_LO

/-! ### The confirmation's later steps (R315, R343) -/

/-- The CONFIRM of this tag, if one asked, ends with a code of R311. -/
def endConfirm (tag : Option Nat) (r : Nat) : Script := withDev fun d =>
  match tag with
  | some t => ccComplete t r d.dirSeq
  | none => skip

/-- The CONFIRM of this tag ends with status OTP; R311 has no code for it, so CMD_RESULT and DETAIL are left open. -/
def endConfirmOtp (tag : Option Nat) : Script :=
  match tag with
  | some t => drawBelow 16 fun v => seqs [put CC Reg.CC.CMD_RESULT v, complete t stOtp v 0]
  | none => skip

/-- The container in Current. -/
def Dev.currentBytes (d : Dev) : List Byte :=
  match d.dirNow.cur with
  | some i => d.p0.slotBytes i
  | none => []

/-- The floor raise comes last (R315, R345). -/
def floorStep (tag : Option Nat) : Script := withDev fun d =>
  if d.floorPend d.dirNow then requestBurn (.floor tag (hSecVer d.currentBytes)) else endConfirm tag 0

/-- ACTIVE is written from PENDING and PENDING cleared (R343): `okA` and `okB` say whether the two P0 writes verify. -/
def activate (tag : Option Nat) (okA okB : Bool) : Script :=
  if !okA then endConfirm tag ccMedia
  else seqs [
    modP0 fun p => { p with active := p.waiting },
    if !okB then endConfirm tag ccMedia
    else seqs [modP0 fun p => { p with waiting := [] }, showCaddy, floorStep tag],
    when (!okB) showCaddy]

/-- The lowest empty profile slot (R341, R343). -/
def Dev.emptyProfile (d : Dev) : Option Nat := (List.range 8).find? fun i => d.profileState i == 0

/-- What a confirmed Current still needs: its profile burned, ACTIVE and PENDING, then the floor (R315, R343). -/
def confirmSteps (tag : Option Nat) (okA okB : Bool) : Script := withDev fun d =>
  let dg := hProfile d.currentBytes
  if !d.p0.waiting.isEmpty ∧ profileDigest d.p0.waiting = dg ∧ (d.wellFormed d.p0.waiting ∨ d.activeDigest = some dg) then
    if d.activeDigest = some dg then activate tag okA okB
    else match d.emptyProfile with
      | some i => requestBurn (.profile tag i dg (num d.p0.waiting 8 8))
      | none => endConfirmOtp tag
  else floorStep tag

end Sys2Proof.Machine
end

