-- ==== Sys2Proof/Machine/Modes.lean ====
section
/-! DEFINITION. Commands and events of the Mode Controller: mode requests (R85 to R88), Kindling (R80, R91, R312, R313), Ember
retries (R83), the ends of Backoff, Survey and Service (R80, R93, R195 to R197, R339). -/

namespace Sys2Proof.Machine

/-! ### Requests (R87) -/

/-- Results of R87. -/
abbrev rqBusy : Nat := 1
/-- ILLEGAL. -/
abbrev rqIllegal : Nat := 2
/-- CAUSE_ACTIVE. -/
abbrev rqCause : Nat := 3
/-- LOCKOUT. -/
abbrev rqLockout : Nat := 4
/-- TOKEN. -/
abbrev rqToken : Nat := 5
/-- PROFILE. -/
abbrev rqProfile : Nat := 6
/-- LINKS. -/
abbrev rqLinks : Nat := 7
/-- ALIGN. -/
abbrev rqAlign : Nat := 8
/-- NO_SURVEY. -/
abbrev rqNoSurvey : Nat := 9
/-- MEDIA. -/
abbrev rqMedia : Nat := 0xA

/-- A lockout clear is requested: the flag, with LOCKOUT set and Banked as the target (R86). -/
def Dev.clearing (d : Dev) (target : Mode) (clear : Bool) : Bool := clear && d.is MC Reg.MC.LOCKOUT && target == .banked

/-- R80 has the transition as a host request (R86 for a lockout clear). -/
def Dev.legal (d : Dev) (target : Mode) (clear : Bool) : Bool :=
  if d.clearing target clear then d.modeIn [.banked, .service]
  else match d.mode, target with
    | .cold, .kindling => d.variant.consistent
    | .banked, .survey => true
    | .banked, .carry => true
    | .banked, .service => true
    | .survey, .banked => true
    | .carry, .banked => true
    | .backoff, .banked => true
    | .service, .banked => true
    | _, _ => false

/-- Cold cannot be left for Kindling yet (R80, R496). -/
def Dev.kindleWaits (d : Dev) : Bool :=
  !d.is CK Reg.CK.ROOT_LOCK || !d.is WS Reg.WS.READY || d.mc.extest

/-- Checks 1 to 4 of R87. -/
def Dev.reqFirst (d : Dev) (target : Mode) (clear : Bool) : Option Nat :=
  if d.is MC Reg.MC.TRANSITION then some rqBusy
  else if d.mode = .cold ∧ target = .kindling ∧ d.variant.consistent ∧ d.kindleWaits then some rqBusy
  else if !d.legal target clear then some rqIllegal
  else if d.emberMask ≠ 0 ∨ (target = .survey ∧ d.backoffAmounts ≠ []) then some rqCause
  else if d.is MC Reg.MC.LOCKOUT ∧ (target = .survey ∨ target = .carry) then some rqLockout
  else none

/-- The profile permits the mode, and R8 holds for Carry. -/
def Dev.profilePermits (d : Dev) (target : Mode) : Bool :=
  (d.sections.all fun s => (d.rd (peU s) Reg.PE.MODES_OK).testBit target.enc) &&
    (target != .carry || (!d.cc.shadow.isEmpty && (d.profileFor (hProfile d.cc.shadow)).isSome))

/-- Checks 6 to 9 of R87. -/
def Dev.reqLast (d : Dev) (target : Mode) : Option Nat :=
  if !([Mode.survey, .carry, .service].contains target) then none
  else if !d.profilePermits target then some rqProfile
  else if !d.linksSynced then some rqLinks
  else if !d.is TB Reg.TB.ALIGNED then some rqAlign
  else if target = .carry ∧ !d.is MC Reg.MC.SURVEY_DONE ∧ (d.sections.any fun s => !(d.pathsOf s).isEmpty) then some rqNoSurvey
  else none

/-- The token type that the request needs; none where it needs none (R86, R87). -/
def Dev.reqToken (d : Dev) (target : Mode) (clear : Bool) : Option Nat :=
  if target = .service then some 1 else if d.clearing target clear then some 3 else none

/-- REQ_TARGET and REQ_RESULT (R93). -/
def showRequest (target : Mode) (r : Nat) : Script := seqs [put MC Reg.MC.REQ_TARGET target.enc, put MC Reg.MC.REQ_RESULT r]

/-- A request is refused (R87): the registers, the Note, and its status and detail (R359). -/
def refuseRequest (tag : Nat) (target : Mode) (r : Nat) : Script := withDev fun d => seqs [
  showRequest target r, noteRec MC 0x41 (leBytes 1 target.enc ++ leBytes 1 r),
  if r = rqToken then complete tag stToken (d.rd CY Reg.CY.TOKEN_RESULT) 0
  else complete tag (if r = rqBusy then stBusy else stRefused) r 0]

/-- An accepted request carries out its transition (R80, R86). `expiry` is EXPIRY_DT of a SERVICE token. -/
def carryOut (tag : Nat) (target : Mode) (clear : Bool) (expiry : Nat) : Script := withDev fun d => seqs [
  showRequest target 0,
  if d.clearing target clear then seqs [
    putB MC Reg.MC.TRANSITION true, requestDir (.lockoutClear tag (d.mode == .service))]
  else seqs [
    if target = .kindling then enterKindling 0x11 true
    else if target = .banked ∧ d.mode = .survey then changeMode .banked 0x21
    else changeMode target 0x11,
    when (target == .service) (startTimerAt .serviceToken expiry),
    complete tag stSuccess 0 d.dt]]

/-- The request after its token, if it needs one (R87). -/
def finishRequest (tag : Nat) (target : Mode) (clear : Bool) (expiry : Nat) : Script := withDev fun d =>
  match d.reqLast target with
  | some r => refuseRequest tag target r
  | none => carryOut tag target clear expiry

/-- Target and flag of a MODE-REQUEST (R361). -/
def Cmd.target (c : Cmd) : Mode := Mode.ofCode (c.par 24 1 % 8)
/-- CLEAR_LOCKOUT. -/
def Cmd.clearFlag (c : Cmd) : Bool := (c.par 25 1).testBit 0

/-- MODE-REQUEST passed the checks of R360; `data` is its token, or empty. -/
def modeRequest (tag : Nat) (data : List Byte) : Script := withDev fun d =>
  match d.passed tag 0x08 with
  | none => skip
  | some c => when (data.length == c.len) (
      match d.reqFirst c.target c.clearFlag with
      | some r => refuseRequest tag c.target r
      | none =>
        match d.reqToken c.target c.clearFlag with
        | none => finishRequest tag c.target c.clearFlag 0
        | some _ =>
          if data.isEmpty then seqs [tokenOutcome [] 1, refuseRequest tag c.target rqToken]
          else seqs [takeUp tag, requestSign (.token tag data)])

/-- MODE_REQUEST (R87). -/
def execModeRequest (tag : Nat) (data : List Byte) (s : State) : Host.Outcome State Fault Refusal :=
  performSettled (modeRequest tag data) s

/-- The Caddy has verified the token of the MODE-REQUEST `c`; the request is judged as the device now stands (R87, R88). -/
def modeToken (c : Cmd) (token : List Byte) : Script := withDev fun d =>
  match d.reqFirst c.target c.clearFlag with
  | some r => refuseRequest c.tag c.target r
  | none =>
    match d.reqToken c.target c.clearFlag with
    | none => finishRequest c.tag c.target c.clearFlag 0
    | some ty =>
      let res := d.tokenResult ty token
      seqs [
        tokenOutcome token res,
        if res = 0 then finishRequest c.tag c.target c.clearFlag (num token 64 8) else refuseRequest c.tag c.target rqToken]

/-- SURVEY (R195): the checks of R87 for Survey; the command then waits for the Survey's end. R90 has no code of its own for
this transition; its record carries 0x11 (DESIGN CHOICE, log entry 157; unsafe). -/
def surveyCmd (tag : Nat) : Script := withDev fun d =>
  match d.passed tag 0x09 with
  | none => skip
  | some _ =>
    match (d.reqFirst .survey false).or (d.reqLast .survey) with
    | some r => refuseRequest tag .survey r
    | none => seqs [showRequest .survey 0, changeMode .survey 0x11, takeUp tag]

/-- SURVEY. -/
def execSurvey (tag : Nat) (s : State) : Host.Outcome State Fault Refusal := performSettled (surveyCmd tag) s

/-! ### Kindling (R80, R91, R312, R313) -/

/-- AUTOBOOT (R80, R496): the strap takes the device out of the Cold that a reset left, once. -/
def autobootKindling : Script := withDev fun d =>
  when (d.mode == .cold && d.mc.autoboot && d.rd MC Reg.MC.TRANS_CNT == 0 && d.variant.consistent && !d.kindleWaits)
    (enterKindling 0x10 true)

/-- AUTOBOOT_KINDLING. -/
def execAutobootKindling (s : State) : Host.Outcome State Fault Refusal := performSettled autobootKindling s

/-- The Config Controller reads the directory and begins a pass of the loop (R312). -/
def kindlingEntry : Script := withDev fun d =>
  when (d.mode == .kindling && d.cc.phase == .entry && d.mediaUp) (seqs [readDirectory, kindleHead])

/-- KINDLING_ENTRY. -/
def execKindlingEntry (s : State) : Host.Outcome State Fault Refusal := performSettled kindlingEntry s

/-- Step 4 of R313: the validated container is applied, and what a configuration sizes or times starts over. -/
def applyStep (c : List Byte) : Script := withDev fun d => seqs [
  putB CC Reg.CC.SHADOW_OK true, put CC Reg.CC.STEP 4,
  applyContainer c ((d.profileFor (hProfile c)).getD []),
  resizePartitions, withDev fun e => when (decide (d.med.p1 < e.med.p1)) resumeP1,
  forEach d.sections restartRing, showCaptures,
  modBase fun b => { b with prevEdge := none }, putB TB Reg.TB.ALIGN_ARMED true,
  withDev fun e => startTimer .autoCal (dtOfS (60 * e.rd CE Reg.CE.AUTO_MIN)),
  withDev fun e => startTimer .kindle (dtOfMs (e.rd MC Reg.MC.KINDLE_TIMEOUT) - (e.dt - d.live MC Reg.MC.MODE_DT_LO)),
  put CC Reg.CC.STEP 5, modCc fun x => { x with phase := .selftest }]

/-- The slot is in the shadow: steps 2 to 4 of R313. -/
def loadSlot (ok : Bool) : Script := withDev fun d =>
  let c := d.currentBytes
  if !ok then failAttempt 0x02 0x15
  else
    let v := d.validate c c.length
    seqs [
      modCc fun x => { x with shadow := c }, put CC Reg.CC.STEP 3, showValidation v true,
      match v with
      | some _ => failAttempt 0x03 0x15
      | none => applyStep c]

/-- KINDLE_SLOT_LOADED (R313): `ok` says that the slot could be read. It comes once the Caddy has verified the container's signature
(R332). -/
def execKindleSlotLoaded (ok : Bool) (s : State) : Host.Outcome State Fault Refusal :=
  performSettled (withDev fun d => when (d.mode == .kindling && d.cc.phase == .loading && d.mediaUp && !d.checking) (loadSlot ok)) s

/-- Steps 5 to 8 of R313. -/
def selfTested (failed : List Nat) (other okA okB : Bool) : Script := withDev fun d => seqs [
  forEach d.sections fun s =>
    when (!failed.contains s) (seqs [putB (peU s) Reg.PE.SELFTEST_OK true, putB (peU s) Reg.PE.LOCKSTEP_ERR false]),
  if !other || d.sections.any failed.contains then failAttempt 0x04 0x15
  else seqs [
    put CC Reg.CC.STEP 6, loadCal, put CC Reg.CC.STEP 7,
    when (d.dirNow.cur.any fun i => (d.dirNow.slot i).confirmed) (confirmSteps none okA okB),
    put CC Reg.CC.STEP 8, modCc fun x => { x with phase := .links },
    forEach d.links startLink]]

/-- PE_SELFTEST_DONE (R209, R313): the sections whose engines failed; `other` says that the rest of step 5 passed, `okA` and
`okB` that the P0 writes of step 7 verify. It is taken when step 6 may begin, with no commit in progress (R293). -/
def execPeSelftestDone (failed : List Nat) (other okA okB : Bool) (s : State) : Host.Outcome State Fault Refusal :=
  performSettled (withDev fun d =>
    when (d.mode == .kindling && d.cc.phase == .selftest && d.ce.committing.isNone) (selfTested failed other okA okB)) s

/-- Every synthesiser has run its PROG to the end (R259). -/
def Dev.programmed (d : Dev) : Bool :=
  d.sections.all fun s => (List.range 8).all fun y => !(d.synthAt (s * 8 + y)).prog && (d.synthAt (s * 8 + y)).run != some .prog

/-- Kindling is complete: configuration applied, synthesisers programmed, links synchronised, alignment achieved, step 7 done (R80, R259,
R313). -/
def Dev.kindled (d : Dev) : Bool :=
  d.mode == .kindling && d.cc.phase == .links && d.is TB Reg.TB.ALIGNED && !d.is TB Reg.TB.ALIGN_ARMED && d.linksSynced &&
    d.programmed && d.cy.burns.isEmpty

/-- Kindling ends in Banked; a configuration on probation starts its window (R313, R314). -/
def kindlingComplete : Script := withDev fun d => when d.kindled (seqs [
  changeMode .banked 0x16,
  modCc fun x => { x with phase := .idle, tried := [],
                          probLeft := if d.dirNow.probation then dtOfS (hProbS d.currentBytes) else 0 },
  put CC Reg.CC.STEP 0])

/-- KINDLING_COMPLETE. -/
def execKindlingComplete (s : State) : Host.Outcome State Fault Refusal := performSettled kindlingComplete s

/-- A revert after a failed attempt waits for its directory write. -/
def Dev.reverting (d : Dev) : Bool := d.cc.ops.any fun o => match o with
  | .kindleRevert _ => true
  | _ => false

/-- KINDLE_TIMEOUT (R91). -/
def execKindleTimeout (s : State) : Host.Outcome State Fault Refusal :=
  performSettled (onExpiry .kindle (withDev fun d =>
    when (d.mode == .kindling && !d.reverting) (failAttempt 0x05 0x18))) s

/-! ### Ember (R83) -/

/-- The retry; a return to Kindling starts it afresh. -/
def emberRetry : Script := withDev fun d =>
  if d.rd MC Reg.MC.RETURN_MODE = Mode.kindling.enc then seqs [
    modMc fun m => { m with retries := d.dt :: m.retries },
    enterKindling 0x44 true,
    put MC Reg.MC.RETRY_HOUR (d.recentRetries.length + 1)]
  else retryEmber

/-- EMBER_HOLDOFF_EXPIRY (R83). -/
def execEmberHoldoffExpiry (s : State) : Host.Outcome State Fault Refusal :=
  performSettled (onExpiry .holdoff (withDev fun d => seqs [
    modMc fun m => { m with holdoffDone := true },
    when (d.mode == .ember && d.emberClear) emberRetry])) s

/-- EMBER_RETRY (R83): after the holdoff, once no cause is active. -/
def execEmberRetry (s : State) : Host.Outcome State Fault Refusal :=
  performSettled (withDev fun d => when (d.mode == .ember && d.mc.holdoffDone && d.emberClear) emberRetry) s

/-! ### Backoff, Survey, Service -/

/-- BACKOFF_DWELL_EXPIRY (R80, R93). -/
def execBackoffDwellExpiry (s : State) : Host.Outcome State Fault Refusal :=
  performSettled (onExpiry .backoffDwell (withDev fun d =>
    when (d.mode == .backoff && d.backoffAmounts.isEmpty) (changeMode .carry 0x33))) s

/-- Paths of a section that are not settled. -/
def Dev.unsettledPaths (d : Dev) (s : Nat) : List Nat := (d.pathsOf s).filter fun p => !d.is (dsU s) Reg.DS.P_SETTLED p

/-- The unsettled path with the highest COUPLING; the lowest index where several have it. -/
def Dev.worstUnsettled (d : Dev) (s : Nat) : Nat :=
  let c := fun p => (levelOf (d.rd (dsU s) Reg.DS.P_COUPLING p)).getD (-32768)
  match d.unsettledPaths s with
  | [] => 0xFF
  | p :: ps => ps.foldl (fun a b => if c b > c a then b else a) p

/-- The Survey ends unsettled (R197). -/
def surveyExpiry : Script := withDev fun d => when (d.mode == .survey) (seqs [
  forEach d.sections fun s =>
    let ps := d.unsettledPaths s
    when (!ps.isEmpty) (fireEvent (dsU s) 5
      (setScope (dsU s) 0xFF (uniq (ps.map (d.rcvOf s)))) [(ps.length : Int), (d.worstUnsettled s : Int)]),
  changeMode .banked 0x21])

/-- SURVEY_TIMER_EXPIRY (R197). -/
def execSurveyTimerExpiry (s : State) : Host.Outcome State Fault Refusal := performSettled (onExpiry .survey surveyExpiry) s

/-- SERVICE_TOKEN_EXPIRY (R339). -/
def execServiceTokenExpiry (s : State) : Host.Outcome State Fault Refusal :=
  performSettled (onExpiry .serviceToken (withDev fun d => when (d.mode == .service) (changeMode .banked 0x28))) s

end Sys2Proof.Machine
end

