-- ==== Sys2Proof/Machine/Slots.lean ====
section
/-! DEFINITION. Commands on configuration slots: STAGE and its validation, COMMIT, CONFIRM, REVERT (R311, R315), directory
writes (R308, R310), and probation (R314). -/

namespace Sys2Proof.Machine

/-! ### STAGE (R311) -/

/-- Bytes of a slot with data at an offset; bytes of the slot below the offset that nothing has written read 0. -/
def stagedBytes (old : List Byte) (off : Nat) (data : List Byte) : List Byte :=
  (old ++ List.replicate (off - old.length) 0).take off ++ data

/-- The data of a STAGE is on the medium when `ok`; with FINAL its validation starts, else the command is done. -/
def stageData (tag off : Nat) (data : List Byte) (final ok : Bool) : Script := withDev fun d =>
  let i := d.dirNow.stg
  if !ok then ccComplete tag ccMedia 0
  else seqs [
    setSlotBytes i (stagedBytes (d.p0.slotBytes i) off data),
    put CC Reg.CC.STAGE_BYTES (off + data.length), put CC Reg.CC.STAGE_STATE (if final then 2 else 1),
    if final then seqs [modCc fun c => { c with validating := some tag }, requestSign .container] else ccComplete tag 0 (off + data.length)]

/-- STAGE is taken: its checks, then a directory write at OFFSET 0, or its data (R310, R311). -/
def stage (tag : Nat) (data : List Byte) (ok : Bool) : Script := withDev fun d =>
  match d.passed tag 0x01 with
  | none => skip
  | some c =>
    let off := c.par 24 4
    let final := (c.par 28 1).testBit 0
    when (data.length == c.len && d.cc.ops.isEmpty) (
      if !d.modeIn [.cold, .banked, .carry, .backoff, .ember, .service] || (d.mode == .cold && !d.is WS Reg.WS.READY) then
        ccComplete tag ccMode 0
      else if (off ≠ 0 ∧ off ≠ d.rd CC Reg.CC.STAGE_BYTES) ∨ off + data.length > 4194304 then ccComplete tag ccSequence 0
      else if d.cc.validating.isSome then ccComplete tag ccBusy 0
      else when d.writesUp (seqs [
        takeUp tag,
        if off = 0 then requestDir (.stageBegin tag data final ok) else stageData tag off data final ok]))

/-- STAGE: `ok` says whether the data's write to the medium verifies. -/
def execStage (tag : Nat) (data : List Byte) (ok : Bool) (s : State) : Host.Outcome State Fault Refusal :=
  performSettled (stage tag data ok) s

/-- The directory write that ends a validation waits. -/
def Dev.stageEnding (d : Dev) : Bool := d.cc.ops.any fun o => match o with
  | .stageEnd _ _ => true
  | _ => false

/-- Validation of the staged slot ends, once the Caddy has verified its signature (R307, R311, R332). -/
def stageValidated : Script := withDev fun d =>
  match d.cc.validating with
  | none => skip
  | some tag => when (!d.stageEnding && !d.checking) (
      let v := d.validate (d.p0.slotBytes d.dirNow.stg) (d.rd CC Reg.CC.STAGE_BYTES)
      seqs [
        showValidation v false, put CC Reg.CC.STAGE_STATE (if v.isNone then 3 else 4),
        requestDir (.stageEnd tag v.isNone)])

/-- STAGE_VALIDATION_DONE. -/
def execStageValidationDone (s : State) : Host.Outcome State Fault Refusal := performSettled stageValidated s

/-! ### COMMIT, CONFIRM, REVERT (R311, R315) -/

/-- COMMIT is taken; its transition is in progress until its directory write ends. -/
def commit (tag : Nat) : Script := withDev fun d =>
  match d.passed tag 0x02 with
  | none => skip
  | some _ => when d.cc.ops.isEmpty (
      if d.mode ≠ .banked then ccComplete tag ccMode 0
      else if d.dirNow.probation then ccComplete tag ccProbation 0
      else if d.dirNow.stateOf (some d.dirNow.stg) ≠ 2 then ccComplete tag ccNoStaged 0
      else seqs [takeUp tag, putB MC Reg.MC.TRANSITION true, requestDir (.commit tag)])

/-- COMMIT. -/
def execCommit (tag : Nat) (s : State) : Host.Outcome State Fault Refusal := performSettled (commit tag) s

/-- An automatic revert awaits its directory write, or the retry of one (R314). -/
def Dev.autoReverting (d : Dev) : Bool := d.running .revertRetry || d.cc.ops.any fun o => match o with
  | .autoRevert => true
  | _ => false

/-- CONFIRM is taken (R315). -/
def confirm (tag : Nat) : Script := withDev fun d =>
  match d.passed tag 0x03 with
  | none => skip
  | some _ => when (d.cc.ops.isEmpty || d.autoReverting) (
      if !d.modeIn [.banked, .survey, .carry, .backoff, .ember, .service] then ccComplete tag ccMode 0
      else if !d.dirNow.probation then ccComplete tag ccNotOnProbation 0
      else if d.autoReverting then ccComplete tag ccBusy 0
      else seqs [takeUp tag, requestDir (.confirm tag)])

/-- CONFIRM. -/
def execConfirm (tag : Nat) (s : State) : Host.Outcome State Fault Refusal := performSettled (confirm tag) s

/-- REVERT is taken (R311). -/
def revert (tag : Nat) : Script := withDev fun d =>
  let x := d.dirNow
  match d.passed tag 0x04 with
  | none => skip
  | some _ => when d.cc.ops.isEmpty (
      if d.mode ≠ .banked then ccComplete tag ccMode 0
      else if x.stateOf x.prev ≠ 3 then ccComplete tag ccNoPrevious 0
      else if x.prev.any (fun i => decide ((x.slot i).secVer < d.floor)) then ccComplete tag ccFloor 0
      else seqs [takeUp tag, putB MC Reg.MC.TRANSITION true, requestDir (.revert tag)])

/-- REVERT. -/
def execRevert (tag : Nat) (s : State) : Host.Outcome State Fault Refusal := performSettled (revert tag) s

/-! ### Directory writes (R308, R310, R312) -/

/-- The loop's next test after a revert (R312): another pass, which is a Kindling of its own, or Cold. -/
def nextAttempt (cause : Nat) : Script := withDev fun d => when (d.mode == .kindling && d.cc.phase == .writing) (
  if d.kindleUsable d.dirNow then seqs [
    changeMode .kindling cause, modCc fun c => { c with phase := .entry, firstPass := false }, putB CC Reg.CC.SHADOW_OK false, put CC Reg.CC.STEP 1]
  else kindleCold 0x06)

/-- A COMMIT, a REVERT or an automatic revert leads to Kindling from the modes that R80 names. -/
def kindleFrom (ms : List Mode) (cause : Nat) : Script := withDev fun d => when (d.modeIn ms) (enterKindling cause true)

/-- The write of an operation has verified, and the operation goes on. -/
def dirWritten (op : DirOp) (okA okB : Bool) : Script := withDev fun d =>
  match op with
  | .stageBegin tag bytes final ok => seqs [
      put CC Reg.CC.STAGE_BYTES 0, put CC Reg.CC.STAGE_STATE 1, stageData tag 0 bytes final ok]
  | .stageEnd tag ok => seqs [
      modCc fun c => { c with validating := none },
      ccComplete tag (if ok then 0 else ccInvalid) (d.rd CC Reg.CC.STAGE_BYTES)]
  | .commit tag => seqs [
      put CC Reg.CC.STAGE_STATE 0, putB MC Reg.MC.TRANSITION false, ccComplete tag 0 d.dirSeq, kindleFrom [.banked] 0x12]
  | .promote => seqs [
      put CC Reg.CC.STAGE_STATE 0,
      when (d.mode == .kindling && d.cc.phase == .writing && !d.reverting) kindleHead]
  | .bootTry => when (d.mode == .kindling && d.cc.phase == .writing && !d.reverting) startLoad
  | .confirm tag => seqs [modCc fun c => { c with probLeft := 0 }, confirmSteps (some tag) okA okB]
  | .revert tag => seqs [putB MC Reg.MC.TRANSITION false, ccComplete tag 0 d.dirSeq, kindleFrom [.banked] 0x13]
  | .autoRevert => kindleFrom [.banked, .survey, .carry, .backoff] 0x14
  | .kindleRevert cause => nextAttempt cause
  | .lockoutSet _ => skip
  | .lockoutClear tag _ => seqs [
      putB MC Reg.MC.LOCKOUT false, put MC Reg.MC.LOCKOUT_CAUSE 0,
      putB MC Reg.MC.TRANSITION false, modMc fun m => { m with retries := [] },
      when (d.modeIn [.banked, .service]) (changeMode .banked 0x51),
      complete tag stSuccess 0 d.dt]

/-- The write of an operation has failed: the old directory stays in force (R86, R310, R312, R314, R315). -/
def dirFailed (op : DirOp) : Script := withDev fun d =>
  match op with
  | .stageBegin tag _ _ _ => ccComplete tag ccMedia 0
  | .stageEnd tag _ => seqs [modCc fun c => { c with validating := none }, ccComplete tag ccMedia 0]
  | .commit tag => seqs [putB MC Reg.MC.TRANSITION false, ccComplete tag ccMedia 0]
  | .promote => when (d.mode == .kindling && d.cc.phase == .writing && !d.reverting) (kindleCold 0x06)
  | .bootTry => when (d.mode == .kindling && d.cc.phase == .writing && !d.reverting) (failAttempt 0x02 0x15)
  | .confirm tag => seqs [
      modCc fun c => { c with probLeft := max c.probLeft (dtOfS 60) }, ccComplete tag ccMedia 0]
  | .revert tag => seqs [putB MC Reg.MC.TRANSITION false, ccComplete tag ccMedia 0]
  | .autoRevert => startTimer .revertRetry (dtOfS 1)
  | .kindleRevert cause => nextAttempt cause
  | .lockoutSet _ => skip
  | .lockoutClear tag _ => seqs [
      putB MC Reg.MC.TRANSITION false, put MC Reg.MC.REQ_RESULT rqMedia, complete tag stMedia rqMedia 0]

/-- The write of the operation that has waited longest ends: `ok` says whether it verifies, `okA` and `okB` the same of the
writes to ACTIVE and PENDING that a confirmation may make at once (R343). -/
def directoryWriteDone (ok okA okB : Bool) : Script := withDev fun d =>
  match d.cc.ops with
  | [] => skip
  | op :: rest => when d.writesUp (seqs [
      modCc fun c => { c with ops := rest },
      if ok then seqs [writeDirectory op, dirWritten op okA okB]
      else seqs [fireEvent CC 6 devScope [], dirFailed op]])

/-- DIRECTORY_WRITE_DONE (R310). -/
def execDirectoryWriteDone (ok okA okB : Bool) (s : State) : Host.Outcome State Fault Refusal :=
  performSettled (directoryWriteDone ok okA okB) s

/-! ### Probation (R314) -/

/-- The window has run out: an automatic revert where Previous is usable. -/
def probationEnd : Script := withDev fun d => seqs [
  modCc fun c => { c with probLeft := 0 },
  when (d.prevOk d.dirNow) (requestDir .autoRevert)]

/-- PROBATION_EXPIRY. -/
def execProbationExpiry (s : State) : Host.Outcome State Fault Refusal := performSettled (onExpiry .probation probationEnd) s

/-- The retry of an automatic revert's write. In Ember and Service, which R80 does not leave for Kindling, it waits (DEDUCED, log entry
171; unsafe). -/
def retryRevert : Script := withDev fun d => when d.dirNow.probation (
  if d.probCounts then requestDir .autoRevert else startTimer .revertRetry (dtOfS 1))

/-- REVERT_WRITE_RETRY (R314). -/
def execRevertWriteRetry (s : State) : Host.Outcome State Fault Refusal := performSettled (onExpiry .revertRetry retryRevert) s

end Sys2Proof.Machine
end

