-- ==== Sys2Proof/Machine/Security.lean ====
section
/-! DEFINITION. Commands on the Caddy: nonces (R337), owners (R334), profiles (R342), attestation (R344), OTP burns (R324, R325),
the random generator (R346), and what follows a token that has been verified. -/

namespace Sys2Proof.Machine

/-! ### Results (R348, R359) -/

/-- CMD_RESULT codes of R348. -/
abbrev cyMode : Nat := 1
/-- TOKEN. -/
abbrev cyToken : Nat := 2
/-- FULL. -/
abbrev cyFull : Nat := 3
/-- LAST_OWNER. -/
abbrev cyLastOwner : Nat := 4
/-- OBJECT. -/
abbrev cyObject : Nat := 5
/-- OTP. -/
abbrev cyOtp : Nat := 6
/-- MEDIA. -/
abbrev cyMedia : Nat := 7
/-- IDENTITY. -/
abbrev cyIdentity : Nat := 8
/-- BUSY. -/
abbrev cyBusy : Nat := 9

/-- Status of a code of R348. -/
def cyStatus (r : Nat) : Nat :=
  if r = 0 then stSuccess else if r = cyMode then stMode else if r = cyToken then stToken else if r = cyOtp then stOtp
  else if r = cyMedia then stMedia else if r = cyIdentity then stIdentity else if r = cyBusy then stBusy else stRefused

/-- A command of the Caddy ends with a code; a token refusal carries TOKEN_RESULT. -/
def cyComplete (tag r res : Nat) : Script := withDev fun d => seqs [
  put CY Reg.CY.CMD_RESULT r,
  complete tag (cyStatus r) (if r = cyToken then d.rd CY Reg.CY.TOKEN_RESULT else r) res]

/-! ### Nonces (R337) and the random generator (R346) -/

/-- A write of NONCE_CTRL.NEW. -/
def nonceNew : Script := withDev fun d =>
  if d.verifying then rejectWrite CY 0x10C 6
  else if !d.is CY Reg.CY.RNG_OK then clearNonce
  else drawBelow (2 ^ 128) fun v =>
    let n := leBytes 16 v
    seqs [
      modCy fun c => { c with nonce := n }, putB CY Reg.CY.NONCE_VALID true, putLive CY Reg.CY.NONCE_DT_LO d.dt,
      forEach (List.range 4) fun i => put CY Reg.CY.NONCE (num n (4 * i) 4) i]

/-- NONCE_NEW. -/
def execNonceNew (s : State) : Host.Outcome State Fault Refusal := performSettled nonceNew s

/-- The random generator's health tests pass, or one fails (R346). -/
def rngHealth (ok : Bool) : Script := seqs [putB CY Reg.CY.RNG_OK ok, condSet (!ok) CY 2 0 noScope []]

/-- RANDOM_GENERATOR_HEALTH. -/
def execRandomGeneratorHealth (ok : Bool) (s : State) : Host.Outcome State Fault Refusal := performSettled (rngHealth ok) s

/-! ### Owners (R333, R334) -/

/-- Owner slots that burns in progress will enrol. -/
def Dev.enrolling (d : Dev) : List Nat := d.cy.burns.filterMap fun b => match b with
  | .enrol _ i _ => some i
  | _ => none

/-- The lowest empty owner slot that no burn in progress takes (R334, R345). -/
def Dev.emptyOwner (d : Dev) : Option Nat :=
  (List.range 4).find? fun i => d.ownerState i == 0 && !d.enrolling.contains i

/-- No slot has ever left state empty (R334). -/
def Dev.virgin (d : Dev) : Bool := d.enrolling.isEmpty && (List.range 4).all fun i => d.ownerState i == 0

/-- The slot is the only enrolled one (R334, R345). -/
def Dev.lastOwner (d : Dev) (i : Nat) : Bool :=
  ((List.range 4).filter fun k => d.enrolled k && !d.revoking.contains k) == [i]

/-- The OWNER record (R334, R471). -/
def ownerRecord (op slot res : Nat) (key : List Byte) : Script :=
  auditRec CY 0x41 (leBytes 1 op ++ leBytes 1 slot ++ leBytes 1 res ++ (digest64 key).take 12)

/-- An OWNER-ENROL or OWNER-REVOKE ends: its record and its status. -/
def endOwner (tag op slot res : Nat) (key : List Byte) : Script := seqs [
  ownerRecord op slot res key, cyComplete tag res slot]

/-- Key in the data of an OWNER-ENROL. -/
def enrolKey (data : List Byte) : List Byte := data.take 57

/-- OWNER-ENROL passed the checks of R360 (R334). -/
def ownerEnrol (tag : Nat) (data : List Byte) : Script := withDev fun d =>
  match d.passed tag 0x29 with
  | none => skip
  | some c => when (data.length == c.len) (
      let key := enrolKey data
      let slot := d.emptyOwner.getD 0xFF
      if !d.modeIn [.cold, .banked] then endOwner tag 0x29 slot cyMode key
      else match d.emptyOwner with
        | none => endOwner tag 0x29 slot cyFull key
        | some i =>
          if d.virgin then seqs [takeUp tag, requestBurn (.enrol tag i key)]
          else if data.length = 64 then seqs [tokenOutcome [] 1, endOwner tag 0x29 slot cyToken key]
          else seqs [modCmd tag fun x => { x with state := .running, data := data.take 57 },
            requestSign (.token tag (data.drop 64))])

/-- OWNER_ENROL. -/
def execOwnerEnrol (tag : Nat) (data : List Byte) (s : State) : Host.Outcome State Fault Refusal :=
  performSettled (ownerEnrol tag data) s

/-- OWNER-REVOKE passed the checks of R360 (R334); `data` is its token. -/
def ownerRevoke (tag : Nat) (data : List Byte) : Script := withDev fun d =>
  match d.passed tag 0x2A with
  | none => skip
  | some c => when (data.length == c.len) (
      let slot := c.par 24 1
      if d.mode ≠ .banked then endOwner tag 0x2A slot cyMode (d.ownerKey slot)
      else seqs [takeUp tag, requestSign (.token tag data)])

/-- OWNER_REVOKE. -/
def execOwnerRevoke (tag : Nat) (data : List Byte) (s : State) : Host.Outcome State Fault Refusal :=
  performSettled (ownerRevoke tag data) s

/-- The result of a token whose PARAM must also equal what the command carries: PARAM where it does not. -/
def Dev.boundToken (d : Dev) (ty : Nat) (k want : List Byte) : Nat :=
  let r := d.tokenResult ty k
  if r = 0 ∧ field k 80 want.length ≠ want then 8 else r

/-- The token of an OWNER-ENROL has been verified (R334, R345). -/
def enrolToken (c : Cmd) (token : List Byte) : Script := withDev fun d =>
  let slot := d.emptyOwner.getD 0xFF
  if !d.modeIn [.cold, .banked] then endOwner c.tag 0x29 slot cyMode c.data
  else match d.emptyOwner with
    | none => endOwner c.tag 0x29 slot cyFull c.data
    | some i =>
      let res := d.boundToken 4 token c.data
      seqs [
        tokenOutcome token res,
        if res = 0 then requestBurn (.enrol c.tag i c.data) else endOwner c.tag 0x29 slot cyToken c.data]

/-- The token of an OWNER-REVOKE has been verified (R334, R345). -/
def revokeToken (c : Cmd) (token : List Byte) : Script := withDev fun d =>
  let slot := c.par 24 1
  let key := d.ownerKey slot
  if d.mode ≠ .banked then endOwner c.tag 0x2A slot cyMode key
  else
    let res := d.boundToken 5 token (leBytes 1 slot)
    seqs [
      tokenOutcome token res,
      if res ≠ 0 then endOwner c.tag 0x2A slot cyToken key
      else if d.lastOwner slot then endOwner c.tag 0x2A slot cyLastOwner key
      else requestBurn (.revoke c.tag slot)]

/-! ### Profiles (R340 to R342) -/

/-- The object is written to PENDING (R342). -/
def installPending (tag : Nat) (o : List Byte) (ok : Bool) : Script := withDev fun d =>
  if d.emptyProfile.isNone then cyComplete tag cyFull 0
  else if !ok then cyComplete tag cyMedia 0
  else seqs [modP0 fun p => { p with waiting := o }, showCaddy, cyComplete tag 0 0]

/-- The modes that take a profile: Cold once the medium is discovered, and Banked (R342). -/
def Dev.takesProfiles (d : Dev) : Bool := d.mode == .banked || (d.mode == .cold && d.is WS Reg.WS.READY)

/-- PROFILE-INSTALL passed the checks of R360 (R342): `ok` says whether a write to ACTIVE verifies. The signature of any object but
one with the active digest goes to the Caddy's engine. -/
def profileInstall (tag : Nat) (data : List Byte) (ok : Bool) : Script := withDev fun d =>
  match d.passed tag 0x28 with
  | none => skip
  | some c => when (data.length == c.len) (
      let o := data.take 1280
      if !d.takesProfiles then cyComplete tag cyMode 0
      else if !profileFields o then cyComplete tag cyObject 0
      else if d.activeDigest = some (profileDigest o) then when d.writesUp
        (if ok then seqs [modP0 fun p => { p with active := o }, showCaddy, cyComplete tag 0 0] else cyComplete tag cyMedia 0)
      else seqs [modCmd tag fun x => { x with state := .running, data := o }, requestSign (.profile tag (data.drop 1280))])

/-- PROFILE_INSTALL. -/
def execProfileInstall (tag : Nat) (data : List Byte) (ok : Bool) (s : State) : Host.Outcome State Fault Refusal :=
  performSettled (profileInstall tag data ok) s

/-- The signature of a PROFILE-INSTALL's object has been verified (R342); `token` is what the command carries behind the object. -/
def installSigned (c : Cmd) (token : List Byte) : Script := withDev fun d =>
  if !d.takesProfiles then cyComplete c.tag cyMode 0
  else if !d.wellFormed c.data then cyComplete c.tag cyObject 0
  else if token.isEmpty then seqs [tokenOutcome [] 1, cyComplete c.tag cyToken 0]
  else requestSign (.token c.tag token)

/-- The token of a PROFILE-INSTALL has been verified (R342): `ok` says whether the write to PENDING verifies. -/
def installToken (c : Cmd) (token : List Byte) (ok : Bool) : Script := withDev fun d =>
  if !d.takesProfiles then cyComplete c.tag cyMode 0
  else
    let res := d.boundToken 6 token (profileDigest c.data)
    seqs [
      tokenOutcome token res,
      if res = 0 then installPending c.tag c.data ok else cyComplete c.tag cyToken 0]

/-! ### Attestation (R344) -/

/-- HOST_NONCE of an ATTEST. -/
def Cmd.hostNonce (c : Cmd) : List Byte := field c.entry 24 32

/-- The bytes 0 to 383 of the statement that the state gives (R344). In Cold what describes Current and the profile is 0. -/
def Dev.statement (d : Dev) (nonce : List Byte) : List Byte :=
  let run := d.mode != .cold
  let c := if run then d.currentBytes else []
  let dg := if run then hProfile d.cc.shadow else []
  let prof := (d.profileFor dg).getD []
  let pad := fun (bs : List Byte) (n : Nat) => (bs ++ List.replicate n 0).take n
  leBytes 4 0x54415644 ++ leBytes 2 1 ++ leBytes 1 d.variant.index ++
    leBytes 1 (b2n (run && d.dirNow.probation) + 2 * b2n (run && !dg.isEmpty && !d.burned dg) + 4 * d.rd MC Reg.MC.LOCKOUT +
      8 * d.rd TB Reg.TB.WALL_VALID + 16 * d.rd CE Reg.CE.SET_VALID) ++
    pad d.cy.pub 57 ++ List.replicate 7 0 ++ leBytes 8 d.dt ++ leBytes 4 d.clock.wall.ns ++ leBytes 4 d.clock.wall.sec ++
    leBytes 2 d.clock.epoch ++ leBytes 1 d.mode.enc ++ leBytes 1 d.floor ++ leBytes 1 (d.rd CY Reg.CY.OWNER_STATE) ++
    leBytes 1 (d.rd CY Reg.CY.PROFILES_USED) ++ leBytes 2 0 ++ pad nonce 32 ++
    pad (if c.isEmpty then [] else cDigest c) 64 ++ leBytes 8 (hConfigVer c) ++ leBytes 2 (hSecVer c) ++ leBytes 1 (hOwner c) ++
    List.replicate 5 0 ++ pad dg 64 ++ leBytes 8 (num prof 8 8) ++
    (List.range 16).flatMap (fun i => leBytes 4 (d.rd CE Reg.CE.SET_DIGEST i)) ++ leBytes 8 (d.live CE Reg.CE.SET_SEQ_LO) ++
    pad d.ev.placedChain 16 ++ leBytes 8 d.ev.placedSeq ++ leBytes 8 0

/-- When the engine starts an attestation, its statement is sampled and its record follows (R332, R344). -/
def startFront : Script := withDev fun d =>
  match d.cy.queue with
  | .attest tag [] :: rest =>
    match d.cmdOf tag with
    | some c => seqs [
        modCy fun y => { y with queue := .attest tag (d.statement c.hostNonce) :: rest },
        noteRec CY 0x44 (c.hostNonce.take 16)]
    | none => skip
  | _ => skip

/-- ATTEST passed the checks of R360 (R328, R332, R344). -/
def attest (tag : Nat) : Script := withDev fun d =>
  match d.passed tag 0x0D with
  | none => skip
  | some _ =>
    if !d.is CY Reg.CY.ID_OK then cyComplete tag cyIdentity 0
    else if ((d.cy.queue.drop 1).filter SignReq.isAttest).length ≥ 4 then cyComplete tag cyBusy 0
    else seqs [takeUp tag, requestSign (.attest tag []), startFront]

/-- ATTEST. -/
def execAttest (tag : Nat) (s : State) : Host.Outcome State Fault Refusal := performSettled (attest tag) s

/-- The signature of an attestation is made: 512 bytes go to the host (R344, R361). -/
def attested (tag : Nat) (st : List Byte) : Script := withDev fun d => seqs [
  incWrap CY Reg.CY.SIGN_CNT, put CY Reg.CY.CMD_RESULT 0,
  complete tag stSuccess 0 (num st 72 8)
    (st ++ Config.ed448Sign d.cy.seed (ascii "DV96 attest v1") st ++ List.replicate 14 0)]

/-! ### OTP burns (R324, R325) -/

/-- What a burn of `want` leaves: `got` masks the bits that burn; bytes beyond `got` burn wholly. -/
def burnt (want got : List Byte) : List Byte := want.zipIdx.map fun x => x.1 &&& got.getD x.2 0xFF

/-- A burn of `body` and then, once it has read back right, of the marker at `at'`; `ok` and `bad` follow. -/
def burnMarked (base : Nat) (body : List Byte) (mark : Nat) (got : List Byte) (ok bad : Script) : Script :=
  let b := burnt body got
  let m := burnt [0x5A, 0xA5] (got.drop body.length)
  if b ≠ body then seqs [burnBytes base b, bad]
  else seqs [burnBytes base b, burnBytes mark m, if m = [0x5A, 0xA5] then ok else bad]

/-- A burn has failed (R324): the source, the count, then the command or step that needed it. -/
def burnFailed (p : Script) : Script := seqs [inc CY Reg.CY.BURN_FAIL, showCaddy, fireEvent CY 1 devScope [], p]

/-- The floor's bits from the floor up to `target`, in order (R325). `got` tells of each whether it burned (2 or more), burned
at the second try (1), or not (0); bits beyond `got` burned. -/
def burnFloor (target : Nat) (got : List Byte) : Nat → Nat → Script
  | 0, _ => skip
  | n + 1, i => withDev fun d =>
    let f := d.floor
    if f ≥ target then skip
    else
      let g := (got.getD i 2).toNat
      if g = 0 then incBy CY Reg.CY.BURN_FAIL 2
      else seqs [
        when (g == 1) (inc CY Reg.CY.BURN_FAIL),
        upd (.burn (0x0E80 + f / 8) (2 ^ (f % 8))), burnFloor target got n (i + 1)]

/-- The raise of the floor ends (R315, R325). -/
def endFloor (tag : Option Nat) (old target : Nat) : Script := withDev fun d => seqs [
  showCaddy, showDirectory,
  if d.floor ≥ target then seqs [auditRec CY 0x42 (leBytes 1 old ++ leBytes 1 d.floor), endConfirm tag 0]
  else seqs [fireEvent CY 1 devScope [], endConfirmOtp tag]]

/-- The burn that has waited longest ends: `got` is what its read-back shows; `okA` and `okB` tell whether the writes to
ACTIVE and PENDING that follow a profile's burn verify (R343). -/
def otpBurnDone (got : List Byte) (okA okB : Bool) : Script := withDev fun d =>
  match d.cy.burns with
  | [] => skip
  | b :: rest => seqs [
      modCy fun c => { c with burns := rest },
      match b with
      | .enrol tag i key => burnMarked (ownerAt i) key (ownerAt i + 64) got
          (seqs [showCaddy, endOwner tag 0x29 i 0 key]) (burnFailed (endOwner tag 0x29 i cyOtp key))
      | .revoke tag i => burnMarked (ownerAt i + 66) [] (ownerAt i + 66) got
          (seqs [showCaddy, endOwner tag 0x2A i 0 (d.ownerKey i)]) (burnFailed (endOwner tag 0x2A i cyOtp (d.ownerKey i)))
      | .profile tag i dg ver => burnMarked (profileAt i) (dg ++ leBytes 8 ver) (profileAt i + 78) got
          (seqs [showCaddy, auditRec CY 0x43 (leBytes 1 i ++ dg.take 15), activate tag okA okB]) (burnFailed (endConfirmOtp tag))
      | .floor tag target => seqs [burnFloor target got 64 0, endFloor tag d.floor target]]

/-- OTP_BURN_DONE (R324). -/
def execOtpBurnDone (got : List Byte) (okA okB : Bool) (s : State) : Host.Outcome State Fault Refusal :=
  performSettled (otpBurnDone got okA okB) s

end Sys2Proof.Machine
end

