-- ==== Sys2Proof/Machine/Recorder.lean ====
section
/-! DEFINITION. Commands and events of the Event Recorder: closing, losses and seals (R412 to R414), commits (R415 to R417), the scan
(R418), reading, freezing and clearing (R419 to R421). -/

namespace Sys2Proof.Machine

/-! ### Closing (R410, R412) -/

/-- SEQ of a class's CLEAR record while its partition waits for it (R421). -/
def Recorder.clearSeq (e : Recorder) (audit : Bool) : Option Nat :=
  match e.clear with
  | some c => if audit then c.p1Seq else c.p2Seq
  | none => none

/-- The queue entry of a record. -/
def QSlot.isRec (q : QSlot) : Bool := match q.kind with
  | .sealPart _ _ => false
  | _ => true

/-- A record closes: its CHAIN is computed, and it is placed; one that a clear passes over is then discarded (R421). A FULL
marker is sealed at its close (R415). -/
def closeRecord (q : QSlot) : Script := withDev fun d =>
  let a := q.r.audit
  let c := d.ev.chain a
  let seq := q.r.seq.getD 0
  let chain := Config.shake256 (c.head ++ q.r.bytes48) 16
  let c' := { c with
    head := chain, headSeq := seq, closed := c.closed + 1
    firstClosed := if c.closed = 0 then d.dt else c.firstClosed, lastRec := some q.r }
  let gone := (d.ev.clearSeq a).any fun n => decide (seq < n)
  seqs [
    setEv fun e => { (e.setChain a c') with
      queue := if gone then e.queue.filter (·.slot != q.slot)
        else e.queue.map fun x => if x.slot = q.slot then { x with kind := .placed chain } else x
      placedChain := chain, placedSeq := seq },
    showHeads,
    when (a && q.r.code == 0x41 && q.r.source == EV) (requestSeal true)]

/-- The oldest open record that has its SEQ closes at DT + 491,520,000 dt, or at once when that is past. -/
def recordClose : Script := withDev fun d =>
  match d.ev.queue.find? fun q => q.isOpen && q.r.seq.isSome with
  | none => skip
  | some q => when d.base.counting (seqs [advanceTo (q.r.dt + openWindow), closeRecord q])

/-- RECORD_CLOSE (R412). -/
def execRecordClose (s : State) : Host.Outcome State Fault Refusal := performSettled recordClose s

/-! ### Losses (R413) -/

/-- The LOSS record is created as soon as the queue allows a new record. -/
def lossRecord : Script := withDev fun d =>
  let e := d.ev
  when (decide (e.lostAud + e.lostOp > 0) && e.admits) (seqs [
    createRec {
      audit := decide (e.lostAud > 0), sev := 1, code := 0x42, source := EV
      payload := leBytes 4 (min (2 ^ 32 - 1) e.lostAud) ++ leBytes 4 (min (2 ^ 32 - 1) e.lostOp) ++ leBytes 8 e.firstLoss },
    modEv fun e => { e with lostAud := 0, lostOp := 0, firstLoss := 0, lossFired := false }])

/-- LOSS_RECORD. -/
def execLossRecord (s : State) : Host.Outcome State Fault Refusal := performSettled lossRecord s

/-! ### Seals (R414) -/

/-- A class's seal falls due: after 4,096 closed records, or 491,520,000 dt after the first of them. -/
def sealDue (audit : Bool) : Script := withDev fun d =>
  let c := d.ev.chain audit
  when (decide (c.closed > 0) && d.base.counting) (seqs [
    when (decide (c.closed < 4096)) (advanceTo (c.firstClosed + openWindow)), requestSeal audit])

/-- SEAL_DUE. -/
def execSealDue (audit : Bool) (s : State) : Host.Outcome State Fault Refusal := performSettled (sealDue audit) s

/-! ### Commits (R415 to R417) -/

/-- What a queue entry becomes on the medium. -/
def QSlot.stored (q : QSlot) : Stored :=
  match q.kind with
  | .sealPart k bs => { r := q.r, part := k, bytes := bs }
  | .placed ch => { r := q.r, part := 0, bytes := q.r.bytes48 ++ ch }
  | .opened => { r := q.r, part := 0, bytes := q.r.bytes48 }

/-- The entries of a class that may be committed: those placed, up to the first that is still open. -/
def Recorder.ready (e : Recorder) (audit : Bool) : List QSlot :=
  (e.queue.filter fun q => q.r.audit == audit).takeWhile fun q => !q.isOpen

/-- The log of a class. -/
def RecordStore.log (s : RecordStore) (audit : Bool) : List Stored := if audit then s.p1 else s.p2
/-- Change it. -/
def RecordStore.setLog (s : RecordStore) (audit : Bool) (f : List Stored → List Stored) : RecordStore :=
  if audit then { s with p1 := f s.p1 } else { s with p2 := f s.p2 }

/-- Free slots of the log's last page; a whole page when it is full. -/
def RecordStore.tailRoom (s : RecordStore) (audit : Bool) : Nat :=
  64 - ((s.log audit).length + (if audit then s.skip1 else s.skip2)) % 64

/-- Free slots of the log. -/
def Dev.logRoom (d : Dev) (audit : Bool) : Nat :=
  if audit then d.p1Slots - d.store.p1.length else d.p2Slots - d.store.p2.length

/-- Commits to the partition run: the medium ready, the scan done, no freeze, no clear in progress (R416, R420, R421). -/
def Dev.commits (d : Dev) (audit : Bool) : Bool :=
  d.writesUp && d.ev.scanned && !d.is EV Reg.EV.FROZEN && (d.ev.clearSeq audit).isNone && (audit || !d.ev.p2Held)

/-- Queue entries are on the medium, verified: they leave the queue and HW_SEQ rises. -/
def committed (qs : List QSlot) : Script := setEv fun e => { e with
  queue := e.queue.filter fun q => !qs.any fun x => x.slot == q.slot
  hwSeq := (qs.map fun q => q.r.seq.getD 0).foldl max e.hwSeq }

/-- Append queue entries to a class's log. -/
def appendLog (audit : Bool) (qs : List QSlot) : Script := seqs [
  modStore fun s => s.setLog audit (· ++ qs.map QSlot.stored), committed qs,
  withDev fun d => when (!audit && d.logRoom false == 0) (seqs [
    modStore fun s => { s with p2Full := true }, putB EV Reg.EV.P2_OVERWRITE true])]

/-- The partial tail page is written to the other shadow, at most once per 100 ms (R417). -/
def tailWrite (audit ok : Bool) : Script := withDev fun d =>
  let qs := (d.ev.ready audit).take (min (d.store.tailRoom audit - 1) (d.logRoom audit))
  when (d.commits audit && !qs.isEmpty && decide (d.dt ≥ if audit then d.ev.tailAt1 else d.ev.tailAt2)) (seqs [
    modEv fun e => if audit then { e with tailAt1 := d.dt + dtOfMs 100 } else { e with tailAt2 := d.dt + dtOfMs 100 },
    when ok (appendLog audit qs)])

/-- TAIL_SHADOW_WRITE: `ok` says whether the write verifies. -/
def execTailShadowWrite (audit ok : Bool) (s : State) : Host.Outcome State Fault Refusal := performSettled (tailWrite audit ok) s

/-- SEQ of a stored slot. -/
def Stored.seq (x : Stored) : Nat := x.r.seq.getD 0

/-- SEQ of the newest seal of P2. -/
def RecordStore.newestSeal (s : RecordStore) : Nat := (s.p2.filter (·.part ≠ 0)).foldl (fun a x => max a x.seq) 0

/-- A stored slot may be a victim of a record of severity `sev` (R416). -/
def RecordStore.isVictim (s : RecordStore) (sev : Nat) (x : Stored) : Bool :=
  (if x.part = 0 then decide (x.r.sev ≤ sev) && !(x.r.code == 0x43 && x.r.source == EV) else x.seq != s.newestSeal)

/-- The victim with the lowest SEQ; of a seal's parts the first. -/
def RecordStore.victim (s : RecordStore) (sev : Nat) : Option Stored :=
  match s.p2.filter (s.isVictim sev) with
  | [] => none
  | x :: xs => some (xs.foldl (fun a b => if b.seq < a.seq ∨ (b.seq = a.seq ∧ b.part < a.part) then b else a) x)

/-- P2 without a victim; replacing one part of a seal frees its other parts. -/
def RecordStore.without (s : RecordStore) (v : Stored) : List Stored :=
  s.p2.filter fun x => !(x.seq == v.seq && (if v.part = 0 then x.part == 0 else x.part != 0))

/-- One record replaces a victim in P2's overwrite phase; one without a victim is dropped (R416). A freed slot is used first. -/
def replaceVictim (q : QSlot) (ok : Bool) : Script := withDev fun d =>
  let sev := match q.kind with
    | .sealPart _ _ => 3
    | _ => q.r.sev
  if d.logRoom false > 0 then when ok (appendLog false [q])
  else match d.store.victim sev with
    | none => seqs [
        setEv fun e => { e with queue := e.queue.filter (·.slot != q.slot) },
        inc EV Reg.EV.OP_DROPPED, fireEvent EV 3 noScope []]
    | some v => when ok (seqs [
        modStore fun s => { s with p2 := s.without v ++ [q.stored] }, committed [q]])

/-- A page is written: a full page of the log, or in P2's overwrite phase the page of one victim. `ok` says whether it
verifies; `parity` says that the victim index fails its check, so that it is rebuilt by a scan of P2 (R416). -/
def pageCommit (audit ok parity : Bool) : Script := withDev fun d =>
  let qs := d.ev.ready audit
  when (d.commits audit) (
    if !audit ∧ d.store.p2Full then
      match qs with
      | [] => skip
      | q :: _ =>
        if parity then seqs [
          modEv fun e => { e with p2Held := true }, putB EV Reg.EV.SCANNING true, fireEvent EV 6 noScope []]
        else replaceVictim q ok
    else
      let n := d.store.tailRoom audit
      when (ok && decide (qs.length ≥ n) && decide (d.logRoom audit ≥ n)) (appendLog audit (qs.take n)))

/-- RECORD_PAGE_COMMIT (R416, R417). -/
def execRecordPageCommit (audit ok parity : Bool) (s : State) : Host.Outcome State Fault Refusal :=
  performSettled (pageCommit audit ok parity) s

/-! ### The scan (R418) -/

/-- The records of P1 from page 0 on, while each CHAIN links to its predecessor; seals are not chained. -/
def linked : Option (List Byte) → List Stored → List Stored
  | _, [] => []
  | prev, x :: xs =>
    if x.part ≠ 0 then x :: linked prev xs
    else if prev.all fun p => Config.shake256 (p ++ x.bytes.take 48) 16 == field x.bytes 48 16 then
      x :: linked (some (field x.bytes 48 16)) xs
    else []

/-- The record of a class with the highest SEQ: CHAIN and SEQ. -/
def lastOf (xs : List Stored) : Option (List Byte × Nat) :=
  (xs.filter (·.part = 0)).foldl (fun a x => if a.all fun y => decide (y.2 ≤ x.seq) then some (field x.bytes 48 16, x.seq) else a) none

/-- A record created before the scan ended takes its SEQ now, in its slot; an audit record is diverted where P1 is (R415). -/
def admitOld (q : QSlot) : Script := withDev fun d =>
  let full := q.r.audit && !d.diverting && decide (d.ev.p1Left < 9)
  seqs [
    when full (seqs [
      pushRec ((fullMarker d 1).stamp d), putB EV Reg.EV.P1_FULL true, putB EV Reg.EV.P1_DIVERT true]),
    withDev fun d =>
      let r := if q.r.audit && d.diverting then { q.r with audit := false, diverted := true } else q.r
      seqs [
        when (r.diverted && !q.r.diverted) (inc EV Reg.EV.DIVERTED),
        setEv fun e => { e with
          queue := e.queue ++ [{ q with r := { r with seq := some e.nextSeq } }], nextSeq := e.nextSeq + 1
          p1Left := if r.audit then e.p1Left - 1 else e.p1Left }]]

/-- The scan after a reset ends, with `lostPages` pages of P2 found Lost. -/
def scanEnd (lostPages : Nat) : Script := withDev fun d =>
  let p1 := linked none d.store.p1
  let hw := (p1 ++ d.store.p2).foldl (fun a x => max a x.seq) 0
  let ha := (lastOf p1).getD (d.chainSeed true, 0)
  let ho := (lastOf d.store.p2).getD (d.chainSeed false, 0)
  let full := ((p1.filter (·.part = 0)).getLast?).any fun x => x.r.code == 0x41 && x.r.source == EV
  let old := d.ev.queue
  seqs [
    modStore fun s => { s with p1 := p1 },
    putB EV Reg.EV.SCANNING false, putB EV Reg.EV.READY true, putB EV Reg.EV.P2_OVERWRITE d.store.p2Full,
    putB EV Reg.EV.P1_FULL full, putB EV Reg.EV.P1_DIVERT (full || d.is WS Reg.WS.AUDIT_STOPPED),
    setEv fun e => { e with
      queue := [], scanned := true, hwSeq := hw, seqBase := hw + 32768, nextSeq := hw + 32769
      p1Left := d.p1Slots - p1.length
      aud := { e.aud with head := ha.1, headSeq := ha.2 }, op := { e.op with head := ho.1, headSeq := ho.2 }
      placedChain := if ha.2 ≥ ho.2 then ha.1 else ho.1, placedSeq := max ha.2 ho.2 },
    showHeads,
    createRec {
      audit := true, sev := 0, code := 0x44, source := EV
      payload := leBytes 6 hw ++ leBytes 2 lostPages ++ leBytes 1 d.ev.resetKind },
    forEach old admitOld,
    when (!d.store.captures.isEmpty)
      (put EV Reg.EV.CAP_NEXT (((d.store.captures.map (·.number)).foldl max 0 + 5) % 2 ^ 32)),
    showCaptures]

/-- RECORD_SCAN_DONE (R418); or the rebuild of the victim index has ended, and P2 commits go on (R416). -/
def execRecordScanDone (lostPages : Nat) (s : State) : Host.Outcome State Fault Refusal :=
  performSettled (withDev fun d => when (d.is EV Reg.EV.SCANNING && d.is WS Reg.WS.READY) (
    if d.ev.scanned then seqs [putB EV Reg.EV.SCANNING false, modEv fun e => { e with p2Held := false }]
    else scanEnd lostPages)) s

/-! ### Reading, freezing, clearing (R419 to R421) -/

/-- Order of stored slots: by SEQ, each seal after the record it covers. -/
def Stored.key (x : Stored) : Nat := 4 * x.seq + x.part

/-- Insert a stored slot in that order. -/
def insertStored (x : Stored) : List Stored → List Stored
  | [] => [x]
  | y :: ys => if x.key < y.key then x :: y :: ys else y :: insertStored x ys

/-- Whole records into at most `n` slots; a seal is never split. -/
def takeWhole : Nat → List Stored → List Stored
  | 0, _ => []
  | n + 1, x :: y :: z :: xs =>
    if x.part = 1 then (if n ≥ 2 then x :: y :: z :: takeWhole (n - 2) xs else []) else x :: takeWhole n (y :: z :: xs)
  | n + 1, x :: xs => if x.part = 1 then [] else x :: takeWhole n xs
  | _ + 1, [] => []

/-- READ-RECORDS passed the checks of R360. -/
def readRecords (tag : Nat) : Script := withDev fun d =>
  match d.passed tag 0x18 with
  | none => skip
  | some c =>
    if !d.ev.scanned ∨ d.is EV Reg.EV.SCANNING then complete tag stBusy 0 0
    else
      let xs := ((d.store.log (c.par 24 1 == 1)).filter fun x => decide (x.seq ≥ c.par 32 8)).foldr insertStored []
      let out := takeWhole (c.len / 64) xs
      complete tag stSuccess 0 out.length (out.flatMap (·.bytes))

/-- READ_RECORDS (R419). -/
def execReadRecords (tag : Nat) (s : State) : Host.Outcome State Fault Refusal := performSettled (readRecords tag) s

/-- The FREEZE record. -/
def freezeRecord (how : Nat) : Script := noteRec EV 0x45 (leBytes 1 how)

/-- FREEZE with bit 0 set: commits to P1 and P2 stop for 10 s. -/
def freeze (tag : Nat) : Script := withDev fun d =>
  match d.passed tag 0x19 with
  | none => skip
  | some c => when ((c.par 24 1).testBit 0) (seqs [
      putB EV Reg.EV.FROZEN true, startTimer .thaw 4915200000, freezeRecord 1,
      complete tag stSuccess 0 (d.dt + 4915200000)])

/-- FREEZE (R420). -/
def execFreeze (tag : Nat) (s : State) : Host.Outcome State Fault Refusal := performSettled (freeze tag) s

/-- The recorder thaws. -/
def thawNow (how : Nat) : Script := seqs [putB EV Reg.EV.FROZEN false, stopTimer .thaw, freezeRecord how]

/-- FREEZE with bit 0 clear. -/
def thaw (tag : Nat) : Script := withDev fun d =>
  match d.passed tag 0x19 with
  | none => skip
  | some c => when (!(c.par 24 1).testBit 0) (seqs [
      when (d.is EV Reg.EV.FROZEN) (thawNow 0), complete tag stSuccess 0 0])

/-- THAW (R420). -/
def execThaw (tag : Nat) (s : State) : Host.Outcome State Fault Refusal := performSettled (thaw tag) s

/-- FREEZE_AUTO_THAW (R420). -/
def execFreezeAutoThaw (s : State) : Host.Outcome State Fault Refusal := performSettled (onExpiry .thaw (thawNow 2)) s

/-- CLEAR-RECORDS finds the recorder busy (R421): the mask is that of its token. -/
def Dev.clearBusy (d : Dev) (token : List Byte) : Bool :=
  let n := if (num token 80 1).testBit 1 then 2 else 1
  !d.ev.scanned || d.is EV Reg.EV.SCANNING || d.is EV Reg.EV.CLEARING || decide (d.ev.freeSlots < 4 + n) ||
    decide (d.ev.nextSeq + n - 1 > max d.ev.hwSeq d.ev.seqBase + 32768)

/-- CLEAR-RECORDS passed the checks of R360; `data` is its token. -/
def clearRecords (tag : Nat) (data : List Byte) : Script := withDev fun d =>
  match d.passed tag 0x1A with
  | none => skip
  | some c => when (data.length == c.len) (
      if d.clearBusy data then complete tag stBusy 0 0
      else seqs [takeUp tag, requestSign (.token tag data)])

/-- CLEAR_RECORDS (R421). -/
def execClearRecords (tag : Nat) (data : List Byte) (s : State) : Host.Outcome State Fault Refusal :=
  performSettled (clearRecords tag data) s

/-- The clear proceeds (R421 steps 1 and 2): placed entries of its classes are discarded, and the CLEAR records created. -/
def startClear (tag mask slot : Nat) : Script := withDev fun d =>
  let p1 := mask.testBit 0
  let p2 := mask.testBit 1
  let mine := fun a : Bool => (a && p1) || (!a && p2)
  let hit := d.ev.queue.filter fun q => mine q.r.audit
  let top := (hit.map (·.r.seq.getD 0) ++ (if p1 then d.store.p1.map Stored.seq else []) ++
    (if p2 then d.store.p2.map Stored.seq else [])).foldl max 0
  let r : Rec := {
    audit := true, sev := 0, code := 0x43, source := EV
    payload := leBytes 1 mask ++ leBytes 1 slot ++ leBytes 2 0 ++ leBytes 4 (hit.filter QSlot.isRec).length ++ leBytes 6 top }
  seqs [
    setEv fun e => { e with queue := e.queue.filter fun q => !(mine q.r.audit && !q.isOpen) },
    if p1 then seqs [withDev fun d => setEv fun e => { e with clear := some { tag := tag, mask := mask, p1Seq := some d.ev.nextSeq } },
      withDev fun d => pushRec (r.stamp d)]
    else seqs [setEv fun e => { e with clear := some { tag := tag, mask := mask } }, createRec r],
    when p2 (seqs [
      withDev fun d => modEv fun e => { e with clear := e.clear.map fun c => { c with p2Seq := some d.ev.nextSeq } },
      withDev fun d => pushRec ({ r with audit := false }.stamp d)]),
    when (mask.testBit 2) (seqs [modStore fun s => { s with captures := [] }, showCaptures]),
    if p1 || p2 then putB EV Reg.EV.CLEARING true
    else seqs [modEv fun e => { e with clear := none }, complete tag stSuccess 0 0]]

/-- The token of a CLEAR-RECORDS has been verified. -/
def clearToken (c : Cmd) (token : List Byte) : Script := withDev fun d =>
  if d.clearBusy token then complete c.tag stBusy 0 0
  else
    let res := d.tokenResult 2 token
    seqs [
      tokenOutcome token res,
      if res = 0 then startClear c.tag (num token 80 1) (num token 8 1) else complete c.tag stToken res 0]

/-- A clear whose partitions have all started over completes (R421). -/
def clearEnds : Script := withDev fun d => match d.ev.clear with
  | some c => when (c.p1Seq.isNone && c.p2Seq.isNone) (seqs [
      modEv fun e => { e with clear := none }, putB EV Reg.EV.CLEARING false, complete c.tag stSuccess 0 0])
  | none => skip

/-- The partition whose CLEAR record is on page 0 starts over with it (R421). -/
def clearWritten (audit : Bool) (q : QSlot) : Script := seqs [
  modStore fun s =>
    if audit then { s with p1 := [q.stored], skip1 := 63 } else { s with p2 := [q.stored], skip2 := 63, p2Full := false },
  setEv fun e => { e with
    queue := e.queue.filter fun x => !(x.r.audit == audit && decide (x.r.seq.getD 0 ≤ q.r.seq.getD 0))
    hwSeq := max e.hwSeq (q.r.seq.getD 0)
    clear := e.clear.map fun c => if audit then { c with p1Seq := none } else { c with p2Seq := none } },
  if audit then resumeP1 else putB EV Reg.EV.P2_OVERWRITE false,
  clearEnds]

/-- A closed CLEAR record is written alone on page 0: `ok` says whether the write verifies. -/
def clearPage (audit ok : Bool) : Script := withDev fun d =>
  match d.ev.clearSeq audit with
  | none => skip
  | some n =>
    match d.ev.queue.find? fun q => q.isRec && !q.isOpen && q.r.audit == audit && q.r.seq == some n with
    | none => skip
    | some q => when (ok && d.writesUp && !d.is EV Reg.EV.FROZEN) (clearWritten audit q)

/-- CLEAR_PAGE_WRITTEN (R421). -/
def execClearPageWritten (audit ok : Bool) (s : State) : Host.Outcome State Fault Refusal := performSettled (clearPage audit ok) s

end Sys2Proof.Machine
end

