-- ==== Sys2Proof/Machine/Signing.lean ====
section
/-! DEFINITION. The Caddy's signing engine completes a request (R332), and what waited for it goes on. -/

namespace Sys2Proof.Machine

/-- A token has been verified: the command that carried it goes on. `ok` says whether a write to P0 that follows verifies. -/
def tokenVerified (tag : Nat) (token : List Byte) (ok : Bool) : Script := withDev fun d =>
  match d.cmdOf tag with
  | none => skip
  | some c =>
    if c.opcode = 0x08 then modeToken c token
    else if c.opcode = 0x1A then clearToken c token
    else if c.opcode = 0x28 then installToken c token ok
    else if c.opcode = 0x29 then enrolToken c token
    else if c.opcode = 0x2A then revokeToken c token
    else skip

/-- The request in service is complete, and the next begins. -/
def signatureDone (ok : Bool) : Script := withDev fun d =>
  match d.cy.queue with
  | [] => skip
  | x :: rest => seqs [
      modCy fun c => { c with queue := rest }, putB CY Reg.CY.BUSY (!rest.isEmpty),
      match x with
      | .seal a => seqs [incWrap CY Reg.CY.SIGN_CNT, sealSigned a]
      | .attest tag st => attested tag st
      | .token tag k => tokenVerified tag k ok
      | .container => skip
      | .profile tag k => match d.cmdOf tag with
        | some c => installSigned c k
        | none => skip,
      startFront]

/-- SIGNATURE_DONE (R332). -/
def execSignatureDone (ok : Bool) (s : State) : Host.Outcome State Fault Refusal := performSettled (signatureDone ok) s

end Sys2Proof.Machine
end

