-- ==== Sys2Proof/Machine/WriteOps.lean ====
section
/-! DEFINITION. How a host write of one register word is judged and carried out (R51 to R56), and writes that find no unit
(R49). -/

namespace Sys2Proof.Machine

/-- What a register's own rule adds to the causes of R54. -/
structure WriteRule where
  range : Bool := false
  mode : Bool := false
  busy : Bool := false

/-- The window offset at which the model holds a register word: DS shows the path of PATH_SEL from 0x184 to 0x1BC (R202). -/
def Dev.hostOffset (d : Dev) (u off : Nat) : Nat :=
  if typeOf u = 0x04 ∧ 0x184 ≤ off ∧ off ≤ 0x1BC then 0x1000 + 0x40 * d.rd u Reg.DS.PATH_SEL + (off - 0x180) else off

/-- The fields of the word that a host write names. -/
def Dev.hostFields (d : Dev) (u off : Nat) : List (Fld × Nat × Nat) := wordFields (typeOf u) (d.hostOffset u off)

/-- Zero is written to a divisor or period field (R55). -/
def zeroBad (f : Fld) (v : Nat) : Bool := f.zeroRejected && f.acc == .rw && f != Reg.EV.CAP_RD_LEN && v == 0

/-- A value outside the stated range is written to a field that the host may set. A zero that R55 rejects is judged there;
for CAP_RD_LEN R434 names the cause RANGE. -/
def rangeBad (f : Fld) (v : Nat) : Bool :=
  f.acc == .rw && !(zeroBad f v) && !(f.inRange v)

/-- The cause for which a write is rejected, the lowest that applies; a write with partial byte enables is judged for
PARTIAL alone (R54). -/
def Dev.judgeWrite (d : Dev) (u off v be : Nat) (r : WriteRule) : Option Nat :=
  let fs := d.hostFields u off
  if be ≠ 15 then some 5
  else if fs.any fun x => x.1.acc == .lk && x.1.of v != d.rd u x.1 x.2.1 x.2.2 then some 1
  else if fs.any fun x => zeroBad x.1 (x.1.of v) then some 2
  else if r.range || fs.any fun x => rangeBad x.1 (x.1.of v) then some 3
  else if r.mode then some 4
  else if r.busy then some 6
  else none

/-- The bits of an interrupt-enable word that stand for sources of the unit: those above its last source are reserved (R53,
R57). -/
def sourceBits (u : Nat) (f : Fld) : Nat :=
  let n := (sourceTable (typeOf u)).length
  2 ^ (if f == Reg.HDR.IEN then min n 32 else n - 32) - 1

/-- What an accepted write does to one field (R51): RW takes the value, W1C loses the bits written as 1; the other access
codes ignore it. -/
def writeField (u v : Nat) (x : Fld × Nat × Nat) : Script := withDev fun d =>
  match x.1.acc with
  | .rw => put u x.1 (if x.1 == Reg.HDR.IEN || x.1 == Reg.HDR.IEN_HI then x.1.of v &&& sourceBits u x.1 else x.1.of v) x.2.1 x.2.2
  | .w1c =>
    let cur := d.rd u x.1 x.2.1 x.2.2
    -- DT_COARSE holds while Device Time runs from the RC oscillator (R30)
    when (!(x.1 == Reg.TB.DT_COARSE && d.base.rootFailed)) (put u x.1 (cur - (cur &&& x.1.of v)) x.2.1 x.2.2)
  | _ => skip

/-- A write that finds no present unit is discarded and counted (R49). -/
def unmapped : Script := inc HP Reg.HP.UNMAPPED_WR

/-- A host write of the word at offset `off` of unit `u`: counted when no unit is there, discarded at a reserved offset
(R53), rejected as a whole, or carried out, with what the register's rule adds. -/
def writeReg (u off v be : Nat) (rule : Dev → WriteRule) (after : Script) : Script := withDev fun d =>
  let fs := d.hostFields u off
  if !d.present u then unmapped
  else if fs.isEmpty then skip
  else match d.judgeWrite u off v be (rule d) with
    | some cause => rejectWrite u off cause
    | none => seqs [forEach fs (writeField u v), after]

/-- No rule beyond R54. -/
def plainRule (_ : Dev) : WriteRule := {}

/-! ### Link test fields (R110, R113) -/

/-- The link runs a pattern, a test rate, loopback or subclass 0. -/
def Dev.testKey (d : Dev) (u : Nat) : Bool × Bool := (d.linkTest u, d.sub0 u)

/-- A change of a link's test operation restarts it; a pattern or a test rate puts it into TEST. -/
def afterTest (u : Nat) (before : Bool × Bool) : Script := withDev fun d =>
  when (d.testKey u != before) (restartLink u)

/-- Outside Service, a non-zero value in a field that only Service accepts (R110). -/
def Dev.serviceOnly (d : Dev) (v : Nat) : Bool := d.mode != .service && v != 0

/-! ### Registers with a row of their own -/

/-- The words of a unit type whose writes have commands of their own. -/
def ownRow (t off : Nat) : Bool :=
  off == 0x004 || off == 0x008 || off == 0x014 || off == 0x030 || off == 0x044 ||
  match t with
  | 0x01 => off == 0x110 || off == 0x160 || off == 0x1A0
  | 0x02 => off == 0x160 || off == 0x1A0
  | 0x03 => off == 0x108 || off == 0x144 || off == 0x228
  | 0x04 => off == 0x11C || off == 0x180
  | 0x06 => off == 0x110 || off == 0x150 || off == 0x190 || off == 0x1D0 || off == 0x2C0 || off == 0x380
  | 0x09 => decide (0x100 ≤ off ∧ off ≤ 0x11C)
  | 0x10 => decide (0x218 ≤ off ∧ (off - 0x218) % 0x40 = 0 ∧ (off - 0x218) / 0x40 < 16)
  | 0x11 => off == 0x10C
  | 0x14 => off == 0x19C
  | 0x15 => off == 0x10C
  | 0x19 => off == 0x144
  | 0x1A => off == 0x11C
  | _ => false

end Sys2Proof.Machine
end

