-- ==== Sys2Proof/Machine/Captures.lean ====
section
/-! DEFINITION. Commands and events of captures and Capture Rings (R363, R424 to R430). -/

namespace Sys2Proof.Machine

/-! ### Acceptance (R363, R425, R429) -/

/-- DPAGES of R428. -/
def Capture.dpages (c : Capture) : Nat := ceilDiv (c.pre + c.post) 1024

/-- Pages that a capture of `n` sources and `dp` pages for each reserves (R429). -/
def capturePages (n dp : Nat) : Nat := 1 + n * dp + ceilDiv (n * (dp + 1) * 16) 4096

/-- Stored captures are deleted, oldest first, until `need` pages of `total` are free. -/
def roomFor (total need : Nat) : List StoredCapture → List StoredCapture
  | [] => []
  | c :: cs => if (((c :: cs).map (·.pages.length)).sum) + need ≤ total then c :: cs else roomFor total need cs

/-- Unit addresses of a source list. -/
def sourceList (data : List Byte) : List Nat := (List.range (data.length / 2)).map fun i => num data (2 * i) 2

/-- CAPTURE passed the checks of R360; `data` is its source list. -/
def capture (tag : Nat) (data : List Byte) : Script := withDev fun d =>
  match d.passed tag 0x10 with
  | none => skip
  | some c => when (data.length == c.len) (
      let us := sourceList data
      let pages := capturePages us.length (ceilDiv (c.par 24 4 + c.par 28 4) 1024)
      let held := (d.ev.captures.map (·.pages)).sum
      let total := 256 * d.med.p3
      if d.rd TM Reg.TM.LEVEL ≥ 1 then complete tag stRefused 1 0
      else if d.ev.captures.length ≥ 4 then complete tag stRefused 2 0
      else if held + pages > total then complete tag stRefused 3 0
      else if !us.all d.sourceOk then complete tag stRefused 4 0
      else
        let x : Capture := {
          tag := tag, trig := c.par 33 1, trigUnit := c.par 34 2, trigCode := c.par 36 2, pre := c.par 24 4, post := c.par 28 4
          sources := us.map fun u => (u, d.capturePoint u), pages := pages
          done := us.map fun _ => 0, kept := us.map fun _ => [], stamp0 := us.map fun _ => 0 }
        seqs [
          takeUp tag,
          modStore fun s => { s with captures := roomFor total (held + pages) s.captures },
          modEv fun e => { e with captures := e.captures ++ [x] },
          if x.trig = 0 then trigger 0 0 0 d.dt else startTimer (.capWait tag) (dtOfS (c.par 38 2)),
          showCaptures])

/-- CAPTURE. -/
def execCapture (tag : Nat) (data : List Byte) (s : State) : Host.Outcome State Fault Refusal :=
  performSettled (capture tag data) s

/-- CAPTURE_TIMEOUT (R363): no trigger came within TRIG_WAIT_S. -/
def execCaptureTimeout (tag : Nat) (s : State) : Host.Outcome State Fault Refusal :=
  performSettled (onExpiry (.capWait tag) (seqs [dropCapture tag stTimeout, showCaptures])) s

/-! ### Chunks and gaps (R426) -/

/-- Enter a gap; entries of one source and cause merge while they are contiguous. -/
def addGap (g : Gap) (period : Nat) (gs : List Gap) : List Gap :=
  match gs.reverse.find? fun x => x.src == g.src with
  | some x =>
    if x.cause = g.cause ∧ x.stamp + x.samples * period = g.stamp then
      gs.map fun y => if y = x then { y with samples := y.samples + g.samples } else y
    else gs ++ [g]
  | none => gs ++ [g]

/-- Change the capture of a tag. -/
def modCapture (tag : Nat) (f : Capture → Capture) : Script :=
  modEv fun e => { e with captures := e.captures.map fun c => if c.tag == tag then f c else c }

/-- Chunks drain from staging to P3, the captures in order of their arrival (R426, R427). -/
def drain : Nat → List Capture → List Capture
  | _, [] => []
  | n, c :: cs => { c with staged := c.staged.drop n } :: drain (n - c.staged.length) cs

/-- What a reader sees of a gapped sample (R428). -/
def gapped (n : Nat) : List Byte := (List.replicate n [0x00#8, 0x80#8, 0x00#8, 0x80#8]).flatten

/-- A chunk's samples with `n` of them from `i` on gapped. -/
def blank (xs : List Byte) (i n : Nat) : List Byte := xs.take (4 * i) ++ gapped n ++ xs.drop (4 * (i + n))

/-- The number of the first sample that source `j` of a capture brought after its trigger: sample 0 is the first whose stamp is at or
after t_trig. -/
def Dev.capFirst (d : Dev) (c : Capture) (j : Nat) : Int :=
  (((d.plane.caps.get {} (16 * c.tag + j)).stamp0 : Int) - (c.tTrig.getD 0 : Nat)) / d.sourcePeriod (c.sources.getD j (0, 0)).1

/-- The ring entry that records a source, as its key on the plane. -/
def Dev.ringKey (d : Dev) (u : Nat) : Option Nat :=
  ((d.ringEntries (secOf u)).find? fun k => d.rd (crU (secOf u)) Reg.CR.UNIT k == u).map (8 * secOf u + ·)

/-- Sample `i` of source `j` of a capture (R426): its word, or the cause why it is not there. One that came after the trigger is taken
as it came; an earlier one the ring gives, if it held it at the trigger and still holds it. -/
def Dev.capSample (d : Dev) (c : Capture) (j : Nat) (i : Int) : Nat × List Byte :=
  let u := (c.sources.getD j (0, 0)).1
  let tr := d.plane.caps.get {} (16 * c.tag + j)
  let back := d.capFirst c j - i
  let word := fun h : Heard => if h.bad then (3, gapped 1) else (0, shortSample u h.x)
  if back ≤ 0 then ((tr.xs[((tr.n : Int) - 1 + back).toNat]?).map word).getD (1, gapped 1)
  else
    let ring := ((d.ringKey u).map (d.plane.rings.get {})).getD {}
    if (ringHeld (d.ringDepth (secOf u)) (ring.n - tr.n) : Int) < back then (1, gapped 1)
    else ((ring.xs[tr.n + back.toNat - 1]?).map word).getD (2, gapped 1)

/-- The next chunk of source `j` of a capture is due: its last sample has come. It is kept where staging has room for the whole of it,
after `drained` chunks have left staging; every sample not kept falls in a gap. -/
def captureChunk (tag j drained : Nat) : Script := withDev fun d =>
  match d.ev.captures.find? fun c => c.tag == tag && c.tTrig.isSome with
  | none => skip
  | some c =>
    let i := c.done.getD j 0
    let n := min 1024 (c.pre + c.post - 1024 * i)
    let src := (c.sources.getD j (0, 0)).1
    let per := d.sourcePeriod src
    let tr := d.plane.caps.get {} (16 * tag + j)
    let at0 : Int := (1024 * i : Nat) - (c.pre : Int)
    let came : Int := d.capFirst c j + (tr.n : Nat)
    let stampOf := fun k : Int => ((tr.stamp0 : Int) + (k - d.capFirst c j) * per).toNat
    when (decide (j < c.sources.length ∧ i < c.dpages ∧ 0 < tr.n ∧ at0 + n ≤ came)) (seqs [
      modEv fun e => { e with captures := drain drained e.captures },
      withDev fun d =>
        let room := decide ((d.ev.captures.map (·.staged.length)).sum < d.stagingChunks)
        let xs : List (Nat × List Byte) := (List.range n).map fun k : Nat => d.capSample c j (at0 + (k : Nat))
        let ys : List (Nat × List Byte) := xs.map fun x => if x.1 == 0 && !room then (2, gapped 1) else x
        let bytes := ys.flatMap (·.2)
        seqs [
          modCapture tag fun c => { c with
            done := c.done.modify j (· + 1)
            kept := c.kept.modify j (· ++ bytes)
            stamp0 := if i = 0 then c.stamp0.set j (stampOf at0) else c.stamp0
            gaps := ys.zipIdx.foldl (fun gs x =>
              if x.1.1 = 0 then gs
              else addGap { stamp := stampOf (at0 + (x.2 : Nat)), samples := 1, src := j, cause := x.1.1 } per gs) c.gaps
            staged := if ys.any (·.1 == 0) then c.staged ++ [{ src := j, index := i, bytes := bytes }] else c.staged },
          modPlane fun pl => { pl with
            caps := pl.caps.put {} (16 * tag + j) { tr with xs := tr.xs.take (came - (at0 + n)).toNat } },
          incBy (crU (secOf src)) Reg.CR.SRAM_GAP (ys.filter (·.1 == 3)).length,
          showCaptures]])

/-- CAPTURE_CHUNK (R426). -/
def execCaptureChunk (tag j drained : Nat) (feed : Feed) (s : State) : Host.Outcome State Fault Refusal :=
  performSettled (seqs [runPlane feed, captureChunk tag j drained]) s

/-! ### Completion (R427, R428) -/

/-- Bytes in whole pages of 4,096. -/
def toPages : Nat → List Byte → List (List Byte)
  | 0, _ => []
  | n + 1, bs => ((bs.take 4096 ++ List.replicate 4096 0).take 4096) :: toPages n (bs.drop 4096)

/-- A gap entry's bytes. -/
def Gap.bytes (g : Gap) : List Byte := leBytes 8 g.stamp ++ leBytes 4 g.samples ++ leBytes 1 g.src ++ leBytes 1 g.cause ++ leBytes 2 0

/-- The gap list: by source, then STAMP. -/
def Capture.gapList (c : Capture) : List Gap :=
  (List.range c.sources.length).flatMap fun j => insertGaps (c.gaps.filter (·.src = j))
where
  /-- Insert a gap in order of STAMP. -/
  insertGap (g : Gap) : List Gap → List Gap
    | [] => [g]
    | x :: xs => if g.stamp < x.stamp then g :: x :: xs else x :: insertGap g xs
  /-- Gaps in order of STAMP. -/
  insertGaps (gs : List Gap) : List Gap := gs.foldl (fun a g => insertGap g a) []

/-- The capture as P3 stores it, and its DIGEST. -/
def Capture.store (c : Capture) (d : Dev) : StoredCapture × List Byte :=
  let gs := c.gapList
  let n := c.sources.length
  let gapPage := 1 + n * c.dpages
  let gapPages := toPages (ceilDiv (16 * gs.length) 4096) (gs.flatMap Gap.bytes)
  let head := leBytes 4 0x50435644 ++ leBytes 2 1 ++ leBytes 1 n ++ leBytes 1 (b2n (!gs.isEmpty) + 2 * b2n c.wallValid) ++
    leBytes 4 c.number ++ leBytes 1 c.trig ++ leBytes 1 0 ++ leBytes 2 c.trigUnit ++ leBytes 2 c.trigCode ++ leBytes 2 0 ++
    leBytes 4 c.pre ++ leBytes 4 c.post ++ leBytes 4 gs.length ++ leBytes 8 (c.tTrig.getD 0) ++ leBytes 4 c.wall.ns ++
    leBytes 4 c.wall.sec ++ leBytes 2 c.epoch ++ leBytes 2 0 ++ leBytes 4 gapPage ++ leBytes 4 (gapPage + gapPages.length) ++
    leBytes 4 0
  let row := fun j : Nat =>
    let u := (c.sources.getD j (0, 0)).1
    leBytes 2 u ++ leBytes 1 (c.sources.getD j (0, 0)).2 ++ leBytes 1 (Nat.log2 (d.sourcePeriod u)) ++
      leBytes 4 (gs.filter (·.src = j)).length ++ leBytes 8 (c.stamp0.getD j 0) ++ Config.shake256 (c.kept.getD j []) 32
  let rows := ((List.range n).flatMap row ++ List.replicate 768 0).take 768
  let dg := digest64 (head ++ rows ++ gapPages.flatten)
  ({ number := c.number
     pages := toPages 1 (head ++ dg ++ rows) ++ (c.kept.flatMap fun k => toPages c.dpages k) ++ gapPages }, dg)

/-- Every sample is taken or gapped, staging has drained, and gap list and header are written. -/
def captureComplete (tag : Nat) : Script := withDev fun d =>
  match d.ev.captures.find? fun c => c.tag == tag && c.tTrig.isSome with
  | none => skip
  | some c => when (c.done.all fun n => n == c.dpages) (
      let x := c.store d
      let gap := b2n (!c.gaps.isEmpty)
      seqs [
        modStore fun s => { s with captures := s.captures ++ [x.1] },
        modEv fun e => { e with captures := e.captures.filter fun y => y.tag != tag },
        modPlane fun pl => { pl with caps := (List.range 16).foldl (fun b j => b.put {} (16 * tag + j) {}) pl.caps },
        incBy EV Reg.EV.GAP_ENTRIES c.gaps.length, showCaptures,
        noteRec EV 0x48 (leBytes 4 c.number ++ leBytes 1 (gap + 2 * b2n c.wallValid) ++ x.2.take 11),
        when (gap == 1) (fireEvent EV 5 noScope []),
        complete tag stSuccess 0 (c.number + gap * 2 ^ 32)])

/-- CAPTURE_COMPLETE (R427). -/
def execCaptureComplete (tag : Nat) (s : State) : Host.Outcome State Fault Refusal := performSettled (captureComplete tag) s

/-! ### Reading a stored capture (R430) -/

/-- A write of GO. -/
def captureReadGo : Script := withDev fun d =>
  let n := d.rd EV Reg.EV.CAP_RD_NUM
  let p := d.rd EV Reg.EV.CAP_RD_PAGE
  let len := d.rd EV Reg.EV.CAP_RD_LEN
  match d.store.captures.find? fun c => c.number == n && decide (p + len ≤ c.pages.length) with
  | none => rejectWrite EV 0x19C 3
  | some _ =>
    if len > 256 * d.rd WS Reg.WS.CAP_MIB then rejectWrite EV 0x19C 3
    else if d.ev.captures.any (·.tTrig.isSome) then rejectWrite EV 0x19C 6
    else seqs [
      modEv fun e => { e with rdCopy := some { number := n, page := p, len := len } },
      put EV Reg.EV.RD_STATE 1, put EV Reg.EV.RD_ERR 0]

/-- CAPTURE_READ_GO. -/
def execCaptureReadGo (s : State) : Host.Outcome State Fault Refusal := performSettled captureReadGo s

/-- The copy ends: `lost` says that a page read Lost. -/
def captureCopyDone (lost : Bool) : Script := withDev fun d =>
  match d.ev.rdCopy with
  | none => skip
  | some r => seqs [
      modEv fun e => { e with
        rdCopy := none
        staging := match d.store.captures.find? fun c => c.number == r.number with
          | some c => ((c.pages.drop r.page).take r.len).flatten
          | none => [] },
      put EV Reg.EV.RD_STATE (if lost then 3 else 2), put EV Reg.EV.RD_ERR (if lost then 1 else 0)]

/-- CAPTURE_COPY_DONE (R430). -/
def execCaptureCopyDone (lost : Bool) (s : State) : Host.Outcome State Fault Refusal := performSettled (captureCopyDone lost) s

/-! ### Capture Rings (R424) -/

/-- UNIT of an enabled entry is a link or a configured cell of the ring's own section. -/
def Dev.ringUnit (d : Dev) (s u : Nat) : Bool :=
  secOf u == s && isUnit u && d.present u &&
    (typeOf u == 0x01 || typeOf u == 0x02 || (typeOf u == 0x03 && d.is u Reg.BC.ENABLE))

/-- A capture copies from the section's ring: pre-trigger samples of a source that the ring records are still due. -/
def Dev.ringCopies (d : Dev) (s : Nat) : Bool :=
  d.ev.captures.any fun c => c.tTrig.isSome && c.sources.zipIdx.any fun x =>
    decide (1024 * c.done.getD x.2 0 < c.pre) && (d.ringEntries s).any fun k => d.rd (crU s) Reg.CR.UNIT k == x.1.1

/-- A write of RING_SRC entry `k` of unit `u`. -/
def ringSrcWrite (u k v be : Nat) : Script :=
  let s := secOf u
  writeReg u (0x100 + 4 * k) v be
    (fun d => {
      mode := d.modeIn [.cold, .kindling], range := v.testBit 31 && !d.ringUnit s (v % 65536), busy := d.ringCopies s })
    (seqs [restartRing s, inc u Reg.CR.RESTART_CNT])

/-- RING_SRC_WRITE. -/
def execRingSrcWrite (u k v be : Nat) (s : State) : Host.Outcome State Fault Refusal :=
  performSettled (ringSrcWrite u k v be) s

end Sys2Proof.Machine
end

