-- ==== Sys2Proof/Machine/Cells.lean ====
section
/-! DEFINITION. Commands on band cells and Combiners: block ends (R128, R160, R161), response sets (R126, R127), gain (R151,
R152), squelch (R155), power monitors (R162), the Combiner's reports (R167) and saturation (R96, R141, R168). A command that
samples decide carries what the serial lanes brought since the last such command; the rest follows from the state. -/

namespace Sys2Proof.Machine

/-- The cell is configured and a configuration is applied. -/
def Dev.cellOn (d : Dev) (c : Nat) : Bool := d.present c && typeOf c == 0x03 && d.applied && d.is c Reg.BC.ENABLE

/-! ### Blocks -/

/-- The instant at which the last sample of the cell's next block leaves the cell (R128, R132): its block end, since all the
measuring points of R160 have then seen the block (DEDUCED, log entry 164). -/
def Dev.blockDue (d : Dev) (c tg : Nat) : Nat :=
  tg + (256 * ((d.cellAt c).blocks + 1) - 1) * d.period c + d.rxChain c + d.core c

/-- The largest I² + Q² of a block. -/
def normMax (xs : List Cx) : Nat := (xs.map Cx.norm).foldl max 0

/-- A completed block: counters and stamps, powers, spectra, AGC, probe, detectors, and the deliveries to the Protection Engine. In
a block that carries the settling flag g_agc holds, where R161 leaves the block out of the AGC average and R154 does not say
whether g_agc is still set (DESIGN CHOICE, log entry 159; unsafe). -/
def finishBlock (c : Nat) (b : BlockSum) : Script := withDev fun d =>
  let flag := d.settles c b.g
  let tadc := b.g - d.rd (d.rxlOf c) Reg.RXL.PATH_DT
  let out := energy b.out
  let bins := spectrum b.out.reverse
  let n := b.num % 2 ^ 32
  seqs [
    put c Reg.BC.BLK_CNT ((n + 1) % 2 ^ 32),
    modCell c fun y => { y with
      blocks := b.num + 1, stampRx := tadc
      stampTx := b.g + d.rxChain c + d.core c + d.txChain c + d.rd (d.txlOf c) Reg.TXL.PATH_DT },
    powerBlock c n (energy b.raw, energy b.xin, out, normMax b.out) flag,
    when (!flag) (seqs [spectrumBlock c b.g (spectrum b.xin.reverse) bins, agcBlock c b.eqE, calBlock c b.xin]),
    probeBlock c b.traffic,
    spectralBlock c out bins flag,
    noiseBlock c tadc (energy b.xin),
    takeTaps c,
    deliverLoop c, refreshUplink c]

/-- The oldest block of the present grid that has been completed is taken up. -/
def takeBlock (c tg : Nat) : Script := withDev fun d =>
  let g := d.plane.cells.get {} c
  match g.done.filter fun b => decide (tg ≤ b.g) with
  | [] => skip
  | b :: rest => seqs [modPlane fun pl => { pl with cells := pl.cells.put {} c { g with done := rest } }, finishBlock c b]

/-- The next block of a cell ends. -/
def blockEnd (c : Nat) (feed : Feed) : Script := withDev fun d =>
  match (d.cellAt c).tg with
  | none => skip
  | some tg => when (d.cellOn c) (seqs [advanceTo (d.blockDue c tg), runPlane feed, takeBlock c tg])

/-- BLOCK_END of cell `c` (R128). -/
def execBlockEnd (c : Nat) (feed : Feed) (s : State) : Host.Outcome State Fault Refusal := performSettled (blockEnd c feed) s

/-- The cell's next block boundary, the present dt included. -/
def Dev.nextBlock (d : Dev) (c tg : Nat) : Nat := tg + ceilDiv (d.dt - tg) (256 * d.period c) * (256 * d.period c)

/-- MEAS_CFG_WRITE: both averages restart at the cell's next block boundary (R161). -/
def execMeasCfgWrite (c v be : Nat) (s : State) : Host.Outcome State Fault Refusal :=
  performSettled (when (typeOf c == 0x03)
    (writeReg c 0x144 v be plainRule (withDev fun d => modCell c fun x => { x with
      measRestart := some (match x.tg with
        | some tg => d.nextBlock c tg
        | none => 0) }))) s

/-! ### Response sets (R126, R127) -/

/-- A write of STR_CTRL: a request that differs from the active set waits, or takes effect at once in a cell that is Off;
writing back the active set cancels it. -/
def writeRespSel (c v be : Nat) : Script := when (typeOf c == 0x03) (
  writeReg c 0x228 v be (fun d => { mode := d.modeIn [.cold, .kindling] }) (withDev fun d => seqs [
    putB c Reg.BC.RESP_PEND (d.rd c Reg.BC.RESP_SEL != d.rd c Reg.BC.RESP_ACTIVE),
    when (d.rd c Reg.BC.STATE == csOff) (respSwitch c d.dt)]))

/-- RESP_SEL_WRITE (R127). -/
def execRespSelWrite (c v be : Nat) (s : State) : Host.Outcome State Fault Refusal := performSettled (writeRespSel c v be) s

/-- A waiting switch takes place at the cell's next block boundary, unless it waits for a sync event. -/
def respBoundary (c : Nat) : Script := withDev fun d =>
  match (d.cellAt c).tg with
  | none => skip
  | some tg => when (d.cellOn c && d.is c Reg.BC.RESP_PEND && !d.is c Reg.BC.SWITCH_AT_SYNC)
      (seqs [advanceTo (d.nextBlock c tg), respSwitch c (max d.dt (d.nextBlock c tg))])

/-- RESP_SWITCH (R127). -/
def execRespSwitch (c : Nat) (s : State) : Host.Outcome State Fault Refusal := performSettled (respBoundary c) s

/-! ### Gain (R151, R152) -/

/-- A value of GAIN_SET outside −40.00 dB to GAIN_MAX. -/
def Dev.gainBad (d : Dev) (c v : Nat) : Bool :=
  let g := signed 16 (v % 65536)
  decide (g < -4000 ∨ d.rdS c Reg.BC.GAIN_MAX < g)

/-- GAIN_SET_WRITE (R152). -/
def execGainSetWrite (c v be : Nat) (s : State) : Host.Outcome State Fault Refusal :=
  performSettled (when (typeOf c == 0x03) (writeReg c 0x108 v be
    (fun d => { range := d.gainBad c v, mode := d.modeIn [.cold, .kindling] }) (withDev combineOn))) s
where
  /-- A configured cell's limit causes follow its setpoint. -/
  combineOn (d : Dev) : Script := when (d.cellOn c) (combine c)

/-- One upward step of 0.01 dB towards the target. -/
def slewUp (c : Nat) : Script := withDev fun d =>
  match levelOf (d.rd c Reg.BC.G_TARGET), d.gApplied c with
  | some t, some a => when (decide (a < t) && !(d.cellAt c).rampHold) (setApplied c (some (a + 1)))
  | _, _ => skip

/-- GAIN_SLEW_STEP (R151). -/
def execGainSlewStep (c : Nat) (s : State) : Host.Outcome State Fault Refusal :=
  performSettled (onExpiry (.gainSlew c) (slewUp c)) s

/-! ### Squelch (R155) -/

/-- p_sq has been at or above SQ_OPEN for SQ_ATTACK consecutive samples at `t`: the closed gate opens. -/
def squelchOpen (c t : Nat) (feed : Feed) : Script := withDev fun d =>
  when (d.cellOn c) (seqs [advanceTo t, runPlane feed, withDev fun d =>
    when (d.is c Reg.BC.SQ_EN && d.is c Reg.BC.SQ_CLOSED && decide (d.rd c Reg.BC.SQ_ATTACK ≤ (d.plane.cells.get {} c).openRun))
      (seqs [setGate c true, inc c Reg.BC.SQ_OPEN_CNT])])

/-- SQUELCH_OPEN (R155). -/
def execSquelchOpen (c t : Nat) (feed : Feed) (s : State) : Host.Outcome State Fault Refusal :=
  performSettled (squelchOpen c t feed) s

/-- p_sq has been below SQ_CLOSE without a break for SQ_RELEASE at `t`: the open gate closes. -/
def squelchClose (c t : Nat) (feed : Feed) : Script := withDev fun d =>
  when (d.cellOn c) (seqs [advanceTo t, runPlane feed, withDev fun d =>
    when (d.is c Reg.BC.SQ_EN && !d.is c Reg.BC.SQ_CLOSED &&
        ((d.plane.cells.get {} c).lowFrom.any fun f => decide (f + dtOfUs (d.rd c Reg.BC.SQ_RELEASE) ≤ d.dt)))
      (setGate c false)])

/-- SQUELCH_RELEASE_EXPIRY (R155). -/
def execSquelchReleaseExpiry (c t : Nat) (feed : Feed) (s : State) : Host.Outcome State Fault Refusal :=
  performSettled (squelchClose c t feed) s

/-! ### Power monitors (R162) -/

/-- The monitor condition of a unit follows its runs of windows. -/
def monRun (u src : Nat) (sc : Scope) (bad : Bool) (nb ng : Nat) (vals : List Int) : Script :=
  if bad ∧ nb ≥ 3 then condStart u src 0 sc vals
  else if !bad ∧ ng ≥ 3 then condEnd u src 0
  else skip

/-- The window that ends at `t` of a cell's monitors: `a` sums |x|² of the full samples in units of 2^−46, `b` of the
components rounded to 16 bits in units of 2^−30. -/
def cellMonitor (c a b : Nat) : Script := withDev fun d => when (d.cellOn c) (
  let n := 4096 / d.period c
  let x := d.cellAt c
  let bad := monMismatch a (b * 2 ^ 16) (n * 2 ^ 46)
  let nb := if bad then x.monBad + 1 else 0
  let ng := if bad then 0 else x.monGood + 1
  let ma := levelCode cdbOpen a (n * 2 ^ 46)
  let mb := levelCode cdbOpen b (n * 2 ^ 30)
  seqs [
    put c Reg.BC.MON_A ma, put c Reg.BC.MON_B mb,
    modCell c fun x => { x with monBad := nb, monGood := ng, monSegs := (max a (b * 2 ^ 16) * d.period c :: x.monSegs).take 120 },
    monRun c 20 (cellScope c) bad nb ng [signed 16 ma, signed 16 mb]])

/-- The sum of 10^((M_c + TX_GAIN_c)/10) over the gated cells of a Combiner for the window that ends at `t`, in 0.01 dBFS: each cell's
256 dt sums delayed by those of its transmit chain (R477); none for no power, or where the sums have not come that far. -/
def Dev.cellSum (d : Dev) (s i t : Nat) : Option Int :=
  levelSumUp (4096 * 2 ^ 46) (((d.cellsOfCb s i).filter d.gate).map fun c =>
    ((((d.cellAt c).fastSegs.drop ((d.ticksAt 4 - 1 + 256 * d.chainSegs c - t) / 256)).take 16).foldl (· + ·) 0, d.rdS c Reg.BC.TX_GAIN))

/-- The Protection Engine's sum check of a Combiner (R477): monitor A, the code `ma`, more than 1.00 dB above the sum and at least
−50.00 dBFS in three windows in a row. The condition clears with the first window that passes, which the spec leaves open (DESIGN
CHOICE, log entry 178; unsafe). -/
def sumCheck (u t ma : Nat) : Script := withDev fun d =>
  let sum := d.cellSum (secOf u) (idxOf u) t
  let bad := (levelOf ma).any fun m => decide (-5000 ≤ m) && sum.all fun x => decide (m > x + 100)
  let n := if bad then (d.combAt u).sumBad + 1 else 0
  seqs [
    modComb u fun x => { x with sumBad := n },
    when (!bad || decide (n ≥ 3)) (condSet bad u 18 0 (setScope u 0xFF (d.cellsOfCb (secOf u) (idxOf u)))
      [signed 16 ma, signed 16 (codeLevel sum)])]

/-- As `cellMonitor` for a Combiner, whose full samples are Q1.19. -/
def combMonitor (u t a b : Nat) : Script := withDev fun d =>
  when (d.combOn u) (
    let n := 4096 / samplePeriod (d.fmt (txlU (secOf u) (idxOf u)))
    let x := d.combAt u
    let bad := monMismatch a (b * 2 ^ 8) (n * 2 ^ 38)
    let nb := if bad then x.monBad + 1 else 0
    let ng := if bad then 0 else x.monGood + 1
    let ma := levelCode cdbOpen a (n * 2 ^ 38)
    let mb := levelCode cdbOpen b (n * 2 ^ 30)
    seqs [
      put u Reg.CB.MON_A ma, put u Reg.CB.MON_B mb,
      modComb u fun x => { x with monBad := nb, monGood := ng },
      monRun u 16 (setScope u 0xFF (d.cellsOfCb (secOf u) (idxOf u))) bad nb ng [signed 16 ma, signed 16 mb],
      withDev fun e => putB u Reg.CB.MON_MISMATCH (e.holds u 16),
      sumCheck u t ma])

/-- POWER_MONITOR_WINDOW of unit `u` (R162). -/
def execPowerMonitorWindow (u t a b : Nat) (s : State) : Host.Outcome State Fault Refusal :=
  performSettled (onMultiple (0x10000 + u) 4096 t (if typeOf u = 0x05 then combMonitor u t a b else cellMonitor u a b)) s

/-! ### The Combiner's reports and saturation (R96, R141, R167, R168) -/

/-- A ratio in 0.01 dB; one with a zero that the rule gives no value is left open. -/
def openRatio (u : Nat) (f : Fld) (p q : Nat) : Script :=
  if p = 0 ∨ q = 0 then drawBelow 65536 (put u f) else put u f (levelCode cdbOpen p q)

/-- An interval of 65,536 link samples has ended by `t`. -/
def parEnd (u t : Nat) (feed : Feed) : Script := withDev fun d =>
  when (d.combOn u) <| seqs [
    advanceTo t, runPlane feed,
    withDev fun d => match (d.plane.combs.get {} u).report with
      | none => skip
      | some r => seqs [
          openRatio u Reg.CB.PAR_IN (r.maxIn * 65536) r.sumIn, openRatio u Reg.CB.PAR_OUT (r.maxOut * 65536) r.sumOut,
          if r.any then openRatio u Reg.CB.CFR_EVM r.canc (r.sumOut * 2 ^ 42) else put u Reg.CB.CFR_EVM noLevel,
          modPlane fun pl => { pl with combs := pl.combs.put {} u { pl.combs.get {} u with report := none } }]]

/-- PAR_INTERVAL_END (R167). -/
def execParIntervalEnd (u t : Nat) (feed : Feed) (s : State) : Host.Outcome State Fault Refusal := performSettled (parEnd u t feed) s

/-- The 1 ms window of a unit ends: where a saturation count of it has risen within the window, its source fires once (R168). -/
def satWindow (u : Nat) : Script := withDev fun d =>
  match typeOf u with
  | 0x02 => when ((d.linkAt u).satSeen) (seqs [modLink u (fun l => { l with satSeen := false }), fireEvent u 3 noScope []])
  | 0x03 => seqs [
      when ((d.cellAt u).strSeen) (seqs [modCell u (fun x => { x with strSeen := false }), fireEvent u 0 (cellScope u) []]),
      when ((d.cellAt u).satSeen) (seqs [modCell u (fun x => { x with satSeen := false }), fireEvent u 1 (cellScope u) []])]
  | 0x05 => when ((d.combAt u).satSeen) (seqs [
      modComb u (fun x => { x with satSeen := false }),
      fireEvent u 0 (setScope u 0xFF (d.cellsOfCb (secOf u) (idxOf u))) []])
  | _ => skip

/-- SATURATION_WINDOW of unit `u`, at the 1 ms multiple `t` (R168). -/
def execSaturationWindow (u t : Nat) (feed : Feed) (s : State) : Host.Outcome State Fault Refusal :=
  performSettled (onMultiple (0x20000 + u) 491520 t (seqs [runPlane feed, satWindow u])) s

end Sys2Proof.Machine
end

