-- ==== Sys2Proof/Machine/Clock.lean ====
section
/-! DEFINITION. Commands on the Clock Root and the Time Base: root lock, failure and relock (R20, R24, R30, R31), clock monitors
(R23 to R25), the RC measurement (R44), SYSREF edges and alignment (R28, R29, R494), sync commands (R136 to R138), and one dt
of Device Time (R27). -/

namespace Sys2Proof.Machine

/-- Carry out a clock command: the Ember cause CLOCK follows it at once. -/
def performClock (p : Script) (s : State) : Host.Outcome State Fault Refusal :=
  performSettled (andThen p showClockCause) s

/-! ### The root (R20, R24, R30, R31) -/

/-- REF_FREQ for a reference of `khz`, by the windows of R507: 1 is 122.88 MHz, 2 is 245.76 MHz, 0 is neither. -/
def refClass (khz : Nat) : Nat :=
  if 120420 ≤ khz ∧ khz ≤ 125340 then 1 else if 240840 ≤ khz ∧ khz ≤ 250680 then 2 else 0

/-- The reference is classified; where it fits, the root locks and the control domain leaves the RC oscillator, unless the
control clock itself is failed. -/
def lockRoot (khz : Nat) : Script := withDev fun d =>
  let c := refClass khz
  seqs [
    put CK Reg.CK.REF_FREQ c, putB CK Reg.CK.REF_PRESENT (c != 0),
    when (c != 0) (seqs [
      putB CK Reg.CK.ROOT_LOCK true, putB CK Reg.CK.CTRL_ON_RC (d.holds CK 6),
      modBase fun b => { b with counting := true, rootFailed := false }])]

/-- The root locks for the first time after a reset (R20, R27). -/
def rootLock (khz : Nat) : Script := withDev fun d =>
  when (!d.is CK Reg.CK.ROOT_LOCK && !d.base.rootFailed) (lockRoot khz)

/-- ROOT_LOCK. -/
def execRootLock (khz : Nat) (s : State) : Host.Outcome State Fault Refusal := performClock (rootLock khz) s

/-- The GOOD bits in their order (R42). -/
def goodBits : List Fld :=
  [Reg.CK.LANE_A, Reg.CK.LANE_B, Reg.CK.LANE_C, Reg.CK.DSP, Reg.CK.SAMPLE, Reg.CK.CONTROL, Reg.CK.MEDIA, Reg.CK.HK]

/-- The count of root cycles over 16 RC cycles differs by more than 25 % from what the fused RC trim gives for the 24,576 MHz
root (R23). -/
def rootTrips (count : Nat) : Bool :=
  let f := Config.rcTrim + 1
  let e := 16 * 2457600
  decide (4 * (count * f) > 5 * e ∨ 4 * (count * f) < 3 * e)

/-- A root failure at `t` (R24, R30, R31, R99): the device mute, the RC oscillator, Device Time coarse, alignment lost. The
Ember cause stays until the sync event after the relock, but for Cold. The root fails when the PLL loses lock or the root
monitor trips; `khz` is REFCLK as the RC oscillator measures it, which REF_FREQ names no more where it fits no window (R20). -/
def rootFailure (t : Nat) (lostLock : Bool) (count khz : Nat) : Script := withDev fun d =>
  when (d.is CK Reg.CK.ROOT_LOCK && (lostLock || rootTrips count)) <| seqs [
    advanceTo t,
    putB CK Reg.CK.ROOT_LOCK false, putB CK Reg.CK.ROOT_LOST true, putB CK Reg.CK.CTRL_ON_RC true,
    putB CK Reg.CK.REF_PRESENT (refClass khz != 0), when (refClass khz == 0) (put CK Reg.CK.REF_FREQ 0),
    inc CK Reg.CK.ROOT_FAIL,
    forEach goodBits fun f => putB CK f false,
    withDev fun e => modBase fun b => { b with rootFailed := true, prevEdge := none, failDt := e.dt, rcCycles := 0 },
    putB TB Reg.TB.DT_COARSE true, putB TB Reg.TB.ALIGNED false, putB TB Reg.TB.ALIGN_ARMED false,
    condStart CK 0 0 devScope [], condStart TB 1 0 noScope [],
    waitAlign,
    when (d.mode != .cold) (modMc fun m => { m with awaitSync := true })]

/-- ROOT_FAILURE. -/
def execRootFailure (t : Nat) (lostLock : Bool) (count khz : Nat) (s : State) : Host.Outcome State Fault Refusal :=
  performClock (rootFailure t lostLock count khz) s

/-- The rate of the RC oscillator in 10 kHz: as last measured, or as the fused trim gives it before the first measurement
(R30). -/
def Dev.rcRate (d : Dev) : Nat := if d.rd CK Reg.CK.RC_FREQ = 0 then Config.rcTrim + 1 else d.rd CK Reg.CK.RC_FREQ

/-- Device Time `n` RC cycles after the failure, in whole dt and rounded upwards (R30); a dt is 1/491.52 MHz. -/
def Dev.coarseDt (d : Dev) (n : Nat) : Nat := d.base.failDt + ceilDiv (n * 49152) d.rcRate

/-- `n` RC cycles have passed since the root failed, and Device Time with them (R30). -/
def coarseTo (n : Nat) : Script := withDev fun d => seqs [
  modBase fun b => { b with rcCycles := max b.rcCycles n }, advanceTo (d.coarseDt n)]

/-- The root relocks after a failure that lasted `cycles` RC cycles (R20, R30, R31): in every mode from Kindling to Service the
Time Base arms alignment. -/
def rootRelock (cycles khz : Nat) : Script := withDev fun d =>
  when (d.base.rootFailed) <| seqs [
    coarseTo cycles,
    lockRoot khz,
    when (refClass khz != 0) (seqs [
      condEnd CK 0 0, condEnd TB 1 0,
      if d.mode = .cold then modMc fun m => { m with awaitSync := false } else armAlignment true])]

/-- ROOT_RELOCK. -/
def execRootRelock (cycles khz : Nat) (s : State) : Host.Outcome State Fault Refusal := performClock (rootRelock cycles khz) s

/-! ### Monitors (R23 to R25, R44) -/

/-- The expected counts of a window, following the commanded dividers (R23, R25). -/
def Dev.expected (d : Dev) : List Nat :=
  [800, 640, 320, if d.is CK Reg.CK.DSP_SLOW then 10 else 160, 64, 40, 25, if d.is CK Reg.CK.HK_HALF then 8 else 16]

/-- Lane clock of a link: A for S20, B for S16 and S16N, or that of its test rate (R21, R113). -/
def Dev.laneClock (d : Dev) (u : Nat) : Nat :=
  let r := if isRxl u then d.rd u Reg.RXL.TEST_RATE else d.rd u Reg.TXL.TEST_RATE
  if r ≠ 0 then r - 1 else if d.fmt u = 1 then 0 else 1

/-- The clock is in use: a lane clock when a configured link runs from it, any other always. -/
def Dev.clockUsed (d : Dev) (i : Nat) : Bool := decide (i ≥ 3) || d.linksOn.any fun u => d.laneClock u == i

/-- A window's count is within one edge of its expectation (R23). -/
def windowOk (n e : Nat) : Bool := decide (n ≤ e + 1 ∧ e ≤ n + 1)

/-- One divided clock's window: failed when its count is more than one edge off, good again at its first passing window. -/
def clockWindow (i n e : Nat) : Script := withDev fun d =>
  let f := goodBits.getD i Reg.CK.HK
  if windowOk n e then seqs [
    putB CK f true,
    when (d.base.bad.testBit i) (modBase fun b => { b with bad := b.bad - 2 ^ i }),
    condEnd CK (i + 1) 0,
    when (i == 5) (putB CK Reg.CK.CTRL_ON_RC false)]
  else seqs [
    putB CK f false, put CK Reg.CK.FAILED (d.rd CK Reg.CK.FAILED ||| 2 ^ i),
    when (!d.base.bad.testBit i) (seqs [inc CK Reg.CK.CLK_FAIL, modBase fun b => { b with bad := b.bad + 2 ^ i }]),
    when (i == 5) (putB CK Reg.CK.CTRL_ON_RC true)]

/-- A monitor window ends at `t`; the monitors are suspended while the root is not locked (R23). The sources of the clocks in
use that it declares failed fire in one cycle. -/
def clockMonitor (t : Nat) (counts : List Nat) : Script := withDev fun d =>
  let ws := (counts.zip d.expected).zipIdx
  when (d.is CK Reg.CK.ROOT_LOCK) <| seqs [
    advanceTo t,
    forEach ws fun x => clockWindow x.2 x.1.1 x.1.2,
    inOneCycle CK ((ws.filter fun x => !windowOk x.1.1 x.1.2 && d.clockUsed x.2).map fun x =>
      (x.2 + 1, condStart CK (x.2 + 1) 0 devScope []))]

/-- CLOCK_MONITOR_WINDOW. -/
def execClockMonitorWindow (t : Nat) (counts : List Nat) (s : State) : Host.Outcome State Fault Refusal :=
  performClock (clockMonitor t counts) s

/-- The 1 ms measurement of the RC oscillator, in 10 kHz (R44). -/
def rcMeasure (t freq : Nat) : Script := withDev fun d =>
  when (d.is CK Reg.CK.ROOT_LOCK) (seqs [advanceTo t, put CK Reg.CK.RC_FREQ freq])

/-- RC_FREQ_MEASURE. -/
def execRcFreqMeasure (t freq : Nat) (s : State) : Host.Outcome State Fault Refusal := performSettled (rcMeasure t freq) s

/-! ### SYSREF (R28, R29, R136, R494) -/

/-- Alignment while it is armed: the second edge of a qualifying pair completes it. -/
def alignEdge (t : Nat) : Script := withDev fun d =>
  let per := d.rd TB Reg.TB.SYSREF_PERIOD
  when (d.is TB Reg.TB.ALIGN_ARMED) (
    if per ≠ 0 ∧ d.base.prevEdge.any (fun p => decide (p + per = t)) then alignAt t per
    else modBase fun b => { b with prevEdge := some t })

/-- The phase check of an aligned Time Base (R29). -/
def phaseCheck (t : Nat) : Script := withDev fun d =>
  let per := d.rd TB Reg.TB.SYSREF_PERIOD
  when (d.is TB Reg.TB.ALIGNED && per != 0 && t % per != 0)
    (seqs [putB TB Reg.TB.PHASE_ERR true, fireEvent TB 0 noScope []])

/-- The SYNC-DECIMATORS that name this edge (R136). -/
def Dev.syncDue (d : Dev) (t : Nat) : List (Nat × Nat × Nat) := d.base.syncWait.filter fun w => decide (w.2.1 ≤ t)

/-- The sync event of this edge, if one is due: automatic or by command, one for all of them (R136, R138). In Survey, Carry and
Backoff, where R137 takes none and does not say what becomes of one that is due, it stays due for a later edge (DESIGN CHOICE, log
entry 158; unsafe). -/
def syncAtEdge (auto : Bool) (due : List (Nat × Nat × Nat)) : Script := withDev fun d =>
  when ((auto || !due.isEmpty) && d.takesSync) <| seqs [
    modBase fun b => { b with autoSync := b.autoSync && !auto
                              syncWait := b.syncWait.filter fun w => !due.contains w },
    syncEvent d.dt,
    forEach due fun w => complete w.1 stSuccess 0 d.dt]

/-- A SYSREF edge sampled at Device Time `t`, of a pulse sampled high for `high` dt: counted, stamped, repeated on SYSREF_OUT (R494), used for alignment or checked; and
the sync event that waited for it. -/
def sysrefEdge (t high : Nat) : Script := withDev fun d =>
  when (d.is CK Reg.CK.ROOT_LOCK) <| seqs [
    advanceTo t, incWrap TB Reg.TB.SYSREF_CNT, emit (.sysrefOut (t + 8) high),
    alignEdge t, withDev fun e => seqs [
      phaseCheck e.dt,
      putLive TB Reg.TB.EDGE_DT_LO e.dt,
      syncAtEdge d.base.autoSync (d.syncDue t)]]

/-- SYSREF_EDGE. -/
def execSysrefEdge (t high : Nat) (s : State) : Host.Outcome State Fault Refusal := performClock (sysrefEdge t high) s

/-- A write of TB.ALIGN_CTRL with ARM = 1 (R28, R31, R54). -/
def alignArm : Script := withDev fun d =>
  if !d.modeIn [.banked, .service] then rejectWrite TB 0x11C 4
  else if d.is TB Reg.TB.ALIGN_ARMED then when (!d.base.relockAlign) (rejectWrite TB 0x11C 6)
  else armAlignment false

/-- ALIGN_ARM. -/
def execAlignArm (s : State) : Host.Outcome State Fault Refusal := performSettled alignArm s

/-! ### Sync commands (R136 to R138) -/

/-- SYNC-DECIMATORS passed the checks of R360: it names the first SYSREF edge at least 64 dt away, and waits at most
2 × SYSREF_PERIOD for it. Its refusals are MODE in Survey, Carry and Backoff, and REFUSED without alignment. -/
def syncDecimators (tag : Nat) : Script := withDev fun d =>
  match d.passed tag 0x0B with
  | none => skip
  | some _ =>
    if d.modeIn [.survey, .carry, .backoff] then complete tag stMode 0 0
    else if !d.is TB Reg.TB.ALIGNED then complete tag stRefused 0 0
    else seqs [takeUp tag, modBase fun b => { b with
      syncWait := b.syncWait ++ [(tag, d.dt + 64, d.dt + 2 * d.rd TB Reg.TB.SYSREF_PERIOD)] }]

/-- SYNC_DECIMATORS. -/
def execSyncDecimators (tag : Nat) (s : State) : Host.Outcome State Fault Refusal := performSettled (syncDecimators tag) s

/-- No edge came in time for the command of this tag (R136). -/
def syncTimeout (tag : Nat) : Script := withDev fun d =>
  match d.base.syncWait.find? fun w => w.1 == tag with
  | none => skip
  | some w => seqs [
      advanceTo w.2.2, modBase fun b => { b with syncWait := b.syncWait.filter fun x => x.1 != tag },
      complete tag stTimeout 0 0]

/-- SYNC_DECIMATORS_TIMEOUT. -/
def execSyncDecimatorsTimeout (tag : Nat) (s : State) : Host.Outcome State Fault Refusal := performSettled (syncTimeout tag) s

/-- A rising edge on SYNC_IN whose synchroniser output is first high at `t` (R136, R137): a sync event 3 dt later, or an edge
that is ignored and counted. One in the dt of a SYSREF-based event is the same event (R138). -/
def syncInEdge (t : Nat) : Script := withDev fun d =>
  when (d.is CK Reg.CK.ROOT_LOCK) <| seqs [
    advanceTo (t + 3),
    if d.modeIn [.survey, .carry, .backoff] then seqs [
      forEach d.allCells fun c => inc c Reg.BC.SYNC_IGN_CNT,
      noteRec 0xFFFF 0x40 (leBytes 8 (t + 3))]
    else when d.takesSync (syncEvent (t + 3))]

/-- SYNC_IN_EDGE. -/
def execSyncInEdge (t : Nat) (s : State) : Host.Outcome State Fault Refusal := performClock (syncInEdge t) s

/-- The settling interval of a cell ends (R135, R137). -/
def settlingEnd (c : Nat) : Script := seqs [
  putB c Reg.BC.SETTLING false, modCell c fun x => { x with syncMute := false }]

/-- SETTLING_END. -/
def execSettlingEnd (c : Nat) (s : State) : Host.Outcome State Fault Refusal :=
  performSettled (onExpiry (.settle c) (settlingEnd c)) s

/-! ### One dt (R27) -/

/-- One dt of Device Time and wall time, where they count, with what follows Device Time alone: TX links in ILAS (R104), running
timers, and the pins on the donor's timeline (R256). While the root is failed it is one cycle of the RC oscillator instead (R30). Device Time
goes on while the sample clock alone is declared failed, of which R27 and R30 say nothing (DESIGN CHOICE, log entry 150;
unsafe). -/
def Dev.tick (d : Dev) : Dev :=
  if d.held || !d.base.counting then d
  else (seqs [if d.base.rootFailed then coarseTo (d.base.rcCycles + 1) else upd (.advance 1), refreshTxLinks, showTimers, refreshPins]).run d

end Sys2Proof.Machine
end

