-- ==== Sys2Proof/Machine/Damper.lean ====
section
/-! DEFINITION. Commands on the Damper: hops (R182, R183, R188, R189), measurement updates (R187, R191 to R197, R214 to R217),
the refinement hold (R187), zeroing (R190), and the path window (R202). -/

namespace Sys2Proof.Machine

/-- The path is declared in an enabled Slice and a configuration runs. -/
def Dev.pathOn (d : Dev) (s p : Nat) : Bool := d.sectionOn s && d.applied && (d.pathsOf s).contains p

/-! ### What a hop gives (R182, R185) -/

/-- The outputs of the cell input sum over hop `h` of cell `c`, in units of 2^−23; none unless all 32 are there. -/
def Dev.hopEps (d : Dev) (c h : Nat) : Option (List Cx) :=
  let es := (d.plane.cells.get {} c).eps
  (List.range 32).foldr (fun i acc => match es.find? fun e => e.1 == ((32 * h + i : Nat) : Int), acc with
    | some e, some xs => some (e.2 :: xs)
    | _, _ => none) (some [])

/-- When sample `n` of cell `c` reaches its input sum (R132). -/
def Dev.inputAt (d : Dev) (c tg n : Nat) : Nat := tg + n * d.period c + d.rxChain c

/-- One sample's term of the probe gradient at lag `k`, in units of 2^−65; none where the source's probe word is 0x8000. The chip is
the source's, or of an image pair the conjugate of that of its cell s′ (R283). -/
def Dev.probeTerm (d : Dev) (img : Option Nat) (s p due : Nat) (k : Int) (eps : Cx) : Option Cx :=
  let src := d.srcOf s p
  let back := fun c => refBack (d.plane.cells.get {} c) (d.period c) ((due : Int) - 40) ((d.rd (dsU s) Reg.DS.P_BULK p : Int) + k)
  let (r, t) := back src
  let chip := match img with
    | none => chipSigns r.chip
    | some c => (chipSigns (back c).1.chip).conj
  match (levelOf r.probe).map linGain with
  | none => none
  | some 0 => none
  | some a => some (Cx.divBy a (Cx.scale fxHalfRoot (Cx.mul eps (Cx.mul (d.refRotor s p t) chip).conj)))

/-- gp(k) of a path at the end of hop `h` from grid origin `tg`, in units of 2^−48 (R182). -/
def Dev.probeGrad (d : Dev) (img : Option Nat) (s p tg h : Nat) (eps : List Cx) (k : Int) : Option Cx :=
  (eps.zipIdx.foldr (fun e acc => match d.probeTerm img s p (d.inputAt (d.rcvOf s p) tg (32 * h + e.2)) k e.1, acc with
    | some x, some y => some (Cx.add x y)
    | _, _ => none) (some (0, 0))).map fun x => Cx.divBy (32 * 2 ^ 17) x

/-- gp of every measured lag, from kmin upward. -/
def Dev.probeGrads (d : Dev) (s p tg h : Nat) (eps : List Cx) : List (Option Cx) :=
  (List.range (d.taps s p + 16 + d.below s p)).map fun (i : Nat) => d.probeGrad none s p tg h eps ((i : Int) - d.below s p)

/-- First tap and offset of a partition: 0 is the direct taps. -/
def partOffset (q : Nat) : Nat := if q = 0 then 0 else 32 + 64 * (q - 1)

/-- RP of partition `q`: the 128-point transform of the reference samples that it reaches over the hop, those of its overlap-save
block, in units of 2^−37. -/
def Dev.partSpectrum (d : Dev) (s p tg h q : Nat) : List Cx :=
  let x := d.partWindow d.plane s p (d.inputAt (d.rcvOf s p) tg (32 * h + 31)) 31 (partOffset q)
  (List.range 128).map fun (b : Nat) => Cx.divBy (2 ^ 30) (fourier 128 x b)

/-- |RP|² of a bin in units of 2^−60. -/
def binPower (x : Cx) : Nat := x.norm / 2 ^ 14

/-- Ŝ after a hop: |RP|² averaged with a time constant of 1 ms (R185). -/
def Dev.nextSpec (d : Dev) (c : Nat) (old : List Nat) (rp : List Cx) : List Nat :=
  rp.zipIdx.map fun x =>
    let a : Int := old.getD x.2 0
    (a + ((binPower x.1 : Int) - a) * (32 * d.period c) / 491520).toNat

/-- S_min in units of 2^−60: 128 times the source's probe power. -/
def Dev.specFloor (d : Dev) (s p : Nat) : Nat :=
  match levelOf (((d.plane.cells.get {} (d.srcOf s p)).refs.head?.map (·.probe)).getD noLevel) with
  | none => 0
  | some v => 128 * linGain v ^ 2 / 2 ^ 20

/-- The whitened reference v over a partition's block, oldest first, in units of 2^−30. The inverse transform takes no factor, so
that a white reference gives v the gain for which R185 states the expectation of gs (DEDUCED, log entry 165). -/
def Dev.whitened (d : Dev) (s p : Nat) (rp : List Cx) (spec : List Nat) : List Cx :=
  let ys := rp.zipIdx.map fun x => Cx.divBy (spec.getD x.2 0 + d.specFloor s p) (Cx.scale (2 ^ 53) x.1)
  (List.range 128).map fun (i : Nat) => Cx.divBy (2 ^ 30) (fourier 128 ys (-(i : Int)))

/-- gs of the taps of one partition, in units of 2^−48: the newest sample of the block meets its first tap at the hop's last
sample. -/
def signalGrad (eps v : List Cx) (taps : Nat) : List Cx :=
  (List.range taps).map fun (k : Nat) =>
    Cx.divBy (32 * 2 ^ 5) (Cx.sum (eps.zipIdx.map fun e => Cx.mul e.1 (v.getD (127 - (31 - e.2) - k) (0, 0)).conj))

/-- gs of every tap and the Ŝ of every partition after the hop. -/
def Dev.signalGrads (d : Dev) (s p tg h : Nat) (eps : List Cx) : List Cx × List (List Nat) :=
  let qs := (List.range (d.partitions s p + 1)).map fun q =>
    let rp := d.partSpectrum s p tg h q
    let spec := d.nextSpec (d.rcvOf s p) ((d.pathAt' s p).spec.getD q []) rp
    (signalGrad eps (d.whitened s p rp spec) (if q = 0 then 32 else 64), spec)
  ((qs.flatMap (·.1)).take (d.taps s p), qs.map (·.2))

/-- Σ of the source's probe power over the samples of a hop at lag 0, in units of 2^−46 (R191). -/
def Dev.hopProbe (d : Dev) (s p tg h : Nat) : Nat :=
  let src := d.srcOf s p
  ((List.range 32).map fun i =>
    match levelOf (refBack (d.plane.cells.get {} src) (d.period src) ((d.inputAt (d.rcvOf s p) tg (32 * h + i) : Int) - 40)
        (d.rd (dsU s) Reg.DS.P_BULK p)).1.probe with
    | none => 0
    | some v => linGain v ^ 2 / 2 ^ 34).foldl (· + ·) 0

/-- A stream sample that contributes to hop `h` was zeroed under R105. -/
def Dev.hopZeroed (d : Dev) (c tg h : Nat) : Bool :=
  (d.linkAt (d.rxlOf c)).zeroed.any fun t =>
    decide (tg + 32 * h * d.period c ≤ t + d.dDec c ∧ t ≤ tg + (32 * h + 31) * d.period c + d.dDec c)

/-! ### Hops (R182, R183, R188, R189) -/

/-- num / den rounded to one of its neighbours, for the n-th draw and component `i`. -/
def hopRound (n i : Nat) (num : Int) (den : Nat) : Int :=
  num / den + (if num % den ≠ 0 ∧ Config.updateRoundsUp n i then 1 else 0)

/-- T of R183 in ms. -/
def Dev.tAdapt (d : Dev) (s p : Nat) : Nat :=
  let u := dsU s
  if d.rd u Reg.DS.P_ADAPT_STATE p = asRefine then d.rd u Reg.DS.TRACK_TAU
  else if d.mode = .survey then d.rd u Reg.DS.SURVEY_TAU
  else 100 * d.rd u Reg.DS.PROBE_TAU

/-- A tap within Q8.24. -/
def tapSat (x : Int) : Int := clamp (-(2 ^ 31)) (2 ^ 31 - 1) x

/-- w + alpha × g over the taps; the gradient is in units of 2^−48, alpha = 32 / (T × cell rate). -/
def stepTaps (n taps tms rate : Nat) (w g : List (Int × Int)) : List (Int × Int) :=
  (List.range taps).map fun k =>
    let a := w.getD k (0, 0)
    let b := g.getD k (0, 0)
    let den := tms * rate * 2 ^ 24
    (tapSat (a.1 + hopRound n (2 * k) (32000 * b.1) den), tapSat (a.2 + hopRound n (2 * k + 1) (32000 * b.2) den))

/-- m + beta × (gp − m) over the lags that have a gradient. -/
def stepLags (n tms rate : Nat) (m : List (Int × Int)) (gp : List (Option (Int × Int))) : List (Int × Int) :=
  gp.zipIdx.map fun x =>
    let a := m.getD x.2 (0, 0)
    match x.1 with
    | none => a
    | some b => (a.1 + hopRound n (2 * x.2) (32000 * (b.1 - a.1)) (tms * rate), a.2 + hopRound n (2 * x.2 + 1) (32000 * (b.2 - a.2)) (tms * rate))

/-- Hop `h` of path `p` has ended and is used: gp of every measured lag, in REFINE gs of every tap, and the update of R183 where
R188 allows it. -/
def useHop (s p tg h : Nat) (eps : List Cx) : Script := withDev fun d =>
  let u := dsU s
  let x := d.pathAt' s p
  let taps := d.taps s p
  let rate := d.cellRate (d.rcvOf s p)
  let gp := d.probeGrads s p tg h eps
  let sg := d.signalGrads s p tg h eps
  let own := (gp.drop (d.below s p)).take taps
  let full := own.all (·.isSome)
  let g := if d.rd u Reg.DS.P_ADAPT_STATE p = asRefine then sg.1 else own.map (·.getD (0, 0))
  seqs [
    upd .draw,
    putB u Reg.DS.P_FROZEN false p,
    when full (incWrap u Reg.DS.P_UPDATES p),
    modP s p fun y => { y with
      w := if full then stepTaps d.drawn taps (d.tAdapt s p) rate x.w g else x.w
      m := stepLags (d.drawn + 1) (d.tRes s) rate x.m gp
      spec := sg.2, used := y.used + 1 },
    upd .draw]

/-- The unit phasor that a constant in the source's TX stream becomes at the input sum at `due`, at lag 0 (R283): the source sample
of which the transmit chain makes that constant, rotated by R175; in units of 2^−36. -/
def Dev.centrePhasor (d : Dev) (s p due : Nat) : Cx :=
  let src := d.srcOf s p
  let (_, t) := refBack (d.plane.cells.get {} src) (d.period src) ((due : Int) - 40) (d.rd (dsU s) Reg.DS.P_BULK p)
  let tc := t.toNat
  Cx.mul (d.refRotor s p t)
    (rotor (d.accTx src (((d.cellAt src).gridAt tc).getD 0) (tc + d.dInt src + d.txAlign src))).conj

/-- Σ eps × conj(u) over a hop, in units of 2^−59. -/
def Dev.hopTone (d : Dev) (s p tg h : Nat) (eps : List Cx) : Cx :=
  Cx.sum (eps.zipIdx.map fun e => Cx.mul e.1 (d.centrePhasor s p (d.inputAt (d.rcvOf s p) tg (32 * h + e.2))).conj)

/-- The probe gradient of every tap with conj(c_s′) in place of c (R283); none where R182 gives one of them none. -/
def Dev.imageGrads (d : Dev) (img s p tg h : Nat) (eps : List Cx) : Option (List Cx) :=
  (List.range (d.taps s p)).foldr (fun (k : Nat) acc => match d.probeGrad (some img) s p tg h eps k, acc with
    | some x, some xs => some (x :: xs)
    | _, _ => none) (some [])

/-- Sum of two lists of samples, of which the first may still be empty. -/
def addTaps (xs ys : List Cx) : List Cx := if xs.isEmpty then ys else (xs.zip ys).map fun t => t.1.add t.2

/-- A used hop enters the runs on TX links that name its path (R283). -/
def calHop (s p tg h : Nat) (eps : List Cx) : Script := withDev fun d =>
  gather (fun r => (r.kind == 3 || r.kind == 4) && d.calPath r.kind (linkL r.target) == (s, p) && r.covers d.dt) fun r =>
    let a := r.acc
    if r.kind = 4 then { a with held := a.held + 1, sum := a.sum.add (d.hopTone s p tg h eps) }
    else match d.imageGrads (d.rd CE Reg.CE.IMG_SRC (linkL r.target)) s p tg h eps with
      | none => a
      | some g => { a with
          held := a.held + 1, img := addTaps a.img g
          wq := addTaps a.wq ((List.range (d.taps s p)).map fun k => (d.pathAt' s p).w.getD k (0, 0)) }

/-- One hop in 1, 2 or 8 is used at the throttle level in force (R189). -/
def Dev.skips (d : Dev) (h : Nat) : Bool := decide (h % ([1, 2, 8].getD d.skipLevel 8) ≠ 0)

/-- Hop `h`, counted from the grid origin, has ended: ε and the source's probe enter the interval's means, and the hop is used
where R188 and R189 allow it. A residue failure discards it (R477). -/
def takeHop (s p tg h : Nat) (residue : Bool) : Script := withDev fun d =>
  let c := d.rcvOf s p
  let t0 := tg + 32 * h * d.period c - d.rd (d.rxlOf c) Reg.RXL.PATH_DT
  let hears := (d.rxGroup s (d.rd c Reg.BC.RXL)).any fun k => d.listened s k t0 (t0 + 31 * d.period c)
  match d.hopEps c h with
  | none => skip
  | some eps => seqs [
      modP s p fun x => { x with hops := x.hops + 1, eps := x.eps + energy eps, probe := x.probe + d.hopProbe s p tg h },
      if residue then fireEvent (dsU s) 6 (d.pathScope s p) []
      else when (!d.hopZeroed c tg h && hears && !d.skips h && !d.pathFrozen s p)
        (seqs [calHop s p tg h eps, useHop s p tg h eps])]

/-- The end of hop `h`, counted from the grid origin: its last sample has passed the cell input sum. -/
def damperHop (s p h : Nat) (feed : Feed) (residue : Bool) : Script := withDev fun d =>
  let c := d.rcvOf s p
  match (d.cellAt c).tg with
  | none => skip
  | some tg =>
    let key := 0x40000 + s * 256 + p
    let e := d.inputAt c tg (32 * h + 31)
    when (d.pathOn s p && decide (d.ticksAt key ≤ e) && decide (d.dt ≤ e)) <| seqs [
      advanceTo e, upd (.ticks key (e + 1)), runPlane feed, takeHop s p tg h residue]

/-- DAMPER_HOP (R183). -/
def execDamperHop (sec p h : Nat) (feed : Feed) (residue : Bool) (s : State) : Host.Outcome State Fault Refusal :=
  performSettled (damperHop sec p h feed residue) s

/-! ### Measurement updates -/

/-- Every path of one Slice reports and moves, and its cells' sums reach the engine. R193 comes before R187: a path that its coupling
zeroes is judged by R187 on the RESID and DEPTH formed before, of which no rule gives the order (DESIGN CHOICE, log entry 161;
unsafe). -/
def measureSlice (s : Nat) : Script := withDev fun d => seqs [
  forEach (d.pathsOf s) fun p => seqs [measurePath s p, judgePath s p, movePath s p, settlePath s p],
  when (d.is (dsU s) Reg.DS.ENABLE) (showSettled s),
  forEach (d.cellsOf s) deliverLoop,
  forEach (d.pathsOf s) (showPath s),
  when (d.is (dsU s) Reg.DS.ENABLE) (showWorst s)]

/-- A measurement update at `t` (R191): every Slice, the global margin (R217), and the end of a Survey whose paths are all
settled (R197). -/
def measureAll (t : Nat) : Script := onMultiple 2 491520 t (withDev fun d => when d.applied (seqs [
  forEach d.sections measureSlice,
  judgeGlobalMargin,
  withDev fun e => when (e.mode == .survey && e.surveyMet) (changeMode .banked 0x20)]))

/-- DAMPER_MEASUREMENT_UPDATE (R191). -/
def execDamperMeasurementUpdate (t : Nat) (s : State) : Host.Outcome State Fault Refusal := performSettled (measureAll t) s

/-- A suspension ends (R187). -/
def refineEnd (s p : Nat) : Script := withDev fun d =>
  when (d.rd (dsU s) Reg.DS.P_ADAPT_STATE p == asSuspended) (put (dsU s) Reg.DS.P_ADAPT_STATE asProbe p)

/-- REFINE_HOLD_EXPIRY (R187). -/
def execRefineHoldExpiry (sec p : Nat) (s : State) : Host.Outcome State Fault Refusal :=
  performSettled (onExpiry (.refineHold (dsU sec) p) (refineEnd sec p)) s

/-! ### Host writes -/

/-- A write of DS.CTRL: ZERO_ALL in Banked and Service only, and SURVEY_ZERO (R190, R205). -/
def writeZeroAll (s v be : Nat) : Script :=
  writeReg (dsU s) 0x11C v be (fun d => { mode := v.testBit 1 && !d.modeIn [.banked, .service] })
    (withDev fun d => when (v.testBit 1) (forEach (d.pathsOf s) fun p => zeroPath s p .host))

/-- ZERO_ALL (R190). -/
def execZeroAll (sec v be : Nat) (s : State) : Host.Outcome State Fault Refusal := performSettled (writeZeroAll sec v be) s

/-- A write of PATH_SEL latches the path's last snapshot (R202). -/
def writePathSel (s v be : Nat) : Script :=
  writeReg (dsU s) 0x180 v be (fun d => { range := decide (d.rd (dsU s) Reg.DS.PATH_CNT ≤ v % 256) })
    (modP s (v % 256) fun x => { x with latched := x.shown })

/-- PATH_SEL_WRITE (R202). -/
def execPathSelWrite (sec v be : Nat) (s : State) : Host.Outcome State Fault Refusal := performSettled (writePathSel sec v be) s

end Sys2Proof.Machine
end

