-- ==== Sys2Proof/Machine/Protection.lean ====
section
/-! DEFINITION. Commands on the Protection Engines: growth windows (R218), the ends of holds (R216, R218, R219, R230), output
ceilings (R229, R230), donor loss (R221), TDD sync (R226), uplink duty (R225) and the allow-list (R228). -/

namespace Sys2Proof.Machine

/-- The cell is configured and a configuration is applied. -/
def Dev.guarded (d : Dev) (c : Nat) : Bool := d.present c && typeOf c == 0x03 && d.applied && d.is c Reg.BC.ENABLE

/-! ### Growth (R218) -/

/-- A growth window in dt. -/
def growWindow : Nat := 1966

/-- Every window of the list, newest first, rises by at least GROW_DB tenths of a dB over the one after it. -/
def rises (db : Nat) : List (Nat × Nat) → Bool
  | a :: b :: rest => decide (0 < a.1) && powAtMost 100 db (a.1 * b.2) (b.1 * a.2) && rises db (b :: rest)
  | _ => true

/-- |re + i im| / sum is at least r/256. -/
def rhoAtLeast (r sum : Nat) (re im : Int) : Bool := decide (r ^ 2 * sum ^ 2 ≤ 65536 * (re.natAbs ^ 2 + im.natAbs ^ 2))

/-- ρ in units of 1/256, to one of its neighbours. -/
def rhoCode (sum : Nat) (re im : Int) : Int :=
  let lo := searchUp (fun r => rhoAtLeast r.toNat sum re im) 9 0
  lo + (if lo.toNat ^ 2 * sum ^ 2 < 65536 * (re.natAbs ^ 2 + im.natAbs ^ 2) ∧ Config.roundsUp (re.natAbs ^ 2 + im.natAbs ^ 2) (sum ^ 2)
    then 1 else 0)

/-- The window that ends at `t`: `n` cell samples, the sum of their |y|² in units of 2^−46, and Σ y(m) × conj(y(m − 1)) in
the same units. It counts while the cell has been Passing or Limited throughout it. -/
def growthWindow (c t n sum : Nat) (re im : Int) : Script := withDev fun d =>
  let key := 0x30000 + c
  when (d.guarded c && t % growWindow == 0 && decide (d.dt ≤ t) && decide (d.ticksAt key ≤ t)) (
    let x := d.cellAt c
    let u := peOf c
    let whole := d.live? c && d.mode != .survey && x.liveFrom.any fun f => decide (f + growWindow ≤ t)
    let old := if d.ticksAt key + growWindow = t + 1 then x.grow else []
    let ws := if whole then ((sum, n) :: old).take (d.rd u Reg.PE.GROW_N + 1) else []
    let trips := decide (ws.length = d.rd u Reg.PE.GROW_N + 1) && rises (d.rd u Reg.PE.GROW_DB) ws &&
      rhoAtLeast (d.rd u Reg.PE.GROW_RHO) sum re im && decide (0 < n) &&
      powAtMost 1000 (d.rdS u Reg.PE.GROW_FLOOR) sum (n * 2 ^ 46)
    seqs [
      advanceTo t, upd (.ticks key (t + 1)),
      modCell c fun y => { y with grow := if trips then [] else ws },
      when trips (growthTrip c [cdbOpen sum (n * 2 ^ 46), rhoCode sum re im])])

/-- GROWTH_WINDOW_END of cell `c` (R218). -/
def execGrowthWindowEnd (c t n sum : Nat) (re im : Int) (s : State) : Host.Outcome State Fault Refusal :=
  performSettled (growthWindow c t n sum re im) s

/-! ### Ends of holds -/

/-- A growth (1), spectral (2) or ceiling (3) mute releases; a term below −40.00 dB keeps its cause. -/
def tripEnd (c k : Nat) : Script :=
  if k = 1 then seqs [modCell c fun x => { x with heldGrowth := false }, clearCause c mcGrowth]
  else if k = 2 then seqs [modCell c fun x => { x with heldSpectral := false }, refreshTerms c]
  else seqs [modCell c fun x => { x with heldCeiling := false }, refreshTerms c]

/-- TRIP_HOLD_EXPIRY (R218, R219, R230). -/
def execTripHoldExpiry (c k : Nat) (s : State) : Host.Outcome State Fault Refusal :=
  performSettled (onExpiry (.tripHold c k) (tripEnd c k)) s

/-- MARGIN_HOLD_EXPIRY (R216): the mute may release from the next delivery on. -/
def execMarginHoldExpiry (c : Nat) (s : State) : Host.Outcome State Fault Refusal :=
  performSettled (onExpiry (.marginHold c) (modCell c fun x => { x with heldMargin := false })) s

/-- SPK_HOLD_EXPIRY (R219): g_spk is +40.00 dB again. -/
def execSpkHoldExpiry (c : Nat) (s : State) : Host.Outcome State Fault Refusal :=
  performSettled (onExpiry (.spkHold c) (seqs [pePutS c Reg.PE.C_G_SPK 4000, refreshTerms c])) s

/-! ### Output ceilings (R229, R230) -/

/-- The terms of a band's power: the sums of the cells' monitors, each with the gain of its transmit chain. -/
def Dev.bandTerms (d : Dev) (cs : List Nat) (sum : Nat → Nat) : List (Nat × Int) := cs.map fun c => (sum c, d.rdS c Reg.BC.TX_GAIN)

/-- The port power of a band over `n` dt in 0.01 dBm, rounded up; none for no power. -/
def bandLevel (ws : List (Nat × Int)) (n : Nat) (fs : Int) : Option Int := (levelSumUp (n * 2 ^ 46) ws).map (· + fs)

/-- The Combiner and band pairs of a section's configured cells. -/
def Dev.bandsOf (d : Dev) (s : Nat) : List (Nat × Nat) :=
  ((d.cellsOf s).map fun c => (d.rd c Reg.BC.CB, d.rd c Reg.BC.BAND_ID)).eraseDups

/-- TX_FS_DBM of TX link `i` of a section. -/
def Dev.txFsOf (d : Dev) (s i : Nat) : Int := d.rdS (peU s) Reg.PE.TX_FS_DBM i

/-- One band's average and the ceiling term of each of its cells. -/
def averageBand (s i b : Nat) : Script := withDev fun d =>
  let cs := d.bandCells s i b
  let ws := d.bandTerms cs fun c => ((d.cellAt c).monSegs.take 120).foldl (· + ·) 0
  let avg := bandLevel ws 491520 (d.txFsOf s i)
  seqs [
    forEach cs fun c => pePut c Reg.PE.C_PORT_AVG (codeLevel avg),
    forEach cs fun c => seqs [
      withDev fun d => pePutS c Reg.PE.C_G_CEIL (d.gCeil c (491520 * 2 ^ 46) ws),
      refreshTerms c]]

/-- The 4,096 dt segment of a cell's gain ends. -/
def closeSegment (c : Nat) : Script := seqs [
  accountGain c,
  modCell c fun x => { x with gSegs := ((x.gAcc, x.gDt) :: x.gSegs).take 120, gAcc := 0, gDt := 0 }]

/-- The averages at `t`, over the monitor windows that have ended by then (R162). -/
def averageAll (t : Nat) : Script := onMultiple 3 4096 t (withDev fun d => when d.applied (seqs [
  forEach d.allCells closeSegment,
  forEach d.sections fun s => withDev fun d => forEach (d.bandsOf s) fun x => averageBand s x.1 x.2]))

/-- CEILING_AVG_UPDATE (R229). -/
def execCeilingAvgUpdate (t : Nat) (s : State) : Host.Outcome State Fault Refusal := performSettled (averageAll t) s

/-- One band's fast power: shown, and above P_MAX + CEIL_FAST the band is muted in that Combiner. -/
def fastBand (s i b : Nat) : Script := withDev fun d =>
  let cs := d.bandCells s i b
  let p := bandLevel (d.bandTerms cs fun c => ((d.cellAt c).fastSegs.take 4).foldl (· + ·) 0) 1024 (d.txFsOf s i)
  seqs [
    forEach cs fun c => pePut c Reg.PE.C_PORT_FAST (codeLevel p),
    match p, levelOf (d.rd (peU s) Reg.PE.B_P_MAX b) with
    | some p, some m => when (decide (p > m + d.rd (peU s) Reg.PE.CEIL_FAST)) (ceilingTrip s i b p)
    | _, _ => skip]

/-- The fast sums at `t`: of each cell the sums over the last 256 dt of monitor A in units of 2^−46 and of monitor B in units
of 2^−30. A cell not named has none. -/
def fastAll (t : Nat) (sums : List (Nat × Nat × Nat)) : Script := onMultiple 4 256 t (withDev fun d => when d.applied (seqs [
  forEach d.allCells fun c =>
    let x := ((sums.find? fun e => e.1 == c).map (·.2)).getD (0, 0)
    modCell c fun y => { y with fastSegs := (max x.1 (x.2 * 2 ^ 16) * d.period c :: y.fastSegs).take (16 + d.chainSegs c) },
  forEach d.sections fun s => withDev fun d => forEach (d.bandsOf s) fun x => fastBand s x.1 x.2]))

/-- CEILING_FAST_UPDATE (R230). -/
def execCeilingFastUpdate (t : Nat) (sums : List (Nat × Nat × Nat)) (s : State) : Host.Outcome State Fault Refusal :=
  performSettled (fastAll t sums) s

/-! ### Donor loss (R221) -/

/-- DONOR_HOLD_EXPIRY of carrier `k` of section `sec` (R221). -/
def execDonorHoldExpiry (sec k : Nat) (s : State) : Host.Outcome State Fault Refusal :=
  performSettled (onExpiry (.donorHold (peU sec) k) (donorLost sec k)) s

/-! ### TDD sync (R226) -/

/-- Frame lock of a carrier has been as it is for SYNC_HOLD ms: the cells of one section follow it. -/
def syncHeld (s car : Nat) : Script := withDev fun d =>
  let cs := d.tddCells s car
  let u := peU s
  if d.is (sdU (car / 8)) Reg.SD.K_FRAME_LOCK (car % 8) then
    seqs [forEach cs fun c => clearCause c mcSync, condEnd u 8 car]
  else seqs [
    forEach cs fun c => markCause c mcSync,
    when (!cs.isEmpty) (condStart u 8 car (setScope u (car % 8) cs) [])]

/-- SYNC_HOLD_EXPIRY in section `sec` for carrier `car`, counted over all sections (R226). -/
def execSyncHoldExpiry (sec car : Nat) (s : State) : Host.Outcome State Fault Refusal :=
  performSettled (onExpiry (.syncHold (peU sec) car) (syncHeld sec car)) s

/-! ### Duty (R156, R225) -/

/-- dt between `start` and `now` in which a gate was open, by its edges, newest first; closed before the first. -/
def openDt (start now : Nat) : List (Nat × Bool) → Nat
  | [] => 0
  | (t, o) :: rest =>
    (if o then now - max t start else 0) + (if t ≤ start then 0 else openDt start t rest)

/-- The edges that a window starting at `start` needs. -/
def keepEdges (start : Nat) (es : List (Nat × Bool)) : List (Nat × Bool) :=
  (es.takeWhile fun e => decide (start < e.1)) ++ (es.dropWhile fun e => decide (start < e.1)).take 1

/-- A fraction in 0.01 %, to one of its neighbours. -/
def fraction (p q : Nat) : Nat :=
  p * 10000 / q + (if p * 10000 % q ≠ 0 ∧ Config.roundsUp (p * 10000) q then 1 else 0)

/-- SQ_DUTY of a cell at `t`. -/
def squelchDuty (c t : Nat) : Script := withDev fun d =>
  let start := t - dtOfS 1
  let es := keepEdges start (d.cellAt c).sqEdges
  seqs [
    modCell c fun x => { x with sqEdges := es },
    put c Reg.BC.SQ_DUTY (fraction (openDt start t es) (dtOfS 1))]

/-- DUTY_NOW of an uplink cell at `t`, and the duty mute. -/
def uplinkDuty (c t : Nat) : Script := withDev fun d =>
  let u := peOf c
  let win := dtOfS (d.rd u Reg.PE.UL_DUTY_WIN)
  let start := t - win
  let es := keepEdges start (d.cellAt c).dutyEdges
  let now := fraction (openDt start t es) win
  let lim := d.rd u Reg.PE.UL_DUTY_MAX
  seqs [
    modCell c fun x => { x with dutyEdges := es },
    pePut c Reg.PE.C_DUTY_NOW now,
    if now ≥ lim then when (!d.muteCause c mcDuty)
      (seqs [markCause c mcDuty, condStart u 10 (idxOf c) (cellScope c) []])
    else when (d.muteCause c mcDuty && decide (now ≤ lim - 500))
      (seqs [clearCause c mcDuty, condEnd u 10 (idxOf c)])]

/-- The duties at the 1 ms multiple `t`. -/
def dutyAll (t : Nat) : Script := onMultiple 5 491520 t (withDev fun d => when d.applied (
  forEach d.allCells fun c => seqs [squelchDuty c t, when (d.isUplink c) (uplinkDuty c t)]))

/-- DUTY_UPDATE (R225). -/
def execDutyUpdate (t : Nat) (s : State) : Host.Outcome State Fault Refusal := performSettled (dutyAll t) s

/-! ### Allow-list (R228) -/

/-- A cell whose band has left the range that held it in Kindling is muted until the next entry to Kindling. -/
def allowCell (c : Nat) : Script := withDev fun d =>
  match (d.cellAt c).range with
  | none => skip
  | some (lo, hi) =>
    let b := d.rfBand c
    when ((decide (b.1 < (lo : Int)) || decide (b.2 > (hi : Int))) && !d.muteCause c mcAllow)
      (seqs [markCause c mcAllow, condStart (peOf c) 9 (idxOf c) (cellScope c) []])

/-- The recheck at the 1 ms multiple `t`. -/
def allowAll (t : Nat) : Script := onMultiple 6 491520 t (withDev fun d => when d.applied (forEach d.allCells allowCell))

/-- ALLOW_RECHECK (R228). -/
def execAllowRecheck (t : Nat) (s : State) : Host.Outcome State Fault Refusal := performSettled (allowAll t) s

end Sys2Proof.Machine
end

