-- ==== Sys2Proof/Machine/Donor.lean ====
section
/-! DEFINITION. Commands on the Sync Detectors: detections (R221, R222, R241, R242, R245), the flywheel (R243), frame marks (R244)
and the adoption of a new timeline (R246). -/

namespace Sys2Proof.Machine

/-- Change what a carrier keeps. -/
def modCar (s k : Nat) (f : Carrier → Carrier) : Script := modCarrier (s * 8 + k) f

/-! ### Detections -/

/-- The instant lies inside the search span: the whole period while the carrier is not locked, else t_p ± SRCH_WIN (R243). -/
def Dev.inSpan (d : Dev) (s k tdet : Nat) : Bool :=
  !d.locked s k ||
    decide (((tdet : Int) * 65536 - (d.carrierAt (s * 8 + k)).tp).natAbs ≤ d.rd (sdU s) Reg.SD.K_SRCH_WIN k * 65536)

/-- The mean power of levels, rounded up to 0.01 dB. -/
def meanLevelUp (xs : List Int) : Int := (levelSumUp xs.length (xs.map fun x => (1, x))).getD 0

/-- PL of R222: the smaller of the path losses by the mean and by the latest power, rounded down. -/
def Dev.lossOf (d : Dev) (s k : Nat) (pss : List Int) : Int :=
  let u := peU s
  d.rdS u Reg.PE.PSS_TX_DBM k - (max (meanLevelUp pss) (pss.headD 0) +
    d.rdS u Reg.PE.RX_FS_DBM (d.rd (sdU s) Reg.SD.K_RXL k))

/-- A valid detection reaches the engine (R221, R222): PRESENT, the path loss, DONOR_HOLD restarted, the mutes released. -/
def validDetection (s k : Nat) (pwr : Int) : Script := withDev fun d =>
  let u := peU s
  let car := s * 8 + k
  let ps := (pwr :: (d.carrierAt car).pss).take 16
  seqs [
    modCar s k fun x => { x with pss := ps },
    putS u Reg.PE.PL (clamp (-32767) 32767 (d.lossOf s k ps)) k,
    startTimer (.donorHold u k) (dtOfMs (d.rd u Reg.PE.DONOR_HOLD)),
    when (!d.is u Reg.PE.PRESENT k) (seqs [
      putB u Reg.PE.PRESENT true k, donorRecord s k true,
      forEach (d.cellsOfDonor car) fun c => clearCause c mcDonor,
      condEnd u 7 k]),
    forEach (d.cellsOfDonor car) refreshUplink]

/-- CFO in 0.1 Hz of phase advances in units of 2^−48 turn: the mean offset at f_sd (R245). -/
def Dev.cfoOf (d : Dev) (s k : Nat) (advs : List Int) : Int :=
  roundOpen (advs.foldl (· + ·) 0 * (4915200000 / d.sdPer s k : Nat)) (advs.length * 128 * 2 ^ 48)

/-- A detection inside the search span (R242). One that fails the correlator's residue check is discarded (R477). -/
def detection (s k : Nat) (x : Detection) (residue : Bool) : Script := withDev fun d =>
  let u := sdU s
  when (d.inSpan s k x.tdet)
    (if residue then
      fireEvent u 1 (setScope u k (d.cellsOfDonor (s * 8 + k))) []
    else
      let cs := (x.adv :: (d.carrierAt (s * 8 + k)).cfos).take 16
      seqs [
        modCar s k fun y => { y with det := some x.tdet, cfos := cs, fixed := true },
        put u Reg.SD.K_NID2_FOUND x.nid2 k, put u Reg.SD.K_PEAK x.rho k,
        putS u Reg.SD.K_PSS_PWR x.pwr k,
        putS u Reg.SD.K_CFO (d.cfoOf s k cs) k,
        incWrap u Reg.SD.K_DET_CNT k,
        when (d.is CE Reg.CE.REF_EN && d.rd CE Reg.CE.REF_SS == s && d.rd CE Reg.CE.REF_CAR == k)
          (modCe fun e => { e with refDet := (d.dt, x.adv) :: e.refDet }),
        when (decide (x.pwr ≥ d.rdS (peU s) Reg.PE.DONOR_MIN k)) (validDetection s k x.pwr)])

/-- The decimated sample of Device Time `t` shows whether the correlation 128 samples before it is a peak. -/
def detect (s k t : Nat) (feed : Feed) (residue : Bool) : Script := withDev fun d =>
  when (d.carrierOn s k) (seqs [advanceTo t, runPlane feed, withDev fun d =>
    match d.detected s k with
    | none => skip
    | some x => detection s k x residue])

/-- PSS_DETECTION of carrier `k` of section `sec` (R242). -/
def execPssDetection (sec k t : Nat) (feed : Feed) (residue : Bool) (s : State) : Host.Outcome State Fault Refusal :=
  performSettled (detect sec k t feed residue) s

/-! ### The flywheel (R243) -/

/-- dt from one mark to the next, in 2^−16 dt. -/
def Dev.markStep (d : Dev) (car : Nat) : Nat := d.markPeriod car * 65536

/-- A mark of the timeline with prediction `fly`, in 2^−16 dt. -/
def Dev.markBase (d : Dev) (s k : Nat) (fly : Int) : Int :=
  fly - ((d.rd (sdU s) Reg.SD.K_PSS_OFS_DT k + d.rd (sdU s) Reg.SD.K_OTA_DT k : Nat) : Int) * 65536

/-- A time in 2^−16 dt as a whole dt: one of its neighbours. -/
def wholeDt (x : Int) : Nat :=
  (roundOpen x 65536).toNat

/-- The latest mark of a timeline at or before `t`. -/
def Dev.markBefore (d : Dev) (s k : Nat) (fly : Int) (t : Nat) : Nat :=
  let b := d.markBase s k fly
  wholeDt (b + ((t : Int) * 65536 - b) / d.markStep (s * 8 + k) * d.markStep (s * 8 + k))

/-- The groups' timeline is as stated; its latest mark is shown. -/
def takeTimeline (s k : Nat) (fly : Int) : Script := withDev fun d =>
  let m := d.markBefore s k fly d.dt
  seqs [modCar s k fun x => { x with fly := fly, mark := m }, putLive (sdU s) Reg.SD.K_MARK_LO m k]

/-- A difference of predictions brought to within half a period. -/
def wrapDiff (per : Nat) (x : Int) : Int := (x + per / 2) % per - per / 2

/-- The TDD groups that a carrier times, by section and index. -/
def Dev.groupsOn (d : Dev) (car : Nat) : List (Nat × Nat) :=
  (d.sections.flatMap fun s => (List.range 4).map fun k => (s, k)).filter fun x =>
    d.grpOn x.1 x.2 && d.grpTdd x.1 x.2 && d.grpCarrier x.1 x.2 == car

/-- Lock is gained with prediction `tp`, or returns: the first lock gives the carrier its marks; a timeline within LOCK_TOL of
the flywheel's is taken at once, another one waits for its adoption (R246). -/
def lockGained (s k : Nat) (tp fly : Int) (per : Nat) : Script := withDev fun d =>
  let u := sdU s
  seqs [
    putB u Reg.SD.K_FRAME_LOCK true k, putB (peU s) Reg.PE.FRAME_LOCK true k,
    if !d.is u Reg.SD.K_MARKS k then seqs [
      putB u Reg.SD.K_MARKS true k, takeTimeline s k tp,
      forEach (d.groupsOn (s * 8 + k)) fun g => restAgain g.1 g.2]
    else if (wrapDiff per (tp - fly)).natAbs ≤ d.rd u Reg.SD.K_LOCK_TOL k * 65536 then
      modCar s k fun x => { x with fly := tp, next := none }
    else modCar s k fun x => { x with fly := fly, next := some tp },
    lockChanged (s * 8 + k)]

/-- Lock is lost: the flywheel runs on. -/
def lockLost (s k : Nat) (tp fly rate : Int) : Script := seqs [
  putB (sdU s) Reg.SD.K_FRAME_LOCK false k, putB (peU s) Reg.PE.FRAME_LOCK false k,
  inc (sdU s) Reg.SD.K_LOCK_LOSS_CNT k,
  modCar s k fun x =>
    if x.next.isSome then { x with fly := fly, next := some tp, flyRate := rate, fixed := false }
    else { x with fly := tp, flyRate := rate, fixed := false },
  lockChanged (s * 8 + k),
  fireEvent (sdU s) 0 noScope []]

/-- TIME_ERR: e in dt, where it fits; a value that does not is left open. -/
def showTimeErr (s k : Nat) (e : Int) : Script :=
  let x := roundOpen e 65536
  if -32768 ≤ x ∧ x ≤ 32767 then putS (sdU s) Reg.SD.K_TIME_ERR x k else drawBelow 65536 fun v => put (sdU s) Reg.SD.K_TIME_ERR v k

/-- What the end of a search span makes of a carrier (R243). -/
structure Flywheel where
  /-- the error of the span's detection in 2^−16 dt; none without one -/
  err : Option Int
  /-- the error is within LOCK_TOL -/
  near : Bool
  /-- detections in a row, and spans missed in a row -/
  good : Nat
  miss : Nat
  gained : Bool
  lost : Bool
  /-- the next prediction, its rate, and the groups' timeline -/
  tp : Int
  rate : Int
  fly : Int

/-- The flywheel's step of a carrier. -/
def Dev.flywheel (d : Dev) (s k : Nat) : Flywheel :=
  let u := sdU s
  let x := d.carrierAt (s * 8 + k)
  let per : Int := ((d.pssPeriod (s * 8 + k) * 65536 : Nat) : Int)
  let was := d.locked s k
  let sh := d.rd u Reg.SD.K_TRACK_SH k
  let e := x.det.map fun t => (t : Int) * 65536 - x.tp
  let near := e.any fun e => decide (e.natAbs ≤ d.rd u Reg.SD.K_LOCK_TOL k * 65536)
  let rate0 := d.rdS u Reg.SD.K_RATE k
  let good := if was then x.good else match e with
    | none => 0
    | some _ => if near then min 255 (x.good + 1) else 1
  let miss := if !was ∨ near then 0 else x.miss + 1
  let tp0 := if !was then (x.det.map fun t => (t : Int) * 65536).getD x.tp
    else if near then x.tp + roundHalf (e.getD 0) (65536 * 2 ^ sh) * 65536 else x.tp
  let rate := if !was then (if e.isSome then 0 else rate0) else if near then rate0 + roundOpen (e.getD 0) (2 ^ (2 * sh + 1)) else rate0
  { err := e, near := near, good := good, miss := miss
    gained := !was && decide (good ≥ d.rd u Reg.SD.K_LOCK_N k)
    lost := was && decide (miss ≥ d.rd u Reg.SD.K_UNLOCK_N k)
    tp := tp0 + per + rate, rate := rate, fly := x.fly + per + x.flyRate }

/-- The Device Time at which a carrier's search span ends, in 2^−16 dt. -/
def Dev.spanEnd (d : Dev) (s k : Nat) : Int :=
  (d.carrierAt (s * 8 + k)).tp + (if d.locked s k then ((d.rd (sdU s) Reg.SD.K_SRCH_WIN k * 65536 : Nat) : Int)
    else ((d.pssPeriod (s * 8 + k) * 65536 / 2 : Nat) : Int))

/-- Lock is gained, lost or kept; the timelines go on. -/
def followLock (s k : Nat) (f : Flywheel) : Script := withDev fun d =>
  let per := d.pssPeriod (s * 8 + k) * 65536
  if f.gained then lockGained s k f.tp f.fly per
  else if f.lost then lockLost s k f.tp f.fly f.rate
  else if d.locked s k then modCar s k fun y =>
    if y.next.isSome then { y with fly := f.fly, next := some f.tp } else { y with fly := f.tp }
  else modCar s k fun y => { y with fly := f.fly, next := y.next.map fun n => n + (per : Int) + y.flyRate }

/-- The search span of a carrier ends by Device Time `t`. -/
def searchEnd (s k t : Nat) : Script := withDev fun d =>
  let f := d.flywheel s k
  when (d.carrierOn s k && decide (d.dt ≤ t) && decide (d.spanEnd s k ≤ (t : Int) * 65536)) <| seqs [
    advanceTo t,
    modCar s k fun y => { y with tp := f.tp, good := if f.lost then 0 else f.good, miss := f.miss, det := none },
    putS (sdU s) Reg.SD.K_RATE f.rate k,
    match f.err with
    | some e => showTimeErr s k e
    | none => skip,
    when (d.locked s k && !f.near && f.err.isSome) (inc (sdU s) Reg.SD.K_MISS_CNT k),
    followLock s k f]

/-- SYNC_SEARCH_END of carrier `k` of section `sec` by `t` (R243). -/
def execSyncSearchEnd (sec k t : Nat) (s : State) : Host.Outcome State Fault Refusal := performSettled (searchEnd sec k t) s

/-! ### Marks (R244) -/

/-- The next mark of a carrier: the first of its timeline after its latest, not before now. -/
def Dev.nextMark (d : Dev) (s k : Nat) : Nat :=
  let x := d.carrierAt (s * 8 + k)
  let b := d.markBase s k x.fly
  let step := d.markStep (s * 8 + k)
  let from' : Int := ((max d.dt (x.mark + d.markPeriod (s * 8 + k) / 2 + 1) : Nat) : Int) * 65536
  wholeDt (b - (-(from' - b)) / (step : Int) * (step : Int))

/-- The next mark of a carrier falls due. -/
def frameMark (s k : Nat) : Script := withDev fun d =>
  let m := d.nextMark s k
  when (d.carrierOn s k && d.hasMarks (s * 8 + k)) (seqs [
    advanceTo m, modCar s k fun x => { x with mark := m }, putLive (sdU s) Reg.SD.K_MARK_LO m k])

/-- FRAME_MARK of carrier `k` of section `sec` (R244). -/
def execFrameMark (sec k : Nat) (s : State) : Host.Outcome State Fault Refusal := performSettled (frameMark sec k) s

/-- The new timeline is adopted once no group of the carrier is in Send or Switch; held requests are cancelled (R246). -/
def adoptJump (s k : Nat) : Script := withDev fun d =>
  let car := s * 8 + k
  let x := d.carrierAt car
  match x.next with
  | none => skip
  | some n => when (d.carrierOn s k && (d.groupsOn car).all fun g => !d.busyTx g.1 g.2) (seqs [
      modCar s k fun y => { y with next := none },
      takeTimeline s k n,
      forEach (d.groupsOn car) fun g => seqs [
        modGrp g.1 g.2 fun y => { y with held := none }, putB (rcU g.1) Reg.RC.G_SYN_WAIT false g.2, restAgain g.1 g.2],
      inc (sdU s) Reg.SD.K_JUMP_CNT k,
      noteRec (sdU s) 0x40 (leBytes 1 k ++ leBytes 4 (codeOf 32
        (wrapDiff (d.pssPeriod car * 65536) (n - x.fly) / 65536)))])

/-- MARK_JUMP_ADOPT of carrier `k` of section `sec` (R246). -/
def execMarkJumpAdopt (sec k : Nat) (s : State) : Host.Outcome State Fault Refusal := performSettled (adoptJump sec k) s

end Sys2Proof.Machine
end

