-- ==== Sys2Proof/Machine/HostPort.lean ====
section
/-! DEFINITION. Commands on the Host Port: doorbells, queue pairs, command fetch and completion (R354 to R365, R371, R374), the
link (R350), MSI-X (R353), wall time (R32, R362), and taps (R366 to R370). -/

namespace Sys2Proof.Machine

/-! ### Doorbells and queue pairs -/

/-- A write to SQ tail doorbell `q` (R354): a disabled queue pair discards it, a value at or above the ring size stops the
queue pair. -/
def sqDoorbell (q v : Nat) : Script := withDev fun d =>
  let x := d.queueAt q
  when (d.queueOn q) (
    if v % 2048 ≥ x.sqSize then stopQueue q 4 else modQueue q fun x => { x with sqTail := v % 2048 })

/-- SQ_DOORBELL. -/
def execSqDoorbell (q v : Nat) (s : State) : Host.Outcome State Fault Refusal := performSettled (sqDoorbell q v) s

/-- A write to CQ head doorbell `q` (R354). -/
def cqDoorbell (q v : Nat) : Script := withDev fun d =>
  let x := d.queueAt q
  when (d.queueOn q) (
    if v % 2048 ≥ x.cqSize then stopQueue q 4 else modQueue q fun x => { x with cqHead := v % 2048 })

/-- CQ_DOORBELL. -/
def execCqDoorbell (q v : Nat) (s : State) : Host.Outcome State Fault Refusal := performSettled (cqDoorbell q v) s

/-- ENABLE rises (R354): bases, sizes and vector are latched, and head, tail and phase start over. -/
def queueEnable (q : Nat) : Script := withDev fun d =>
  let r := fun f => d.rd HP f q
  when (decide (q < 16) && !d.is HP Reg.HP.Q_ENABLE q) <| seqs [
    putB HP Reg.HP.Q_ENABLE true q,
    modQueue q fun _ => {
      sqBase := 4096 * r Reg.HP.Q_SQ_BASE_LO + 2 ^ 32 * r Reg.HP.Q_SQ_BASE_HI
      cqBase := 4096 * r Reg.HP.Q_CQ_BASE_LO + 2 ^ 32 * r Reg.HP.Q_CQ_BASE_HI
      sqSize := r Reg.HP.Q_SQ_SIZE, cqSize := r Reg.HP.Q_CQ_SIZE, vec := r Reg.HP.Q_CQ_VEC },
    put HP Reg.HP.Q_SQ_HEAD 0 q, put HP Reg.HP.Q_CQ_TAIL 0 q]

/-- QUEUE_ENABLE. -/
def execQueueEnable (q : Nat) (s : State) : Host.Outcome State Fault Refusal := performSettled (queueEnable q) s

/-- ENABLE falls (R371): as an FLR for the queue pair; STOPPED clears (R374). -/
def queueDisable (q : Nat) : Script := withDev fun d =>
  when (decide (q < 16) && d.is HP Reg.HP.Q_ENABLE q) <| seqs [
    putB HP Reg.HP.Q_ENABLE false q, putB HP Reg.HP.Q_STOPPED false q, put HP Reg.HP.Q_STOP_CAUSE 0 q,
    stopTimer (.coalesce q), discardQueue q]

/-- QUEUE_DISABLE. -/
def execQueueDisable (q : Nat) (s : State) : Host.Outcome State Fault Refusal := performSettled (queueDisable q) s

/-! ### Fetch and completion -/

/-- The queue pair whose turn it is (R358): the next after the last one fetched that is on and not empty. -/
def Dev.nextQueue (d : Dev) : Option Nat :=
  ((List.range 16).map fun i => (d.hp.lastQ + 1 + i) % 16).find? fun q =>
    d.queueOn q && d.rd HP Reg.HP.Q_SQ_HEAD q != (d.queueAt q).sqTail

/-- Steps 1 to 3 of R360 for a fetched entry: its status and detail, or none where it waits for its start. -/
def Dev.fetchCheck (d : Dev) (e : List Byte) : Option (Nat × Nat) :=
  match opInfo (num e 0 1) with
  | none => some (stBadOpcode, 0)
  | some o => match badLayout e o with
    | some off => some (stBadField, off)
    | none => if (d.cmdOf (num e 2 2)).isSome then some (stTagConflict, 0) else none

/-- The Host Port fetches the entry at the head of the queue pair whose turn it is (R358, R360); `e` is what host memory
holds there. -/
def commandFetch (e : List Byte) : Script := withDev fun d =>
  match d.nextQueue with
  | none => skip
  | some q => when d.dmaUp <|
    let head := (d.rd HP Reg.HP.Q_SQ_HEAD q + 1) % (d.queueAt q).sqSize
    let tag := num e 2 2
    let c : Cmd := { tag := tag, q := q, sqHead := head, entry := (e ++ List.replicate 64 0).take 64, state := .waiting,
                     conflict := (d.cmdOf tag).isSome }
    seqs [
      modHp fun h => { h with lastQ := q },
      put HP Reg.HP.Q_SQ_HEAD head q, incWrap HP Reg.HP.Q_CMD_CNT q,
      match d.fetchCheck c.entry with
      | none => setCmds fun cs => cs ++ [c]
      | some (st, det) => seqs [
          when (st == stTagConflict) (inc HP Reg.HP.TAG_CONF_CNT),
          setCmds fun cs => cs ++ [{ c with state := .done st det 0, order := d.hp.doneCnt }],
          modHp fun h => { h with doneCnt := h.doneCnt + 1 }]]

/-- COMMAND_FETCH. -/
def execCommandFetch (e : List Byte) (s : State) : Host.Outcome State Fault Refusal := performSettled (commandFetch e) s

/-- The ring of a completion queue has room: the next tail does not meet the head. -/
def Dev.cqRoom (d : Dev) (q : Nat) : Bool :=
  (d.rd HP Reg.HP.Q_CQ_TAIL q + 1) % (d.queueAt q).cqSize != (d.queueAt q).cqHead

/-- The earliest of a list of completed commands. -/
def earliest : List Cmd → Option Cmd
  | [] => none
  | c :: cs => match earliest cs with
    | some x => if x.order < c.order then some x else some c
    | none => some c

/-- The completed command that is written next: the first to complete of those whose CQ has room (R350, R357). -/
def Dev.nextDone (d : Dev) : Option Cmd := earliest (d.cmds.filter fun c => c.isDone && d.queueOn c.q && d.cqRoom c.q)

/-- STATUS, DETAIL and RESULT of a completed command. -/
def Cmd.outcome (c : Cmd) : Nat × Nat × Nat := match c.state with
  | .done st det res => (st, det, res)
  | _ => (0, 0, 0)

/-- The completion entry of R356. -/
def Cmd.entryBytes (c : Cmd) (phase : Bool) : List Byte :=
  leBytes 2 c.tag ++ leBytes 1 c.outcome.1 ++ leBytes 1 c.outcome.2.1 ++ leBytes 2 c.sqHead ++ leBytes 1 c.q ++
    leBytes 1 (b2n phase) ++ leBytes 8 c.outcome.2.2

/-- Data, completion entry and message of the next completed command (R364), with the phase (R354) and the coalescing of
R374. -/
def completionWrite : Script := withDev fun d =>
  match d.nextDone with
  | none => skip
  | some c => when d.dmaUp <|
    let q := c.q
    let x := d.queueAt q
    let tail := d.rd HP Reg.HP.Q_CQ_TAIL q
    let next := (tail + 1) % x.cqSize
    seqs [
      when (!c.data.isEmpty) (hostWrite c.addr (c.data.take c.len)),
      hostWrite (x.cqBase + 16 * tail) (c.entryBytes x.phase),
      emit (.completion q tail c.tag c.outcome.1 c.outcome.2.1 c.sqHead (b2n x.phase) c.outcome.2.2),
      put HP Reg.HP.Q_CQ_TAIL next q,
      modQueue q fun x => { x with phase := if next = 0 then !x.phase else x.phase, coal := x.coal + 1 },
      setCmds (List.filter fun y => y.order != c.order || !y.isDone),
      if d.rd HP Reg.HP.Q_COAL_US q = 0 ∨ x.coal + 1 ≥ d.rd HP Reg.HP.Q_COAL_CNT q then sendCoalesced q
      else startIfIdle (.coalesce q) (dtOfUs (d.rd HP Reg.HP.Q_COAL_US q))]

/-- COMPLETION_WRITE. -/
def execCompletionWrite (s : State) : Host.Outcome State Fault Refusal := performSettled completionWrite s

/-- COALESCE_TIMER_EXPIRY (R374). -/
def execCoalesceTimerExpiry (q : Nat) (s : State) : Host.Outcome State Fault Refusal :=
  performSettled (onExpiry (.coalesce q) (sendCoalesced q)) s

/-- A failed access of host memory (R365). `what` is 0 for the data buffer of the command with tag `n`, 1 for the fetch of an
entry of queue pair `n`, 2 for the write of one of its completion entries, 3 for a tap; `kind` is that of R374. -/
def dmaAccessFail (what n kind a : Nat) : Script := withDev fun d => seqs [
  inc HP Reg.HP.DMA_ERR_CNT,
  when (!d.is HP Reg.HP.DMA_ERR) (seqs [
    putB HP Reg.HP.DMA_ERR true, put HP Reg.HP.ERR_KIND kind, putLive HP Reg.HP.ERR_ADDR_LO a]),
  fireEvent HP 2 noScope [],
  if what = 0 then seqs [
    complete n stDmaError kind 0,
    modCmd n fun c => { c with state := (if c.isDone then .done stDmaError kind 0 else c.state), data := [] }]
  else when ((what == 1 || what == 2) && d.queueOn n) (stopQueue n what)]

/-- DMA_ACCESS_FAIL. -/
def execDmaAccessFail (what n kind a : Nat) (s : State) : Host.Outcome State Fault Refusal :=
  performSettled (dmaAccessFail what n kind a) s

/-! ### The link (R350) -/

/-- The link goes down (`kind` 0), retrains (1) or enters D3hot (2); `replays` counts the flits that it has replayed since it last
reported (R349; DESIGN CHOICE, log entry 173). -/
def ucieLinkDown (kind replays : Nat) : Script := withDev fun d => seqs [
  incBy HP Reg.HP.RETRY_CNT replays,
  if kind = 2 then putB HP Reg.HP.D3 true
  else seqs [
    when (d.is HP Reg.HP.LINK_UP) (if kind = 1 then inc HP Reg.HP.RETRAIN_CNT else inc HP Reg.HP.DOWN_CNT),
    putB HP Reg.HP.LINK_UP false, put HP Reg.HP.WIDTH 0, put HP Reg.HP.SPEED 0,
    condStart HP 3 0 noScope []]]

/-- UCIE_LINK_DOWN. -/
def execUcieLinkDown (kind replays : Nat) (s : State) : Host.Outcome State Fault Refusal :=
  performSettled (ucieLinkDown kind replays) s

/-- The widths, rates and repairs that the bonding supports (R349): S trains its 16 lanes or none, and has no lane repair. -/
def Dev.linkTrains (d : Dev) (width speed repaired : Nat) : Bool :=
  (speed == 4 || speed == 8 || speed == 16) &&
    (if d.variant.bondS then width == 16 && repaired == 0 else width == 64 || width == 32)

/-- The link is up in D0 with Bus Master Enable set: width, rate, repaired lanes, the link conditions of R372, and the messages
and writes that were held. At a width or rate that the bonding does not support it does not come up (R349). -/
def ucieLinkUp (width speed repaired : Nat) : Script := withDev fun d =>
  let full := if d.variant.bondS then 16 else 64
  when (d.linkTrains width speed repaired) <| seqs [
    putB HP Reg.HP.LINK_UP true, putB HP Reg.HP.D3 false, putB HP Reg.HP.BME true,
    put HP Reg.HP.WIDTH width, put HP Reg.HP.SPEED speed, put HP Reg.HP.REPAIRED repaired,
    condEnd HP 3 0,
    condSet (decide (width < full ∨ speed < 16)) HP 4 0 noScope [],
    flushWrites, flushMsix]

/-- UCIE_LINK_UP. -/
def execUcieLinkUp (width speed repaired : Nat) (s : State) : Host.Outcome State Fault Refusal :=
  performSettled (ucieLinkUp width speed repaired) s

/-- BUS_MASTER_ENABLE_CLEAR (R364). -/
def execBusMasterEnableClear (s : State) : Host.Outcome State Fault Refusal :=
  performSettled (putB HP Reg.HP.BME false) s

/-- A Function Level Reset (R350): taps close, queues are disabled, completions are discarded, and the Host Port's registers
return to reset, all but those of the link and FLR_CNT. -/
def functionLevelReset : Script := withDev fun d => seqs [
  forEach d.openTaps closeTap,
  forEach (List.range 16) fun q => seqs [stopTimer (.coalesce q), discardQueue q],
  upd (.clearRegs HP 0x104 0x120), upd (.clearRegs HP 0x200 0xFFF), upd (.clearWide HP 0x100 0xFFF),
  upd .queueClear, upd .tapClear,
  putB HP Reg.HP.BME false, putB HP Reg.HP.D3 false,
  modHp fun h => { h with masked := 2 ^ 128 - 1, pba := 0, lastQ := 15, heldWrites := [] },
  inc HP Reg.HP.FLR_CNT, setCmds id]

/-- FLR. -/
def execFlr (s : State) : Host.Outcome State Fault Refusal := performSettled functionLevelReset s

/-- The host unmasks an MSI-X vector; a pending message is sent (R353). -/
def msixUnmask (v : Nat) : Script := seqs [
  modHp fun h => { h with masked := h.masked &&& (h.masked ^^^ 2 ^ v) }, flushMsix]

/-- MSIX_VECTOR_UNMASK. -/
def execMsixVectorUnmask (v : Nat) (s : State) : Host.Outcome State Fault Refusal := performSettled (msixUnmask v) s

/-! ### Wall time (R32, R362) -/

/-- SET-WALLCLOCK passed the checks of R360: BUSY while another is pending, else it waits for t_eff. -/
def setWallclock (tag : Nat) : Script := withDev fun d =>
  match d.passed tag 0x0C with
  | none => skip
  | some c =>
    if !d.base.pendingWall.isEmpty then complete tag stBusy 0 0
    else
      let t := if c.par 32 8 = 0 then d.dt + 64 else c.par 32 8
      seqs [takeUp tag, modBase fun b => { b with
        pendingWall := [{ tag := tag, wall := { sec := c.par 28 4, ns := c.par 24 4 }, tEff := t }] }]

/-- SET_WALLCLOCK. -/
def execSetWallclock (tag : Nat) (s : State) : Host.Outcome State Fault Refusal := performSettled (setWallclock tag) s

/-- CLOCK_SET (R422). -/
def clockSetRec (old : Clock) : Script :=
  auditRec TB 0x40 (leBytes 4 old.wall.ns ++ leBytes 4 old.wall.sec ++ leBytes 2 old.epoch)

/-- At t_eff wall time takes its new value, the epoch increments, and CLOCK_SET keeps the old and the new (R32, R422). -/
def wallclockApply : Script := withDev fun d =>
  match d.base.pendingWall with
  | [] => skip
  | w :: rest => when d.base.counting <| seqs [
      advanceTo w.tEff,
      withDev fun d =>
        let old := d.clock
        seqs [
          upd (.setWall w.wall), putB TB Reg.TB.WALL_VALID true,
          modBase fun b => { b with pendingWall := rest },
          clockSetRec old, complete w.tag stSuccess 0 w.tEff]]

/-- WALLCLOCK_APPLY. -/
def execWallclockApply (s : State) : Host.Outcome State Fault Refusal := performSettled wallclockApply s

/-! ### Taps -/

/-- TAP-OPEN passed the checks of R360 (R367, R369). -/
def tapOpenCmd (tag : Nat) : Script := withDev fun d =>
  match d.passed tag 0x11 with
  | none => skip
  | some c =>
    let t := c.par 26 1
    let u := c.par 24 2
    let rate := d.rateOf u (c.par 28 1)
    if d.tapOpen t then complete tag stRefused 0x01 0
    else if d.sourceOk u && decide ((d.openTaps.map d.tapRate).foldl (· + ·) 0 + rate > d.tapLimit) then
      complete tag stRefused 0x02 0
    else if !d.sourceOk u then complete tag stRefused 0x03 0
    else seqs [
      modTap t fun _ => { ring := c.addr, statusAt := c.par 32 8 },
      put HP Reg.HP.TAP_SOURCE u t, put HP Reg.HP.TAP_FORMAT (c.par 28 1) t, put HP Reg.HP.TAP_POINT (c.par 27 1) t,
      put HP Reg.HP.TAP_PAUSE_CAUSE 0 t, put HP Reg.HP.TAP_STATE 1 t,
      put HP Reg.HP.TAP_PROD 0 t, put HP Reg.HP.TAP_CONS 0 t, put HP Reg.HP.TAP_SEGMENTS 0 t, put HP Reg.HP.TAP_LOST 0 t,
      modPlane fun pl => { pl with taps := pl.taps.put {} t { since := d.dt } },
      put HP Reg.HP.TAP_RATE (ceilDiv rate 10) t, put HP Reg.HP.TAP_RING_BYTES c.len t,
      complete tag stSuccess 0 d.dt]

/-- TAP_OPEN. -/
def execTapOpen (tag : Nat) (s : State) : Host.Outcome State Fault Refusal := performSettled (tapOpenCmd tag) s

/-- TAP-CLOSE passed the checks of R360 (R370); a closed tap has nothing to close. -/
def tapCloseCmd (tag : Nat) : Script := withDev fun d =>
  match d.passed tag 0x12 with
  | none => skip
  | some c =>
    let t := c.par 24 1
    seqs [when (d.tapOpen t) (closeTap t), complete tag stSuccess 0 (d.rd HP Reg.HP.TAP_SEGMENTS t)]

/-- TAP_CLOSE. -/
def execTapClose (tag : Nat) (s : State) : Host.Outcome State Fault Refusal := performSettled (tapCloseCmd tag) s

/-- A segment of an open tap falls due: on what the lanes have brought, it completes or is still in progress (R366). -/
def tapSegment (t : Nat) (feed : Feed) : Script := seqs [runPlane feed, takeSegment t]

/-- TAP_SEGMENT. -/
def execTapSegment (t : Nat) (feed : Feed) (s : State) : Host.Outcome State Fault Refusal :=
  performSettled (tapSegment t feed) s

/-- A write of a tap's consumer count (R368). -/
def tapConsumer (t v : Nat) : Script := when (decide (t < 64)) (put HP Reg.HP.TAP_CONS v t)

/-- TAP_CONSUMER_DOORBELL. -/
def execTapConsumerDoorbell (t v : Nat) (s : State) : Host.Outcome State Fault Refusal :=
  performSettled (tapConsumer t v) s

end Sys2Proof.Machine
end

