-- ==== Sys2Proof/Machine/HostWrite.lean ====
section
/-! DEFINITION. Host writes to registers without behaviour of their own (R49, R54), and to the common header (R59, R60, R64,
R65, R68 to R70); the FAULT_N pin (R472). -/

namespace Sys2Proof.Machine

/-! ### Any register -/

/-- What the rule of a register adds for the write of `v` at `off`: a TX link's test fields are for Service alone (R110,
R113); Mute is no severity of a source that has no scope (R469). INJ_N is a pattern field, which R110 has only Service accept
(DESIGN CHOICE, log entry 156; unsafe). -/
def registerRule (u off v : Nat) (d : Dev) : WriteRule :=
  if typeOf u = 0x02 ∧ off = 0x110 then { mode := d.serviceOnly (v &&& 0x34) }
  else if (typeOf u = 0x01 ∨ typeOf u = 0x02) ∧ (off = 0x164 ∨ off = 0x1A4) then { mode := d.serviceOnly (v % 2 ^ 24) }
  else if 0x20 ≤ off ∧ off ≤ 0x2C then { range := (List.range 16).any fun i =>
    v / 4 ^ i % 4 == 2 && (srcInfo (typeOf u) (4 * (off - 0x20) + i)).any fun s => !s.hasScope }
  else {}

/-- The OTP word that OTP_ADDR selects; the helper-data region reads 0 (R323, R348). -/
def showOtp : Script := withDev fun d =>
  let a := 4 * d.rd CY Reg.CY.OTP_ADDR
  put CY Reg.CY.OTP_DATA (if 0x0440 ≤ a ∧ a < 0x0840 then 0 else leVal (d.otpBytes a 4))

/-- What follows an accepted write. -/
def registerEffect (u off : Nat) (before : Bool × Bool) : Script :=
  if typeOf u = 0x02 ∧ off = 0x110 then afterTest u before
  else if (typeOf u = 0x01 ∨ typeOf u = 0x02) ∧ off = 0x1A4 then clearSpareLane u
  else if u = CY ∧ off = 0x1E0 then showOtp
  else skip

/-- The words that hold nothing but an SC bit whose setting has a command of its own: NONCE_CTRL, ALIGN_CTRL and GO. -/
def goWord (t off : Nat) : Bool := (t == 0x11 && off == 0x10C) || (t == 0x1A && off == 0x11C) || (t == 0x14 && off == 0x19C)

/-- A host write of the word at offset `off` of unit `u`, with byte enables `be`; words that have a command of their own
are not written by this one. -/
def registerWrite (u off v be : Nat) : Script := withDev fun d =>
  when (off % 4 == 0 && decide (off < 0x1000) && decide (v < 2 ^ 32) &&
      (!ownRow (typeOf u) off || (goWord (typeOf u) off && (be != 15 || v % 2 == 0))))
    (writeReg u off v be (registerRule u off v) (registerEffect u off (d.testKey u)))

/-- REGISTER_WRITE (R54). -/
def execRegisterWrite (u off v be : Nat) (s : State) : Host.Outcome State Fault Refusal :=
  performSettled (registerWrite u off v be) s

/-- BAR2 holds a doorbell, a consumer count, the MSI-X table or the pending bits at offset `a` (R352). -/
def bar2Mapped (a : Nat) : Bool :=
  decide (a < 0x80 ∨ (0x1000 ≤ a ∧ a < 0x1100) ∨ (0x8000 ≤ a ∧ a < 0x8800) ∨ (0xC000 ≤ a ∧ a < 0xC010))

/-- UNMAPPED_WRITE (R49, R352): to BAR4, to another offset of BAR2, or to a BAR0 offset `a` whose window is no present unit's. -/
def execUnmappedWrite (bar a : Nat) (s : State) : Host.Outcome State Fault Refusal :=
  perform (withDev fun d =>
    when (bar == 4 || (bar == 2 && !bar2Mapped a) || (bar == 0 && !d.present (unitOfBar0 a))) unmapped) s

/-! ### The common header -/

/-- A write of UNIT_STATUS: a 1 to WRITE_REJECT clears it and REJECT_CNT and is never rejected (R60). What REJECT_CAUSE and
REJECT_OFFSET read afterwards R60 does not say: they keep their values (DESIGN CHOICE, log entry 152; unsafe). -/
def writeUnitStatus (u v be : Nat) : Script := withDev fun d =>
  if !d.present u then unmapped
  else if be.testBit 3 && v.testBit 31 then seqs [
    putB u Reg.HDR.WRITE_REJECT false, put u Reg.HDR.REJECT_CNT 0]
  else when (be != 15) (rejectWrite u 0x008 5)

/-- WRITE_REJECT_CLEAR (R60). -/
def execWriteRejectClear (u v be : Nat) (s : State) : Host.Outcome State Fault Refusal :=
  performSettled (writeUnitStatus u v be) s

/-- A write of ERR_PEND, or of ERR_PEND_HI (R64, R65, R468). -/
def writePending (u : Nat) (hi : Bool) (bits be : Nat) : Script := withDev fun d =>
  if !d.present u then unmapped
  else if be ≠ 15 then rejectWrite u (if hi then 0x030 else 0x014) 5
  else clearPending u hi (bits % 2 ^ 32)

/-- ERR_PEND_CLEAR (R65). -/
def execErrPendClear (u : Nat) (hi : Bool) (bits be : Nat) (s : State) : Host.Outcome State Fault Refusal :=
  performSettled (writePending u hi bits be) s

/-- A write of ERR_ACK (R68, R69). -/
def writeAck (u v be : Nat) : Script := withDev fun d =>
  if !d.present u then unmapped
  else if be ≠ 15 then rejectWrite u 0x044 5
  else when (v.testBit 0) (acknowledge u)

/-- ERR_ACK (R69). -/
def execErrAck (u v be : Nat) (s : State) : Host.Outcome State Fault Refusal := performSettled (writeAck u v be) s

/-- The counters of the pattern checkers and generators, which CNT_CLEAR clears as well (R111, R114). -/
def laneCounters (t : Nat) : List Fld :=
  if t = 0x01 then [Reg.RXL.L_LOCK_LOSS, Reg.RXL.L_WORDS_LO, Reg.RXL.L_WORDS_HI, Reg.RXL.L_REAL_ERR, Reg.RXL.L_INJ_SEEN,
    Reg.RXL.L_INJ_MISSED]
  else if t = 0x02 then [Reg.TXL.L_INJ_MADE] else []

/-- Zero every counter of a unit that its chapter marks "cleared by CNT_CLEAR" (R59). -/
def clearCounters (u : Nat) : Script := withDev fun d => seqs [
  forEach (d.regs.keep fun k => keyUnit k == u) fun e => match fieldOfKey e.1 with
    | some (f, i, j) => when (f.cntClear && f.acc == .ro) (put u f 0 i j)
    | none => skip,
  forEach (d.wide.keep fun k => keyUnit k == u) fun e => match fieldOfKey e.1 with
    | some (f, _, _) => when (f.cntClear) (upd (.wide e.1 0))
    | none => skip,
  forEach (laneCounters (typeOf u)) fun f => forEach (List.range 2) fun j => seqs [
    put u f 0 j, when (f == Reg.RXL.L_WORDS_LO) (upd (.wide (f.at u j).key 0))]]

/-- A write of UNIT_CTRL: IRQ_EN, and CNT_CLEAR (R59). -/
def writeUnitCtrl (u v be : Nat) : Script := writeReg u 0x004 v be plainRule (when (v.testBit 0) (clearCounters u))

/-- CNT_CLEAR (R59). -/
def execCntClear (u v be : Nat) (s : State) : Host.Outcome State Fault Refusal := performSettled (writeUnitCtrl u v be) s

/-- GRACE_EXPIRY of unit `u` (R70). -/
def execGraceExpiry (u : Nat) (s : State) : Host.Outcome State Fault Refusal :=
  performSettled (onExpiry (.grace u) (seqs [putB u Reg.HDR.TIMER_RUN false, escalate u])) s

/-! ### FAULT_N (R472) -/

/-- Outside the hardware phase the pin follows SW. -/
def followSw : Script := withDev fun d => putB MC Reg.MC.PIN (d.is MC Reg.MC.HW_PHASE || d.is MC Reg.MC.SW)

/-- FAULT_PHASE_END (R472). -/
def execFaultPhaseEnd (s : State) : Host.Outcome State Fault Refusal :=
  performSettled (onExpiry .faultPhase (seqs [putB MC Reg.MC.HW_PHASE false, put MC Reg.MC.HW_LEFT 0, followSw])) s

/-- FAULT_PIN_SW_WRITE (R472). -/
def execFaultPinSwWrite (v be : Nat) (s : State) : Host.Outcome State Fault Refusal :=
  performSettled (writeReg MC 0x144 v be plainRule followSw) s

end Sys2Proof.Machine
end

