-- ==== Sys2Proof/Machine/Housekeeping.lean ====
section
/-! DEFINITION. Commands and events of the Housekeeping ADC (R436 to R447) and the Thermal Monitor (R448 to R459). -/

namespace Sys2Proof.Machine

/-! ### Passes, sweeps and urgent slots (R439 to R442) -/

/-- Something happens to the two units at Device Time `t`, outside Cold. -/
def hkAt (t : Nat) (p : Script) : Script := withDev fun d =>
  when (decide (d.dt ≤ t) && d.base.counting && d.mode != .cold) (seqs [advanceTo t, p])

/-- A source that fires at most once per 1 ms. -/
def oncePerMs (last : Option Nat) (now : Nat) : Bool := last.all fun t => decide (t + dtOfMs 1 ≤ now)

/-- A pass starts, or its start is an overrun (R440). -/
def startPass : Script := withDev fun d =>
  if d.is HA Reg.HA.PASS_RUN then seqs [
    inc HA Reg.HA.START_OVR,
    when (oncePerMs d.hk.ovrAt d.dt) (seqs [modHk fun h => { h with ovrAt := some d.dt }, fireEvent HA 4 noScope []])]
  else when (d.rd HA Reg.HA.SEQ_LEN != 0) (seqs [
    putB HA Reg.HA.PASS_RUN true, put HA Reg.HA.CUR_ENTRY 0, modHk fun h => { h with part := [] }, hkNext])

/-- A synchronised rising edge of TRIG pin `p` at `t`: captures, a pass, urgent slots (R425, R440, R441). -/
def trigEdge (p t : Nat) : Script := hkAt t (seqs [
  trigger 1 p 0 t,
  withDev fun d => seqs [
    when ((d.rd HA Reg.HA.TRIG_MASK).testBit p) startPass,
    forEach ((List.range 4).filter fun k => d.rd HA Reg.HA.U_SRC k == 1 && d.rd HA Reg.HA.U_SS k == p) urgentRequest]])

/-- TRIG_EDGE (R440). -/
def execTrigEdge (p t : Nat) (s : State) : Host.Outcome State Fault Refusal := performSettled (trigEdge p t) s

/-- A system sweep falls due (R439). -/
def systemSweep (t : Nat) : Script := withDev fun d =>
  when (d.mode != .cold) (onMultiple 7 49152 t (seqs [modHk fun h => { h with sweepDue := true }, hkNext]))

/-- SYSTEM_SWEEP (R439). -/
def execSystemSweep (t : Nat) (s : State) : Host.Outcome State Fault Refusal := performSettled (systemSweep t) s

/-- The `n`-th multiple of the pass timer, in whole dt rounded up. -/
def passTime (us n : Nat) : Nat := ceilDiv (n * us * 49152) 100

/-- The pass timer reaches a multiple of TMR_US (R440). -/
def hkPassTimer (t : Nat) : Script := withDev fun d =>
  let us := d.rd HA Reg.HA.TMR_US
  when (d.is HA Reg.HA.TMR_EN && decide (us ≠ 0) && t == passTime us (t * 100 / (us * 49152)) && decide (d.ticksAt 8 ≤ t))
    (hkAt t (seqs [upd (.ticks 8 (t + 1)), startPass]))

/-- HK_PASS_TIMER (R440). -/
def execHkPassTimer (t : Nat) (s : State) : Host.Outcome State Fault Refusal := performSettled (hkPassTimer t) s

/-- A write of URG_REQ; a request is rejected in Cold and Kindling (R441, R462). A bit reads 1 from the write until the slot is
taken up (R51). A request for a pending slot merges under R441, which names a host's request too: it is not BUSY under R54
(DEDUCED, log entry 177; safe for every claim that does not say what URG_MERGE counts). -/
def writeUrgReq (v be : Nat) : Script :=
  writeReg HA 0x10C v be (fun d => { mode := decide (v % 16 ≠ 0) && d.modeIn [.cold, .kindling] })
    (forEach ((List.range 4).filter v.testBit) fun k => seqs [
      urgentRequest k,
      withDev fun d => when ((d.rd HA Reg.HA.URG_PEND).testBit k)
        (put HA Reg.HA.URG_REQ (setBit (d.rd HA Reg.HA.URG_REQ) k true))])

/-- URG_REQ (R441). -/
def execUrgReq (v be : Nat) (s : State) : Host.Outcome State Fault Refusal := performSettled (writeUrgReq v be) s

/-- DET_SETTLE after the latest Send start of the slot's group, once for each (R441). -/
def urgentSend (k : Nat) : Script := withDev fun d =>
  let s := d.rd HA Reg.HA.U_SS k
  let g := d.rd HA Reg.HA.U_GRP k
  when (d.rd HA Reg.HA.U_SRC k == 2 && d.grpOn s g) (
    match (d.grp s g).sentAt with
    | none => skip
    | some t0 =>
      let t := t0 + dtOfUs (d.rd (rcU s) Reg.RC.G_DET_SETTLE g)
      when (decide (d.ticksAt (0x60000 + k) ≤ t0)) (hkAt t (seqs [upd (.ticks (0x60000 + k) (t0 + 1)), urgentRequest k])))

/-- URGENT_SEND_REQUEST (R441). -/
def execUrgentSendRequest (k : Nat) (s : State) : Host.Outcome State Fault Refusal := performSettled (urgentSend k) s

/-! ### Results (R443 to R445) -/

/-- Windows act on a result of entry `e` (R445). -/
def windowAct (e : Nat) (out : Bool) : Script := withDev fun d =>
  let act := d.rd HA Reg.HA.ENT_WIN_ACT e
  let last := (d.hk.winAt.find? fun x => x.1 == e).map (·.2)
  let ss := d.rd HA Reg.HA.ENT_GRP_SS e
  let held := d.hk.winMute.contains e
  seqs [
    when (out && decide (act ≥ 1) && oncePerMs last d.dt) (seqs [
      modHk fun h => { h with winAt := (e, d.dt) :: h.winAt.filter fun x => x.1 != e },
      fireEvent HA 3 noScope []]),
    when (decide (act = 2) && out && !held) (seqs [
      modHk fun h => { h with winMute := h.winMute ++ [e] },
      createRec { audit := true, sev := 2, code := Config.windowMuteCode, source := peU ss
                  payload := srcPayload true false false (setScope (peU ss) (d.rd HA Reg.HA.ENT_GRP e) []) [] }]),
    when (held && !out) (modHk fun h => { h with winMute := h.winMute.filter (· != e) })]

/-- A result of entry `e` is delivered: `value` is VALUE as a number, `codes` its raw codes and sampling instants. -/
def deliver (e raw : Nat) (value : Int) (op sh : Bool) (first last : Nat) : Script := withDev fun d =>
  let f := d.rd HA Reg.HA.ENT_FUNC e
  let valid := !d.is HA Reg.HA.VREF_FAULT
  let out := decide (value < d.rdS HA Reg.HA.ENT_WIN_LO e ∨ value > d.rdS HA Reg.HA.ENT_WIN_HI e)
  let why := if op then some 1 else if sh then some 2 else none
  let ss := d.rd HA Reg.HA.ENT_GRP_SS e
  let grp := d.rd HA Reg.HA.ENT_GRP e
  seqs [
    putS HA Reg.HA.RES_VALUE value e, put HA Reg.HA.RES_RAW raw e,
    modHkRes e fun _ => { valid := valid, winOut := out, isOpen := op, isShort := sh, span := (last - first) % 65536, stamp := first },
    when valid (windowAct e out),
    when (valid && (f == 2 || f == 3)) (detectorReading ss grp (f == 2) value first last),
    when (f == 4) (forEach ((List.range 16).map (· + 16)) fun i =>
      when (d.sensorOn i && d.rd TM Reg.TM.S_ENTRY i == e) (sensorReading i why (some value)))]

/-- The conversions of a group's detector entry enter the runs of KIND DET (R283). -/
def noteDetector (e : Nat) (codes : List (Nat × Nat)) : Script := withDev fun d =>
  when (d.rd HA Reg.HA.ENT_FUNC e == 2 || d.rd HA Reg.HA.ENT_FUNC e == 3) (calDet e codes)

/-- The averaged codes of entry `e` become its result. -/
def takeResult (e : Nat) (codes : List (Nat × Nat)) : Script := andThen (noteDetector e codes) (withDev fun d =>
  let f := d.rd HA Reg.HA.ENT_FUNC e
  let ch := d.rd HA Reg.HA.ENT_CH e
  let curve := d.rd HA Reg.HA.ENT_CURVE e
  let raw := (roundOpen (((codes.map (·.1)).sum : Nat) : Int) codes.length).toNat
  let ofs : Int := if (f = 2 ∨ f = 3) ∧ ch < 32 then d.rdS CE Reg.CE.DET_OFS ch else 0
  let code := d.correct (((raw : Nat) : Int) - ofs)
  let first := (codes.head?.map (·.2)).getD 0
  let last := (codes.getLast?.map (·.2)).getD 0
  match f with
  | 0 => deliver e raw ((code : Nat) : Int) false false first last
  | 1 => fit16 (some (Config.pinMv code)) fun v => deliver e raw v false false first last
  | 4 =>
    if code ≥ 65280 then deliver e raw (-32768) true false first last
    else if code ≤ 256 then deliver e raw (-32768) false true first last
    else fit16 (thermistor (d.rd HA Reg.HA.SET_A curve) (d.rd HA Reg.HA.SET_B curve) (d.rd HA Reg.HA.SET_C curve)
        (d.rd HA Reg.HA.SET_R_PULL curve) code) fun v => deliver e raw v false false first last
  | _ => deliver e raw (d.detector curve code) false false first last)

/-! ### The sweep (R446, R447) -/

/-- The check of R446, when the sweep's ground conversion is known. -/
def vrefJudge (ok : Bool) : Script := withDev fun d =>
  let h := d.hk
  let fault := d.is HA Reg.HA.VREF_FAULT
  let bad := if ok then 0 else h.vrefBad + 1
  let good := if ok then h.vrefGood + 1 else 0
  seqs [
    modHk fun h => { h with vrefBad := bad, vrefGood := good },
    when (!fault && decide (bad ≥ 2)) (seqs [
      putB HA Reg.HA.VREF_FAULT true,
      forEach (List.range 8) fun i => putB TM Reg.TM.S_SUBST true i,
      condStart HA 0 0 devScope []]),
    when (fault && decide (good ≥ 10)) (seqs [putB HA Reg.HA.VREF_FAULT false, condEnd HA 0 0])]

/-- A rail lies outside a window. -/
def Dev.railOut (d : Dev) (lo hi : Fld) (r mv : Nat) : Bool := decide (mv < d.rd HA lo r ∨ mv > d.rd HA hi r)

/-- The droop and the supply cause are asserted: Backoff cause 0x32 and Ember cause 0x43. -/
def droopCause (on : Bool) : Script := withDev fun d => seqs [
  modMc fun m => { m with boDroop := if on then some (d.rd HA Reg.HA.DROOP_DB) else none },
  condSet on HA 2 0 noScope []]
/-- See `droopCause`. -/
def supplyCause (on : Bool) : Script := seqs [putB MC Reg.MC.EMBER_SUPPLY on, condSet on HA 1 0 noScope []]

/-- A rail's conversion of the sweep (R447). -/
def railResult (r code : Nat) : Script := withDev fun d =>
  let mv := Config.railMv r code % 65536
  let dOut := d.railOut Reg.HA.R_DROOP_LO Reg.HA.R_DROOP_HI r mv
  let fOut := d.railOut Reg.HA.R_FAIL_LO Reg.HA.R_FAIL_HI r mv
  let dWas := d.rd HA Reg.HA.SUP_DROOP
  let fWas := d.rd HA Reg.HA.SUP_FAIL
  let dNow := setBit dWas r dOut
  let fNow := setBit fWas r fOut
  let dGood := if r < 5 then d.hk.droopGood else if dNow = 0 then d.hk.droopGood + 1 else 0
  let fGood := if r < 5 then d.hk.failGood else if fNow = 0 then d.hk.failGood + 1 else 0
  seqs [
    put HA Reg.HA.RAIL_MV mv r,
    when (!d.is HA Reg.HA.VREF_FAULT) (seqs [
      put HA Reg.HA.SUP_DROOP dNow, put HA Reg.HA.SUP_FAIL fNow,
      modHk fun h => { h with droopGood := dGood, failGood := fGood },
      when (dOut && dWas.testBit r && d.mc.boDroop.isNone) (droopCause true),
      when (fOut && fWas.testBit r && !d.is MC Reg.MC.EMBER_SUPPLY) (supplyCause true),
      when (decide (dGood ≥ 10) && d.mc.boDroop.isSome) (droopCause false),
      when (decide (fGood ≥ 10) && d.is MC Reg.MC.EMBER_SUPPLY) (supplyCause false)])]

/-- Conversion `j` of the sweep ends with a raw code. -/
def sweepResult (j raw : Nat) : Script := withDev fun d =>
  let code := d.correct ((raw : Nat) : Int)
  let tol := d.rd HA Reg.HA.VREF_TOL
  if j = 0 then seqs [
    put HA Reg.HA.VREF_CODE code,
    modHk fun h => { h with vrefOk := decide (max code Config.vrefExpected - min code Config.vrefExpected ≤ tol) }]
  else if j = 1 then seqs [put HA Reg.HA.GND_CODE code, vrefJudge (d.hk.vrefOk && decide (code ≤ tol))]
  else if j < 8 then railResult (j - 2) code
  else when (!d.is HA Reg.HA.VREF_FAULT) (
    if code = 0 ∨ code = 65535 then sensorReading (j - 8) (some 2) none
    else sensorReading (j - 8) none (some (Config.dieTemp (j - 8) code)))

/-! ### The end of a conversion -/

/-- An urgent entry is done: ENT_B follows, or the slot is served (R441, R442). -/
def urgentDone (k : Nat) (second : Bool) : Script := withDev fun d =>
  if d.is HA Reg.HA.U_PAIR k && !second then modHk fun h => { h with urg := some (k, true), urgPart := [] }
  else seqs [inc HA Reg.HA.URG_CNT k, modHk fun h => { h with urg := none, urgPart := [] }]

/-- The pass goes on to its next entry, or is complete (R440). -/
def entryDone (e : Nat) : Script := withDev fun d => seqs [
  modHk fun h => { h with part := [] },
  if e + 1 ≥ d.rd HA Reg.HA.SEQ_LEN then seqs [
    putB HA Reg.HA.PASS_RUN false, put HA Reg.HA.CUR_ENTRY 0, incWrap HA Reg.HA.PASS_CNT]
  else put HA Reg.HA.CUR_ENTRY (e + 1)]

/-- The conversion in progress ends with a raw code; its sampling instant lies 44 cycles before its end (R438, R443). -/
def conversionDone (raw : Nat) : Script := withDev fun d =>
  match d.hk.cur with
  | none => skip
  | some w => when d.base.counting (
    let samp := d.hk.endAt - hkCycle (d.is HA Reg.HA.HALF) * 44
    let full := fun e (codes : List (Nat × Nat)) => decide (codes.length ≥ 2 ^ d.rd HA Reg.HA.ENT_AVG e)
    seqs [
      advanceTo d.hk.endAt,
      modHk fun h => { h with cur := none },
      match w with
      | .sweep j => seqs [
          sweepResult j raw,
          modHk fun h => { h with sweepNext := if j ≥ 15 then none else some (j + 1) },
          when (decide (j ≥ 15)) (putB HA Reg.HA.SWEEP_RUN false)]
      | .entry e =>
        let codes := d.hk.part ++ [(raw, samp)]
        if full e codes then seqs [takeResult e codes, entryDone e] else modHk fun h => { h with part := codes }
      | .urgent k second =>
        let e := d.rd HA (if second then Reg.HA.U_ENT_B else Reg.HA.U_ENT_A) k
        let codes := d.hk.urgPart ++ [(raw, samp)]
        if full e codes then seqs [takeResult e codes, urgentDone k second] else modHk fun h => { h with urgPart := codes },
      hkNext])

/-- HK_CONVERSION_DONE (R443). -/
def execHkConversionDone (raw : Nat) (s : State) : Host.Outcome State Fault Refusal := performSettled (conversionDone raw) s

/-- A read of a result's first word latches its other words (R463). -/
def readResult (e : Nat) : Script := withDev fun d =>
  let r := d.hkResAt e
  seqs [
    putB HA Reg.HA.RES_VALID r.valid e, putB HA Reg.HA.RES_WIN_OUT r.winOut e, putB HA Reg.HA.RES_OPEN r.isOpen e,
    putB HA Reg.HA.RES_SHORT r.isShort e, put HA Reg.HA.RES_SPAN r.span e,
    put HA Reg.HA.RES_STAMP_LO (r.stamp % 2 ^ 32) e, put HA Reg.HA.RES_STAMP_HI (r.stamp / 2 ^ 32) e,
    emit (.readData HA (Reg.HA.RES_VALUE.off + 16 * e) (d.rd HA Reg.HA.RES_VALUE e * 65536 + d.rd HA Reg.HA.RES_RAW e))]

/-- HK_RESULT_READ of entry `e` (R463). -/
def execHkResultRead (e : Nat) (s : State) : Host.Outcome State Fault Refusal := perform (readResult e) s

/-! ### Remote diodes (R449, R477) -/

/-- Temperature in 0.01 °C, a multiple of 25, from ΔV1 and ΔV2 in nV: q/k is 16,021,766,340/1,380,649 K/V, and ETA is in units
of 2^−14. -/
def diodeTemp (eta : Nat) (v1 v2 : Int) : Int :=
  let ln4 := 2 * lnTwo
  let den : Nat := 1380649 * 1000000000 * 3 * eta * ln4
  -- four times the temperature in K, less 4 × 273.15
  let num : Int := (4 * v1 - v2) * ((4 * 16021766340 * 2 ^ 14 * 2 ^ lnBits : Nat) : Int)
  25 * roundHalf (5 * num - 5463 * ((den : Nat) : Int)) (5 * den)

/-- Sensors 8 to 15 are failed while the condition of TM 6 holds for any pair (R477). -/
def followDiodeCheck : Script := withDev fun d =>
  let on := d.holds TM 6
  forEach ((List.range 8).map (· + 8)) fun i =>
    if on then when (!d.sensorFailed i) (seqs [
      putB TM Reg.TM.S_FAILED true i, putB TM Reg.TM.S_SUBST true i, modSensor i fun x => { x with byCheck := true }])
    else when (d.sensorAt i).byCheck (seqs [
      putB TM Reg.TM.S_FAILED false i, putB TM Reg.TM.S_SUBST false i, modSensor i fun x => { x with byCheck := false }])

/-- Pair `p` is measured at `t`: flagged open or short, and ΔV1 and ΔV2 in nV by each of the two conversion paths. Pairs are
2 ms apart, or 4 ms at HK_HALF; I is 10 µA (R516). -/
def diodeMeasurement (p t : Nat) (isOpen isShort : Bool) (v1 v2 w1 w2 : Int) : Script := withDev fun d =>
  when (decide (d.ticksAt 11 ≤ t)) (hkAt t (
    let eta := d.rd TM Reg.TM.D_ETA p
    let a := diodeTemp eta v1 v2
    let b := diodeTemp eta w1 w2
    let rs := roundOpen (10 * (v2 - v1)) (9 * 10000)
    let bad := decide ((a - b).natAbs > 100)
    seqs [
      upd (.ticks 11 (t + dtOfMs (if d.is CK Reg.CK.HK_HALF then 4 else 2))),
      if isOpen || isShort then when (d.sensorOn (8 + p)) (declareFailed (8 + p) (if isOpen then 1 else 2))
      else seqs [
        condSet bad TM 6 p devScope [a, b],
        followDiodeCheck,
        if 0 ≤ rs ∧ rs < 65536 then put TM Reg.TM.D_RS rs.toNat p else drawBelow 65536 fun v => put TM Reg.TM.D_RS v p,
        sensorReading (8 + p) none (some a)],
      thermalFollow]))

/-- DIODE_MEASUREMENT (R449). -/
def execDiodeMeasurement (p t : Nat) (isOpen isShort : Bool) (v1 v2 w1 w2 : Int) (s : State) : Host.Outcome State Fault Refusal :=
  performSettled (diodeMeasurement p t isOpen isShort v1 v2 w1 w2) s

/-! ### Levels (R453 to R455) -/

/-- THROTTLE_DWELL_EXPIRY (R453). -/
def execThrottleDwellExpiry (n l : Nat) (s : State) : Host.Outcome State Fault Refusal :=
  performSettled (onExpiry (.dwell n l) (seqs [
    withDev fun d => when (!(d.nbhdAt n).past.testBit l) (modNbhd n fun x => { x with past := x.past + 2 ^ l }),
    judgeLevels])) s

/-- FALL_HOLD_EXPIRY (R454). -/
def execFallHoldExpiry (s : State) : Host.Outcome State Fault Refusal :=
  performSettled (onExpiry .fallHold (seqs [putB TM Reg.TM.FALL_HOLD false, judgeLevels])) s

/-- The rise of a neighbourhood at an evaluation (R455). -/
def riseOf (n : Nat) : Script := withDev fun d =>
  let x := d.nbhdAt n
  let now := d.nbHot n
  let lim : Int := 10 * d.rd TM Reg.TM.N_RISE_LIM n
  let x' : Nbhd := { x with hist := (now :: x.hist).take 10 }
  if d.is TM Reg.TM.N_RISE_EN n then
    match now, (x.hist[9]?).join with
    | some a, some b =>
      if a - b ≥ lim then modNbhd n fun _ => { x' with rise := true, riseOk := 0 }
      else modNbhd n fun _ => { x' with rise := x.rise && decide (x.riseOk + 1 < 10), riseOk := min 10 (x.riseOk + 1) }
    | _, _ => modNbhd n fun _ => x'
  else modNbhd n fun _ => { x' with rise := false, riseOk := 0 }

/-- RISE_EVAL (R455). -/
def execRiseEval (t : Nat) (s : State) : Host.Outcome State Fault Refusal :=
  performSettled (withDev fun d => when (d.mode != .cold)
    (onMultiple 9 49152000 t (seqs [forEach (List.range 8) riseOf, judgeLevels]))) s

/-! ### Shutdown (R456, R457) -/

/-- The sensor with the highest TEMP, and that TEMP. -/
def Dev.hottest (d : Dev) (is : List Nat) : Option (Nat × Int) :=
  is.foldl (fun m i => match m, d.sensorTemp i with
    | none, some t => some (i, t)
    | some (j, u), some t => if t > u then some (i, t) else some (j, u)
    | m, none => m) none

/-- The sensors compared with EXT_SD. -/
def Dev.extSensors (d : Dev) : List Nat := (List.range 32).filter fun i => d.sensorOn i && d.is TM Reg.TM.S_EXT_SD_EN i

/-- A level trips: instance 0 is the native level, 1 the external one. -/
def shutdownTrip (inst : Nat) (level : Int) (hot : Nat × Int) : Script := seqs [
  inc TM Reg.TM.SD_CNT,
  putB TM Reg.TM.SHUTDOWN true, putB TM Reg.TM.THERM_N true, putB CK Reg.CK.DSP_SLOW true,
  putB MC Reg.MC.EMBER_THERMAL true,
  put TM Reg.TM.RESTART_LEFT 30000,
  modTm fun x => { x with coolFrom := none, natTrip := x.natTrip || inst == 0, extTrip := x.extTrip || inst == 1 },
  condStart TM 0 inst { device := true } [level, Int.ofNat hot.1, hot.2]]

/-- The restart: full rate, THERM_N released, cause 0x41 cleared, and the sync event of R136 before Ember retries. -/
def shutdownEnd : Script := seqs [
  putB CK Reg.CK.DSP_SLOW false, putB TM Reg.TM.THERM_N false, putB TM Reg.TM.SHUTDOWN false,
  putB MC Reg.MC.EMBER_THERMAL false, put TM Reg.TM.RESTART_LEFT 0,
  modTm fun x => { x with coolFrom := none, natTrip := false, extTrip := false, natRun := 0, extRun := 0 },
  modMc fun m => { m with dspSync := true }, modBase fun b => { b with autoSync := true },
  condEnd TM 0 0, condEnd TM 0 1]

/-- One evaluation of both levels at `t`. -/
def shutdownEval (t : Nat) : Script := withDev fun d =>
  let nat : Int := d.rd TM Reg.TM.NATIVE_SD
  let ext := levelOf (d.rd TM Reg.TM.EXT_SD)
  let hotN := d.hottest (List.range 8)
  let hotE := d.hottest d.extSensors
  let atLevel := fun (l : Option Int) (h : Option (Nat × Int)) => (l.bind fun l => h.map fun h => decide (h.2 ≥ l)).getD false
  let cool := fun (l : Option Int) (h : Option (Nat × Int)) => l.all fun l => h.any fun h => decide (h.2 ≤ l - 1500)
  let natRun := if atLevel (some nat) hotN then min 8 (d.tm.natRun + 1) else 0
  let extRun := if atLevel ext hotE then min 8 (d.tm.extRun + 1) else 0
  let ok := (!d.tm.natTrip || cool (some nat) hotN) && (!d.tm.extTrip || cool ext hotE)
  let from' := d.tm.coolFrom.getD t
  seqs [
    modTm fun x => { x with natRun := natRun, extRun := extRun },
    when (decide (natRun ≥ 8) && !d.tm.natTrip) (shutdownTrip 0 nat (hotN.getD (0, 0))),
    when (decide (extRun ≥ 8) && !d.tm.extTrip) (shutdownTrip 1 (ext.getD 0) (hotE.getD (0, 0))),
    withDev fun d' => when (d.is TM Reg.TM.SHUTDOWN && d'.tm.natTrip == d.tm.natTrip && d'.tm.extTrip == d.tm.extTrip) (
      if !ok then seqs [put TM Reg.TM.RESTART_LEFT 30000, modTm fun x => { x with coolFrom := none }]
      else if t ≥ from' + dtOfS 30 then shutdownEnd
      else seqs [
        modTm fun x => { x with coolFrom := some from' },
        put TM Reg.TM.RESTART_LEFT (ceilDiv (from' + dtOfS 30 - t) 491520)])]

/-- SHUTDOWN_EVAL (R456). -/
def execShutdownEval (t : Nat) (s : State) : Host.Outcome State Fault Refusal :=
  performSettled (withDev fun d => when (d.mode != .cold) (onMultiple 10 61440 t (shutdownEval t))) s

end Sys2Proof.Machine
end

