-- ==== Sys2Proof/Machine/Integrity.lean ====
section
/-! DEFINITION. Faults of the die itself: the scrub (R317), triple-modular fields (R318), SRAM (R37), the check sources (R477), the
mute rails (R475), the Protection Engines' lockstep (R208), and the Cross-Section Bus (R18, R181). -/

namespace Sys2Proof.Machine

/-! ### Scrub and shadow (R317) -/

/-- The scrubber runs from the end of step 5 of R313 on. -/
def Dev.scrubs (d : Dev) : Bool :=
  !d.cc.shadow.isEmpty && (d.configured || (d.mode == .kindling && d.cc.phase == .links))

/-- A reload of the shadow starts: one at a time. -/
def startReload : Script := withDev fun d => when (!d.cc.reloading) (seqs [
  modCc fun c => { c with reloading := true }, putB CC Reg.CC.SHADOW_OK false,
  inc CC Reg.CC.RELOAD_CNT, fireEvent CC 2 devScope []])

/-- The word of the shadow that sets window offset `off` of a unit under R305, for Damper path `idx`: the last one that reaches it. -/
def Dev.shadowWord (d : Dev) (u off idx : Nat) : Option CfgWord :=
  ((containerWords d.cc.shadow).filter fun w => w.off == off && w.index == idx && (w.targets d).contains u).getLast?

/-- A configuration word takes the value that the shadow gives it: its LK fields, and in a Protection Engine those of the profile. -/
def restoreWord (u off idx : Nat) : Script := withDev fun d =>
  let v := d.shadowWord u off idx
  seqs [
    forEach ((wordFields (typeOf u) (pathOffset (typeOf u) off idx)).filter fun x => x.1.acc == .lk) fun x =>
      put u x.1 (match v with
        | some w => x.1.of w.value
        | none => x.1.rsts.getD x.2.1 x.1.rst) x.2.1 x.2.2,
    match d.profileFor (hProfile d.cc.shadow) with
    | some p => when (typeOf u == 0x08) (applyProfile (secOf u) p)
    | none => skip]

/-- A field of a unit type is held in triple-modular registers (R318). -/
def tripled (t : Nat) (f : Fld) : Bool :=
  match t with
  | 0x03 => [Reg.BC.ENABLE, Reg.BC.DIR, Reg.BC.BAND_ID, Reg.BC.GAIN_MAX, Reg.BC.UP_SLEW, Reg.BC.EQ_MAX, Reg.BC.CELL_RATE,
      Reg.BC.RX_RESP_A, Reg.BC.RX_RESP_B, Reg.BC.TX_RESP_A, Reg.BC.TX_RESP_B, Reg.BC.TX_SHIFT, Reg.BC.RX_SHIFT, Reg.BC.RX_FTW_LO,
      Reg.BC.RX_FTW_HI, Reg.BC.RX_PHASE_OFS, Reg.BC.TX_FTW_LO, Reg.BC.TX_FTW_HI, Reg.BC.TX_PHASE_OFS].contains f
  | 0x06 => [Reg.RC.G_ENABLE, Reg.RC.G_TDD, Reg.RC.G_SERVICE, Reg.RC.G_REST_LISTEN, Reg.RC.G_CAR_SS, Reg.RC.G_CAR, Reg.RC.G_RX_MAP,
      Reg.RC.G_TX_MAP, Reg.RC.G_N_ENT, Reg.RC.G_PERIOD_DT, Reg.RC.G_LAT_DT, Reg.RC.G_SWITCH_DT, Reg.RC.G_SUB_DT, Reg.RC.G_BURST_RAMP,
      Reg.RC.T_KIND, Reg.RC.T_START, Reg.RC.T_LEN, Reg.RC.PIN_FUNC, Reg.RC.PIN_GROUP, Reg.RC.PIN_POL, Reg.RC.PIN_SAFE, Reg.RC.PIN_OD,
      Reg.RC.PIN_ADV_DT].contains f
  | 0x08 => f.acc == .lk || [Reg.PE.UL_DUTY_MAX, Reg.PE.UL_DUTY_WIN, Reg.PE.MODES_OK, Reg.PE.B_P_MAX, Reg.PE.B_NET_MAX].contains f
  | 0x16 => f == Reg.TM.EXT_SD
  | 0x19 => f.acc == .lk
  | _ => false

/-- The word holds a triple-modular field: one of R318's table, or an LK severity. -/
def tripledWord (u off idx : Nat) : Bool :=
  (wordFields (typeOf u) (pathOffset (typeOf u) off idx)).any fun x =>
    tripled (typeOf u) x.1 || (decide (0x20 ≤ off ∧ off ≤ 0x2C) && x.1.acc == .lk)

/-- A configuration word that differs from the shadow is rewritten from it. A second correction of the same word within 1 s raises the
stuck-cell source, and a triple-modular majority the double-disagreement source (R318). -/
def fixWord (u off idx : Nat) : Script := withDev fun d =>
  let key := off + 0x1000 * idx
  let again := d.cc.fixed.any fun x => x.1 == u && x.2.1 == key && decide (d.dt ≤ x.2.2 + dtOfS 1)
  when (d.present u) (seqs [
    restoreWord u off idx,
    inc CC Reg.CC.SCRUB_FIX, put CC Reg.CC.FIX_UNIT u, put CC Reg.CC.FIX_OFFSET off,
    if tripledWord u off idx then fireEvent CC 5 devScope []
    else if again then fireEvent CC 1 devScope []
    else fireEvent CC 0 noScope [],
    modCc fun c => { c with
      fixed := (u, key, d.dt) :: c.fixed.filter fun x => !(x.1 == u && x.2.1 == key) && decide (d.dt ≤ x.2.2 + dtOfS 1) }])

/-- A scrub pass of `us` µs ends: the words it found differing (unit, window offset, Damper path), and whether the shadow's digest was
wrong. -/
def scrubPass (us : Nat) (words : List (Nat × Nat × Nat)) (digestBad : Bool) : Script := withDev fun d =>
  when d.scrubs (seqs [
    forEach words fun w => fixWord w.1 w.2.1 w.2.2,
    incWrap CC Reg.CC.PASS_CNT, put CC Reg.CC.PASS_TIME (min us 20000),
    when digestBad startReload])

/-- SCRUB_PASS. -/
def execScrubPass (us : Nat) (words : List (Nat × Nat × Nat)) (digestBad : Bool) (s : State) : Host.Outcome State Fault Refusal :=
  performSettled (scrubPass us words digestBad) s

/-- A reload of the shadow ends: it passes when the slot could be read and still holds what the shadow was loaded from. -/
def reloadDone (ok : Bool) : Script := withDev fun d => when d.cc.reloading (seqs [
  modCc fun c => { c with reloading := false },
  if ok && cDigest d.currentBytes == cDigest d.cc.shadow then seqs [
    modCc fun c => { c with shadow := d.currentBytes }, putB CC Reg.CC.SHADOW_OK true]
  else fireEvent CC 3 devScope []])

/-- SHADOW_RELOAD_DONE. -/
def execShadowReloadDone (ok : Bool) (s : State) : Host.Outcome State Fault Refusal := performSettled (reloadDone ok) s

/-- TMR_DISAGREEMENT (R318): the majority stands, and the copy is rewritten. -/
def execTmrDisagreement (s : State) : Host.Outcome State Fault Refusal :=
  performSettled (seqs [inc CC Reg.CC.TMR_FIX, fireEvent CC 4 noScope []]) s

/-! ### SRAM (R37) -/

/-- The unit that owns a word. -/
def sramOwner (w : SramWord) : Nat :=
  match w with
  | .link u => u | .cell c => c | .align u => u | .damper s _ => dsU s | .ring s => crU s | .shadow => CC | .zoneMap => WS
  | .record _ => EV | .captures => WS | .media _ => WS | .queues _ => HP

/-- A single-bit error is corrected and counted; 16 in a cell's SRAM within 1 s raise BC 3, and the count starts over. -/
def corrected (w : SramWord) : Script := withDev fun d =>
  let u := sramOwner w
  when (d.present u) (seqs [
    inc u Reg.HDR.ECC_CORR,
    when (typeOf u == 0x03) (
      let ts := d.dt :: (d.cellAt u).eccAt.filter fun t => decide (d.dt < t + dtOfS 1)
      if ts.length ≥ 16 then seqs [modCell u fun x => { x with eccAt := [] }, fireEvent u 3 (cellScope u) []]
      else modCell u fun x => { x with eccAt := ts })])

/-- Samples of a capture that an uncorrectable error spoils: capture, source, stamp of the first, and how many. -/
def spoil (g : Nat × Nat × Nat × Nat) : Script := withDev fun d =>
  match d.ev.captures.find? fun c => c.tag == g.1 && c.tTrig.isSome with
  | none => skip
  | some c =>
    let j := g.2.1
    let u := (c.sources.getD j (0, 0)).1
    let per := d.sourcePeriod u
    let i := (g.2.2.1 - c.stamp0.getD j 0) / per
    seqs [
      modCapture g.1 fun c => { c with
        gaps := addGap { stamp := g.2.2.1, samples := g.2.2.2, src := j, cause := 3 } per c.gaps
        kept := c.kept.modify j fun b => (blank b i g.2.2.2).take b.length },
      incBy (crU (secOf u)) Reg.CR.SRAM_GAP g.2.2.2]

/-- Samples of a ring that an uncorrectable error spoils (R37): entry, stamp of the first, and how many; a capture that copies them
gaps them (R426). -/
def spoilRing (s : Nat) (g : Nat × Nat × Nat × Nat) : Script := withDev fun d =>
  let per := d.sourcePeriod (d.rd (crU s) Reg.CR.UNIT g.1)
  modPlane fun pl =>
    let tr := pl.rings.get {} (8 * s + g.1)
    { pl with rings := pl.rings.put {} (8 * s + g.1) { tr with xs := tr.xs.map fun h =>
        if g.2.2.1 ≤ h.stamp ∧ h.stamp < g.2.2.1 + g.2.2.2 * per then { h with bad := true } else h } }

/-- The record in a queue slot is dropped, and counts as lost (R413); an empty slot loses nothing. -/
def dropSlot (slot : Nat) : Script := withDev fun d =>
  match d.ev.queue.find? fun q => q.slot == slot with
  | none => skip
  | some q => seqs [
      setEv fun e => { e with queue := e.queue.filter (·.slot != slot) },
      when q.isRec (loseEvent q.r)]

/-- A transfer through general media staging ends with an error status: a STAGE, a MEDIA-READ or a MEDIA-WRITE. -/
def spoilTransfer (tag : Nat) : Script := withDev fun d =>
  match d.cmdOf tag with
  | none => skip
  | some c =>
    if c.opcode = 0x01 then modCc fun x => { x with ops := x.ops.map fun o => match o with
      | .stageBegin t bs f ok => .stageBegin t bs f (ok && t != tag)
      | o => o }
    else when ((c.opcode == 0x20 || c.opcode == 0x21) && c.state == .passed) (complete tag stMedia 0 0)

/-- A double-bit error draws its region's reaction. -/
def uncorrectable (w : SramWord) (gaps : List (Nat × Nat × Nat × Nat)) : Script := withDev fun d =>
  match w with
  | .link u => fireEvent u 0 (setScope u 0xFF (d.linkCells u)) []
  | .cell c => fireEvent c 16 (cellScope c) []
  | .align u => if typeOf u = 0x03 then fireEvent u 17 (cellScope u) []
      else fireEvent u 17 (setScope u 0xFF (d.cellsOfCb (secOf u) (idxOf u))) []
  | .damper s p => seqs [fireEvent (dsU s) 1 (d.pathScope s p) [], zeroPath s p .stateError]
  | .ring s => seqs [fireEvent (crU s) 0 noScope [], forEach gaps (spoilRing s)]
  | .shadow => when (!d.cc.shadow.isEmpty) startReload
  | .zoneMap => seqs [
      when (d.is WS Reg.WS.READY) (seqs [
        modMed fun m => { m with rebuilding := true }, put WS Reg.WS.MEDIUM_STATE 3, putB WS Reg.WS.WRITES_HELD true]),
      fireEvent WS 9 devScope []]
  | .record slot => seqs [fireEvent EV 0 devScope [], dropSlot slot]
  | .captures => seqs [fireEvent WS 11 devScope [], forEach gaps spoil]
  | .media tag => seqs [fireEvent WS 10 devScope [], spoilTransfer tag]
  | .queues q => stopQueue q 3

/-- SRAM_ECC_ERROR (R37): `gaps` names the samples that the word held: of capture staging the capture, the source, the stamp of the
first and how many; of a ring the entry, 0, the stamp of the first and how many. -/
def execSramEccError (w : SramWord) (double : Bool) (gaps : List (Nat × Nat × Nat × Nat)) (s : State) :
    Host.Outcome State Fault Refusal :=
  performSettled (if double then uncorrectable w gaps else corrected w) s

/-! ### Check sources (R475, R477) -/

/-- One group of 64 samples of a cell: either power at least −50.00 dBFS and the two more than 0.50 dB apart fail the check in two
groups in a row (R477). -/
def shadowCheck (c p q : Nat) : Script := withDev fun d =>
  let bad := monMismatch p q (64 * 2 ^ 46)
  let n := if bad then (d.cellAt c).shadowBad + 1 else 0
  seqs [
    modCell c fun x => { x with shadowBad := n },
    when (!bad || decide (n ≥ 2)) (condSet bad c 21 2 (cellScope c)
      [signed 16 (levelCode cdbOpen p (64 * 2 ^ 46)), signed 16 (levelCode cdbOpen q (64 * 2 ^ 46))])]

/-- What a datapath check of a band cell, a Combiner or a TX link has compared (R477). A residue, a shadow or an output sample that
passes ends that check's condition, which the spec leaves open (DESIGN CHOICE, log entry 178; unsafe). -/
def datapathCheck (u : Nat) (f : Finding) : Script := withDev fun d =>
  match typeOf u, f with
  | 0x03, .residue a b => condSet (a % 3 != b % 3) u 21 0 (cellScope u) [Int.ofNat a, Int.ofNat b]
  | 0x03, .shadow p q => shadowCheck u p q
  | 0x03, .output re im => condSet (d.rd u Reg.BC.MUTE_SRC != 0 && (re, im) != (0, 0)) u 21 3 (cellScope u) [re / 256, im / 256]
  | 0x05, .residue a b =>
    condSet (a % 3 != b % 3) u 18 1 (setScope u 0xFF (d.cellsOfCb (secOf u) (idxOf u))) [Int.ofNat a, Int.ofNat b]
  | 0x02, .word a b => when (a != b) (fireEvent u 4 (setScope u 0xFF (d.linkCells u)) [Int.ofNat a, Int.ofNat b])
  | _, _ => skip

/-- DATAPATH_CHECK_FAIL (R477). -/
def execDatapathCheckFail (u : Nat) (f : Finding) (s : State) : Host.Outcome State Fault Refusal :=
  performSettled (withDev fun d => when (d.present u) (datapathCheck u f)) s

/-- A group of a Radio Control unit as a scope (R470). -/
def Dev.groupScope (d : Dev) (s k : Nat) : Scope := setScope (rcU s) k (d.cellsOfGroup s k)

/-- The two rails of the mute fabric as a unit compares them, `a` and `b`: at a Radio Control unit those of group `k`. A disagreement
fires the unit's check and mutes, as either rail alone does (R475). -/
def muteRails (u k : Nat) (a b : Bool) : Script := withDev fun d =>
  let vals : List Int := [b2n a, b2n b]
  match typeOf u with
  | 0x03 => condSet (a != b) u 21 1 (cellScope u) vals
  | 0x02 => when (a != b) (fireEvent u 4 (setScope u 0xFF (d.linkCells u)) vals)
  | 0x06 => condSet (a != b) u 8 (16 + k) (d.groupScope (secOf u) k) vals
  | _ => skip

/-- MUTE_RAIL_DISAGREEMENT (R475). -/
def execMuteRailDisagreement (u k : Nat) (a b : Bool) (s : State) : Host.Outcome State Fault Refusal :=
  performSettled (withDev fun d => when (d.present u) (muteRails u k a b)) s

/-- PIN_READBACK_MISMATCH (R477): pin `p` of section `s` has read `level` for `n` control-clock cycles. 64 against its commanded level
fail the check; its commanded level ends it. -/
def pinReadback (s p : Nat) (level : Bool) (n : Nat) : Script := withDev fun d =>
  let u := rcU s
  let f := d.rd u Reg.RC.PIN_FUNC p
  let bad := level != d.pinLevel s p
  when (d.present u && f != 0 && f != 9 && (!bad || decide (n ≥ 64))) (
    condSet bad u 8 p (d.groupScope s (d.rd u Reg.RC.PIN_GROUP p)) [b2n (d.pinLevel s p), b2n level])

/-- See `pinReadback`. -/
def execPinReadbackMismatch (s p : Nat) (level : Bool) (n : Nat) (st : State) : Host.Outcome State Fault Refusal :=
  performSettled (pinReadback s p level n) st

/-! ### Protection Engine lockstep (R208) -/

/-- The two copies differ: every cell of the section is muted until the next entry to Kindling. -/
def lockstepMismatch (s : Nat) : Script := withDev fun d => when (d.sectionOn s && d.mode != .cold) (seqs [
  putB (peU s) Reg.PE.LOCKSTEP_ERR true,
  forEach (d.cellsOf s) fun c => markCause c mcLockstep,
  condStart (peU s) 0 0 { addr := s * 8192, cells := d.cellsOf s } []])

/-- LOCKSTEP_MISMATCH. -/
def execLockstepMismatch (s : Nat) (st : State) : Host.Outcome State Fault Refusal := performSettled (lockstepMismatch s) st

/-! ### Cross-Section Bus (R18, R181) -/

/-- Section `s`'s Slice receives a word of the cell `src` with wrong parity: every receiving cell with a path from it is muted. -/
def parityFail (s src : Nat) : Script := withDev fun d =>
  let ps := (d.pathsOf s).filter fun p => d.srcOf s p == src
  when (d.sectionOn s && !ps.isEmpty) (seqs [
    inc (dsU s) Reg.DS.PARITY_CNT, fireEvent (dsU s) 0 (setScope (dsU s) 0xFF (uniq (ps.map (d.rcvOf s)))) [(src : Int)]])

/-- XBUS_PARITY_FAIL. -/
def execXbusParityFail (s src : Nat) (st : State) : Host.Outcome State Fault Refusal := performSettled (parityFail s src) st

end Sys2Proof.Machine
end

