-- ==== Sys2Proof/Machine/Jtag.lean ====
section
/-! DEFINITION. The JTAG instruction register as far as the block's modes see it (R496). -/

namespace Sys2Proof.Machine

/-- An EXTEST-family instruction loads in Cold; in any other mode BYPASS loads instead. -/
def loadExtest : Script := withDev fun d => modMc fun m => { m with extest := d.mode == .cold }

/-- JTAG_EXTEST_LOAD (R496). -/
def execJtagExtestLoad (s : State) : Host.Outcome State Fault Refusal := perform loadExtest s

/-- BYPASS or another instruction loads, or the TAP is reset: the hold in Cold ends. -/
def loadBypass : Script := modMc fun m => { m with extest := false }

/-- JTAG_BYPASS_LOAD (R496). -/
def execJtagBypassLoad (s : State) : Host.Outcome State Fault Refusal := perform loadBypass s

end Sys2Proof.Machine
end

