-- ==== Sys2Proof/Machine/Latch.lean ====
section
/-! DEFINITION. Reads that latch: the low word of a pair latches its high word, and the first word of a snapshot its other
words (R33, R93, R114, R142, R160, R274, R298, R321, R348, R374, R405, R434). -/

namespace Sys2Proof.Machine

/-- A read of a _LO field; a unit that the variant does not provide reads 0 and latches nothing (R49). -/
def latchPair (u : Nat) (lo hi : Fld) (i : Nat := 0) : Script := withDev fun d =>
  if d.present u then readLive u lo hi i else emit (.readData u (lo.off + lo.stride * i) 0)

/-- A read of DT_LO latches Device Time, wall time and its epoch at one dt (R33). -/
def readTime : Script := withDev fun d => seqs [
  put TB Reg.TB.DT_LO (d.dt % 2 ^ 32), put TB Reg.TB.DT_HI (d.dt / 2 ^ 32),
  put TB Reg.TB.WALL_NS d.clock.wall.ns, put TB Reg.TB.WALL_SEC d.clock.wall.sec,
  put TB Reg.TB.WALL_EPOCH d.clock.epoch,
  emit (.readData TB Reg.TB.DT_LO.off (d.dt % 2 ^ 32))]

/-- DT_LO_READ (R33). -/
def execDtLoRead (s : State) : Host.Outcome State Fault Refusal := perform readTime s

/-- EDGE_DT_LO_READ (R33). -/
def execEdgeDtLoRead (s : State) : Host.Outcome State Fault Refusal :=
  perform (latchPair TB Reg.TB.EDGE_DT_LO Reg.TB.EDGE_DT_HI) s

/-- MODE_DT_LO_READ (R93). -/
def execModeDtLoRead (s : State) : Host.Outcome State Fault Refusal :=
  perform (latchPair MC Reg.MC.MODE_DT_LO Reg.MC.MODE_DT_HI) s

/-- SYNC_DT_LO_READ of cell `c` (R142). -/
def execSyncDtLoRead (c : Nat) (s : State) : Host.Outcome State Fault Refusal :=
  perform (latchPair c Reg.BC.SYNC_DT_LO Reg.BC.SYNC_DT_HI) s

/-- A read of BLK_RX_LO latches the RX and TX stamps of the last block (R142). -/
def readStamps (c : Nat) : Script := withDev fun d =>
  let x := d.cellAt c
  if !d.present c then emit (.readData c Reg.BC.BLK_RX_LO.off 0) else seqs [
    put c Reg.BC.BLK_RX_LO (x.stampRx % 2 ^ 32), put c Reg.BC.BLK_RX_HI (x.stampRx / 2 ^ 32),
    put c Reg.BC.BLK_TX_LO (x.stampTx % 2 ^ 32), put c Reg.BC.BLK_TX_HI (x.stampTx / 2 ^ 32),
    emit (.readData c Reg.BC.BLK_RX_LO.off (x.stampRx % 2 ^ 32))]

/-- BLK_RX_LO_READ of cell `c` (R142). -/
def execBlkRxLoRead (c : Nat) (s : State) : Host.Outcome State Fault Refusal := perform (readStamps c) s

/-- The fields that a read of PWR_RAW_IN latches, in the order of `Cell.latest` (R160). -/
def powerFields : List Fld :=
  [Reg.BC.P_OUT, Reg.BC.PK_OUT, Reg.BC.PWR_BLK, Reg.BC.AVG_RAW, Reg.BC.AVG_IN, Reg.BC.AVG_OUT, Reg.BC.AVG_PK]

/-- A read of PWR_RAW_IN latches the other powers and the averages of the same block (R160). -/
def readPowers (c : Nat) : Script := withDev fun d =>
  if !d.present c then emit (.readData c Reg.BC.P_RAW.off 0) else seqs [
    forEach (powerFields.zip (d.cellAt c).latest) fun x => put c x.1 x.2,
    emit (.readData c Reg.BC.P_RAW.off (d.rd c Reg.BC.P_RAW * 65536 + d.rd c Reg.BC.P_IN))]

/-- P_RAW_READ of cell `c` (R160). -/
def execPRawRead (c : Nat) (s : State) : Host.Outcome State Fault Refusal := perform (readPowers c) s

/-- WORDS_LO_READ of lane `lane` of RX link `u` (R114). -/
def execWordsLoRead (u lane : Nat) (s : State) : Host.Outcome State Fault Refusal :=
  perform (latchPair u Reg.RXL.L_WORDS_LO Reg.RXL.L_WORDS_HI lane) s

/-- MARK_LO_READ of carrier `k` of section `sec` (R274). -/
def execMarkLoRead (sec k : Nat) (s : State) : Host.Outcome State Fault Refusal :=
  perform (latchPair (sdU sec) Reg.SD.K_MARK_LO Reg.SD.K_MARK_HI k) s

/-- DIR_SEQ_LO_READ (R321). -/
def execDirSeqLoRead (s : State) : Host.Outcome State Fault Refusal :=
  perform (latchPair CC Reg.CC.DIR_SEQ_LO Reg.CC.DIR_SEQ_HI) s

/-- VER_LO_READ of the slot block of a role: Current, Previous or Staging as 0 to 2 (R321). -/
def execVerLoRead (role : Nat) (s : State) : Host.Outcome State Fault Refusal :=
  perform (latchPair CC Reg.CC.SLOT_VER_LO Reg.CC.SLOT_VER_HI role) s

/-- SET_SEQ_LO_READ (R298). -/
def execSetSeqLoRead (s : State) : Host.Outcome State Fault Refusal :=
  perform (latchPair CE Reg.CE.SET_SEQ_LO Reg.CE.SET_SEQ_HI) s

/-- NONCE_DT_LO_READ (R348). -/
def execNonceDtLoRead (s : State) : Host.Outcome State Fault Refusal :=
  perform (latchPair CY Reg.CY.NONCE_DT_LO Reg.CY.NONCE_DT_HI) s

/-- ERR_ADDR_LO_READ (R374). -/
def execErrAddrLoRead (s : State) : Host.Outcome State Fault Refusal :=
  perform (latchPair HP Reg.HP.ERR_ADDR_LO Reg.HP.ERR_ADDR_HI) s

/-- JSEQ_LO_READ (R405). -/
def execJseqLoRead (s : State) : Host.Outcome State Fault Refusal :=
  perform (latchPair WS Reg.WS.JSEQ_LO Reg.WS.JSEQ_HI) s

/-- NEXT_SEQ_LO_READ (R434). -/
def execNextSeqLoRead (s : State) : Host.Outcome State Fault Refusal :=
  perform (latchPair EV Reg.EV.NEXT_SEQ_LO Reg.EV.NEXT_SEQ_HI) s

/-- HW_SEQ_LO_READ (R434). -/
def execHwSeqLoRead (s : State) : Host.Outcome State Fault Refusal :=
  perform (latchPair EV Reg.EV.HW_SEQ_LO Reg.EV.HW_SEQ_HI) s

/-- HEAD_SEQ_LO_READ of the operational or the audit chain (R434). -/
def execHeadSeqLoRead (operational : Bool) (s : State) : Host.Outcome State Fault Refusal :=
  perform (if operational then latchPair EV Reg.EV.OP_HEAD_SEQ_LO Reg.EV.OP_HEAD_SEQ_HI
    else latchPair EV Reg.EV.AUD_HEAD_SEQ_LO Reg.EV.AUD_HEAD_SEQ_HI) s

end Sys2Proof.Machine
end

