-- ==== Sys2Proof/Machine/Links.lean ====
section
/-! DEFINITION. Commands on the converter stream links: start-up and ILAS (R102, R104), errors in the data phase and the link
mute (R105 to R108), and test patterns (R110 to R112). -/

namespace Sys2Proof.Machine

/-! ### Start-up (R102, R104) -/

/-- The lanes of an RX link are code-group synchronised at `t`, and SYNC~ is deasserted at the next LMFC boundary. -/
def cgsAchieved (u t : Nat) : Script := withDev fun d =>
  when (isRxl u && d.linkOn u && d.linkState u == lsCgs) <| seqs [
    advanceTo (d.boundaryAt u t),
    put u Reg.RXL.LANE_SYNC (if d.fmt u = 2 then 1 else 3), putB u Reg.RXL.SYNC_OUT false, setLinkState u lsIlas]

/-- CGS_ACHIEVED (R104). -/
def execCgsAchieved (u t : Nat) (s : State) : Host.Outcome State Fault Refusal := performSettled (cgsAchieved u t) s

/-- A failed ILAS (R104): ILAS_DIAG, the count, the source, and the retry where it is automatic. -/
def ilasFail (u code lane received index : Nat) : Script := withDev fun d => seqs [
  put u Reg.RXL.ILAS_ERR code, put u Reg.RXL.LANE lane, put u Reg.RXL.RECEIVED received, put u Reg.RXL.INDEX index,
  inc u Reg.RXL.ILAS_FAIL_CNT, fireEvent u 3 (setScope u 0xFF (d.linkCells u)) [],
  when (d.mode == .kindling || d.is u Reg.RXL.RESYNC_AUTO) (startTimer (.ilasRetry u) 491520)]

/-- The arrivals that R102 considers: lane 0 alone on an S16N link. -/
def Dev.arrivals (d : Dev) (u a0 a1 : Nat) : List (Nat × Nat) := if d.fmt u = 2 then [(0, a0)] else [(0, a0), (1, a1)]

/-- The latest lane arrives less than 2 dt before the release point (R102). -/
def Dev.tooLate (d : Dev) (u a0 a1 : Nat) : Option (Nat × Nat) :=
  (d.arrivals u a0 a1).find? fun x => decide (x.2 + 2 > d.release u) && (d.arrivals u a0 a1).all fun y => decide (y.2 ≤ x.2)

/-- The reference arrival of a lane. -/
def refArrival (lane : Nat) : Fld := if lane = 0 then Reg.RXL.REF_L0 else Reg.RXL.REF_L1

/-- The first ILAS since Kindling that passes stores the reference; a later one must match it (R102). -/
def judgeArrival (u a0 a1 : Nat) : Script := withDev fun d =>
  let xs := d.arrivals u a0 a1
  let tol := d.rd u Reg.RXL.LAT_TOL
  if d.rd u Reg.RXL.REF_L0 = 0xFFFF then forEach xs fun x => put u (refArrival x.1) x.2
  else
    let shift := xs.any fun x =>
      let r := d.rd u (refArrival x.1)
      decide (max x.2 r - min x.2 r > tol)
    seqs [
      putB u Reg.RXL.LAT_SHIFT shift,
      condSet shift u 2 0 (setScope u 0xFF (d.linkCells u)) []]

/-- An ILAS has been received at `t`: `c0` and `c1` are the characters of its four multiframes on logical lanes 0 and 1, aligned on
the first /A/, and `a0` and `a1` the arrivals after L in units of 2^−16 dt, which R102 rounds up to whole dt. -/
def ilasReceived (u t : Nat) (c0 c1 : List Nat) (a0 a1 : Nat) : Script := withDev fun d =>
  let b0 := ceilDiv a0 65536
  let b1 := ceilDiv a1 65536
  when (isRxl u && d.linkOn u && d.linkState u == lsIlas && !d.running (.ilasRetry u)) <| seqs [
    advanceTo t,
    when (!d.sub0 u) (forEach (d.arrivals u b0 b1) fun x =>
      put u (if x.1 = 0 then Reg.RXL.ARRIVAL_L0 else Reg.RXL.ARRIVAL_L1) x.2),
    match d.ilasFailure u [c0, c1], (if d.sub0 u then none else d.tooLate u b0 b1) with
    | some (code, lane, received, index), _ => ilasFail u code lane received index
    | none, some (lane, _) => ilasFail u 5 lane 0 0
    | none, none => seqs [when (!d.sub0 u) (judgeArrival u b0 b1), enterData u t]]

/-- ILAS_RECEIVED (R102, R104). -/
def execIlasReceived (u t : Nat) (c0 c1 : List Nat) (a0 a1 : Nat) (s : State) :
    Host.Outcome State Fault Refusal := performSettled (ilasReceived u t c0 c1 a0 a1) s

/-- ILAS_RETRY_TIMER of link `u` (R104). -/
def execIlasRetryTimer (u : Nat) (s : State) : Host.Outcome State Fault Refusal :=
  performSettled (onExpiry (.ilasRetry u) (withDev fun d =>
    when (d.mode == .kindling || d.is u Reg.RXL.RESYNC_AUTO) (restartLink u))) s

/-- A TX link's SYNC~ input is deasserted at `t`: from code-group synchronisation, ILAS starts at the next LMFC boundary (R104);
`refreshTxLinks` starts and ends it. -/
def txDeassert (u t : Nat) : Script := withDev fun d =>
  when (!isRxl u && d.linkOn u) (seqs [advanceTo t, putB u Reg.TXL.SYNC_IN false, planIlas u t])

/-- TX_SYNC_DEASSERT (R104). -/
def execTxSyncDeassert (u t : Nat) (s : State) : Host.Outcome State Fault Refusal := performSettled (txDeassert u t) s

/-! ### Errors (R105, R106, R108) -/

/-- Count `n` in the 1 ms window of the present Device Time; the script follows when the total reaches `thresh`. -/
def inWindowCount (u thresh : Nat) (p : Script) : Script := withDev fun d =>
  let l := d.linkAt u
  let w := d.dt / 491520
  let tot := (if l.errWin = w then l.errTot else 0) + 1
  seqs [modLink u fun l => { l with errWin := w, errTot := tot }, when (tot == thresh) p]

/-- A disparity, not-in-table or unexpected-K error: where reports are on, a SYNC~ pulse of two frame periods, at most once in a
frame, and the 1 ms total (R105). -/
def badChar (u t : Nat) : Script := withDev fun d =>
  let fp := framePeriod (d.fmt u)
  seqs [
  when (d.is u Reg.RXL.SYNC_ERR_REPORT && (d.linkAt u).pulseFrame != some (t / fp)) (seqs [
    modLink u fun l => { l with pulseFrame := some (t / fp) }, emit (.syncPulse u t (2 * fp))]),
  inWindowCount u (d.rd u Reg.RXL.ERR_THRESH) (loseLink u 3)]

/-- A misplaced /A/: two in a row at one position lose the link (R105). -/
def misplacedA (u lane pos : Nat) : Script := withDev fun d =>
  let last := if lane = 0 then (d.linkAt u).lastA0 else (d.linkAt u).lastA1
  seqs [
    modLink u fun l => if lane = 0 then { l with lastA0 := some pos } else { l with lastA1 := some pos },
    when (last == some pos) (loseLink u 2)]

/-- A character error on a lane at `t`: `kind` is 0 disparity, 1 not in table, 2 unexpected K, 3 misplaced /A/ at `pos`,
4 misplaced /F/, 5 loss of code-group synchronisation (R105). -/
def laneError (u t lane kind pos : Nat) : Script := withDev fun d =>
  when (isRxl u && d.linkOn u && d.inData u && !(d.fmt u == 2 && lane == 1)) <| seqs [
    advanceTo t,
    match kind with
    | 0 => seqs [inc u Reg.RXL.L_DISP_ERR lane, badChar u t]
    | 1 => seqs [inc u Reg.RXL.L_NIT_ERR lane, badChar u t]
    | 2 => seqs [inc u Reg.RXL.L_UNEXP_K lane, badChar u t]
    | 3 => seqs [inc u Reg.RXL.L_ALIGN_ERR lane, misplacedA u lane pos]
    | 4 => inc u Reg.RXL.L_ALIGN_ERR lane
    | 5 => seqs [
        inc u Reg.RXL.L_CGS_LOSS lane,
        put u Reg.RXL.LANE_SYNC (d.rd u Reg.RXL.LANE_SYNC - (d.rd u Reg.RXL.LANE_SYNC &&& 2 ^ lane)),
        loseLink u 1]
    | _ => skip]

/-- LANE_CHAR_ERROR (R105). -/
def execLaneCharError (u t lane kind pos : Nat) (s : State) : Host.Outcome State Fault Refusal :=
  performSettled (laneError u t lane kind pos) s

/-- LINK_HOLD_EXPIRY of link `u` (R106, R108). -/
def execLinkHoldExpiry (u : Nat) (s : State) : Host.Outcome State Fault Refusal :=
  performSettled (onExpiry (.linkHold u) (withDev fun d => seqs [
    when (d.linkState u == lsHold) (setLinkState u lsData), linkUnmute u])) s

/-- The SYNC~ input of a TX link has been low for `run` samples, one each frame period, at `t` and stays low (R104, R108). A run of
N_REQ samples in the data phase is a resynchronisation request; in ILAS the link goes back to K28.5. -/
def txRequest (u t run : Nat) : Script := withDev fun d =>
  when (!isRxl u && d.linkOn u && decide (0 < run)) <| seqs [
    advanceTo t, putB u Reg.TXL.SYNC_IN true,
    when (d.inData u && decide (nReq (d.fmt u) ≤ run)) (seqs [inc u Reg.TXL.SYNC_REQ_CNT, linkMute u 5, restartLink u]),
    when (d.linkState u == lsCgs || d.linkState u == lsIlas) (seqs [
      modLink u fun l => { l with ilasAt := none }, setLinkState u lsCgs])]

/-- TX_SYNC_REQUEST (R108). -/
def execTxSyncRequest (u t run : Nat) (s : State) : Host.Outcome State Fault Refusal := performSettled (txRequest u t run) s

/-- A SYNC~ low run of `run` samples ends at `t`: one of fewer than N_REQ samples is an error report (R108). -/
def txReport (u t run : Nat) : Script := withDev fun d =>
  when (!isRxl u && d.linkOn u && d.inData u && decide (0 < run ∧ run < nReq (d.fmt u))) <| seqs [
    advanceTo t, putB u Reg.TXL.SYNC_IN false, inc u Reg.TXL.SYNC_ERR_CNT,
    inWindowCount u (d.rd u Reg.TXL.SYNC_ERR_THRESH) (fireEvent u 2 (setScope u 0xFF (d.linkCells u)) [])]

/-- SYNC_ERR_REPORT (R108). -/
def execSyncErrReport (u t run : Nat) (s : State) : Host.Outcome State Fault Refusal := performSettled (txReport u t run) s

/-- What R107 and R110 add for a write of RXL.CTRL: test fields for Service alone; RESYNC in Banked and Service, and BUSY
while an automatic restart is pending or a restart takes place at the same dt. -/
def resyncRule (u v : Nat) (d : Dev) : WriteRule :=
  { mode := d.serviceOnly (v &&& 0x36) || (v.testBit 0 && !d.modeIn [.banked, .service])
    busy := v.testBit 0 && (d.running (.ilasRetry u) || (d.linkAt u).restartedAt == some d.dt) }

/-- A write of RXL.CTRL. -/
def writeRxlCtrl (u v be : Nat) : Script := withDev fun d =>
  when (isRxl u) (writeReg u 0x110 v be (resyncRule u v)
    (let t := txlU (secOf u) (idxOf u)
     seqs [if v.testBit 0 then restartLink u else afterTest u (d.testKey u), afterTest t (d.testKey t)]))

/-- RESYNC (R107). -/
def execResync (u v be : Nat) (s : State) : Host.Outcome State Fault Refusal := performSettled (writeRxlCtrl u v be) s

/-! ### Patterns (R110 to R112) -/

/-- What R110 adds for a write of PAT_CFG. -/
def patRule (v : Nat) (d : Dev) : WriteRule :=
  let pat := v % 16
  { mode := d.serviceOnly (v &&& 0xFE00F)
    range := decide (pat ≥ 0xB) || (v.testBit 14 && [0, 6, 7].contains pat) }

/-- A lane's checker. -/
def Link.chk (l : Link) (lane : Nat) : Checker := if lane = 0 then l.chk0 else l.chk1
/-- Set it. -/
def setChk (u lane : Nat) (c : Checker) : Script := modLink u fun l => if lane = 0 then { l with chk0 := c } else { l with chk1 := c }

/-- Zero a lane's checker and injection counters (R111, R114). -/
def clearChecker (u lane : Nat) : Script :=
  if isRxl u then seqs [
    put u Reg.RXL.L_LOCK_LOSS 0 lane, putLive u Reg.RXL.L_WORDS_LO 0 lane, put u Reg.RXL.L_WORDS_HI 0 lane,
    put u Reg.RXL.L_REAL_ERR 0 lane, put u Reg.RXL.L_INJ_SEEN 0 lane, put u Reg.RXL.L_INJ_MISSED 0 lane]
  else put u Reg.TXL.L_INJ_MADE 0 lane

/-- The fields of a lane's PAT_CFG. -/
def Dev.patWord (d : Dev) (u lane : Nat) : List Nat :=
  (d.hostFields u (0x160 + 0x40 * lane)).map fun x => d.rd u x.1 x.2.1 x.2.2

/-- A lane's checker starts afresh where its PAT_CFG is no longer `old`. -/
def freshChecker (u lane : Nat) (old : List Nat) : Script := withDev fun d => when (d.patWord u lane != old) (seqs [
  setChk u lane {}, when (isRxl u) (putB u Reg.RXL.L_LOCKED false lane)])

/-- A write of a lane's PAT_CFG; a change of it starts its checker afresh. -/
def writePat (u lane v be : Nat) : Script := withDev fun d =>
  when (decide (typeOf u = 1 ∨ typeOf u = 2)) <| writeReg u (0x160 + 0x40 * lane) v be (patRule v) (seqs [
    clearChecker u lane, freshChecker u lane (d.patWord u lane), clearSpareLane u, afterTest u (d.testKey u)])

/-- PAT_CFG_WRITE (R111). -/
def execPatCfgWrite (u lane v be : Nat) (s : State) : Host.Outcome State Fault Refusal := performSettled (writePat u lane v be) s

/-- An injection stands in word `i` (R111): `fits` says that its bit precedes the next marker. -/
def injects (en : Bool) (n i : Nat) (fits : Bool) : Bool := en && decide (0 < i) && i % n == 0 && fits

/-- The bit INJ_BIT of word `i` of a lane's pattern precedes the next marker (R111). -/
def Dev.injFits (d : Dev) (u lane pat i b : Nat) : Bool := decide (20 * i + b < d.patternLen u lane pat)

/-- The injected bits of word `i` as a generator or a checker with these settings has them (R111). -/
def Dev.injFlip (d : Dev) (u lane pat i : Nat) (en : Bool) (n b : Nat) : Nat :=
  if injects en n i (d.injFits u lane pat i b) then 2 ^ b else 0

/-- The disparity at which the repetition that starts with the received word begins: that whose first word it is, else the other
than before. -/
def Dev.repDisparity (d : Dev) (u lane pat got : Nat) (before : Bool) : Bool :=
  if got = d.patternWord u lane pat false 0 then false
  else if got = d.patternWord u lane pat true 0 then true
  else !before

/-- One word at a checker, by the algorithm of R112: `i` is its number from the marker, `got` the word received. -/
def checkWord (u lane i got : Nat) : Script := withDev fun d =>
  let pat := d.rd u Reg.RXL.L_PATTERN lane
  let flip := d.injFlip u lane pat i (d.is u Reg.RXL.L_INJ_EN lane) (d.rd u Reg.RXL.L_INJ_N lane) (d.rd u Reg.RXL.L_INJ_BIT lane)
  let c0 := (d.linkAt u).chk lane
  let c := if i = 0 then { c0 with rd := d.repDisparity u lane pat got c0.rd } else c0
  let diff := got ^^^ (d.patternWord u lane pat c.rd i ^^^ flip)
  if !d.is u Reg.RXL.L_LOCKED lane then
    let clean := if diff = 0 then c.clean + 1 else 0
    if clean ≥ 64 then seqs [putB u Reg.RXL.L_LOCKED true lane, setChk u lane { rd := c.rd }]
    else setChk u lane { c with clean := clean }
  else
    let counting := c.counting || i == 0
    let recent := ((diff != 0) :: c.recent).take 64
    seqs [
      when counting (seqs [
        when (flip != 0) (if diff &&& flip ≠ 0 then inc u Reg.RXL.L_INJ_MISSED lane else inc u Reg.RXL.L_INJ_SEEN lane),
        when (diff != 0) (inc u Reg.RXL.L_REAL_ERR lane),
        putLive u Reg.RXL.L_WORDS_LO (min (2 ^ 64 - 1) (d.live u Reg.RXL.L_WORDS_LO lane + 1)) lane]),
      if (recent.filter id).length ≥ 16 then seqs [
        inc u Reg.RXL.L_LOCK_LOSS lane, putB u Reg.RXL.L_LOCKED false lane, setChk u lane { rd := c.rd }]
      else setChk u lane { c with recent := recent, counting := counting }]

/-- A generator sends its next word: the pattern's own, with the injected bit flipped (R111). -/
def sendWord (u lane : Nat) : Script := withDev fun d =>
  let pat := d.rd u Reg.TXL.L_PATTERN lane
  let c := (d.linkAt u).chk lane
  let flip := d.injFlip u lane pat c.word (d.is u Reg.TXL.L_INJ_EN lane) (d.rd u Reg.TXL.L_INJ_N lane) (d.rd u Reg.TXL.L_INJ_BIT lane)
  let last := decide (c.word + 1 ≥ d.patternWords u lane pat)
  seqs [
    emit (.patternSent u lane [d.patternWord u lane pat c.rd c.word ^^^ flip]),
    when (flip != 0) (inc u Reg.TXL.L_INJ_MADE lane),
    setChk u lane { c with
      word := if last then 0 else c.word + 1
      rd := if last && decide (5 < pat) then (encodeAll c.rd (d.patternChars u lane pat)).2 else c.rd }]

/-- The word that the generator of a lane sends next, on its way round a loopback (R113); none where it sends none. -/
def Dev.loopWord (d : Dev) (u lane : Nat) : Option (Nat × Nat) :=
  let t := txlU (secOf u) (idxOf u)
  let pat := d.rd t Reg.TXL.L_PATTERN lane
  let c := (d.linkAt t).chk lane
  if d.is u Reg.RXL.LOOPBACK && d.is t Reg.TXL.L_GEN_EN lane && pat != 0 then
    some (c.word, d.patternWord t lane pat c.rd c.word ^^^
      d.injFlip t lane pat c.word (d.is t Reg.TXL.L_INJ_EN lane) (d.rd t Reg.TXL.L_INJ_N lane) (d.rd t Reg.TXL.L_INJ_BIT lane))
  else none

/-- A lane receives a word of a pattern: `w` is its number from the marker and its bits as they arrive from outside. In loopback
the generator of TX link k sends the word, and no bit changes on the way. -/
def receiveWord (u lane : Nat) (w : Nat × Nat) : Script := withDev fun d =>
  let t := txlU (secOf u) (idxOf u)
  match d.loopWord u lane with
  | some x => seqs [sendWord t lane, checkWord u lane x.1 x.2]
  | none => checkWord u lane w.1 w.2

/-- A lane receives, or its generator sends, a run of pattern words (R111, R112); the words themselves are what arrives at an RX
link. -/
def patternWords (u lane : Nat) (words : List (Nat × Nat)) : Script := withDev fun d =>
  when (d.linkOn u && d.linkState u == lsTest && !(d.fmt u == 2 && lane == 1)) (
    if isRxl u then when (d.is u Reg.RXL.L_CHK_EN lane && d.is u Reg.RXL.L_PATTERN lane)
      (forEach words (receiveWord u lane))
    else when (d.is u Reg.TXL.L_GEN_EN lane && d.is u Reg.TXL.L_PATTERN lane) (forEach words fun _ => sendWord u lane))

/-- PATTERN_CHECKER_LOCK (R112). -/
def execPatternCheckerLock (u lane : Nat) (words : List (Nat × Nat)) (s : State) : Host.Outcome State Fault Refusal :=
  performSettled (patternWords u lane words) s

end Sys2Proof.Machine
end

