-- ==== Sys2Proof/Machine/Radio.lean ====
section
/-! DEFINITION. Commands on Radio Control: group power and windows (R250 to R255), PA_ALARM (R256), synthesisers (R258 to R263),
RFFE transfers (R264), mismatch holds (R266) and tuner searches (R267). -/

namespace Sys2Proof.Machine

/-- An FDD group's transmit request (R252, R262): its bias lead starts at once, or the request is held while a synthesiser is not
ready. -/
def fddRequest (s k : Nat) : Script := withDev fun d =>
  let st := d.dt + biasLead
  when (d.gState s k == gsRest || d.gState s k == gsSettle) (
    if d.grpReady s k then startBias s k st 0
    else seqs [
      modGrp s k fun g => { g with held := some (st, 0) }, putB (rcU s) Reg.RC.G_SYN_WAIT true k,
      startTimerAt (.fddRepeat s k) (st + d.settleBudget s k)])

/-! ### Power-up and windows (R250, R252, R253) -/

/-- GROUP_POWER_UP of group `k` of section `sec`: radio operation begins. -/
def execGroupPowerUp (sec k : Nat) (s : State) : Host.Outcome State Fault Refusal :=
  performSettled (withDev fun d => when (d.radioOp sec k && d.gState sec k == gsOff) (groupPowerUp sec k)) s

/-- FDD_SEND_START (R252): 24,576 dt after VDD_EN. -/
def execFddSendStart (sec k : Nat) (s : State) : Host.Outcome State Fault Refusal :=
  performSettled (withDev fun d => when (d.grpOn sec k && !d.grpTdd sec k && (d.grp sec k).down == .none)
    (onExpiry (.groupStep sec k) (fddRequest sec k))) s

/-- Entry `e` in the period `n` periods after the carrier's latest mark is one that the group can meet: the next mark bounds `n`. -/
def Dev.entryAt (d : Dev) (s k e n kind : Nat) : Bool :=
  d.entryOk s k e kind && decide (n * d.rd (rcU s) Reg.RC.G_PERIOD_DT k ≤ d.markPeriod (d.grpCarrier s k))

/-- The bias lead of SEND entry `e` begins, at least 24,576 dt after VDD_EN; while a synthesiser is not ready the request is
held. A request still held is a skipped burst. -/
def biasLeadStart (s k e n : Nat) : Script := withDev fun d =>
  let (a, b) := d.entrySpan s k e n
  let t := (a - (tddLead : Int)).toNat
  let g := d.grp s k
  let st := d.gState s k
  let waits := st == gsRest || st == gsListenDL || st == gsListenUL || st == gsSettle
  when (d.entryAt s k e n kindSend && waits && g.down == .none && decide ((d.dt : Int) + tddLead ≤ a) &&
      g.vddAt.any fun v => decide (v + vddLead ≤ t)) (seqs [
    advanceTo t,
    when g.held.isSome (skipBurst s k),
    if d.grpReady s k && st != gsSettle then startBias s k a.toNat b.toNat
    else seqs [modGrp s k fun g => { g with held := some (a.toNat, b.toNat) }, putB (rcU s) Reg.RC.G_SYN_WAIT true k]])

/-- TDD_BIAS_LEAD of group `k` of section `sec`, for entry `e` in period `n` from the latest mark (R252). -/
def execTddBiasLead (sec k e n : Nat) (s : State) : Host.Outcome State Fault Refusal :=
  performSettled (biasLeadStart sec k e n) s

/-- The Send state starts, and with it the digital ramp-up; the first one since an entry to Carry lets the gains rise from
its end on (R82). -/
def sendStart (s k : Nat) : Script := withDev fun d =>
  match (d.grp s k).nextS with
  | none => skip
  | some st => when (d.gState s k == gsSwitch && (d.grp s k).down == .none) (seqs [
      advanceTo st,
      putGState s k (d.sendState s k),
      modGrp s k fun g => { g with nextS := none, sendFrom := some (max d.dt st), sentAt := some (max d.dt st) },
      forEach (d.cellsOfGroup s k) fun c => when ((d.cellAt c).rampHold) (seqs [
        modCell c fun x => { x with rampHold := false },
        startTimerAt (.gainSlew c) (max d.dt st + d.rampLen s k + d.slewStep c)])])

/-- SEND_START (R252). -/
def execSendStart (sec k : Nat) (s : State) : Host.Outcome State Fault Refusal := performSettled (sendStart sec k) s

/-- The SEND entry ends: Switch with bias released; an orderly power-down in progress goes on from there. -/
def sendStop (s k : Nat) : Script := withDev fun d =>
  match (d.grp s k).sendEnd with
  | none => skip
  | some e => when (d.sending s k) (seqs [
      advanceTo e,
      if (d.grp s k).down == .none then seqs [
        putGState s k gsSwitch, modGrp s k fun g => { g with bias := false, sendFrom := none }]
      else seqs [
        putGState s k gsRest,
        modGrp s k fun g => { g with bias := false, sendFrom := none, sendEnd := none, down := .supply },
        startTimer (.groupStep s k) vddHold]])

/-- SEND_END (R252). -/
def execSendEnd (sec k : Nat) (s : State) : Host.Outcome State Fault Refusal := performSettled (sendStop sec k) s

/-- SWITCH_DT after the SEND entry the group rests or listens. -/
def switchStop (s k : Nat) : Script := withDev fun d =>
  match (d.grp s k).sendEnd with
  | none => skip
  | some e => when (d.gState s k == gsSwitch && !(d.grp s k).bias) (seqs [
      advanceTo (e + d.rd (rcU s) Reg.RC.G_SWITCH_DT k),
      putGState s k (d.restState s k), modGrp s k fun g => { g with sendEnd := none }])

/-- SWITCH_END (R252). -/
def execSwitchEnd (sec k : Nat) (s : State) : Host.Outcome State Fault Refusal := performSettled (switchStop sec k) s

/-- A LISTEN entry starts or ends, at `t`. -/
def listenEdge (s k : Nat) (t : Int) (starts : Bool) : Script := withDev fun d => when (decide ((d.dt : Int) ≤ t)) (seqs [
  advanceTo t.toNat,
  modGrp s k fun g => { g with listening := starts },
  withDev fun d => when (d.resting s k && (d.grp s k).down == .none) (putGState s k (d.restState s k))])

/-- LISTEN_START of entry `e` in period `n` from the latest mark (R250, R252). -/
def execListenStart (sec k e n : Nat) (s : State) : Host.Outcome State Fault Refusal :=
  performSettled (withDev fun d => when (d.entryAt sec k e n kindListen) (listenEdge sec k (d.entrySpan sec k e n).1 true)) s

/-- LISTEN_END of entry `e` in period `n` from the latest mark (R250, R253). -/
def execListenEnd (sec k e n : Nat) (s : State) : Host.Outcome State Fault Refusal :=
  performSettled (withDev fun d => when (d.entryAt sec k e n kindListen) (listenEdge sec k (d.entrySpan sec k e n).2 false)) s

/-! ### OFF_REQ (R254) -/

/-- A write of OFF_REQ: 1 starts the orderly power-down; 0 lets the group power up afresh once it is Off. -/
def writeOffReq (s k v be : Nat) : Script :=
  writeReg (rcU s) (0x110 + 0x40 * k) v be plainRule (withDev fun d =>
    let g := d.grp s k
    when (d.is (rcU s) Reg.RC.G_OFF_REQ k && d.grpOn s k)
      (if g.down == .none then startDown s k else modGrp s k fun g => { g with forRecal := false }))

/-- OFF_REQ_WRITE (R254). -/
def execOffReqWrite (sec k v be : Nat) (s : State) : Host.Outcome State Fault Refusal := performSettled (writeOffReq sec k v be) s

/-! ### Synthesisers (R258 to R263) -/

/-- A synthesiser is declared in an enabled section. -/
def Dev.synOn (d : Dev) (s y : Nat) : Bool :=
  d.sectionOn s && decide (y < 8) && d.mode != .cold && d.is (rcU s) Reg.RC.SYN_EN y

/-- The section's reading has moved by RECAL_DEG × 0.5 °C since the last sequence (R259). -/
def Dev.tempMoved (d : Dev) (s y : Nat) : Bool :=
  let deg := d.rd (rcU s) Reg.RC.SYN_RECAL_DEG y
  match (d.syn s y).temp, d.sectionTemp s with
  | some a, some b => decide (deg ≠ 0 ∧ (b - a).natAbs ≥ 50 * deg)
  | _, _ => false

/-- The sequence that a synthesiser is to run: Kindling's PROG, a RECOVER or a RECAL that waits, or a RECAL that the host or the
temperature asks for. -/
def Dev.wanted (d : Dev) (s y : Nat) : Option SeqKind :=
  if (d.syn s y).prog then some .prog
  else match (d.syn s y).want with
  | some k => some k
  | none => if (d.rd (rcU s) Reg.RC.SYN_CTRL_RECAL).testBit y || d.tempMoved s y then some .recal else none

/-- Start the sequence that a synthesiser waits for: a RECAL only at an instant at which no dependent group is in Switch or
Send, which an orderly stop makes for an FDD group (R259). -/
def startWanted (s y : Nat) : Script := withDev fun d =>
  when (d.synOn s y && (d.syn s y).run.isNone) (
    match d.wanted s y with
    | none => skip
    | some .recal =>
      if (d.groupsOfSynth s y).any (d.busyTx s) then seqs [
        modSyn s y fun x => { x with want := some .recal },
        forEach (d.groupsOfSynth s y) (stopForRecal s)]
      else seqs [startSeq s y .recal, synthReady s y]
    | some kind => seqs [startSeq s y kind, synthReady s y])

/-- SYN_SEQUENCE_START of synthesiser `y` of section `sec` (R259). -/
def execSynSequenceStart (sec y : Nat) (s : State) : Host.Outcome State Fault Refusal := performSettled (startWanted sec y) s

/-- A write of SYN_CTRL: each selected synthesiser is to run RECAL; its bit reads 1 until it does (R51), and 1 written to it again
meanwhile is BUSY (R54). -/
def writeRecal (s v be : Nat) : Script :=
  writeReg (rcU s) 0x2C0 v be (fun d => {
      mode := v % 256 != 0 && d.modeIn [.cold, .kindling], busy := v % 256 &&& d.rd (rcU s) Reg.RC.SYN_CTRL_RECAL != 0 })
    (forEach ((List.range 8).filter fun y => v.testBit y) fun y => withDev fun d =>
      when (d.synOn s y) (seqs [
        put (rcU s) Reg.RC.SYN_CTRL_RECAL (d.rd (rcU s) Reg.RC.SYN_CTRL_RECAL ||| 2 ^ y), startWanted s y]))

/-- SYN_RECAL_WRITE (R259). -/
def execSynRecalWrite (sec v be : Nat) (s : State) : Host.Outcome State Fault Refusal := performSettled (writeRecal sec v be) s

/-- A timed step of an orderly stop falls due (R254, R259). -/
def powerStep (s k : Nat) : Script := withDev fun d =>
  let g := d.grp s k
  match g.down with
  | .none => skip
  | .ramp =>
    if g.forRecal then seqs [
      putGState s k gsRest,
      modGrp s k fun g => { g with down := .none, forRecal := false, bias := false, sendFrom := none, sendEnd := none },
      forEach (d.synthsOf s k) (startWanted s)]
    else seqs [
      putGState s k gsSwitch,
      modGrp s k fun g => { g with down := .bias, sendFrom := none, sendEnd := none },
      startTimer (.groupStep s k) biasLead]
  | .bias => seqs [
      putGState s k gsRest, modGrp s k fun g => { g with down := .supply, bias := false },
      startTimer (.groupStep s k) vddHold]
  | .supply => groupOff s k

/-- POWER_DOWN_STEP (R254). -/
def execPowerDownStep (sec k : Nat) (s : State) : Host.Outcome State Fault Refusal :=
  performSettled (withDev fun d => when ((d.grp sec k).down != .none) (onExpiry (.groupStep sec k) (powerStep sec k))) s

/-- The transfer of a synthesiser's sequence is done: the settle timer starts after the last CSPI frame, and the sequence goes
on (R259, R260). -/
def seqDone (s y : Nat) (frame : Bool) : Script := withDev fun d =>
  when ((d.syn s y).run.isSome) (seqs [
    when (frame && !d.laterFrame s 256 ((d.syn s y).pc + 1)) (startSettle s y),
    modSyn s y fun x => { x with pc := x.pc + 1 },
    seqStep s y, synthReady s y])

/-- The frame of a CSPI master is complete; `miso` is what came back. -/
def cspiDone (s m miso : Nat) : Script := withDev fun d =>
  match (d.master s m).cur with
  | none => skip
  | some op => seqs [
      modMaster s m fun b => { b with cur := none },
      match op with
      | .cspiSeq y => seqDone s y true
      | .cspiHost true _ _ len => put (rcU s) Reg.RC.XFER_DATA (miso % 2 ^ len)
      | _ => skip,
      busNext s m]

/-- CSPI_FRAME_DONE of master `m` of section `sec` (R258). -/
def execCspiFrameDone (sec m miso : Nat) (s : State) : Host.Outcome State Fault Refusal := performSettled (cspiDone sec m miso) s

/-- SEQUENCE_WAIT_EXPIRY (R259). -/
def execSequenceWaitExpiry (sec y : Nat) (s : State) : Host.Outcome State Fault Refusal :=
  performSettled (onExpiry (.seqWait sec y) (seqDone sec y false)) s

/-- A write of the host transfer register (R272): GO in Banked and Service only, and only to a chip select with HOST_OK; a GO while an
earlier one waits for its master is BUSY (R54). -/
def writeXfer (s v be : Nat) : Script :=
  let m := v / 2 ^ 29 % 2
  let cs := v / 2 ^ 27 % 4
  let go := v.testBit 31
  writeReg (rcU s) 0x380 v be
    (fun d => { mode := go && !d.modeIn [.banked, .service], range := go && !d.is (rcU s) Reg.RC.CS_HOST_OK (4 * m + cs)
                busy := go && d.is (rcU s) Reg.RC.XFER_GO })
    (withDev fun d => when go (seqs [
      putB (rcU s) Reg.RC.XFER_GO true,
      busRequest s m (.cspiHost (v.testBit 30) cs (d.rd (rcU s) Reg.RC.XFER_DATA) (d.rd (rcU s) Reg.RC.CS_LEN (4 * m + cs)))]))

/-- CSPI_HOST_GO (R272). -/
def execCspiHostGo (sec v be : Nat) (s : State) : Host.Outcome State Fault Refusal := performSettled (writeXfer sec v be) s

/-- SETTLE_TIMER_EXPIRY (R260). -/
def execSettleTimerExpiry (sec y : Nat) (s : State) : Host.Outcome State Fault Refusal :=
  performSettled (onExpiry (.synSettle sec y) (seqs [
    putB (rcU sec) Reg.RC.SYN_SETTLING false y, modSyn sec y (fun x => { x with settled := true }), synthReady sec y])) s

/-- LD_LEVEL shows the level of a synthesiser's LD input. -/
def showLd (s y : Nat) (high : Bool) : Script := withDev fun d =>
  let b := 2 ^ d.rd (rcU s) Reg.RC.SYN_LD y
  let old := d.rd (rcU s) Reg.RC.LD_LEVEL
  put (rcU s) Reg.RC.LD_LEVEL (if high then old ||| b else old - (old &&& b))

/-- LD_QUALIFIED of synthesiser `y` of section `sec` (R260): lock is confirmed. -/
def execLdQualified (sec y : Nat) (s : State) : Host.Outcome State Fault Refusal :=
  performSettled (withDev fun d => when (d.synOn sec y) (seqs [
    showLd sec y true, modSyn sec y (fun x => { x with locked := true }), synthReady sec y])) s

/-- LD has been low for 104 ns. Outside a sequence the loss of lock is declared: it mutes, is counted, and starts RECOVER (R261). An LD
that has not risen yet while the settle timer of a sequence runs is no loss, as the RECAL of R263's table shows (DEDUCED, log
entry 117; unsafe). -/
def lossOfLock (s y : Nat) : Script := withDev fun d =>
  let x := d.syn s y
  when (d.synOn s y) (seqs [
    showLd s y false,
    modSyn s y fun x => { x with locked := false },
    when (x.run.isNone && (x.locked || !d.is (rcU s) Reg.RC.SYN_SETTLING y)) (seqs [
      inc (rcU s) Reg.RC.SYN_LD_LOSS_CNT y,
      putB (rcU s) Reg.RC.SYN_READY false y,
      modSyn s y fun x => { x with lossMute := true, want := some .recover },
      fireEvent (rcU s) 0 (setScope (rcU s) y (d.cellsOfSynth s y)) [],
      startWanted s y])])

/-- LD_LOSS (R261). -/
def execLdLoss (sec y : Nat) (s : State) : Host.Outcome State Fault Refusal := performSettled (lossOfLock sec y) s

/-! ### Held requests (R262) -/

/-- A held request proceeds: its bias lead starts 492 dt before the first legal boundary. -/
def proceed (s k : Nat) : Script := withDev fun d =>
  match (d.grp s k).held with
  | none => skip
  | some (st, e) => when (d.grpReady s k && d.resting s k && (d.grp s k).down == .none) (
      match d.boundary s k st e d.dt with
      | none => skipBurst s k
      | some b => seqs [advanceTo (b - tddLead), stopTimer (.fddRepeat s k), startBias s k b e])

/-- HELD_REQUEST_PROCEED (R262). -/
def execHeldRequestProceed (sec k : Nat) (s : State) : Host.Outcome State Fault Refusal := performSettled (proceed sec k) s

/-- An FDD request is made again at S + SETTLE_BUDGET; one still held then is a skipped burst. -/
def repeatRequest (s k : Nat) : Script := withDev fun d => seqs [
  when ((d.grp s k).held.isSome) (skipBurst s k), stopTimer (.fddRepeat s k), fddRequest s k]

/-- FDD_REQUEST_REPEAT (R262). -/
def execFddRequestRepeat (sec k : Nat) (s : State) : Host.Outcome State Fault Refusal :=
  performSettled (onExpiry (.fddRepeat sec k) (repeatRequest sec k)) s

/-! ### PA_ALARM (R256) -/

/-- The qualified level of a PA_ALARM input: the group's cells are muted while one of its inputs is active. -/
def alarmInput (s p : Nat) (level : Bool) : Script := withDev fun d =>
  let u := rcU s
  let k := d.rd u Reg.RC.PIN_GROUP p
  when (d.sectionOn s && decide (p < 16) && d.rd u Reg.RC.PIN_FUNC p == 9) (seqs [
    putB u Reg.RC.PIN_LEVEL level p,
    condSet (level != d.is u Reg.RC.PIN_POL p) u 3 p (setScope u k (d.cellsOfGroup s k)) [],
    withDev fun d =>
      let on := (List.range 16).any fun q =>
        d.rd u Reg.RC.PIN_FUNC q == 9 && d.rd u Reg.RC.PIN_GROUP q == k && d.holdsFor u 3 q
      modGrp s k fun g => { g with alarm := on }])

/-- PA_ALARM: pin `p` of section `sec` has held `level` for 64 control-clock cycles (R256). -/
def execPaAlarm (sec p : Nat) (level : Bool) (s : State) : Host.Outcome State Fault Refusal :=
  performSettled (alarmInput sec p level) s

/-! ### RFFE (R264) -/

/-- Register of an RFFE master's failures. -/
def rffeErr (m : Nat) : Fld := if m = 0 then Reg.RC.RFFE_ERR0 else Reg.RC.RFFE_ERR1

/-- The transfer has ended for good: a tuner search goes on with a trial code that is written, a sequence with its next
entry. -/
def rffeEnd (s : Nat) (op : BusOp) : Script :=
  match op with
  | .tuner k w =>
    let mark := fun (t : TuneRun) =>
      if t.axis = w.axis ∧ t.trial = some w.code then { t with written := true, reads := [] } else t
    when w.onTrial (modGrp s k fun g => { g with tune := g.tune.map mark })
  | .rffeSeq y => seqDone s y false
  | _ => skip

/-- A transfer of RFFE master `m` ends. A tuner write is read back, and the read must have right parity and give the code written;
the first failure sends the write again, the second counts and fires the source. A write that is not read back cannot fail. -/
def rffeDone (s m : Nat) (parityOk : Bool) (got : Nat) : Script := withDev fun d =>
  let i := 2 + m
  let b := d.master s i
  let ends := fun (op : BusOp) => seqs [
    modMaster s i fun b => { b with cur := none, retried := false, reading := false }, rffeEnd s op, busNext s i]
  match b.cur with
  | none => skip
  | some (.tuner k w) =>
    let op := BusOp.tuner k w
    if !b.reading then seqs [modMaster s i fun b => { b with reading := true }, sendOp s i op]
    else if parityOk ∧ got = w.code then ends op
    else if !b.retried then seqs [modMaster s i fun b => { b with retried := true, reading := false }, sendOp s i op]
    else seqs [
      inc (rcU s) (rffeErr m), fireEvent (rcU s) 7 (setScope (rcU s) k (d.cellsOfGroup s k)) [], ends op]
  | some op => ends op

/-- RFFE_TRANSFER_DONE of master `m` of section `sec` (R264): of a read, whether its parity was right and the value read. -/
def execRffeTransferDone (sec m : Nat) (parityOk : Bool) (got : Nat) (s : State) : Host.Outcome State Fault Refusal :=
  performSettled (rffeDone sec m parityOk got) s

/-! ### Mismatch and tuning (R266, R267) -/

/-- MM_HOLD_EXPIRY (R266). -/
def execMmHoldExpiry (sec k : Nat) (s : State) : Host.Outcome State Fault Refusal :=
  performSettled (onExpiry (.mmHold sec k) (seqs [
    putB (rcU sec) Reg.RC.G_MM_MUTE false k, condEnd (rcU sec) 5 k, modGrp sec k fun g => { g with muteRun := 0 }])) s

/-- A search starts at `t`, at least TUNE_PERIOD after the last. -/
def startTune (s k t : Nat) : Script := withDev fun d =>
  let u := rcU s
  let key := 0x50000 + grpKey s k
  let last := d.ticksAt key
  when (d.grpOn s k && d.modeIn [.carry, .backoff] && d.is u Reg.RC.G_TUNE_EN k &&
      (d.is u Reg.RC.AX_EN k 0 || d.is u Reg.RC.AX_EN k 1) && d.gState s k != gsOff && !d.is u Reg.RC.G_MM_MUTE k &&
      !d.is u Reg.RC.G_OPEN_SHORT k && decide (d.dt ≤ t) && (d.grp s k).tune.isNone &&
      (last == 0 || decide (last - 1 + dtOfMs (d.rd u Reg.RC.G_TUNE_PERIOD k) ≤ t)))
    (seqs [advanceTo t, upd (.ticks key (t + 1)), modGrp s k fun g => { g with tune := some {} }])

/-- TUNE_PERIOD of group `k` of section `sec`, at `t` (R267). -/
def execTunePeriod (sec k t : Nat) (s : State) : Host.Outcome State Fault Refusal := performSettled (startTune sec k t) s

end Sys2Proof.Machine
end

