-- ==== Sys2Proof/Machine/Reset.lean ====
section
/-! DEFINITION. Reset: PORST_N, RESET_N and the supply detector (R80, R505), the variant record (R484), the AUTOBOOT strap
(R493), and the identity derivation (R326). -/

namespace Sys2Proof.Machine

/-! ### Entering reset -/

/-- What every reset leaves: Cold, every register at its reset value, no command outstanding (R80, R371); the OTP and the
medium keep what they hold, and the model keeps its draws and its output. The TAP, which IEEE 1149.1 resets by TRST_N and TMS alone, keeps
its instruction (PRESUMED, log entry 179; unsafe). -/
def Dev.fresh (d : Dev) : Dev :=
  { otp := d.otp, store := d.store, p0 := d.p0, out := d.out, drawn := d.drawn, med := d.med.kept,
    mc := { extest := d.mc.extest }, ev := { resetKind := 1 } }

/-- The block while PORST_N is asserted; an OTP burn in progress is cut off (R324, R345). -/
def Dev.porstReset (d : Dev) : Dev := { (cutBurn.run d).fresh with porst := true, resetn := d.resetn }

/-- The keys of the Caddy's registers that the identity derivation has written: the status word's ID bits and DEV_ID; and
SIGN_CNT, which counts since PORST_N (R348). -/
def identityKey (k : RegKey) : Bool :=
  k == (Reg.CY.ID_DONE.at CY).key || k == (Reg.CY.ID_OK.at CY).key || inWindow CY 0x140 0x15C k ||
    k == (Reg.CY.SIGN_CNT.at CY).key

/-- The block while RESET_N is asserted: the identity and the variant record stay (R326, R484), and CAUSE is 0x02. -/
def Dev.resetReset (d : Dev) : Dev :=
  { (cutBurn.run d).fresh with
    porst := d.porst, resetn := true
    regs := (d.regs.keep identityKey).put Reg.MC.CAUSE.rst (Reg.MC.CAUSE.at MC).key 0x02
    cy := { seed := d.cy.seed, pub := d.cy.pub, devId := d.cy.devId }
    variant := d.variant
    ev := { resetKind := 2 } }

/-- A reset pin stays asserted for `ns` at least (R506): under 200 ns it is ignored, from 1 µs on it resets, and between them it may or
may not. -/
def onPulse (ns : Nat) (r : Dev → Dev) (d : Dev) : Dev :=
  if ns < 200 then d
  else if ns < 1000 then
    let e := { d with drawn := d.drawn + 1 }
    if Config.freeValue d.drawn % 2 = 1 then r e else e
  else r d

/-- PORST_N_ASSERT (R80, R506). -/
def execPorstNAssert (ns : Nat) (s : State) : Host.Outcome State Fault Refusal := .next { s with dev := onPulse ns Dev.porstReset s.dev }

/-- RESET_N asserted; PORST_N asserted overrides it. -/
def resetNAssert (d : Dev) : Dev := if d.porst then { d with resetn := true } else d.resetReset

/-- RESET_N_ASSERT (R80, R506). -/
def execResetNAssert (ns : Nat) (s : State) : Host.Outcome State Fault Refusal := .next { s with dev := onPulse ns resetNAssert s.dev }

/-- SUPPLY_LOSS_DETECT (R505): VDD_CORE below 660 mV or VDD_IO below 1,550 mV acts as PORST_N asserted. -/
def execSupplyLossDetect (coreMv ioMv : Nat) (s : State) : Host.Outcome State Fault Refusal :=
  .next { s with dev := if coreMv < 660 ∨ ioMv < 1550 then s.dev.porstReset else s.dev }

/-! ### Leaving reset -/

/-- The majority of three bytes, bit by bit (R484). -/
def majority (a b c : Nat) : Nat := (a &&& b) ||| (a &&& c) ||| (b &&& c)

/-- A byte of the majority record. -/
def Dev.recordByte (d : Dev) (i : Nat) : Nat := majority (d.otpByte i) (d.otpByte (0x10 + i)) (d.otpByte (0x20 + i))

/-- The variant that the three copies give; it is consistent when it equals the row of R4 for its VARIANT (R484). -/
def Dev.readVariant (d : Dev) : Variant :=
  let v := d.recordByte 0
  let sect := d.recordByte 1
  let opts := d.recordByte 2
  { index := v, sectMask := sect, half := opts.testBit 0, bondS := opts.testBit 1
    consistent := decide (v < 12) && sect == (if v < 4 then 0x0F else if v < 8 then 0x03 else 0x01) &&
      opts == b2n (decide (v % 4 ≥ 2)) + 2 * (v % 2) && (List.range 13).all fun i => d.recordByte (3 + i) == 0 }

/-- PCI Device ID (R4, R484). -/
def Dev.deviceId (d : Dev) : Nat := if d.variant.consistent then 0x9640 + d.variant.index else 0x964F

/-- The identity source holds until the next PORST_N once the derivation has ended without a match (R326). -/
def raiseIdentity : Script := withDev fun d =>
  when (d.is CY Reg.CY.ID_DONE && !d.is CY Reg.CY.ID_OK) (condStart CY 0 0 noScope [])

/-- What the fuses and the OTP show in registers. -/
def showFuses : Script := withDev fun d => seqs [showCaddy, forEach d.sections showLoadLim]

/-- The strap is latched, the fuses and the Caddy's slots are shown. -/
def afterReset (autoboot : Bool) : Script := seqs [
  modMc fun m => { m with autoboot := autoboot }, showFuses, raiseIdentity]

/-- PORST_N_DEASSERT (R484, R493): the variant record is read, and AUTOBOOT is sampled. -/
def porstNDeassert (autoboot : Bool) (d : Dev) : Dev :=
  if d.porst then (afterReset autoboot).run { d with porst := false, variant := d.readVariant } else d

/-- See `porstNDeassert`. -/
def execPorstNDeassert (autoboot : Bool) (s : State) : Host.Outcome State Fault Refusal :=
  .next { s with dev := porstNDeassert autoboot s.dev }

/-- RESET_N_DEASSERT (R493): AUTOBOOT is sampled. -/
def resetNDeassert (autoboot : Bool) (d : Dev) : Dev :=
  if d.resetn then
    (if d.porst then { d with resetn := false } else (afterReset autoboot).run { d with resetn := false })
  else d

/-- See `resetNDeassert`. -/
def execResetNDeassert (autoboot : Bool) (s : State) : Host.Outcome State Fault Refusal :=
  .next { s with dev := resetNDeassert autoboot s.dev }

/-- The identity derivation ends (R326): the seed as the PUF array gives it, empty where it could not be recovered; DEV_PUB
is compared with the certificate's copy. It runs under RESET_N too, once after each PORST_N. -/
def identityDone (seed : List Byte) : Script := withDev fun d =>
  let pub := Config.ed448Public seed
  let ok := !seed.isEmpty && pub == d.otpBytes (0x0840 + 32) 57
  let devId := Config.shake256 pub 32
  when (!d.is CY Reg.CY.ID_DONE) <| seqs [
    putB CY Reg.CY.ID_DONE true, putB CY Reg.CY.ID_OK ok,
    when (!seed.isEmpty) (seqs [
      modCy fun c => { c with seed := seed, pub := pub, devId := devId },
      forEach (List.range 8) fun i => put CY Reg.CY.DEV_ID (num devId (4 * i) 4) i]),
    raiseIdentity, settle]

/-- IDENTITY_DERIVATION_DONE. -/
def execIdentityDerivationDone (seed : List Byte) (s : State) : Host.Outcome State Fault Refusal :=
  .next { s with dev := if s.dev.porst then s.dev else (identityDone seed).run s.dev }

end Sys2Proof.Machine
end

