-- ==== Sys2Proof/Machine/Woodshed.lean ====
section
/-! DEFINITION. Commands on the Woodshed Controller: discovery (R378 to R380), page reads and writes with verify (R383, R389),
migrations (R386, R387, R390, R399), failed devices (R389), the patrol (R391), the journal (R398), strobe training (R513), and
the host's transfers (R361, R392). -/

namespace Sys2Proof.Machine

/-! ### Failed devices (R389) -/

/-- A device is lost: its free and spare zones retire at once with cause DEVICE, those in use wait for their migration. The
spares of a channel lie on its last chip select, and the device holds at most FREE_ZONES of the free zones. -/
def deviceLost (x : MedDevice) : Script := withDev fun d =>
  let m := d.med
  let id_ := x.ch * 2 + x.cs
  let c := m.chan x.ch
  let here := m.zones.filter fun e => zoneDev e.1 == id_
  let inUse := here.filter fun e => e.2.state == 1 || e.2.state == 5
  let other := here.filter fun e => e.2.state == 3 || e.2.state == 4
  let last := !m.devices.any fun y => y.ch == x.ch && decide (y.cs > x.cs)
  let sp := if last then min c.spares (zonesOf x.gib) else 0
  let free := min (m.cap - m.used) (zonesOf x.gib - inUse.length - other.length - sp)
  setMed fun m =>
    let m := m.setChan x.ch fun c => { c with spares := c.spares - sp, retired := c.retired + sp + free }
    { m with cap := m.cap - free, defectRetired := m.defectRetired + sp + free, failed := m.failed ++ [id_]
             due := m.due ++ inUse.map fun e => (e.1, 3) }

/-- A media command did not complete within 1 ms; three in a row declare the device failed (R389). -/
def mediaTimeout (c k : Nat) : Script := withDev fun d =>
  let id_ := c * 2 + k
  let n := d.med.late.get 0 id_ + 1
  match d.med.devices.find? fun x => x.ch == c && x.cs == k && !d.med.failed.contains id_ with
  | none => skip
  | some x => seqs [
      inc WS Reg.WS.CH_TIMEOUT_CNT c,
      modMed fun m => { m with late := m.late.put 0 id_ n },
      when (decide (n ≥ 3)) (seqs [deviceLost x, fireEvent WS 3 devScope [c, k]])]

/-- MEDIA_COMMAND_TIMEOUT. -/
def execMediaCommandTimeout (c k : Nat) (s : State) : Host.Outcome State Fault Refusal := performSettled (mediaTimeout c k) s

/-- A command to the device of a zone completed. -/
def deviceAnswers (z : Nat) : Script := modMed fun m => { m with late := m.late.put 0 (zoneDev z) 0 }

/-! ### Discovery (R378, R379) -/

/-- The usable devices on the channels that the bonding reaches (R376, R377, R404, R484). -/
def Dev.reachable (d : Dev) (fs : List FoundDevice) : List FoundDevice :=
  fs.filter fun x => x.usable && decide (x.cs < 2) &&
    decide (x.ch < (if d.variant.bondS ∨ ¬d.variant.consistent then 4 else 8))

/-- MEDIUM_STATE that the rows of R379 give: 4 FOREIGN, 5 NO_P0, 2 FORMATTING, 1 READY. -/
def classify (devId : List Byte) (fs : List FoundDevice) : Nat :=
  let labels := fs.filterMap (·.label)
  if labels.any (·.devId != devId) ∨ (labels.map (·.setId)).eraseDups.length > 1 ∨
      (labels ≠ [] ∧ labels.length < fs.length) then 4
  else if !(fs.any (·.ch == 0) && fs.any (·.ch == 1)) then 5
  else if labels.isEmpty then 2 else 1

/-- The medium right after a format (R379, R388, R390). -/
def formatted (setId : List Byte) (fs : List FoundDevice) : Medium :=
  let chans := (List.range 8).map fun c =>
    let mine := fs.filter (·.ch == c)
    let n := (mine.map fun x => zonesOf x.gib).foldl (· + ·) 0
    let b := (mine.map fun x => x.bad.length).foldl (· + ·) 0
    let sp := ceilDiv (4 * (n - b)) 100
    { zones := n, bad := b, sparesInit := sp, spares := sp : Channel }
  { setId := setId, devices := fs.map fun x => { ch := x.ch, cs := x.cs, gib := x.gib }, channels := chans
    cap := (chans.map Channel.inService).foldl (· + ·) 0
    zones := (fs.flatMap FoundDevice.badZones).foldl (fun b z => b.put {} z { state := 4 }) [] }

/-- The labels of a fresh set, in frames 0 and 1 of each device's label region (R380). -/
def writeLabels (setId : List Byte) (fs : List FoundDevice) : Script := withDev fun d =>
  forEach fs fun x =>
    let bs := frameBytes (labelBytes x.ch x.cs d.cy.devId setId (fs.map fun y => y.ch * 256 + y.cs) x.gib (zonesOf x.gib) d.dt
      (d.clock.wall.sec, d.clock.wall.ns) d.clock.epoch) 0xFFFFFFFF 0 0
    seqs [emit (.mediaWrite (x.ch * 2 + x.cs) 0 bs), emit (.mediaWrite (x.ch * 2 + x.cs) 4368 bs)]

/-- A zone that the defect list names becomes BAD; one that holds data is a grown defect first (R388). -/
def badZone (z : Nat) : Script := withDev fun d =>
  let st := (d.med.zone z).state
  if st = 0 then modMed fun m =>
    { (m.setZone z fun x => { x with state := 4 }).setChan (zoneCh z) (fun c => { c with bad := c.bad + 1 }) with
      cap := m.cap - 1, changes := m.changes ++ [{ kind := 5, state := 4, pzone := z }] }
  else when ((st == 1 || st == 5) && !d.med.due.any (·.1 == z)) (modMed fun m => { m with due := m.due ++ [(z, 2)] })

/-- What every end of discovery with a usable set brings: the medium is discovered, and the directory and the profiles are
read (R309, R341, R378). -/
def mediumReady : Script := withDev fun _ => seqs [
  put WS Reg.WS.MEDIUM_STATE 1, putB WS Reg.WS.READY true, putB WS Reg.WS.WRITES_HELD false,
  modMed fun m => { m with rebuilding := false },
  copyCertificate, showMedium, showCaddy, readDirectory]

/-- A rebuild of the zone map under R37 ends, or discovery ends with what it found; `setId` is a fresh SET_ID from the random
generator. Discovery runs once per reset. -/
def discoveryDone (found : List FoundDevice) (setId : List Byte) : Script := withDev fun d =>
  let fs := d.reachable found
  let st := classify d.cy.devId fs
  if d.med.rebuilding then seqs [
    modMed fun m => { m with rebuilding := false }, put WS Reg.WS.MEDIUM_STATE 1, putB WS Reg.WS.WRITES_HELD false]
  else when (d.is CK Reg.CK.ROOT_LOCK && d.rd WS Reg.WS.MEDIUM_STATE == 0) <| seqs [
    modMed fun m => { m with unsup := (found.filter fun x => !x.usable).map fun x => x.ch * 2 + x.cs },
    if st ≥ 4 then seqs [put WS Reg.WS.MEDIUM_STATE st, condStart WS 0 0 devScope []]
    else if st = 2 then seqs [
      modMed fun m => { formatted setId fs with unsup := m.unsup }, modP0 fun _ => {}, modStore fun _ => {},
      writeLabels setId fs, writeJournal true true 0 [],
      putB WS Reg.WS.FORMATTED true,
      noteRec WS 0x40 (setId.take 16),
      mediumReady]
    else seqs [
      modMed fun m => { m with setId := ((fs.filterMap (·.label)).head?.map (·.setId)).getD m.setId },
      forEach (d.med.devices.filter fun x => !(fs.any fun y => y.ch == x.ch && y.cs == x.cs) &&
        !d.med.failed.contains (x.ch * 2 + x.cs)) deviceLost,
      forEach (fs.flatMap FoundDevice.badZones) badZone,
      mediumReady]]

/-- DISCOVERY_DONE. -/
def execDiscoveryDone (found : List FoundDevice) (setId : List Byte) (s : State) : Host.Outcome State Fault Refusal :=
  performSettled (discoveryDone found setId) s

/-! ### Pages (R383, R391) -/

/-- A page waits for its refresh. -/
def wantRefresh (lz p : Nat) : Script := modMed fun m =>
  if m.refresh.contains (lz, p) then m else { m with refresh := m.refresh ++ [(lz, p)] }

/-- The outcome of a read whose frame differs by `e` from what was written: corrected symbols are counted, and with REFRESH_SYM of them
the page is to be refreshed; a Lost page is counted, raises its source, and is to be written back as Lost. -/
def readOutcome (lz p : Nat) (e : Errs) : Script := withDev fun d =>
  match readSyms e with
  | none => seqs [inc WS Reg.WS.UNCORR_CNT, fireEvent WS 1 noScope [], losePage lz p, wantRefresh lz p]
  | some n => seqs [
      when (decide (n > 0)) (incBy WS Reg.WS.CORR_SYM n),
      when (decide (n ≥ d.rd WS Reg.WS.REFRESH_SYM)) (wantRefresh lz p)]

/-- A page read of logical zone `lz`, page `p` (R383). -/
def pageRead (lz p : Nat) (e : Errs) : Script := withDev fun d =>
  when d.mediaUp (seqs [
    match d.med.holder lz with
    | some z => deviceAnswers z
    | none => skip,
    readOutcome lz p e])

/-- PAGE_READ. -/
def execPageRead (lz p : Nat) (e : Errs) (s : State) : Host.Outcome State Fault Refusal := performSettled (pageRead lz p e) s

/-- Zones open at once (R398). -/
def Medium.openZones (m : Medium) : Nat := (m.zones.filter fun e => e.2.isOpen).length

/-- A page write to physical zone `z` with its verify: `good1` and `good2` say whether the first and the second read-back are
clean. A zone that is not open is opened by an OPEN entry (R398). -/
def zoneWrite (z : Nat) (good1 good2 : Bool) : Script := withDev fun d =>
  let x := d.med.zone z
  let y := (x.pageWrite (d.rd WS Reg.WS.GAP_N) d.dt)
  let y := if good1 then y else y.wrote 1
  let bad := !good1 && !good2
  seqs [
    deviceAnswers z,
    setMed fun m => { m.setZone z (fun _ => y) with
      changes := if x.isOpen then m.changes else m.changes ++ [m.entry 2 z]
      due := m.due ++ (if bad then [(z, 2)] else match wearDue d z x.wear y.wear with
        | some c => if m.due.any (·.1 == z) then [] else [(z, c)]
        | none => []) },
    when bad (seqs [inc WS Reg.WS.VERIFY_FAIL, fireEvent WS 2 noScope [zoneCh z]])]

/-- The frame of a page write: data and tag with the zone's next write sequence, at the page's place in the zone (R381, R384, R385). -/
def writeFrame (z lz p : Nat) (data : List Byte) : Script := withDev fun d =>
  let x := d.med.zone z
  emit (.mediaWrite (zoneDev z) (frameAddr z (x.frameOf p)) (frameBytes data lz p (x.wseq + 1)))

/-- A page write to logical zone `lz`, page `p`, and its read-back end (R383, R398): `e1` and `e2` are what the first and the second
read-back find, and `refresh` says that the write is the page's refresh; any other write supersedes one that waits (R391, R402). A
logical zone without a physical one opens zone `dest`, a free zone; a write to a zone that is to be migrated waits, and so does one
that would open a 257th zone. -/
def pageWriteVerify (lz p : Nat) (refresh : Bool) (data : List Byte) (e1 e2 : Errs) (dest : Nat) : Script := withDev fun d =>
  let m := d.med
  let z := (m.holder lz).getD dest
  when (d.mediaUp && ((m.holder lz).isSome || m.takes dest) && !m.due.any (·.1 == z) && (!refresh || m.refresh.contains (lz, p))) <|
    if !(m.zone z).isOpen && decide (m.openZones ≥ 256) then putB WS Reg.WS.WRITES_HELD true
    else seqs [
      when (m.holder lz).isNone (modMed fun m => m.setZone z fun x => { x with state := 1, lzone := lz, start := 0, gap := 256 }),
      when refresh (inc WS Reg.WS.REFRESH_CNT),
      modMed fun m => { m with refresh := m.refresh.filter (· != (lz, p)) },
      writeFrame z lz p data,
      zoneWrite z (readSyms e1 == some 0) (readSyms e2 == some 0)]

/-- PAGE_WRITE_VERIFY. -/
def execPageWriteVerify (lz p : Nat) (refresh : Bool) (data : List Byte) (e1 e2 : Errs) (dest : Nat) (s : State) :
    Host.Outcome State Fault Refusal := performSettled (pageWriteVerify lz p refresh data e1 e2 dest) s

/-! ### Migrations (R386, R387, R389, R390, R396, R399) -/

/-- The data of zone `a` stands in zone `b`; `a` takes a new state. -/
def Medium.moveZone (m : Medium) (a b st : Nat) : Medium :=
  let x := m.zone a
  (m.setZone b fun y => { y with state := 1, lzone := x.lzone, wseq := x.wseq, start := 0, gap := 256 }).setZone a
    fun y => { y with state := st, lzone := 0, isOpen := false }

/-- A migration commits with one journal page: MAP, what becomes of the source, and the destination's SNAP (R399). -/
def moved (a b : Nat) (es : List JEntry) : Script := withDev fun d =>
  writeJournal true true d.med.snapNext ([d.med.entry 3 b] ++ es ++ [d.med.entry 1 b, d.med.entry 1 a])

/-- The coldest zone of a channel besides `z` when it holds data: the one whose data the exchange of R386 moves first. -/
def Medium.coldest (m : Medium) (z : Nat) : Option Nat :=
  ((m.listed (zoneCh z) fun x => x.state == 1).find? fun e => e.1 != z && e.2.wear == m.minWear (zoneCh z)).map (·.1)

/-- The exchange of R386: the coldest zone's data go to `dest`, a free or spare zone of the channel, and the hot zone's to where they
stood; a coldest zone that is free is `dest` itself. The hot zone is free. -/
def exchange (hot dest : Nat) : Script := withDev fun d => seqs [
  match d.med.coldest hot with
  | some cold => seqs [
      setMed fun m => m.moveZone cold dest 0, moved cold dest [],
      setMed fun m => m.moveZone hot cold 0, moved hot cold []]
  | none => seqs [setMed fun m => m.moveZone hot dest 0, moved hot dest []],
  inc WS Reg.WS.LEVEL_CNT]

/-- A zone retires into a replacement with a cause: 1 WEAR, 2 DEFECT, 3 DEVICE. Pages of `lost` could not be read, and of a failed
device none can; they are Lost (R389). -/
def retireZone (src dest cause : Nat) (lost : List Nat) : Script := withDev fun d =>
  let lz := (d.med.zone src).lzone
  seqs [
    takeReplacement src dest,
    setMed fun m =>
      let m := (m.moveZone src dest 3).setChan (zoneCh src) fun c => { c with retired := c.retired + 1 }
      if cause = 1 then { m with wearRetired := m.wearRetired + 1 } else { m with defectRetired := m.defectRetired + 1 },
    moved src dest [{ kind := 4, state := 3, cause := cause, pzone := src }],
    forEach (if cause = 3 then List.range 256 else lost) (losePage lz)]

/-- A migration that waited ends: an exchange of R386, or a retirement into a replacement of R390; where no source can give one, the
zone stays in use (R390, R396). `dest` is the free or spare zone that took the data. -/
def migrationDone (src dest : Nat) (lost : List Nat) : Script := withDev fun d =>
  match d.med.due.find? fun x => x.1 == src with
  | none => skip
  | some (_, cause) =>
    let ends := modMed fun m => { m with due := m.due.filter fun x => x.1 != src }
    when d.mediaUp <|
      if cause = 0 then when (d.med.takes dest && zoneCh dest == zoneCh src) (seqs [ends, exchange src dest])
      else match d.source src dest with
        | some _ => when (d.med.takes dest) (seqs [ends, retireZone src dest cause lost])
        | none => when (decide ((d.med.chan (zoneCh src)).spares = 0)) (seqs [
            ends, takeReplacement src dest, setMed fun m => m.setZone src fun x => { x with state := 5 }])

/-- MIGRATION_DONE. -/
def execMigrationDone (src dest : Nat) (lost : List Nat) (s : State) : Host.Outcome State Fault Refusal :=
  performSettled (migrationDone src dest lost) s

/-! ### Patrol and journal (R391, R398) -/

/-- The patrol reads the next in-use frame: a page of zone `z`. -/
def patrolRead (z p : Nat) (e : Errs) : Script := withDev fun d =>
  let m := d.med
  let total := 257 * (m.zones.filter fun e => e.2.state == 1 || e.2.state == 5).length
  let n := m.patrol + 1
  when (d.mediaUp && ((m.zone z).state == 1 || (m.zone z).state == 5)) <| seqs [
    deviceAnswers z,
    readOutcome (m.zone z).lzone p e,
    put WS Reg.WS.CH_PATROL_ZONE (zoneIdx z) (zoneCh z),
    put WS Reg.WS.CH_PASS_PCT (if n ≥ total then 0 else 10000 * n / total) (zoneCh z),
    if n ≥ total then seqs [
      incWrap WS Reg.WS.PASS_CNT, put WS Reg.WS.PASS_MIN (min 65535 ((d.dt - m.patrolAt) / dtOfS 60)),
      modMed fun m => { m with patrol := 0, patrolAt := d.dt }]
    else modMed fun m => { m with patrol := n }]

/-- PATROL_READ. -/
def execPatrolRead (z p : Nat) (e : Errs) (s : State) : Host.Outcome State Fault Refusal := performSettled (patrolRead z p e) s

/-- The snapshot has kept a zone: its WEAR, and it is closed 1 s after its last write (R398). -/
def Zone.snapped (x : Zone) (now : Nat) : Zone :=
  { x with saved := x.wear, isOpen := x.isOpen && decide (now < x.lastWrite + dtOfS 1) }

/-- A journal page is written: the change entries that wait, at most 62, and the next zones of the snapshot; `okA` and `okB` say
whether each copy can be written. -/
def journalPage (okA okB : Bool) : Script := withDev fun d =>
  let m := d.med
  let cs := m.changes.take 62
  let zs := m.snapZones (126 - cs.length)
  let next := (zs.getLast?.map (· + 1)).getD 0
  when (d.mediaUp && (okA || okB)) <| seqs [
    writeJournal okA okB next (cs ++ zs.map (m.entry 1)),
    setMed fun m => { m with
      changes := m.changes.drop 62, snapNext := next
      zones := m.zones.map fun e => if zs.contains e.1 then (e.1, e.2.snapped d.dt) else e },
    when (!(okA && okB)) (seqs [putB WS Reg.WS.JOURNAL_ONE true, condStart WS 8 0 devScope []]),
    withDev fun d => when (decide (d.med.openZones < 256)) (putB WS Reg.WS.WRITES_HELD false)]

/-- JOURNAL_PAGE_WRITE. -/
def execJournalPageWrite (okA okB : Bool) (s : State) : Host.Outcome State Fault Refusal := performSettled (journalPage okA okB) s

/-- The data strobe delay of a channel that is bonded and carries a device is trained again (R404, R513). -/
def strobeRetrain (c delay : Nat) : Script := withDev fun d =>
  when (d.mediaUp && d.med.devices.any (·.ch == c)) (modMed fun m => { m with strobe := m.strobe.put 0 c delay })

/-- XSPI_DS_RETRAIN. -/
def execXspiDsRetrain (c delay : Nat) (s : State) : Host.Outcome State Fault Refusal := performSettled (strobeRetrain c delay) s

/-! ### P4 transfers (R361, R395) -/

/-- The pages of P4 that a transfer names. -/
def Cmd.pages (c : Cmd) : List Nat := (List.range (c.len / 4096)).map fun i => c.par 24 8 / 4096 + i

/-- The transfer lies within P4. -/
def Dev.inP4 (d : Dev) (c : Cmd) : Bool := decide (c.par 24 8 + c.len ≤ d.med.p4 * 2 ^ 20)

/-- What a read of page `p` of P4 gives, with the differences that it finds; nothing for a page that is Lost or was never written. -/
def Medium.userPage (m : Medium) (p : Nat) (e : Errs) : Option (List Byte) :=
  if m.user.get [] p == [] then none else (readData (m.user.get [] p) e)

/-- The differences that the read of a page finds. -/
def errsOf (es : List (Nat × Errs)) (p : Nat) : Errs := ((es.find? (·.1 == p)).map (·.2)).getD []

/-- MEDIA-READ passed the checks of R360: the pages go to host memory, or the command ends with MEDIA when one of them reads Lost; `es`
lists the pages whose frames differ from what was written. -/
def mediaRead (tag : Nat) (es : List (Nat × Errs)) : Script := withDev fun d =>
  match d.passed tag 0x20 with
  | none => skip
  | some c =>
    if !d.inP4 c then complete tag stRefused 0 0
    else when d.mediaUp <|
      let data := c.pages.map fun p => (p, d.med.userPage p (errsOf es p))
      let bad := (data.filter (·.2.isNone)).map (·.1)
      seqs [
        forEach c.pages fun p =>
          if bad.contains p then seqs [inc WS Reg.WS.UNCORR_CNT, fireEvent WS 1 noScope [], losePage (4 * 2 ^ 20 + p / 256) (p % 256)]
          else readOutcome (4 * 2 ^ 20 + p / 256) (p % 256) (errsOf es p),
        if bad.isEmpty then complete tag stSuccess 0 c.len (data.flatMap fun x => x.2.getD []) else complete tag stMedia 0 0]

/-- MEDIA_READ. -/
def execMediaRead (tag : Nat) (es : List (Nat × Errs)) (s : State) : Host.Outcome State Fault Refusal :=
  performSettled (mediaRead tag es) s

/-- MEDIA-WRITE passed the checks of R360: the host's bytes go to P4 pages, write-verified; `bad` lists the pages whose write
could not be verified in any zone, which read Lost (R390). -/
def mediaWrite (tag : Nat) (bytes : List Byte) (bad : List Nat) : Script := withDev fun d =>
  match d.passed tag 0x21 with
  | none => skip
  | some c =>
    if !d.inP4 c then complete tag stRefused 0 0
    else when d.mediaUp <| seqs [
      forEach c.pages.zipIdx fun x => modMed fun m => { m with
        user := m.user.put [] x.1 (if bad.contains x.1 then [] else field bytes (4096 * x.2) 4096) },
      if c.pages.any bad.contains then complete tag stMedia 0 0 else complete tag stSuccess 0 c.len]

/-- MEDIA_WRITE. -/
def execMediaWrite (tag : Nat) (bytes : List Byte) (bad : List Nat) (s : State) : Host.Outcome State Fault Refusal :=
  performSettled (mediaWrite tag bytes bad) s

end Sys2Proof.Machine
end

