-- ==== Sys2Proof/Machine/Dispatch.lean ====
section
/-! DEFINITION. One arm per command: each is one call of the command's meaning. -/

namespace Sys2Proof.Machine

/-- A command's effect on everything but the queue. -/
def exec (i : Instr) (s : State) : Host.Outcome State Fault Refusal :=
  match i with
  | .porstNAssert ns => Sys2Proof.Machine.execPorstNAssert ns s
  | .porstNDeassert autoboot => Sys2Proof.Machine.execPorstNDeassert autoboot s
  | .resetNAssert ns => Sys2Proof.Machine.execResetNAssert ns s
  | .resetNDeassert autoboot => Sys2Proof.Machine.execResetNDeassert autoboot s
  | .supplyLossDetect coreMv ioMv => Sys2Proof.Machine.execSupplyLossDetect coreMv ioMv s
  | .identityDerivationDone seed => Sys2Proof.Machine.execIdentityDerivationDone seed s
  | .rootLock khz => Sys2Proof.Machine.execRootLock khz s
  | .rootFailure t lostLock count khz => Sys2Proof.Machine.execRootFailure t lostLock count khz s
  | .rootRelock cycles khz => Sys2Proof.Machine.execRootRelock cycles khz s
  | .clockMonitorWindow t counts => Sys2Proof.Machine.execClockMonitorWindow t counts s
  | .rcFreqMeasure t freq => Sys2Proof.Machine.execRcFreqMeasure t freq s
  | .sysrefEdge t high => Sys2Proof.Machine.execSysrefEdge t high s
  | .alignArm => Sys2Proof.Machine.execAlignArm s
  | .dtLoRead => Sys2Proof.Machine.execDtLoRead s
  | .edgeDtLoRead => Sys2Proof.Machine.execEdgeDtLoRead s
  | .modeDtLoRead => Sys2Proof.Machine.execModeDtLoRead s
  | .syncDtLoRead c => Sys2Proof.Machine.execSyncDtLoRead c s
  | .blkRxLoRead c => Sys2Proof.Machine.execBlkRxLoRead c s
  | .pRawRead c => Sys2Proof.Machine.execPRawRead c s
  | .wordsLoRead u lane => Sys2Proof.Machine.execWordsLoRead u lane s
  | .markLoRead sec k => Sys2Proof.Machine.execMarkLoRead sec k s
  | .dirSeqLoRead => Sys2Proof.Machine.execDirSeqLoRead s
  | .verLoRead role => Sys2Proof.Machine.execVerLoRead role s
  | .setSeqLoRead => Sys2Proof.Machine.execSetSeqLoRead s
  | .nonceDtLoRead => Sys2Proof.Machine.execNonceDtLoRead s
  | .errAddrLoRead => Sys2Proof.Machine.execErrAddrLoRead s
  | .jseqLoRead => Sys2Proof.Machine.execJseqLoRead s
  | .nextSeqLoRead => Sys2Proof.Machine.execNextSeqLoRead s
  | .hwSeqLoRead => Sys2Proof.Machine.execHwSeqLoRead s
  | .headSeqLoRead operational => Sys2Proof.Machine.execHeadSeqLoRead operational s
  | .hkResultRead e => Sys2Proof.Machine.execHkResultRead e s
  | .registerWrite u off v be => Sys2Proof.Machine.execRegisterWrite u off v be s
  | .unmappedWrite bar a => Sys2Proof.Machine.execUnmappedWrite bar a s
  | .writeRejectClear u v be => Sys2Proof.Machine.execWriteRejectClear u v be s
  | .errPendClear u hi bits be => Sys2Proof.Machine.execErrPendClear u hi bits be s
  | .errAck u v be => Sys2Proof.Machine.execErrAck u v be s
  | .cntClear u v be => Sys2Proof.Machine.execCntClear u v be s
  | .graceExpiry u => Sys2Proof.Machine.execGraceExpiry u s
  | .faultPhaseEnd => Sys2Proof.Machine.execFaultPhaseEnd s
  | .faultPinSwWrite v be => Sys2Proof.Machine.execFaultPinSwWrite v be s
  | .modeRequest tag data => Sys2Proof.Machine.execModeRequest tag data s
  | .autobootKindling => Sys2Proof.Machine.execAutobootKindling s
  | .kindlingEntry => Sys2Proof.Machine.execKindlingEntry s
  | .kindleSlotLoaded ok => Sys2Proof.Machine.execKindleSlotLoaded ok s
  | .peSelftestDone failed other okA okB => Sys2Proof.Machine.execPeSelftestDone failed other okA okB s
  | .kindlingComplete => Sys2Proof.Machine.execKindlingComplete s
  | .kindleTimeout => Sys2Proof.Machine.execKindleTimeout s
  | .emberHoldoffExpiry => Sys2Proof.Machine.execEmberHoldoffExpiry s
  | .emberRetry => Sys2Proof.Machine.execEmberRetry s
  | .backoffDwellExpiry => Sys2Proof.Machine.execBackoffDwellExpiry s
  | .survey tag => Sys2Proof.Machine.execSurvey tag s
  | .surveyTimerExpiry => Sys2Proof.Machine.execSurveyTimerExpiry s
  | .serviceTokenExpiry => Sys2Proof.Machine.execServiceTokenExpiry s
  | .stage tag data ok => Sys2Proof.Machine.execStage tag data ok s
  | .stageValidationDone => Sys2Proof.Machine.execStageValidationDone s
  | .commit tag => Sys2Proof.Machine.execCommit tag s
  | .confirm tag => Sys2Proof.Machine.execConfirm tag s
  | .revert tag => Sys2Proof.Machine.execRevert tag s
  | .directoryWriteDone ok okA okB => Sys2Proof.Machine.execDirectoryWriteDone ok okA okB s
  | .probationExpiry => Sys2Proof.Machine.execProbationExpiry s
  | .revertWriteRetry => Sys2Proof.Machine.execRevertWriteRetry s
  | .scrubPass us words digestBad => Sys2Proof.Machine.execScrubPass us words digestBad s
  | .shadowReloadDone ok => Sys2Proof.Machine.execShadowReloadDone ok s
  | .tmrDisagreement => Sys2Proof.Machine.execTmrDisagreement s
  | .sramEccError w double gaps => Sys2Proof.Machine.execSramEccError w double gaps s
  | .nonceNew => Sys2Proof.Machine.execNonceNew s
  | .ownerEnrol tag data => Sys2Proof.Machine.execOwnerEnrol tag data s
  | .ownerRevoke tag data => Sys2Proof.Machine.execOwnerRevoke tag data s
  | .otpBurnDone got okA okB => Sys2Proof.Machine.execOtpBurnDone got okA okB s
  | .profileInstall tag data ok => Sys2Proof.Machine.execProfileInstall tag data ok s
  | .attest tag => Sys2Proof.Machine.execAttest tag s
  | .signatureDone ok => Sys2Proof.Machine.execSignatureDone ok s
  | .setWallclock tag => Sys2Proof.Machine.execSetWallclock tag s
  | .wallclockApply => Sys2Proof.Machine.execWallclockApply s
  | .sqDoorbell q v => Sys2Proof.Machine.execSqDoorbell q v s
  | .cqDoorbell q v => Sys2Proof.Machine.execCqDoorbell q v s
  | .queueEnable q => Sys2Proof.Machine.execQueueEnable q s
  | .queueDisable q => Sys2Proof.Machine.execQueueDisable q s
  | .commandFetch e => Sys2Proof.Machine.execCommandFetch e s
  | .completionWrite => Sys2Proof.Machine.execCompletionWrite s
  | .coalesceTimerExpiry q => Sys2Proof.Machine.execCoalesceTimerExpiry q s
  | .dmaAccessFail what n kind a => Sys2Proof.Machine.execDmaAccessFail what n kind a s
  | .ucieLinkDown kind replays => Sys2Proof.Machine.execUcieLinkDown kind replays s
  | .ucieLinkUp width speed repaired => Sys2Proof.Machine.execUcieLinkUp width speed repaired s
  | .flr => Sys2Proof.Machine.execFlr s
  | .tapOpen tag => Sys2Proof.Machine.execTapOpen tag s
  | .tapClose tag => Sys2Proof.Machine.execTapClose tag s
  | .tapSegment t feed => Sys2Proof.Machine.execTapSegment t feed s
  | .tapConsumerDoorbell t v => Sys2Proof.Machine.execTapConsumerDoorbell t v s
  | .syncDecimators tag => Sys2Proof.Machine.execSyncDecimators tag s
  | .syncDecimatorsTimeout tag => Sys2Proof.Machine.execSyncDecimatorsTimeout tag s
  | .syncInEdge t => Sys2Proof.Machine.execSyncInEdge t s
  | .settlingEnd c => Sys2Proof.Machine.execSettlingEnd c s
  | .resync u v be => Sys2Proof.Machine.execResync u v be s
  | .cgsAchieved u t => Sys2Proof.Machine.execCgsAchieved u t s
  | .ilasReceived u t c0 c1 a0 a1 => Sys2Proof.Machine.execIlasReceived u t c0 c1 a0 a1 s
  | .ilasRetryTimer u => Sys2Proof.Machine.execIlasRetryTimer u s
  | .laneCharError u t lane kind pos => Sys2Proof.Machine.execLaneCharError u t lane kind pos s
  | .linkHoldExpiry u => Sys2Proof.Machine.execLinkHoldExpiry u s
  | .txSyncRequest u t run => Sys2Proof.Machine.execTxSyncRequest u t run s
  | .syncErrReport u t run => Sys2Proof.Machine.execSyncErrReport u t run s
  | .patCfgWrite u lane v be => Sys2Proof.Machine.execPatCfgWrite u lane v be s
  | .respSelWrite c v be => Sys2Proof.Machine.execRespSelWrite c v be s
  | .respSwitch c => Sys2Proof.Machine.execRespSwitch c s
  | .blockEnd c feed => Sys2Proof.Machine.execBlockEnd c feed s
  | .measCfgWrite c v be => Sys2Proof.Machine.execMeasCfgWrite c v be s
  | .gainSetWrite c v be => Sys2Proof.Machine.execGainSetWrite c v be s
  | .gainSlewStep c => Sys2Proof.Machine.execGainSlewStep c s
  | .squelchOpen c t feed => Sys2Proof.Machine.execSquelchOpen c t feed s
  | .squelchReleaseExpiry c t feed => Sys2Proof.Machine.execSquelchReleaseExpiry c t feed s
  | .powerMonitorWindow u t a b => Sys2Proof.Machine.execPowerMonitorWindow u t a b s
  | .parIntervalEnd u t feed => Sys2Proof.Machine.execParIntervalEnd u t feed s
  | .saturationWindow u t feed => Sys2Proof.Machine.execSaturationWindow u t feed s
  | .xbusParityFail sec src => Sys2Proof.Machine.execXbusParityFail sec src s
  | .damperHop sec p h feed residue => Sys2Proof.Machine.execDamperHop sec p h feed residue s
  | .damperMeasurementUpdate t => Sys2Proof.Machine.execDamperMeasurementUpdate t s
  | .refineHoldExpiry sec p => Sys2Proof.Machine.execRefineHoldExpiry sec p s
  | .zeroAll sec v be => Sys2Proof.Machine.execZeroAll sec v be s
  | .pathSelWrite sec v be => Sys2Proof.Machine.execPathSelWrite sec v be s
  | .lockstepMismatch sec => Sys2Proof.Machine.execLockstepMismatch sec s
  | .growthWindowEnd c t n sum re im => Sys2Proof.Machine.execGrowthWindowEnd c t n sum re im s
  | .tripHoldExpiry c k => Sys2Proof.Machine.execTripHoldExpiry c k s
  | .marginHoldExpiry c => Sys2Proof.Machine.execMarginHoldExpiry c s
  | .spkHoldExpiry c => Sys2Proof.Machine.execSpkHoldExpiry c s
  | .ceilingAvgUpdate t => Sys2Proof.Machine.execCeilingAvgUpdate t s
  | .ceilingFastUpdate t sums => Sys2Proof.Machine.execCeilingFastUpdate t sums s
  | .donorHoldExpiry sec k => Sys2Proof.Machine.execDonorHoldExpiry sec k s
  | .syncHoldExpiry sec car => Sys2Proof.Machine.execSyncHoldExpiry sec car s
  | .dutyUpdate t => Sys2Proof.Machine.execDutyUpdate t s
  | .allowRecheck t => Sys2Proof.Machine.execAllowRecheck t s
  | .pssDetection sec k t feed residue => Sys2Proof.Machine.execPssDetection sec k t feed residue s
  | .syncSearchEnd sec k t => Sys2Proof.Machine.execSyncSearchEnd sec k t s
  | .frameMark sec k => Sys2Proof.Machine.execFrameMark sec k s
  | .markJumpAdopt sec k => Sys2Proof.Machine.execMarkJumpAdopt sec k s
  | .groupPowerUp sec k => Sys2Proof.Machine.execGroupPowerUp sec k s
  | .fddSendStart sec k => Sys2Proof.Machine.execFddSendStart sec k s
  | .tddBiasLead sec k e n => Sys2Proof.Machine.execTddBiasLead sec k e n s
  | .sendStart sec k => Sys2Proof.Machine.execSendStart sec k s
  | .sendEnd sec k => Sys2Proof.Machine.execSendEnd sec k s
  | .switchEnd sec k => Sys2Proof.Machine.execSwitchEnd sec k s
  | .listenStart sec k e n => Sys2Proof.Machine.execListenStart sec k e n s
  | .listenEnd sec k e n => Sys2Proof.Machine.execListenEnd sec k e n s
  | .offReqWrite sec k v be => Sys2Proof.Machine.execOffReqWrite sec k v be s
  | .powerDownStep sec k => Sys2Proof.Machine.execPowerDownStep sec k s
  | .paAlarm sec p level => Sys2Proof.Machine.execPaAlarm sec p level s
  | .synSequenceStart sec y => Sys2Proof.Machine.execSynSequenceStart sec y s
  | .synRecalWrite sec v be => Sys2Proof.Machine.execSynRecalWrite sec v be s
  | .cspiFrameDone sec m miso => Sys2Proof.Machine.execCspiFrameDone sec m miso s
  | .sequenceWaitExpiry sec y => Sys2Proof.Machine.execSequenceWaitExpiry sec y s
  | .cspiHostGo sec v be => Sys2Proof.Machine.execCspiHostGo sec v be s
  | .settleTimerExpiry sec y => Sys2Proof.Machine.execSettleTimerExpiry sec y s
  | .ldQualified sec y => Sys2Proof.Machine.execLdQualified sec y s
  | .ldLoss sec y => Sys2Proof.Machine.execLdLoss sec y s
  | .heldRequestProceed sec k => Sys2Proof.Machine.execHeldRequestProceed sec k s
  | .fddRequestRepeat sec k => Sys2Proof.Machine.execFddRequestRepeat sec k s
  | .rffeTransferDone sec m parityOk got => Sys2Proof.Machine.execRffeTransferDone sec m parityOk got s
  | .mmHoldExpiry sec k => Sys2Proof.Machine.execMmHoldExpiry sec k s
  | .tunePeriod sec k t => Sys2Proof.Machine.execTunePeriod sec k t s
  | .calRun tag => Sys2Proof.Machine.execCalRun tag s
  | .autoCalStart => Sys2Proof.Machine.execAutoCalStart s
  | .calHalfEnd k feed parity => Sys2Proof.Machine.execCalHalfEnd k feed parity s
  | .calRunEnd k feed parity => Sys2Proof.Machine.execCalRunEnd k feed parity s
  | .steepTick t => Sys2Proof.Machine.execSteepTick t s
  | .refSecond t => Sys2Proof.Machine.execRefSecond t s
  | .refHoldEntry => Sys2Proof.Machine.execRefHoldEntry s
  | .calSetCommit => Sys2Proof.Machine.execCalSetCommit s
  | .calSetCommitDone ok => Sys2Proof.Machine.execCalSetCommitDone ok s
  | .calCommitRetry => Sys2Proof.Machine.execCalCommitRetry s
  | .discoveryDone found setId => Sys2Proof.Machine.execDiscoveryDone found setId s
  | .pageRead lz p e => Sys2Proof.Machine.execPageRead lz p e s
  | .pageWriteVerify lz p refresh data e1 e2 dest => Sys2Proof.Machine.execPageWriteVerify lz p refresh data e1 e2 dest s
  | .migrationDone src dest lost => Sys2Proof.Machine.execMigrationDone src dest lost s
  | .mediaCommandTimeout c k => Sys2Proof.Machine.execMediaCommandTimeout c k s
  | .patrolRead z p e => Sys2Proof.Machine.execPatrolRead z p e s
  | .journalPageWrite okA okB => Sys2Proof.Machine.execJournalPageWrite okA okB s
  | .xspiDsRetrain c delay => Sys2Proof.Machine.execXspiDsRetrain c delay s
  | .mediaRead tag es => Sys2Proof.Machine.execMediaRead tag es s
  | .mediaWrite tag bytes bad => Sys2Proof.Machine.execMediaWrite tag bytes bad s
  | .recordClose => Sys2Proof.Machine.execRecordClose s
  | .lossRecord => Sys2Proof.Machine.execLossRecord s
  | .sealDue audit => Sys2Proof.Machine.execSealDue audit s
  | .tailShadowWrite audit ok => Sys2Proof.Machine.execTailShadowWrite audit ok s
  | .recordPageCommit audit ok parity => Sys2Proof.Machine.execRecordPageCommit audit ok parity s
  | .recordScanDone lostPages => Sys2Proof.Machine.execRecordScanDone lostPages s
  | .readRecords tag => Sys2Proof.Machine.execReadRecords tag s
  | .freeze tag => Sys2Proof.Machine.execFreeze tag s
  | .thaw tag => Sys2Proof.Machine.execThaw tag s
  | .freezeAutoThaw => Sys2Proof.Machine.execFreezeAutoThaw s
  | .clearRecords tag data => Sys2Proof.Machine.execClearRecords tag data s
  | .clearPageWritten audit ok => Sys2Proof.Machine.execClearPageWritten audit ok s
  | .capture tag data => Sys2Proof.Machine.execCapture tag data s
  | .trigEdge p t => Sys2Proof.Machine.execTrigEdge p t s
  | .captureChunk tag j drained feed => Sys2Proof.Machine.execCaptureChunk tag j drained feed s
  | .captureComplete tag => Sys2Proof.Machine.execCaptureComplete tag s
  | .captureTimeout tag => Sys2Proof.Machine.execCaptureTimeout tag s
  | .captureReadGo => Sys2Proof.Machine.execCaptureReadGo s
  | .captureCopyDone lost => Sys2Proof.Machine.execCaptureCopyDone lost s
  | .ringSrcWrite u k v be => Sys2Proof.Machine.execRingSrcWrite u k v be s
  | .systemSweep t => Sys2Proof.Machine.execSystemSweep t s
  | .hkPassTimer t => Sys2Proof.Machine.execHkPassTimer t s
  | .urgReq v be => Sys2Proof.Machine.execUrgReq v be s
  | .urgentSendRequest k => Sys2Proof.Machine.execUrgentSendRequest k s
  | .hkConversionDone raw => Sys2Proof.Machine.execHkConversionDone raw s
  | .diodeMeasurement p t isOpen isShort v1 v2 w1 w2 => Sys2Proof.Machine.execDiodeMeasurement p t isOpen isShort v1 v2 w1 w2 s
  | .throttleDwellExpiry n l => Sys2Proof.Machine.execThrottleDwellExpiry n l s
  | .fallHoldExpiry => Sys2Proof.Machine.execFallHoldExpiry s
  | .riseEval t => Sys2Proof.Machine.execRiseEval t s
  | .shutdownEval t => Sys2Proof.Machine.execShutdownEval t s
  | .jtagExtestLoad => Sys2Proof.Machine.execJtagExtestLoad s
  | .txSyncDeassert u t => Sys2Proof.Machine.execTxSyncDeassert u t s
  | .patternCheckerLock u lane words => Sys2Proof.Machine.execPatternCheckerLock u lane words s
  | .randomGeneratorHealth ok => Sys2Proof.Machine.execRandomGeneratorHealth ok s
  | .msixVectorUnmask v => Sys2Proof.Machine.execMsixVectorUnmask v s
  | .busMasterEnableClear => Sys2Proof.Machine.execBusMasterEnableClear s
  | .jtagBypassLoad => Sys2Proof.Machine.execJtagBypassLoad s
  | .datapathCheckFail u f => Sys2Proof.Machine.execDatapathCheckFail u f s
  | .muteRailDisagreement u k a b => Sys2Proof.Machine.execMuteRailDisagreement u k a b s
  | .pinReadbackMismatch sec p level n => Sys2Proof.Machine.execPinReadbackMismatch sec p level n s

end Sys2Proof.Machine
end

