-- ==== Sys2Proof/Machine/Reads.lean ====
section
/-! DEFINITION. What a BAR0 read returns (R48 to R51, R53, R57, R58): the word of any offset, the reads that latch, and accesses of
several words. The opcode table lists the latching reads as commands; any other read changes nothing. -/

namespace Sys2Proof.Machine

/-- What a read returns of one field: a WO field reads 0 (R51), a field of the path window's snapshot what the last write of PATH_SEL
latched (R202), any other its current value. -/
def Dev.readField (d : Dev) (u : Nat) (x : Fld × Nat × Nat) : Nat :=
  if x.1.acc == .wo then 0
  else
    let v := match snapFields.findIdx? (· == x.1) with
      | some i => (d.pathAt (secOf u * 256 + x.2.1)).latched.getD i x.1.rst
      | none => d.rd u x.1 x.2.1 x.2.2
    v * 2 ^ x.1.lo

/-- The word at offset `off` of the window of `u` (R49, R53, R57, R58): UNIT_ID of any unit of the die, 0 for an address that names
none, for an absent unit and at a reserved offset; DT_LO shows Device Time as it runs (R33). -/
def Dev.readWord (d : Dev) (u off : Nat) : Nat :=
  if off = 0 then (if isUnit u then d.unitId u else 0)
  else if !d.present u then 0
  else if u = TB ∧ off = 0x100 then d.dt % 2 ^ 32
  else ((d.hostFields u off).map (d.readField u)).sum

/-- The _LO fields whose read latches the _HI field beside them (R33, R93, R114, R142, R274, R298, R321, R348, R374, R405,
R434). -/
def latchPairs : List (Fld × Fld) := [
  (Reg.TB.EDGE_DT_LO, Reg.TB.EDGE_DT_HI), (Reg.MC.MODE_DT_LO, Reg.MC.MODE_DT_HI), (Reg.BC.SYNC_DT_LO, Reg.BC.SYNC_DT_HI),
  (Reg.RXL.L_WORDS_LO, Reg.RXL.L_WORDS_HI), (Reg.SD.K_MARK_LO, Reg.SD.K_MARK_HI), (Reg.CC.DIR_SEQ_LO, Reg.CC.DIR_SEQ_HI),
  (Reg.CC.SLOT_VER_LO, Reg.CC.SLOT_VER_HI), (Reg.CE.SET_SEQ_LO, Reg.CE.SET_SEQ_HI), (Reg.CY.NONCE_DT_LO, Reg.CY.NONCE_DT_HI),
  (Reg.HP.ERR_ADDR_LO, Reg.HP.ERR_ADDR_HI), (Reg.WS.JSEQ_LO, Reg.WS.JSEQ_HI), (Reg.EV.NEXT_SEQ_LO, Reg.EV.NEXT_SEQ_HI),
  (Reg.EV.HW_SEQ_LO, Reg.EV.HW_SEQ_HI), (Reg.EV.OP_HEAD_SEQ_LO, Reg.EV.OP_HEAD_SEQ_HI),
  (Reg.EV.AUD_HEAD_SEQ_LO, Reg.EV.AUD_HEAD_SEQ_HI)]

/-- The read of a pair's _LO field, when the offset is that of one of its instances. -/
def latchAt (u off : Nat) (p : Fld × Fld) : Option Script :=
  if p.1.unit = typeOf u then
    ((List.range p.1.count).find? fun i => p.1.off + p.1.stride * i == off).map fun i => latchPair u p.1 p.2 i
  else none

/-- What a read of the word does besides returning it: the snapshot that it latches; none for a read that changes nothing. -/
def latchRead (u off : Nat) : Option Script :=
  if u = TB ∧ off = 0x100 then some readTime
  else if typeOf u = 0x03 ∧ off = Reg.BC.BLK_RX_LO.off then some (readStamps u)
  else if typeOf u = 0x03 ∧ off = Reg.BC.P_RAW.off then some (readPowers u)
  else if u = HA ∧ 0x400 ≤ off ∧ off < 0x800 ∧ off % 16 = 0 then some (readResult ((off - 0x400) / 16))
  else latchPairs.findSome? (latchAt u off)

/-- A read of the word that holds BAR0 offset `a`, whatever its byte enables (R50): the value goes to the host. -/
def busRead (a : Nat) : Script := withDev fun d =>
  let u := unitOfBar0 a
  let off := a % 0x1000 / 4 * 4
  (latchRead u off).getD (emit (.readData u off (d.readWord u off)))

/-! ### BAR2 and BAR4 (R352) -/

/-- The word at a BAR2 offset: a tap's consumer count, the mask bit of an MSI-X entry, the pending bits; a doorbell's and any other
offset reads 0. The messages' addresses and data, which the PCIe standard has the host write, are no state of the model. -/
def Dev.bar2Word (d : Dev) (a : Nat) : Nat :=
  if 0x1000 ≤ a ∧ a < 0x1100 then d.rd HP Reg.HP.TAP_CONS ((a - 0x1000) / 4)
  else if 0x8000 ≤ a ∧ a < 0x8800 ∧ a % 16 = 12 then b2n (d.hp.masked.testBit ((a - 0x8000) / 16))
  else if 0xC000 ≤ a ∧ a < 0xC010 then d.hp.pba / 2 ^ (8 * (a - 0xC000)) % 2 ^ 32
  else 0

/-- The word at a BAR4 offset: the record queue, 64 bytes a slot with an empty one all zero (R407, R411); the pages of a capture that
stand in capture staging (R430); the ring of a section that the fuses leave; 0 elsewhere. -/
def Dev.bar4Word (d : Dev) (a : Nat) : Nat :=
  if a < 0x200000 then
    match d.ev.queue.find? fun q => q.slot == a / 64 with
    | some q => num q.stored.bytes (a % 64) 4
    | none => 0
  else if a < 0x200000 + 2 ^ 20 * d.rd WS Reg.WS.CAP_MIB then num d.ev.staging (a - 0x200000) 4
  else
    let s := (a - 0x4000000) / 0x1000000
    if 0x4000000 ≤ a ∧ s < 4 ∧ d.sections.contains s ∧ (a - 0x4000000) % 0x1000000 < 1024 * d.ringKib s
    then Config.ringWord s ((a - 0x4000000) % 0x1000000) % 2 ^ 32 else 0

/-- A read of `n` words from BAR0 offset `a` on: single words in ascending order, each after the one before (R50). -/
def busReads (a n : Nat) : Script := forEach (List.range n) fun i => busRead (a + 4 * i)

end Sys2Proof.Machine
end

