-- ==== Sys2Proof/Safety.lean ====
section
/-! DEFINITION. What a sound state of the block is, in the terms that statements use. -/

namespace Sys2Proof

/-- A sparse table in its canonical form: keys strictly rising, and no entry that holds the table's default value. -/
def Bank.canon {V : Type} (b : Bank V) (dflt : V) : Prop := b.sorted ∧ ∀ e ∈ b, e.2 ≠ dflt

end Sys2Proof

namespace Sys2Proof.Machine

/-- Every sparse table that stands in the block directly is in its canonical form. The default of a register field is the field's own reset
value, so of the register file only the order of its keys is asked. -/
def Dev.canonical (d : Dev) : Prop :=
  d.regs.sorted ∧ d.wide.canon 0 ∧ d.timers.canon 0 ∧ d.otp.canon 0 ∧ d.link.canon {} ∧ d.cell.canon {} ∧ d.comb.canon {} ∧
    d.path.canon {} ∧ d.carrier.canon {} ∧ d.group.canon {} ∧ d.synth.canon {} ∧ d.hkRes.canon {} ∧ d.sensor.canon {} ∧
    d.nbhd.canon {} ∧ d.bus.canon {} ∧ d.ring.canon 0 ∧ d.queue.canon {} ∧ d.tap.canon {} ∧ d.ticks.canon 0

/-- Device Time is within its counter (R27). -/
def Dev.timeOk (d : Dev) : Prop := d.dt ≤ dtMax

/-- A sound state: canonical tables and Device Time within its counter. -/
def State.Inv (s : State) : Prop := s.dev.canonical ∧ s.dev.timeOk

/-! ### What a command answers -/

/-- The command answers a next state whose queue is as before; `P` holds of the block in it. -/
def Yields (i : Instr) (s : State) (P : Dev → Prop) : Prop := ∃ d, exec i s = .next { s with dev := d } ∧ P d

/-- The command answers a next state: `P` holds of the block `d` after the command's own effect; the rules named as `q` and
`settle`, the rules that follow any command at once, make the next state of it. -/
def Does (i : Instr) (s : State) (P : Dev → Prop) (q : Script := skip) : Prop :=
  ∃ d, exec i s = .next { s with dev := settle.run (q.run d) } ∧ P d

/-- No reset pin holds the block. -/
abbrev State.runs (s : State) : Prop := s.dev.held = false

/-- Device Time has reached `t`, where it counts. -/
def Dev.reach (d : Dev) (t : Nat) : Dev := (advanceTo t).run d

/-- Register fields other than those listed are as they were. -/
def SameRegs (d d' : Dev) (rs : List Ref) : Prop := ∀ r : Ref, (∀ x ∈ rs, x.key ≠ r.key) → d'.get r = d.get r

/-- Nothing but the listed register fields has changed. -/
def OnlyRegs (d d' : Dev) (rs : List Ref) : Prop := SameRegs d d' rs ∧ d' = { d with regs := d'.regs }

/-- An accepted host write of the word at offset `off` of unit `u` (R51): its RW fields take the value written, and nothing
outside the word changes. -/
def TakesWrite (d d' : Dev) (u off v : Nat) : Prop :=
  (∀ x ∈ d.hostFields u off, x.1.acc = .rw → d'.rd u x.1 x.2.1 x.2.2 = x.1.of v) ∧
    OnlyRegs d d' ((d.hostFields u off).map fun x => x.1.at u x.2.1 x.2.2)

/-- A counter that saturates has counted one more. -/
def Counts (d d' : Dev) (u : Nat) (f : Fld) (i : Nat := 0) : Prop :=
  d'.rd u f i = min (2 ^ f.width - 1) (d.rd u f i + 1)

/-- A read of the _LO field of a 64-bit pair of unit `u` (R33): the value goes out, its halves stand in the two fields, and nothing
else changes. -/
def Latches (i : Instr) (s : State) (u : Nat) (lo hi : Fld) (k : Nat := 0) : Prop :=
  Yields i s fun d =>
    d.rd u lo k = s.dev.live u lo k % 2 ^ 32 ∧ d.rd u hi k = s.dev.live u lo k / 2 ^ 32 % 2 ^ 32 ∧
    d.out = .readData u (lo.off + lo.stride * k) (s.dev.live u lo k % 2 ^ 32) :: s.dev.out ∧
    SameRegs s.dev d [lo.at u k, hi.at u k] ∧ d = { s.dev with regs := d.regs, out := d.out }

/-- A read that returns 0 and changes nothing, as one of an absent unit does (R49). -/
def ReadsZero (i : Instr) (s : State) : Prop :=
  Yields i s fun d => ∃ u off, d = { s.dev with out := .readData u off 0 :: s.dev.out }

/-- What an accepted host write makes of a field (R51, R53, R57): RW takes the value written, the enables only for sources that the
unit has; W1C loses the bits written as 1, but for DT_COARSE while the root is failed (R30); any other keeps its value. -/
def Dev.written (d : Dev) (u v : Nat) (x : Fld × Nat × Nat) : Nat :=
  let cur := d.rd u x.1 x.2.1 x.2.2
  match x.1.acc with
  | .rw => if x.1 = Reg.HDR.IEN ∨ x.1 = Reg.HDR.IEN_HI then x.1.of v &&& sourceBits u x.1 else x.1.of v
  | .w1c => if x.1 = Reg.TB.DT_COARSE ∧ d.base.rootFailed = true then cur else cur - (cur &&& x.1.of v)
  | _ => cur

/-- A write of a present unit that is rejected with a cause (R54, R60): it counts, cause and offset stand while WRITE_REJECT is set for
the first time, and nothing else changes. -/
def Rejected (d d' : Dev) (u off cause : Nat) : Prop :=
  d'.rd u Reg.HDR.WRITE_REJECT = 1 ∧ d'.rd u Reg.HDR.REJECT_CNT = min 65535 (d.rd u Reg.HDR.REJECT_CNT + 1) ∧
  (d.rd u Reg.HDR.WRITE_REJECT = 0 → d'.rd u Reg.HDR.REJECT_CAUSE = cause ∧ d'.rd u Reg.HDR.REJECT_OFFSET = off) ∧
  (d.rd u Reg.HDR.WRITE_REJECT ≠ 0 → d'.rd u Reg.HDR.REJECT_CAUSE = d.rd u Reg.HDR.REJECT_CAUSE ∧
    d'.rd u Reg.HDR.REJECT_OFFSET = d.rd u Reg.HDR.REJECT_OFFSET) ∧
  OnlyRegs d d' ([Reg.HDR.WRITE_REJECT, Reg.HDR.REJECT_CNT, Reg.HDR.REJECT_CAUSE, Reg.HDR.REJECT_OFFSET].map (·.at u))

/-- A write that finds no present unit is discarded and counted (R49). -/
def Unmapped (d d' : Dev) : Prop :=
  d'.rd HP Reg.HP.UNMAPPED_WR = min (2 ^ Reg.HP.UNMAPPED_WR.width - 1) (d.rd HP Reg.HP.UNMAPPED_WR + 1) ∧
  OnlyRegs d d' [Reg.HP.UNMAPPED_WR.at HP]

/-- A host write of the word at `off` of unit `u`, with byte enables `be` and what its own rule adds to R54: to an absent unit it is
discarded and counted, one that a cause rejects counts as rejected, and an accepted one sets the word's fields; then `q` follows. -/
def WritesWord (i : Instr) (s : State) (u off v be : Nat) (rule : Dev → WriteRule) (q : Script) : Prop :=
  (s.dev.present u = false → Does i s (Unmapped s.dev)) ∧
  (s.dev.present u = true →
    (s.dev.hostFields u off = [] → Does i s fun d => d = s.dev) ∧
    (s.dev.hostFields u off ≠ [] →
      (∀ cause, s.dev.judgeWrite u off v be (rule s.dev) = some cause → Does i s fun d => Rejected s.dev d u off cause) ∧
      (s.dev.judgeWrite u off v be (rule s.dev) = none → Does i s (fun d => TakesWrite s.dev d u off v) q)))

end Sys2Proof.Machine

namespace Sys2Proof

/-- The commands that a block held in reset takes: the reset pins, the supply detector and the identity derivation (R80,
R326, R505). -/
def Instr.actsInReset : Instr → Bool
  | .porstNAssert _ => true
  | .porstNDeassert _ => true
  | .resetNAssert _ => true
  | .resetNDeassert _ => true
  | .supplyLossDetect _ _ => true
  | .identityDerivationDone _ => true
  | _ => false

/-- The commands that reset the block, or may (R80, R505, R506). -/
def Instr.isReset : Instr → Bool
  | .porstNAssert ns => decide (200 ≤ ns)
  | .resetNAssert ns => decide (200 ≤ ns)
  | .supplyLossDetect coreMv ioMv => decide (coreMv < 660 ∨ ioMv < 1550)
  | _ => false

end Sys2Proof
end

