-- ==== Sys2Proof/WellFormed.lean ====
section
/-! DEFINITION. Which commands are well formed: their operands name units, indices and values that the spec gives them. A
command that is not has no effect beyond what its meaning says of it. -/

namespace Sys2Proof

/-- `u` is the address of a unit of type `t` (R10, R46). -/
def isUnitOf (t n : Nat) (u : Nat) : Bool :=
  decide (u / 256 % 32 = t) && decide (u % 256 < n) && decide (u < 65536) &&
    (if t < 0x10 then decide (u / 8192 < 4) else decide (u / 8192 = 7))

/-- A command's operands are well formed. -/
def Instr.wf : Instr → Bool
  | .porstNAssert _ => true
  | .porstNDeassert _ => true
  | .resetNAssert _ => true
  | .resetNDeassert _ => true
  | .supplyLossDetect _ _ => true
  | .identityDerivationDone seed => seed.length == 57 || seed.isEmpty
  | .rootLock _ => true
  | .rootFailure _ _ _ _ => true
  | .rootRelock _ _ => true
  | .clockMonitorWindow _ counts => counts.length == 8
  | .rcFreqMeasure _ _ => true
  | .sysrefEdge _ _ => true
  | .alignArm => true
  | .dtLoRead => true
  | .edgeDtLoRead => true
  | .modeDtLoRead => true
  | .syncDtLoRead c => isUnitOf 0x03 32 c
  | .blkRxLoRead c => isUnitOf 0x03 32 c
  | .pRawRead c => isUnitOf 0x03 32 c
  | .wordsLoRead u lane => isUnitOf 0x01 4 u && decide (lane < 2)
  | .markLoRead sec k => decide (sec < 4 ∧ k < 8)
  | .dirSeqLoRead => true
  | .verLoRead role => decide (role < 3)
  | .setSeqLoRead => true
  | .nonceDtLoRead => true
  | .errAddrLoRead => true
  | .jseqLoRead => true
  | .nextSeqLoRead => true
  | .hwSeqLoRead => true
  | .headSeqLoRead _ => true
  | .hkResultRead e => decide (e < 64)
  | .registerWrite _ off v be => decide (off % 4 = 0 ∧ off < 0x1000 ∧ v < 2 ^ 32 ∧ be < 16)
  | .unmappedWrite bar _ => decide (bar = 0 ∨ bar = 2 ∨ bar = 4)
  | .writeRejectClear _ v be => decide (v < 2 ^ 32 ∧ be < 16)
  | .errPendClear _ _ bits be => decide (bits < 2 ^ 32 ∧ be < 16)
  | .errAck _ v be => decide (v < 2 ^ 32 ∧ be < 16)
  | .cntClear _ v be => decide (v < 2 ^ 32 ∧ be < 16)
  | .graceExpiry _ => true
  | .faultPhaseEnd => true
  | .faultPinSwWrite v be => decide (v < 2 ^ 32 ∧ be < 16)
  | .modeRequest _ _ => true
  | .autobootKindling => true
  | .kindlingEntry => true
  | .kindleSlotLoaded _ => true
  | .peSelftestDone _ _ _ _ => true
  | .kindlingComplete => true
  | .kindleTimeout => true
  | .emberHoldoffExpiry => true
  | .emberRetry => true
  | .backoffDwellExpiry => true
  | .survey _ => true
  | .surveyTimerExpiry => true
  | .serviceTokenExpiry => true
  | .stage _ _ _ => true
  | .stageValidationDone => true
  | .commit _ => true
  | .confirm _ => true
  | .revert _ => true
  | .directoryWriteDone _ _ _ => true
  | .probationExpiry => true
  | .revertWriteRetry => true
  | .scrubPass _ _ _ => true
  | .shadowReloadDone _ => true
  | .tmrDisagreement => true
  | .sramEccError _ _ _ => true
  | .nonceNew => true
  | .ownerEnrol _ _ => true
  | .ownerRevoke _ _ => true
  | .otpBurnDone _ _ _ => true
  | .profileInstall _ _ _ => true
  | .attest _ => true
  | .signatureDone _ => true
  | .setWallclock _ => true
  | .wallclockApply => true
  | .sqDoorbell q _ => decide (q < 16)
  | .cqDoorbell q _ => decide (q < 16)
  | .queueEnable q => decide (q < 16)
  | .queueDisable q => decide (q < 16)
  | .commandFetch e => e.length == 64
  | .completionWrite => true
  | .coalesceTimerExpiry q => decide (q < 16)
  | .dmaAccessFail what _ kind _ => decide (what ≤ 3) && decide (1 ≤ kind ∧ kind ≤ 4)
  | .ucieLinkDown kind _ => decide (kind ≤ 2)
  | .ucieLinkUp _ _ _ => true
  | .flr => true
  | .tapOpen _ => true
  | .tapClose _ => true
  | .tapSegment t _ => decide (t < 64)
  | .tapConsumerDoorbell t _ => decide (t < 64)
  | .syncDecimators _ => true
  | .syncDecimatorsTimeout _ => true
  | .syncInEdge _ => true
  | .settlingEnd c => isUnitOf 0x03 32 c
  | .resync u v be => isUnitOf 0x01 4 u && decide (v < 2 ^ 32 ∧ be < 16)
  | .cgsAchieved u _ => isUnitOf 0x01 4 u
  | .ilasReceived u _ _ _ a0 a1 => isUnitOf 0x01 4 u && decide (a0 < 2 ^ 32 ∧ a1 < 2 ^ 32)
  | .ilasRetryTimer u => isUnitOf 0x01 4 u
  | .laneCharError u _ lane kind _ => isUnitOf 0x01 4 u && decide (lane < 2 ∧ kind < 6)
  | .linkHoldExpiry u => (isUnitOf 0x01 4 u || isUnitOf 0x02 4 u)
  | .txSyncRequest u _ _ => isUnitOf 0x02 4 u
  | .syncErrReport u _ _ => isUnitOf 0x02 4 u
  | .patCfgWrite u lane v be => (isUnitOf 0x01 4 u || isUnitOf 0x02 4 u) && decide (lane < 2 ∧ v < 2 ^ 32 ∧ be < 16)
  | .respSelWrite c v be => isUnitOf 0x03 32 c && decide (v < 2 ^ 32 ∧ be < 16)
  | .respSwitch c => isUnitOf 0x03 32 c
  | .blockEnd c _ => isUnitOf 0x03 32 c
  | .measCfgWrite c v be => isUnitOf 0x03 32 c && decide (v < 2 ^ 32 ∧ be < 16)
  | .gainSetWrite c v be => isUnitOf 0x03 32 c && decide (v < 2 ^ 32 ∧ be < 16)
  | .gainSlewStep c => isUnitOf 0x03 32 c
  | .squelchOpen c _ _ => isUnitOf 0x03 32 c
  | .squelchReleaseExpiry c _ _ => isUnitOf 0x03 32 c
  | .powerMonitorWindow u _ _ _ => isUnitOf 0x03 32 u || isUnitOf 0x05 4 u
  | .parIntervalEnd u _ _ => isUnitOf 0x05 4 u
  | .saturationWindow u _ _ => isUnitOf 0x02 4 u || isUnitOf 0x03 32 u || isUnitOf 0x05 4 u
  | .xbusParityFail sec _ => decide (sec < 4)
  | .damperHop sec p _ _ _ => decide (sec < 4 ∧ p < 256)
  | .damperMeasurementUpdate _ => true
  | .refineHoldExpiry sec p => decide (sec < 4 ∧ p < 256)
  | .zeroAll sec v be => decide (sec < 4) && decide (v < 2 ^ 32 ∧ be < 16)
  | .pathSelWrite sec v be => decide (sec < 4) && decide (v < 2 ^ 32 ∧ be < 16)
  | .lockstepMismatch sec => decide (sec < 4)
  | .growthWindowEnd c _ _ _ _ _ => isUnitOf 0x03 32 c
  | .tripHoldExpiry c k => isUnitOf 0x03 32 c && decide (1 ≤ k ∧ k ≤ 3)
  | .marginHoldExpiry c => isUnitOf 0x03 32 c
  | .spkHoldExpiry c => isUnitOf 0x03 32 c
  | .ceilingAvgUpdate _ => true
  | .ceilingFastUpdate _ _ => true
  | .donorHoldExpiry sec k => decide (sec < 4 ∧ k < 8)
  | .syncHoldExpiry sec car => decide (sec < 4 ∧ car < 32)
  | .dutyUpdate _ => true
  | .allowRecheck _ => true
  | .pssDetection sec k _ _ _ => decide (sec < 4 ∧ k < 8)
  | .syncSearchEnd sec k _ => decide (sec < 4 ∧ k < 8)
  | .frameMark sec k => decide (sec < 4 ∧ k < 8)
  | .markJumpAdopt sec k => decide (sec < 4 ∧ k < 8)
  | .groupPowerUp sec k => decide (sec < 4 ∧ k < 4)
  | .fddSendStart sec k => decide (sec < 4 ∧ k < 4)
  | .tddBiasLead sec k e _ => decide (sec < 4 ∧ k < 4 ∧ e < 32)
  | .sendStart sec k => decide (sec < 4 ∧ k < 4)
  | .sendEnd sec k => decide (sec < 4 ∧ k < 4)
  | .switchEnd sec k => decide (sec < 4 ∧ k < 4)
  | .listenStart sec k e _ => decide (sec < 4 ∧ k < 4 ∧ e < 32)
  | .listenEnd sec k e _ => decide (sec < 4 ∧ k < 4 ∧ e < 32)
  | .offReqWrite sec k v be => decide (sec < 4 ∧ k < 4) && decide (v < 2 ^ 32 ∧ be < 16)
  | .powerDownStep sec k => decide (sec < 4 ∧ k < 4)
  | .paAlarm sec p _ => decide (sec < 4 ∧ p < 16)
  | .synSequenceStart sec y => decide (sec < 4 ∧ y < 8)
  | .synRecalWrite sec v be => decide (sec < 4) && decide (v < 2 ^ 32 ∧ be < 16)
  | .cspiFrameDone sec m miso => decide (sec < 4 ∧ m < 2 ∧ miso < 2 ^ 32)
  | .sequenceWaitExpiry sec y => decide (sec < 4 ∧ y < 8)
  | .cspiHostGo sec v be => decide (sec < 4) && decide (v < 2 ^ 32 ∧ be < 16)
  | .settleTimerExpiry sec y => decide (sec < 4 ∧ y < 8)
  | .ldQualified sec y => decide (sec < 4 ∧ y < 8)
  | .ldLoss sec y => decide (sec < 4 ∧ y < 8)
  | .heldRequestProceed sec k => decide (sec < 4 ∧ k < 4)
  | .fddRequestRepeat sec k => decide (sec < 4 ∧ k < 4)
  | .rffeTransferDone sec m _ got => decide (sec < 4 ∧ m < 2 ∧ got < 256)
  | .mmHoldExpiry sec k => decide (sec < 4 ∧ k < 4)
  | .tunePeriod sec k _ => decide (sec < 4 ∧ k < 4)
  | .calRun _ => true
  | .autoCalStart => true
  | .calHalfEnd k _ _ => decide (k < 16)
  | .calRunEnd k _ _ => decide (k < 16)
  | .steepTick _ => true
  | .refSecond _ => true
  | .refHoldEntry => true
  | .calSetCommit => true
  | .calSetCommitDone _ => true
  | .calCommitRetry => true
  | .discoveryDone _ _ => true
  | .pageRead _ _ _ => true
  | .pageWriteVerify _ _ _ _ _ _ _ => true
  | .migrationDone _ _ _ => true
  | .mediaCommandTimeout c k => decide (c < 8 ∧ k < 2)
  | .patrolRead _ _ _ => true
  | .journalPageWrite _ _ => true
  | .xspiDsRetrain c _ => decide (c < 8)
  | .mediaRead _ _ => true
  | .mediaWrite _ _ _ => true
  | .recordClose => true
  | .lossRecord => true
  | .sealDue _ => true
  | .tailShadowWrite _ _ => true
  | .recordPageCommit _ _ _ => true
  | .recordScanDone _ => true
  | .readRecords _ => true
  | .freeze _ => true
  | .thaw _ => true
  | .freezeAutoThaw => true
  | .clearRecords _ _ => true
  | .clearPageWritten _ _ => true
  | .capture _ _ => true
  | .trigEdge p _ => decide (p < 4)
  | .captureChunk _ _ _ _ => true
  | .captureComplete _ => true
  | .captureTimeout _ => true
  | .captureReadGo => true
  | .captureCopyDone _ => true
  | .ringSrcWrite u k v be => isUnitOf 0x09 1 u && decide (k < 8 ∧ v < 2 ^ 32 ∧ be < 16)
  | .systemSweep _ => true
  | .hkPassTimer _ => true
  | .urgReq v be => decide (v < 2 ^ 32 ∧ be < 16)
  | .urgentSendRequest k => decide (k < 4)
  | .hkConversionDone raw => decide (raw < 65536)
  | .diodeMeasurement p _ _ _ _ _ _ _ => decide (p < 8)
  | .throttleDwellExpiry n l => decide (n < 8 ∧ 1 ≤ l ∧ l ≤ 3)
  | .fallHoldExpiry => true
  | .riseEval _ => true
  | .shutdownEval _ => true
  | .jtagExtestLoad => true
  | .txSyncDeassert u _ => isUnitOf 0x02 4 u
  | .patternCheckerLock u lane _ => (isUnitOf 0x01 4 u || isUnitOf 0x02 4 u) && decide (lane < 2)
  | .randomGeneratorHealth _ => true
  | .msixVectorUnmask v => decide (v < 128)
  | .busMasterEnableClear => true
  | .jtagBypassLoad => true
  | .datapathCheckFail _ _ => true
  | .muteRailDisagreement _ _ _ _ => true
  | .pinReadbackMismatch sec _ _ _ => decide (sec < 4)

end Sys2Proof
end

