-- ==== Sys2Proof/Certificates/Slice0/Obligations.lean ====
section
/-! DEFINITION. The statements for the provers. -/

open Sys2Proof Sys2Proof.Machine

/-! ### The queue, the whole machine -/

/-- A step with a command at the front of the queue is that command's effect with the queue's rest. -/
def Obligations.StepRunsFrontCommand : Prop :=
  ∀ (s : State) (c : Instr) (rest : List Instr), s.pending = c :: rest → step s = exec c { s with pending := rest }

/-- A step on an empty queue (the model's choice, log entry 2): where Device Time counts and no reset pin holds the block, one dt
passes (R27), and while the root is failed one cycle of the RC oscillator (R30); elsewhere nothing changes. -/
def Obligations.EmptyQueueTicks : Prop :=
  ∀ s : State, s.pending = [] →
    ((s.dev.held = true ∨ s.dev.base.counting = false) → step s = .next s) ∧
    (s.dev.held = false → s.dev.base.counting = true → ∃ t, step s = .next t ∧ t.pending = [] ∧
      (s.dev.base.rootFailed = false → t.dev.dt = min dtMax (s.dev.dt + 1)) ∧
      (s.dev.base.rootFailed = true → t.dev.dt = (s.dev.reach (s.dev.coarseDt (s.dev.base.rcCycles + 1))).dt))

/-- Every command answers a next state and leaves the queue alone. -/
def Obligations.EveryCommandAnswers : Prop :=
  ∀ (i : Instr) (s : State), ∃ d, exec i s = .next { s with dev := d }

/-- A block that a reset pin holds does nothing but follow the reset pins (R80, R505). -/
def Obligations.HeldBlockIgnoresCommands : Prop :=
  ∀ (i : Instr) (s : State), s.dev.held = true → i.actsInReset = false → exec i s = .next s

/-- State.reset is a sound state. -/
def Obligations.ResetMeetsInvariant : Prop := State.reset.Inv

/-- Every step from a sound state gives a sound state. -/
def Obligations.StepKeepsInvariant : Prop :=
  ∀ s t : State, s.Inv → step s = .next t → t.Inv

/-- Device Time never decreases but by a reset, whatever command runs (R27). A fused OTP bit stays fused, whatever command runs,
resets included (R324). -/
def Obligations.TimeAndFusesNeverGoBack : Prop :=
  (∀ s t : State, s.dev.timeOk → step s = .next t → (∀ c rest, s.pending = c :: rest → c.isReset = false) →
     s.dev.dt ≤ t.dev.dt) ∧
  (∀ (s t : State) (a i : Nat), (s.dev.otp.get 0 a).testBit i = true → step s = .next t →
     (t.dev.otp.get 0 a).testBit i = true)

/-- Time units (R71): 1 ms is 491,520 dt, 1 s is 491,520,000 dt and 1 µs is 491.52 dt; a timer given in µs or ms runs for that
time rounded up to the next whole dt. -/
def Obligations.TimersRunWholeTicks : Prop :=
  dtOfMs 1 = 491520 ∧ dtOfS 1 = 491520000 ∧ 3125 * 491520 = 1536 * 1000000 ∧
  (∀ n : Nat, dtOfMs n = n * 491520 ∧ dtOfS n = n * 491520000 ∧ n * 49152 ≤ dtOfUs n * 100 ∧ dtOfUs n * 100 < n * 49152 + 100) ∧
  (∀ (d : Dev) (t : Timer) (n : Nat), ((startTimer t (dtOfUs n)).run d).deadline t = some (d.dt + dtOfUs n) ∧
    ((startTimer t (dtOfMs n)).run d).deadline t = some (d.dt + n * 491520))

/-! ### Reset -/

/-- PORST_N asserted for 1 µs or more (R80, R506), or a supply below its limit (R505): Cold, every register at its reset value, no
timer, no condition, no mute and no command left, Device Time zero; the OTP, the medium's records and P0 stay. A burn that it cuts
off leaves OTP bits that only rise (R324). A supply within its limits changes nothing (R505), nor does a pulse shorter than 200 ns
on a reset pin; one from 200 ns to 1 µs resets or does not (R506). -/
def Obligations.PorstAndSupplyLoss : Prop :=
  (∀ (s : State) (ns coreMv ioMv : Nat),
     let after : Dev → Prop := fun d => d.mode = .cold ∧ (∀ r : Ref, d.get r = r.rst) ∧ d.timers = [] ∧ d.dt = 0 ∧ d.conds = [] ∧
       d.mutes = [] ∧ d.cmds = [] ∧ d.porst = true ∧ d.resetn = s.dev.resetn ∧
       (s.dev.cy.burns = [] → d.otp = s.dev.otp) ∧ d.store = s.dev.store ∧ d.p0 = s.dev.p0
     (1000 ≤ ns → Yields (.porstNAssert ns) s after) ∧
     (coreMv < 660 ∨ ioMv < 1550 → Yields (.supplyLossDetect coreMv ioMv) s after)) ∧
  (∀ (s : State) (coreMv ioMv : Nat), 660 ≤ coreMv → 1550 ≤ ioMv → exec (.supplyLossDetect coreMv ioMv) s = .next s) ∧
  (∀ (s : State) (ns : Nat), ns < 200 → exec (.porstNAssert ns) s = .next s ∧ exec (.resetNAssert ns) s = .next s) ∧
  (∀ (s : State) (ns : Nat), 200 ≤ ns → ns < 1000 →
    let e := { s.dev with drawn := s.dev.drawn + 1 }
    (Yields (.porstNAssert ns) s fun d => d = e ∨ d = e.porstReset) ∧
    (Yields (.resetNAssert ns) s fun d => d = e ∨ d = resetNAssert e))

/-- RESET_N asserted for 1 µs or more while PORST_N is not (R80, R326, R484, R506): Cold with cause 0x02, every register at its
reset value but CAUSE, the identity's (R326) and SIGN_CNT, which counts since PORST_N (R348); Device Time zero, no timer,
condition, mute or command left; the identity seed and key, the variant record, the medium's records and P0 stay, and the OTP
unless a burn is cut off. While PORST_N holds the block only the pin is noted. The release of the reset pins (R484, R493).
PORST_N's reads the variant record as the bitwise majority of its three copies, and samples AUTOBOOT; RESET_N's samples AUTOBOOT
and keeps the variant, but while PORST_N still holds the block, whose own release samples the strap again, it only notes the pin.
The floor, the owner slots, the test-lock marker and the load limit of each section are then shown from the OTP and the variant,
and the identity source is active again where the derivation had ended without a match (R326). Nothing else changes; a pin that is
not asserted is not released. A bit of the variant record is the value that two of its three copies give (R484). The identity
derivation (R326), once after each PORST_N: from a seed that the PUF array recovers, the Ed448 public key and its SHAKE256
identifier; ID_OK says whether the key is the certificate's copy. A failed recovery (the empty seed) leaves ID_OK 0 and no key.
The identity source then follows. -/
def Obligations.ResetAndIdentity : Prop :=
  (∀ (s : State) (ns : Nat), 1000 ≤ ns →
     (s.dev.porst = false → Yields (.resetNAssert ns) s fun d =>
       d.mode = .cold ∧ d.rd MC Reg.MC.CAUSE = 0x02 ∧
       (∀ r : Ref, r.key ≠ (Reg.MC.CAUSE.at MC).key → identityKey r.key = false → d.get r = r.rst) ∧
       d.rd CY Reg.CY.ID_DONE = s.dev.rd CY Reg.CY.ID_DONE ∧ d.rd CY Reg.CY.ID_OK = s.dev.rd CY Reg.CY.ID_OK ∧
       (∀ i < 8, d.rd CY Reg.CY.DEV_ID i = s.dev.rd CY Reg.CY.DEV_ID i) ∧
       d.rd CY Reg.CY.SIGN_CNT = s.dev.rd CY Reg.CY.SIGN_CNT ∧ d.dt = 0 ∧ d.timers = [] ∧ d.conds = [] ∧ d.mutes = [] ∧
       d.cmds = [] ∧ d.resetn = true ∧ d.porst = false ∧ d.cy.seed = s.dev.cy.seed ∧ d.cy.pub = s.dev.cy.pub ∧
       d.variant = s.dev.variant ∧ (s.dev.cy.burns = [] → d.otp = s.dev.otp) ∧ d.store = s.dev.store ∧ d.p0 = s.dev.p0) ∧
     (s.dev.porst = true → exec (.resetNAssert ns) s = .next { s with dev := { s.dev with resetn := true } })) ∧
  (∀ (s : State) (auto : Bool),
     let shown := [Reg.CY.OWNER_STATE.at CY, Reg.CY.FLOOR.at CY, Reg.CC.FLOOR.at CC, Reg.CY.PROFILES_USED.at CY,
         Reg.CY.ACTIVE_SLOT.at CY, Reg.CY.PROFILE_ACTIVE.at CY, Reg.CY.PROFILE_PEND.at CY, Reg.CY.TEST_LOCK.at CY] ++
       ((List.range 16).flatMap fun i => [Reg.CY.ACTIVE_DIGEST.at CY i, Reg.CY.PENDING_DIGEST.at CY i]) ++
       (List.range 4).map fun k => Reg.DS.LOAD_LIM.at (dsU k)
     let noMatch := s.dev.rd CY Reg.CY.ID_DONE ≠ 0 ∧ s.dev.rd CY Reg.CY.ID_OK = 0
     let after : Variant → Dev → Prop := fun v d =>
       d.porst = false ∧ d.mc = { s.dev.mc with autoboot := auto } ∧ d.variant = v ∧ d.mode = s.dev.mode ∧
       d.clock = s.dev.clock ∧ d.otp = s.dev.otp ∧ d.store = s.dev.store ∧ d.p0 = s.dev.p0 ∧
       d.rd CY Reg.CY.FLOOR = s.dev.floor % 2 ^ Reg.CY.FLOOR.width ∧ d.rd CY Reg.CY.TEST_LOCK = b2n (s.dev.marker 0x30) ∧
       (∀ i < 4, d.rd CY Reg.CY.OWNER_STATE / 4 ^ i % 4 = s.dev.ownerState i) ∧
       (∀ k ∈ d.sections, d.rd (dsU k) Reg.DS.LOAD_LIM = if v.half then 2500 else 5000) ∧
       (noMatch → d.holds CY 0 = true) ∧
       (¬noMatch → SameRegs s.dev d shown ∧ d.conds = s.dev.conds ∧ d.mutes = s.dev.mutes)
     (s.dev.porst = true →
       Yields (.porstNDeassert auto) s fun d => after s.dev.readVariant d ∧ d.resetn = s.dev.resetn) ∧
     (s.dev.porst = false → exec (.porstNDeassert auto) s = .next s) ∧
     (s.dev.resetn = true → s.dev.porst = false →
       Yields (.resetNDeassert auto) s fun d => after s.dev.variant d ∧ d.resetn = false) ∧
     (s.dev.resetn = true → s.dev.porst = true →
       exec (.resetNDeassert auto) s = .next { s with dev := { s.dev with resetn := false } }) ∧
     (s.dev.resetn = false → exec (.resetNDeassert auto) s = .next s)) ∧
  (∀ (d : Dev) (i b : Nat), (d.recordByte i).testBit b =
     decide (2 ≤ [d.otpByte i, d.otpByte (0x10 + i), d.otpByte (0x20 + i)].countP fun x => x.testBit b)) ∧
  (∀ (s : State) (seed : List Byte),
     (s.dev.porst = false → s.dev.rd CY Reg.CY.ID_DONE = 0 →
       Does (.identityDerivationDone seed) s (fun d =>
         d.rd CY Reg.CY.ID_DONE = 1 ∧
         d.rd CY Reg.CY.ID_OK = b2n (!seed.isEmpty && Config.ed448Public seed == s.dev.otpBytes (0x0840 + 32) 57) ∧
         (seed ≠ [] → d.cy = { s.dev.cy with
             seed := seed, pub := Config.ed448Public seed, devId := Config.shake256 (Config.ed448Public seed) 32 } ∧
           ∀ i < 8, d.rd CY Reg.CY.DEV_ID i = num (Config.shake256 (Config.ed448Public seed) 32) (4 * i) 4 % 2 ^ 32) ∧
         (seed = [] → d.cy = s.dev.cy) ∧
         SameRegs s.dev d ([Reg.CY.ID_DONE.at CY, Reg.CY.ID_OK.at CY] ++ (List.range 8).map fun i => Reg.CY.DEV_ID.at CY i) ∧
         d = { s.dev with regs := d.regs, cy := d.cy })
         (when (seed.isEmpty || Config.ed448Public seed != s.dev.otpBytes (0x0840 + 32) 57) (condStart CY 0 0 noScope []))) ∧
     (s.dev.porst = true ∨ s.dev.rd CY Reg.CY.ID_DONE ≠ 0 → Yields (.identityDerivationDone seed) s fun d => d = s.dev))

/-! ### Reads that latch -/

/-- A read of a _LO field returns the low half of the live value and latches the high half into the _HI field, and changes nothing
else (R33, R93, R142, R274, R434). The same of the pairs of links, slots, the calibration set, the Caddy, the Host Port and the
Woodshed (R114, R298, R321, R348, R374, R405). The other reads that latch: a cell's block stamps (R142), its powers and averages
of one block (R160), and a housekeeping result (R463). A read of an absent unit returns 0 and latches nothing (R49). -/
def Obligations.LatchedReads : Prop :=
  (∀ s : State, s.runs →
     Latches .edgeDtLoRead s TB Reg.TB.EDGE_DT_LO Reg.TB.EDGE_DT_HI ∧
     Latches .modeDtLoRead s MC Reg.MC.MODE_DT_LO Reg.MC.MODE_DT_HI ∧
     (∀ c, isUnitOf 0x03 32 c = true →
       (s.dev.present c = true → Latches (.syncDtLoRead c) s c Reg.BC.SYNC_DT_LO Reg.BC.SYNC_DT_HI) ∧
       (s.dev.present c = false → ReadsZero (.syncDtLoRead c) s)) ∧
     (∀ n k, n < 4 → k < 8 →
       (s.dev.present (sdU n) = true → Latches (.markLoRead n k) s (sdU n) Reg.SD.K_MARK_LO Reg.SD.K_MARK_HI k) ∧
       (s.dev.present (sdU n) = false → ReadsZero (.markLoRead n k) s)) ∧
     Latches .nextSeqLoRead s EV Reg.EV.NEXT_SEQ_LO Reg.EV.NEXT_SEQ_HI ∧
     Latches .hwSeqLoRead s EV Reg.EV.HW_SEQ_LO Reg.EV.HW_SEQ_HI ∧
     Latches (.headSeqLoRead true) s EV Reg.EV.OP_HEAD_SEQ_LO Reg.EV.OP_HEAD_SEQ_HI ∧
     Latches (.headSeqLoRead false) s EV Reg.EV.AUD_HEAD_SEQ_LO Reg.EV.AUD_HEAD_SEQ_HI) ∧
  (∀ s : State, s.runs →
     (∀ u lane, isUnitOf 0x01 4 u = true → lane < 2 →
       (s.dev.present u = true → Latches (.wordsLoRead u lane) s u Reg.RXL.L_WORDS_LO Reg.RXL.L_WORDS_HI lane) ∧
       (s.dev.present u = false → ReadsZero (.wordsLoRead u lane) s)) ∧
     Latches .dirSeqLoRead s CC Reg.CC.DIR_SEQ_LO Reg.CC.DIR_SEQ_HI ∧
     (∀ role < 3, Latches (.verLoRead role) s CC Reg.CC.SLOT_VER_LO Reg.CC.SLOT_VER_HI role) ∧
     Latches .setSeqLoRead s CE Reg.CE.SET_SEQ_LO Reg.CE.SET_SEQ_HI ∧
     Latches .nonceDtLoRead s CY Reg.CY.NONCE_DT_LO Reg.CY.NONCE_DT_HI ∧
     Latches .errAddrLoRead s HP Reg.HP.ERR_ADDR_LO Reg.HP.ERR_ADDR_HI ∧
     Latches .jseqLoRead s WS Reg.WS.JSEQ_LO Reg.WS.JSEQ_HI) ∧
  (∀ (s : State) (c : Nat), isUnitOf 0x03 32 c = true → s.runs →
    (s.dev.present c = true → Yields (.blkRxLoRead c) s fun d =>
      d.rd c Reg.BC.BLK_RX_LO = (s.dev.cellAt c).stampRx % 2 ^ 32 ∧
      d.rd c Reg.BC.BLK_RX_HI = (s.dev.cellAt c).stampRx / 2 ^ 32 % 2 ^ 32 ∧
      d.rd c Reg.BC.BLK_TX_LO = (s.dev.cellAt c).stampTx % 2 ^ 32 ∧
      d.rd c Reg.BC.BLK_TX_HI = (s.dev.cellAt c).stampTx / 2 ^ 32 % 2 ^ 32 ∧
      d.out = .readData c Reg.BC.BLK_RX_LO.off ((s.dev.cellAt c).stampRx % 2 ^ 32) :: s.dev.out ∧
      SameRegs s.dev d ([Reg.BC.BLK_RX_LO, Reg.BC.BLK_RX_HI, Reg.BC.BLK_TX_LO, Reg.BC.BLK_TX_HI].map (·.at c)) ∧
      d = { s.dev with regs := d.regs, out := d.out }) ∧
    (s.dev.present c = true → Yields (.pRawRead c) s fun d =>
      (∀ k, ∀ h : k < 7, ∀ v, (s.dev.cellAt c).latest[k]? = some v → d.rd c powerFields[k] = v % 2 ^ powerFields[k].width) ∧
      ((s.dev.cellAt c).latest = [] → d.regs = s.dev.regs) ∧
      d.out = .readData c Reg.BC.P_RAW.off (s.dev.rd c Reg.BC.P_RAW * 65536 + s.dev.rd c Reg.BC.P_IN) :: s.dev.out ∧
      SameRegs s.dev d (powerFields.map (·.at c)) ∧ d = { s.dev with regs := d.regs, out := d.out }) ∧
    (s.dev.present c = false → ReadsZero (.blkRxLoRead c) s ∧ ReadsZero (.pRawRead c) s)) ∧
  (∀ (s : State) (e : Nat), e < 64 → s.runs →
    Yields (.hkResultRead e) s fun d =>
      let r := s.dev.hkResAt e
      d.rd HA Reg.HA.RES_VALID e = b2n r.valid ∧ d.rd HA Reg.HA.RES_WIN_OUT e = b2n r.winOut ∧
      d.rd HA Reg.HA.RES_OPEN e = b2n r.isOpen ∧ d.rd HA Reg.HA.RES_SHORT e = b2n r.isShort ∧
      d.rd HA Reg.HA.RES_SPAN e = r.span % 2 ^ 16 ∧ d.rd HA Reg.HA.RES_STAMP_LO e = r.stamp % 2 ^ 32 ∧
      d.rd HA Reg.HA.RES_STAMP_HI e = r.stamp / 2 ^ 32 % 2 ^ 32 ∧
      SameRegs s.dev d ([Reg.HA.RES_VALID, Reg.HA.RES_WIN_OUT, Reg.HA.RES_OPEN, Reg.HA.RES_SHORT, Reg.HA.RES_SPAN,
        Reg.HA.RES_STAMP_LO, Reg.HA.RES_STAMP_HI].map (·.at HA e)) ∧
      d = { s.dev with regs := d.regs, out := d.out })

/-- A read of DT_LO latches DT_HI, WALL_NS, WALL_SEC and WALL_EPOCH from the same dt, and later reads of those registers return
the latched values: nothing but these fields changes (R33). -/
def Obligations.DeviceTimeRead : Prop :=
  ∀ s : State, s.runs →
    Yields .dtLoRead s fun d =>
      d.rd TB Reg.TB.DT_LO = s.dev.dt % 2 ^ 32 ∧ d.rd TB Reg.TB.DT_HI = s.dev.dt / 2 ^ 32 % 2 ^ 32 ∧
      d.rd TB Reg.TB.WALL_NS = s.dev.clock.wall.ns % 2 ^ 30 ∧ d.rd TB Reg.TB.WALL_SEC = s.dev.clock.wall.sec % 2 ^ 32 ∧
      d.rd TB Reg.TB.WALL_EPOCH = s.dev.clock.epoch % 2 ^ 16 ∧
      d.out = .readData TB Reg.TB.DT_LO.off (s.dev.dt % 2 ^ 32) :: s.dev.out ∧
      SameRegs s.dev d ([Reg.TB.DT_LO, Reg.TB.DT_HI, Reg.TB.WALL_NS, Reg.TB.WALL_SEC, Reg.TB.WALL_EPOCH].map (·.at TB)) ∧
      d = { s.dev with regs := d.regs, out := d.out }

/-! ### Host writes -/

/-- A write that a cause of R54 rejects sets WRITE_REJECT, counts in REJECT_CNT, records cause and offset where WRITE_REJECT was
0, and changes nothing else of the block (R54, R60). The causes of R54. A write with partial byte enables is judged for PARTIAL
alone. For another, LOCKED applies where a locked field is written with another value, ZERO where a divisor or period field is
written with 0, RANGE where a value lies outside its field's range, MODE and BUSY where the register's own rule says so: it is
rejected when one applies, and the lowest that applies is recorded; the same rejection follows for every register that has a
command of its own. -/
def Obligations.WritesAreRejected : Prop :=
  (∀ (s : State) (u off v be cause : Nat), s.runs → off % 4 = 0 → off < 0x1000 → v < 2 ^ 32 → ownRow (typeOf u) off = false →
     s.dev.present u = true → s.dev.hostFields u off ≠ [] →
     s.dev.judgeWrite u off v be (registerRule u off v s.dev) = some cause →
     Does (.registerWrite u off v be) s fun d => Rejected s.dev d u off cause) ∧
  (∀ (d : Dev) (u off v be : Nat) (r : WriteRule),
    let fs := d.hostFields u off
    let applies : Nat → Prop := fun c =>
      (c = 1 ∧ ∃ x ∈ fs, x.1.acc = .lk ∧ x.1.of v ≠ d.rd u x.1 x.2.1 x.2.2) ∨
      (c = 2 ∧ ∃ x ∈ fs, zeroBad x.1 (x.1.of v) = true) ∨
      (c = 3 ∧ (r.range = true ∨ ∃ x ∈ fs, rangeBad x.1 (x.1.of v) = true)) ∨
      (c = 4 ∧ r.mode = true) ∨ (c = 6 ∧ r.busy = true)
    (be ≠ 15 → d.judgeWrite u off v be r = some 5) ∧
    (be = 15 → (d.judgeWrite u off v be r = none ↔ ∀ c, ¬ applies c) ∧
      ∀ c, d.judgeWrite u off v be r = some c ↔ applies c ∧ ∀ b, b < c → ¬ applies b)) ∧
  (∀ (d : Dev) (u off v be cause : Nat) (rule : Dev → WriteRule) (after : Script), d.present u = true →
    d.hostFields u off ≠ [] → d.judgeWrite u off v be (rule d) = some cause →
    (writeReg u off v be rule after).run d = (rejectWrite u off cause).run d)

/-- A write to BAR4, to an offset of BAR2 that holds nothing, or where no present unit's window lies, is discarded and counted in
HP.UNMAPPED_WR, whatever else the block holds (R49, R352); so is any register write to a unit that the variant does not provide
(R38). A read there returns 0, but for UNIT_ID of an absent unit, and a read of a present unit's word that latches nothing returns
its fields and changes nothing (R49 to R51). -/
def Obligations.UnmappedWritesAreCounted : Prop :=
  (∀ (s : State) (bar a : Nat), s.runs →
    bar = 4 ∨ (bar = 2 ∧ bar2Mapped a = false) ∨ (bar = 0 ∧ s.dev.present (unitOfBar0 a) = false) →
    Yields (.unmappedWrite bar a) s fun d => Unmapped s.dev d) ∧
  (∀ (s : State) (u off v be : Nat), s.runs → off % 4 = 0 → off < 0x1000 → v < 2 ^ 32 → ownRow (typeOf u) off = false →
    s.dev.present u = false → Does (.registerWrite u off v be) s fun d => Unmapped s.dev d) ∧
  (∀ (d : Dev) (u off : Nat), d.present u = false → off ≠ 0 → d.readWord u off = 0) ∧
  (∀ (d : Dev) (u : Nat), d.readWord u 0 = if isUnit u then d.unitId u else 0) ∧
  (∀ (d : Dev) (a : Nat), let u := unitOfBar0 a; let off := a % 0x1000 / 4 * 4
    latchRead u off = none → (busRead a).run d = { d with out := .readData u off (d.readWord u off) :: d.out })

/-- An accepted write of a register without a command of its own (R51, R53, R57, R62): every field of the word takes what its
access code gives it and nothing outside the word changes; a write of a word without fields changes nothing. What then follows of
a few registers is `registerEffect`: a TX link's tests restart it, OTP_ADDR shows its word. The writes of the common header that
have commands of their own, on a present unit (R59, R60, R64, R65, R69, R468). WRITE_REJECT_CLEAR is never rejected: it clears
WRITE_REJECT and REJECT_CNT alone. ERR_PEND_CLEAR clears the bits written as 1, but for sources whose condition holds. ERR_ACK
stops the grace timer and acknowledges every Degrade event. CNT_CLEAR takes IRQ_EN, and then zeroes the unit's counters. Any but
the first is rejected with PARTIAL for partial byte enables (R54); on an absent unit each is discarded and counted (R49).
Re-arming and release after a pending bit is cleared (R65, R468): with nothing pending VALID and LATER_CNT clear; a mute of the
unit ends when its source is no longer pending, and after an escalation only once it is acknowledged. -/
def Obligations.HeaderWrites : Prop :=
  (∀ (s : State) (u off v : Nat), s.runs → off % 4 = 0 → off < 0x1000 → v < 2 ^ 32 → ownRow (typeOf u) off = false →
     s.dev.present u = true →
     (s.dev.hostFields u off ≠ [] → s.dev.judgeWrite u off v 15 (registerRule u off v s.dev) = none →
       Does (.registerWrite u off v 15) s (fun d =>
         (∀ x ∈ s.dev.hostFields u off, d.rd u x.1 x.2.1 x.2.2 = s.dev.written u v x) ∧
         OnlyRegs s.dev d ((s.dev.hostFields u off).map fun x => x.1.at u x.2.1 x.2.2))
         (registerEffect u off (s.dev.testKey u))) ∧
     (s.dev.hostFields u off = [] → ∀ be, Does (.registerWrite u off v be) s fun d => d = s.dev)) ∧
  (∀ (s : State) (u v be : Nat), s.runs → v < 2 ^ 32 → be < 16 →
     (s.dev.present u = true →
       (be.testBit 3 = true → v.testBit 31 = true → Does (.writeRejectClear u v be) s fun d =>
         d.rd u Reg.HDR.WRITE_REJECT = 0 ∧ d.rd u Reg.HDR.REJECT_CNT = 0 ∧
         OnlyRegs s.dev d [Reg.HDR.WRITE_REJECT.at u, Reg.HDR.REJECT_CNT.at u]) ∧
       (v.testBit 31 = false → Does (.writeRejectClear u v 15) s fun d => d = s.dev) ∧
       (be ≠ 15 → ¬(be.testBit 3 = true ∧ v.testBit 31 = true) →
         Does (.writeRejectClear u v be) s fun d => Rejected s.dev d u 0x008 5) ∧
       (Does (.errPendClear u false v 15) s (fun d =>
         d.rd u Reg.HDR.PEND = s.dev.rd u Reg.HDR.PEND &&& ((v ^^^ 0xFFFFFFFF) ||| s.dev.heldBits u 0) ∧
         OnlyRegs s.dev d [Reg.HDR.PEND.at u]) (seqs [rearm u, releaseMutes u])) ∧
       (Does (.errPendClear u true v 15) s (fun d =>
         d.rd u Reg.HDR.PEND_HI = s.dev.rd u Reg.HDR.PEND_HI &&& ((v ^^^ 0xFFFFFFFF) ||| s.dev.heldBits u 32) ∧
         OnlyRegs s.dev d [Reg.HDR.PEND_HI.at u]) (seqs [rearm u, releaseMutes u])) ∧
       (v.testBit 0 = true → Does (.errAck u v 15) s (fun d =>
         d.deadline (.grace u) = none ∧ d.rd u Reg.HDR.TIMER_RUN = 0 ∧ (∀ x ∈ d.unacked, x.unit ≠ u) ∧
         (∀ x ∈ s.dev.unacked, x.unit ≠ u → x ∈ d.unacked) ∧ (∀ m ∈ d.mutes, m.unit = u → m.needAck = false) ∧
         SameRegs s.dev d [Reg.HDR.TIMER_RUN.at u]) (releaseMutes u)) ∧
       (v.testBit 0 = false → Does (.errAck u v 15) s fun d => d = s.dev) ∧
       Does (.cntClear u v 15) s (fun d =>
         d.rd u Reg.HDR.IRQ_EN = v / 2 ^ Reg.HDR.IRQ_EN.lo % 2 ∧ OnlyRegs s.dev d [Reg.HDR.IRQ_EN.at u])
         (when (v.testBit 0) (clearCounters u)) ∧
       (be ≠ 15 →
         Does (.errPendClear u false v be) s (fun d => Rejected s.dev d u 0x014 5) ∧
         Does (.errPendClear u true v be) s (fun d => Rejected s.dev d u 0x030 5) ∧
         Does (.errAck u v be) s (fun d => Rejected s.dev d u 0x044 5) ∧
         Does (.cntClear u v be) s (fun d => Rejected s.dev d u 0x004 5))) ∧
     (s.dev.present u = false → ∀ i ∈ [Instr.writeRejectClear u v be, .errPendClear u false v be, .errPendClear u true v be,
       .errAck u v be, .cntClear u v be], Does i s fun d => Unmapped s.dev d)) ∧
  (∀ (d : Dev) (u : Nat),
     (d.rd u Reg.HDR.PEND = 0 → d.rd u Reg.HDR.PEND_HI = 0 →
       ((rearm u).run d).rd u Reg.HDR.ERR_VALID = 0 ∧ ((rearm u).run d).rd u Reg.HDR.ERR_LATER_CNT = 0) ∧
     (d.rd u Reg.HDR.PEND ≠ 0 ∨ d.rd u Reg.HDR.PEND_HI ≠ 0 → (rearm u).run d = d) ∧
     (∀ m : MuteHold, m ∈ ((releaseMutes u).run d).mutes ↔
       m ∈ d.mutes ∧ (m.unit ≠ u ∨ m.needAck = true ∨ d.isPending u m.src = true)))

/-- GRACE_EXPIRY (R70): Device Time reaches the deadline, TIMER_RUN clears, and the unit's Degrade events escalate. The end of
FAULT_N's hardware phase, and a write of its software level: outside the phase the pin follows SW (R472). -/
def Obligations.GraceAndFaultPin : Prop :=
  (∀ (s : State) (u t0 : Nat), s.runs → s.dev.deadline (.grace u) = some t0 →
    Does (.graceExpiry u) s (fun d => d.rd u Reg.HDR.TIMER_RUN = 0 ∧ d.deadline (.grace u) = none ∧
      d.clock = (s.dev.reach t0).clock ∧ d.unacked = s.dev.unacked ∧ SameRegs s.dev d [Reg.HDR.TIMER_RUN.at u]) (escalate u)) ∧
  (∀ (s : State) (t0 : Nat), s.runs → s.dev.deadline .faultPhase = some t0 →
    Does .faultPhaseEnd s fun d => d.rd MC Reg.MC.HW_PHASE = 0 ∧ d.rd MC Reg.MC.HW_LEFT = 0 ∧
      d.rd MC Reg.MC.PIN = b2n (s.dev.is MC Reg.MC.SW) ∧ d.deadline .faultPhase = none ∧ d.clock = (s.dev.reach t0).clock ∧
      SameRegs s.dev d [Reg.MC.HW_PHASE.at MC, Reg.MC.HW_LEFT.at MC, Reg.MC.PIN.at MC]) ∧
  (∀ (s : State) (v be : Nat), s.runs → v < 2 ^ 32 →
    Does (.faultPinSwWrite v 15) s (fun d => d.rd MC Reg.MC.SW = v / 2 ^ Reg.MC.SW.lo % 2 ∧
      d.rd MC Reg.MC.PIN = b2n (s.dev.is MC Reg.MC.HW_PHASE || v.testBit Reg.MC.SW.lo) ∧
      OnlyRegs s.dev d [Reg.MC.SW.at MC, Reg.MC.PIN.at MC]) ∧
    (be ≠ 15 → Does (.faultPinSwWrite v be) s fun d => Rejected s.dev d MC 0x144 5))

/-! ### Clocks and time -/

/-- The root locks on a reference that fits a window of R507, and classifies it (R20, R27): the control domain leaves the RC
oscillator unless its own clock is failed, and Device Time counts. A reference that fits neither window leaves the root unlocked
with REF_FREQ 0. A root that is locked, or failed and not yet relocked, does not lock for the first time. A root failure, by loss
of lock or by a count of root cycles that differs by more than 25 % (R23, R24, R30, R99): the root is lost and counted, every
divided clock's GOOD bit reads 0, the control domain runs from the RC oscillator, REF_FREQ reads 0 where REFCLK fits no window
(R20), Device Time is coarse and alignment is lost; then the two sources of the failure are raised, subclass 1 links wait, and
outside Cold Ember waits for the sync event of R31. A root that is not locked does not fail, nor one whose count is within 25 %.
The root relocks after a failure (R20, R30, R31): Device Time has counted the RC cycles of the failure in whole dt, rounded up;
the reference is classified afresh, the conditions of the failure end, and outside Cold the Time Base arms alignment by itself. A
reference that fits no window leaves the root failed. -/
def Obligations.RootFailsAndRelocks : Prop :=
  (∀ (s : State) (khz : Nat), s.runs →
     (s.dev.rd CK Reg.CK.ROOT_LOCK = 0 → s.dev.base.rootFailed = false → refClass khz ≠ 0 → Does (.rootLock khz) s (fun d =>
       d.rd CK Reg.CK.ROOT_LOCK = 1 ∧ d.rd CK Reg.CK.REF_FREQ = refClass khz ∧ d.rd CK Reg.CK.REF_PRESENT = 1 ∧
       d.rd CK Reg.CK.CTRL_ON_RC = b2n (s.dev.holds CK 6) ∧
       d = { s.dev with regs := d.regs, base := { s.dev.base with counting := true, rootFailed := false } } ∧
       SameRegs s.dev d [Reg.CK.ROOT_LOCK.at CK, Reg.CK.REF_FREQ.at CK, Reg.CK.REF_PRESENT.at CK, Reg.CK.CTRL_ON_RC.at CK])
       showClockCause) ∧
     (s.dev.rd CK Reg.CK.ROOT_LOCK = 0 → s.dev.base.rootFailed = false → refClass khz = 0 → Does (.rootLock khz) s (fun d =>
       d.rd CK Reg.CK.ROOT_LOCK = 0 ∧ d.rd CK Reg.CK.REF_FREQ = 0 ∧ d.rd CK Reg.CK.REF_PRESENT = 0 ∧
       OnlyRegs s.dev d [Reg.CK.REF_FREQ.at CK, Reg.CK.REF_PRESENT.at CK]) showClockCause) ∧
     (s.dev.rd CK Reg.CK.ROOT_LOCK ≠ 0 ∨ s.dev.base.rootFailed = true →
       Does (.rootLock khz) s (fun d => d = s.dev) showClockCause)) ∧
  (∀ (s : State) (t count khz : Nat) (lostLock : Bool), s.runs →
     (s.dev.rd CK Reg.CK.ROOT_LOCK = 1 → lostLock = true ∨ rootTrips count = true →
       Does (.rootFailure t lostLock count khz) s (fun d =>
       d.rd CK Reg.CK.ROOT_LOCK = 0 ∧ d.rd CK Reg.CK.ROOT_LOST = 1 ∧ d.rd CK Reg.CK.CTRL_ON_RC = 1 ∧
       d.rd CK Reg.CK.REF_PRESENT = b2n (refClass khz != 0) ∧
       d.rd CK Reg.CK.REF_FREQ = (if refClass khz = 0 then 0 else s.dev.rd CK Reg.CK.REF_FREQ) ∧
       d.rd CK Reg.CK.ROOT_FAIL = min 65535 (s.dev.rd CK Reg.CK.ROOT_FAIL + 1) ∧
       (∀ f ∈ goodBits, d.rd CK f = 0) ∧ d.rd TB Reg.TB.DT_COARSE = 1 ∧ d.rd TB Reg.TB.ALIGNED = 0 ∧
       d.rd TB Reg.TB.ALIGN_ARMED = 0 ∧ d.clock = (s.dev.reach t).clock ∧
       d.base = { s.dev.base with rootFailed := true, prevEdge := none, failDt := (s.dev.reach t).dt, rcCycles := 0 } ∧
       SameRegs s.dev d ([Reg.CK.ROOT_LOCK, Reg.CK.ROOT_LOST, Reg.CK.CTRL_ON_RC, Reg.CK.REF_PRESENT, Reg.CK.REF_FREQ,
         Reg.CK.ROOT_FAIL].map (·.at CK) ++ goodBits.map (·.at CK) ++
         [Reg.TB.DT_COARSE, Reg.TB.ALIGNED, Reg.TB.ALIGN_ARMED].map (·.at TB)))
       (seqs [condStart CK 0 0 devScope [], condStart TB 1 0 noScope [], waitAlign,
         when (s.dev.mode != .cold) (modMc fun m => { m with awaitSync := true }), showClockCause])) ∧
     (s.dev.rd CK Reg.CK.ROOT_LOCK = 0 ∨ (lostLock = false ∧ rootTrips count = false) →
       Does (.rootFailure t lostLock count khz) s (fun d => d = s.dev) showClockCause)) ∧
  (∀ (s : State) (cycles khz : Nat), s.runs →
     (s.dev.base.rootFailed = true → refClass khz ≠ 0 →
       Does (.rootRelock cycles khz) s (fun d =>
         d.rd CK Reg.CK.ROOT_LOCK = 1 ∧ d.rd CK Reg.CK.REF_FREQ = refClass khz ∧ d.rd CK Reg.CK.REF_PRESENT = 1 ∧
         d.rd CK Reg.CK.CTRL_ON_RC = b2n (s.dev.holds CK 6) ∧ d.base.rootFailed = false ∧ d.base.counting = true ∧
         d.clock = (s.dev.reach (s.dev.coarseDt cycles)).clock)
         (seqs [condEnd CK 0 0, condEnd TB 1 0,
           if s.dev.mode = .cold then modMc fun m => { m with awaitSync := false } else armAlignment true, showClockCause])) ∧
     (s.dev.base.rootFailed = true → refClass khz = 0 →
       Does (.rootRelock cycles khz) s (fun d => d.rd CK Reg.CK.REF_FREQ = 0 ∧ d.rd CK Reg.CK.REF_PRESENT = 0 ∧
         d.rd CK Reg.CK.ROOT_LOCK = s.dev.rd CK Reg.CK.ROOT_LOCK ∧ d.base.rootFailed = true ∧
         d.clock = (s.dev.reach (s.dev.coarseDt cycles)).clock) showClockCause) ∧
     (s.dev.base.rootFailed = false → Does (.rootRelock cycles khz) s (fun d => d = s.dev) showClockCause))

/-- One clock's monitor window (R23, R24): within one edge of its expectation it sets the clock's GOOD bit and ends its condition;
else it clears GOOD and sets FAILED, and counts the onset in CLK_FAIL. The control domain leaves its clock while that one is
failed. A monitor window ends (R23, R25): while the root is locked each of the eight clocks is judged against its expectation,
which follows the commanded dividers, and the sources of the clocks in use that it declares failed fire in one cycle, the most
severe first (R24, R63); the RC oscillator's frequency is measured (R44). While the root is not locked both are suspended. -/
def Obligations.ClocksAreMonitored : Prop :=
  (∀ (d : Dev) (i n e : Nat), i < 8 →
     ((n ≤ e + 1 ∧ e ≤ n + 1) → ∃ d', (clockWindow i n e).run d =
         (seqs [condEnd CK (i + 1) 0, when (i == 5) (putB CK Reg.CK.CTRL_ON_RC false)]).run d' ∧
       d'.rd CK (goodBits.getD i Reg.CK.HK) = 1 ∧ SameRegs d d' [(goodBits.getD i Reg.CK.HK).at CK] ∧
       d' = { d with regs := d'.regs, base := d'.base } ∧ (d.base.bad < 2 ^ 8 → d'.base.bad.testBit i = false)) ∧
     (¬(n ≤ e + 1 ∧ e ≤ n + 1) →
       let d' := (clockWindow i n e).run d
       d'.rd CK (goodBits.getD i Reg.CK.HK) = 0 ∧ (d'.rd CK Reg.CK.FAILED).testBit i = true ∧
       d'.rd CK Reg.CK.CLK_FAIL = (if d.base.bad.testBit i then d.rd CK Reg.CK.CLK_FAIL
         else min 65535 (d.rd CK Reg.CK.CLK_FAIL + 1)) ∧
       d'.rd CK Reg.CK.CTRL_ON_RC = (if i = 5 then 1 else d.rd CK Reg.CK.CTRL_ON_RC) ∧
       SameRegs d d' [(goodBits.getD i Reg.CK.HK).at CK, Reg.CK.FAILED.at CK, Reg.CK.CLK_FAIL.at CK, Reg.CK.CTRL_ON_RC.at CK] ∧
       d' = { d with regs := d'.regs, base := d'.base } ∧ d'.base.bad.testBit i = true)) ∧
  (∀ (s : State) (t freq : Nat) (counts : List Nat), s.runs →
     let ws := (counts.zip s.dev.expected).zipIdx
     (s.dev.rd CK Reg.CK.ROOT_LOCK = 1 →
       Does (.clockMonitorWindow t counts) s (fun d => d = s.dev.reach t)
         (seqs [forEach ws fun x => clockWindow x.2 x.1.1 x.1.2,
           inOneCycle CK ((ws.filter fun x => !windowOk x.1.1 x.1.2 && s.dev.clockUsed x.2).map fun x =>
             (x.2 + 1, condStart CK (x.2 + 1) 0 devScope [])), showClockCause]) ∧
       Does (.rcFreqMeasure t freq) s fun d =>
         d.rd CK Reg.CK.RC_FREQ = freq % 65536 ∧ OnlyRegs (s.dev.reach t) d [Reg.CK.RC_FREQ.at CK]) ∧
     s.dev.expected = [800, 640, 320, if s.dev.rd CK Reg.CK.DSP_SLOW ≠ 0 then 10 else 160, 64, 40, 25,
       if s.dev.rd CK Reg.CK.HK_HALF ≠ 0 then 8 else 16] ∧
     (s.dev.rd CK Reg.CK.ROOT_LOCK = 0 →
       Does (.clockMonitorWindow t counts) s (fun d => d = s.dev) showClockCause ∧
       Does (.rcFreqMeasure t freq) s fun d => d = s.dev))

/-- Alignment (R28): while it is armed, the second edge of a pair exactly SYSREF_PERIOD apart is stamped t + J, with J = (P − t
mod P) mod P, so Device Time is a multiple of the period there; ALIGNED sets and alignment disarms. Any other edge is remembered.
Wall time advances with Device Time (R32). A SYSREF edge while the root is locked (R28, R29, R494): it is counted and repeated on
SYSREF_OUT 8 dt later with the pulse's own width; then alignment takes it, an aligned Time Base checks it, EDGE_DT holds its
stamp, and a sync event that waited for it takes place. While the root is not locked no edge is sampled. A host write of
ALIGN_CTRL.ARM (R28, R31, R54): rejected with MODE outside Banked and Service; there it arms alignment, and while the alignment of
R31 is armed it changes nothing. One while an alignment that a write armed waits is rejected with BUSY (the model's choice, log
entry 22). -/
def Obligations.AlignmentIsArmedAndStamped : Prop :=
  (∀ (d : Dev) (t per : Nat), d.rd TB Reg.TB.SYSREF_PERIOD = per → per ≠ 0 → d.dt = t →
     alignJump t per < per ∧ (t + alignJump t per) % per = 0 ∧
     (d.rd TB Reg.TB.ALIGN_ARMED = 0 → (alignEdge t).run d = d) ∧
     (d.rd TB Reg.TB.ALIGN_ARMED ≠ 0 →
       (d.base.prevEdge = some (t - per) ∧ per ≤ t → t + alignJump t per ≤ dtMax → ∃ d', (alignEdge t).run d =
           (seqs [auditRec TB 0x41 (leBytes 8 t ++ leBytes 4 (alignJump t per)), restartAligned]).run d' ∧
         d'.clock = d.clock.advance (alignJump t per) ∧ d'.dt = t + alignJump t per ∧
         d'.rd TB Reg.TB.ALIGN_JUMP = alignJump t per % 2 ^ Reg.TB.ALIGN_JUMP.width ∧ d'.rd TB Reg.TB.ALIGNED = 1 ∧ d'.rd TB Reg.TB.ALIGN_ARMED = 0 ∧
         d'.base.autoSync = true) ∧
       ((∀ p, d.base.prevEdge = some p → p + per ≠ t) →
         (alignEdge t).run d = { d with base := { d.base with prevEdge := some t } }))) ∧
  (∀ (s : State) (t high : Nat), s.runs →
     (s.dev.rd CK Reg.CK.ROOT_LOCK = 1 → Does (.sysrefEdge t high) s (fun d =>
       d.rd TB Reg.TB.SYSREF_CNT = (s.dev.rd TB Reg.TB.SYSREF_CNT + 1) % 2 ^ Reg.TB.SYSREF_CNT.width ∧
       d.out = .sysrefOut (t + 8) high :: s.dev.out ∧ d.clock = (s.dev.reach t).clock ∧
       SameRegs s.dev d [Reg.TB.SYSREF_CNT.at TB] ∧ d = { s.dev with regs := d.regs, out := d.out, clock := d.clock })
       (seqs [alignEdge t, withDev fun e => seqs [phaseCheck e.dt, putLive TB Reg.TB.EDGE_DT_LO e.dt,
         syncAtEdge s.dev.base.autoSync (s.dev.syncDue t)], showClockCause])) ∧
     (s.dev.rd CK Reg.CK.ROOT_LOCK = 0 → Does (.sysrefEdge t high) s (fun d => d = s.dev) showClockCause)) ∧
  (∀ s : State, s.runs →
     (s.dev.mode ≠ .banked → s.dev.mode ≠ .service → Does .alignArm s fun d => Rejected s.dev d TB 0x11C 4) ∧
     (s.dev.mode = .banked ∨ s.dev.mode = .service →
       (s.dev.rd TB Reg.TB.ALIGN_ARMED = 0 → Does .alignArm s fun d => d.rd TB Reg.TB.ALIGN_ARMED = 1 ∧
         d.base = { s.dev.base with prevEdge := none, relockAlign := false } ∧ SameRegs s.dev d [Reg.TB.ALIGN_ARMED.at TB] ∧
         d = { s.dev with regs := d.regs, base := d.base }) ∧
       (s.dev.rd TB Reg.TB.ALIGN_ARMED ≠ 0 → s.dev.base.relockAlign = true → Does .alignArm s fun d => d = s.dev) ∧
       (s.dev.rd TB Reg.TB.ALIGN_ARMED ≠ 0 → s.dev.base.relockAlign = false →
         Does .alignArm s fun d => Rejected s.dev d TB 0x11C 6)))

/-- Sync commands and edges (R136 to R138). SYNC-DECIMATORS, once fetched and checked, waits for an edge at least 64 dt away and
at most 2 × SYSREF_PERIOD, is REFUSED without alignment (with DETAIL 0, the model's choice, log entry 24) and ends with MODE in
Survey, Carry and Backoff, and in TIMEOUT when no edge comes. A SYNC_IN edge gives a sync event 3 dt later, and in Survey, Carry
and Backoff it is ignored, counted and recorded. A sync event on one cell (R135, R137): the grid origin is t_s, rounded up to even
where a link carries S16N; blocks count from 0, the event is stamped and counted, SETTLING runs for the settling time, and in
Service a live cell is muted until it ends. The delay lines keep their contents. Events of one dt are one (R138). A cell's
settling interval ends: SETTLING clears, and with it the mute of a sync event in Service (R135, R137). -/
def Obligations.SyncRequests : Prop :=
  (∀ (s : State) (tag : Nat) (c : Cmd), s.runs → s.dev.passed tag 0x0B = some c →
    (s.dev.modeIn [.survey, .carry, .backoff] = true → Does (.syncDecimators tag) s (fun d => d = s.dev) (complete tag stMode 0 0)) ∧
    (s.dev.modeIn [.survey, .carry, .backoff] = false →
      (s.dev.rd TB Reg.TB.ALIGNED ≠ 0 → Does (.syncDecimators tag) s (fun d => d = { s.dev with base := { s.dev.base with
        syncWait := s.dev.base.syncWait ++ [(tag, s.dev.dt + 64, s.dev.dt + 2 * s.dev.rd TB Reg.TB.SYSREF_PERIOD)] } })
        (takeUp tag)) ∧
      (s.dev.rd TB Reg.TB.ALIGNED = 0 → Does (.syncDecimators tag) s (fun d => d = s.dev) (complete tag stRefused 0 0)))) ∧
  (∀ (s : State) (tag t1 t2 : Nat), s.runs → (s.dev.base.syncWait.find? fun w => w.1 == tag) = some (tag, t1, t2) →
    Does (.syncDecimatorsTimeout tag) s (fun d => d = { s.dev.reach t2 with base := { s.dev.base with
      syncWait := s.dev.base.syncWait.filter fun w => w.1 != tag } }) (complete tag stTimeout 0 0)) ∧
  (∀ (s : State) (t : Nat), s.runs → s.dev.rd CK Reg.CK.ROOT_LOCK = 1 →
    (s.dev.modeIn [.kindling, .banked, .ember, .service] = true →
      Does (.syncInEdge t) s (fun d => d = s.dev.reach (t + 3)) (seqs [syncEvent (t + 3), showClockCause])) ∧
    (s.dev.modeIn [.survey, .carry, .backoff] = true →
      Does (.syncInEdge t) s (fun d => d = s.dev.reach (t + 3))
        (seqs [forEach s.dev.allCells fun c => inc c Reg.BC.SYNC_IGN_CNT, noteRec 0xFFFF 0x40 (leBytes 8 (t + 3)),
          showClockCause]))) ∧
  (∀ (d : Dev) (c ts : Nat), isUnitOf 0x03 32 c = true →
    ∃ d', (syncCell c ts).run d =
        (seqs [noteRec c 0x41 (leBytes 8 ts), putB c Reg.BC.SETTLING true, startTimerAt (.settle c) (ts + d.settling c), respSwitch c ts, floorProbe c,
          setGate c (!d.is c Reg.BC.SQ_EN)]).run d' ∧
      (d'.cellAt c).tg = some (if d.evenGrid c = true then ts + ts % 2 else ts) ∧ (d'.cellAt c).blocks = 0 ∧
      d'.plane = d.plane ∧
      (d'.cellAt c).syncMute = ((d.cellAt c).syncMute || (d.mode == .service && d.live? c)) ∧
      d'.rd c Reg.BC.BLK_CNT = 0 ∧ d'.live c Reg.BC.SYNC_DT_LO = ts % 2 ^ 64 ∧ Counts d d' c Reg.BC.SYNC_CNT ∧
      (∀ c', c' ≠ c → d'.cellAt c' = d.cellAt c')) ∧
  (∀ (d : Dev) (ts : Nat), d.base.lastSync = some ts → (syncEvent ts).run d = d) ∧
  (∀ (s : State) (c t0 : Nat), s.runs → s.dev.deadline (.settle c) = some t0 →
     Does (.settlingEnd c) s fun d => d.rd c Reg.BC.SETTLING = 0 ∧ (d.cellAt c).syncMute = false ∧
       d.deadline (.settle c) = none ∧ d.clock = (s.dev.reach t0).clock ∧ SameRegs s.dev d [Reg.BC.SETTLING.at c])

/-! ### The Host Port -/

/-- Doorbells of an enabled queue pair that has not stopped (R354): a value inside the ring is the new SQ tail or CQ head; one at
or above the ring's size stops the queue pair with cause 4. A disabled queue pair discards the write. ENABLE of a queue pair rises
and falls (R354, R371, R374): bases, sizes and vector are latched, and head, tail and phase start over; when it falls, STOPPED
clears and outstanding completions are discarded. -/
def Obligations.DoorbellsAndQueuePairs : Prop :=
  (∀ (s : State) (q v : Nat), s.runs →
     (s.dev.queueOn q = true →
       (v % 2048 < (s.dev.queueAt q).sqSize → Does (.sqDoorbell q v) s fun d =>
         d = s.dev.apply (.queue q { s.dev.queueAt q with sqTail := v % 2048 })) ∧
       ((s.dev.queueAt q).sqSize ≤ v % 2048 → Does (.sqDoorbell q v) s (fun d => d = s.dev) (stopQueue q 4)) ∧
       (v % 2048 < (s.dev.queueAt q).cqSize → Does (.cqDoorbell q v) s fun d =>
         d = s.dev.apply (.queue q { s.dev.queueAt q with cqHead := v % 2048 })) ∧
       ((s.dev.queueAt q).cqSize ≤ v % 2048 → Does (.cqDoorbell q v) s (fun d => d = s.dev) (stopQueue q 4))) ∧
     (s.dev.queueOn q = false → Does (.sqDoorbell q v) s (fun d => d = s.dev) ∧ Does (.cqDoorbell q v) s fun d => d = s.dev)) ∧
  (∀ (s : State) (q : Nat), s.runs → q < 16 →
     (s.dev.rd HP Reg.HP.Q_ENABLE q = 0 → Does (.queueEnable q) s fun d =>
       d.rd HP Reg.HP.Q_ENABLE q = 1 ∧ d.rd HP Reg.HP.Q_SQ_HEAD q = 0 ∧ d.rd HP Reg.HP.Q_CQ_TAIL q = 0 ∧
       (d.queueAt q).sqSize = s.dev.rd HP Reg.HP.Q_SQ_SIZE q ∧ (d.queueAt q).cqSize = s.dev.rd HP Reg.HP.Q_CQ_SIZE q ∧
       (d.queueAt q).vec = s.dev.rd HP Reg.HP.Q_CQ_VEC q ∧ (d.queueAt q).sqTail = 0 ∧ (d.queueAt q).cqHead = 0 ∧
       (d.queueAt q).sqBase = 4096 * s.dev.rd HP Reg.HP.Q_SQ_BASE_LO q + 2 ^ 32 * s.dev.rd HP Reg.HP.Q_SQ_BASE_HI q ∧
       (d.queueAt q).cqBase = 4096 * s.dev.rd HP Reg.HP.Q_CQ_BASE_LO q + 2 ^ 32 * s.dev.rd HP Reg.HP.Q_CQ_BASE_HI q ∧
       (d.queueAt q).phase = true ∧ (∀ p, p ≠ q → d.queueAt p = s.dev.queueAt p)) ∧
     (s.dev.rd HP Reg.HP.Q_ENABLE q ≠ 0 → Does (.queueEnable q) s fun d => d = s.dev) ∧
     (s.dev.rd HP Reg.HP.Q_ENABLE q = 0 → Does (.queueDisable q) s fun d => d = s.dev) ∧
     (s.dev.rd HP Reg.HP.Q_ENABLE q ≠ 0 → Does (.queueDisable q) s (fun d =>
       d.rd HP Reg.HP.Q_ENABLE q = 0 ∧ d.rd HP Reg.HP.Q_STOPPED q = 0 ∧ d.rd HP Reg.HP.Q_STOP_CAUSE q = 0 ∧
       d.deadline (.coalesce q) = none ∧ d.cmds = s.dev.cmds) (discardQueue q)))

/-- The fetch of a command (R358, R360): from the queue pair whose turn it is, the head moves on by one, and the command waits for
its start, or completes at once with BAD_OPCODE, BAD_FIELD or TAG_CONFLICT. Without a queue pair to serve, or while DMA is held,
nothing is fetched. The write of a completion (R354, R356, R364, R374): the data, then the entry with the ring's phase, then the
message: at once without coalescing or when its count is reached, else by the coalescing timer. While DMA is held, or nothing is
complete, nothing is written. -/
def Obligations.CommandsAreFetchedAndCompleted : Prop :=
  (∀ (s : State) (e : List Byte) (q : Nat), s.runs → s.dev.nextQueue = some q → s.dev.dmaUp = true → e.length = 64 →
    let head := (s.dev.rd HP Reg.HP.Q_SQ_HEAD q + 1) % (s.dev.queueAt q).sqSize
    let after : Dev → Prop := fun d => d.hp.lastQ = q ∧ d.rd HP Reg.HP.Q_SQ_HEAD q = head % 2 ^ Reg.HP.Q_SQ_HEAD.width ∧
      d.rd HP Reg.HP.Q_CMD_CNT q = (s.dev.rd HP Reg.HP.Q_CMD_CNT q + 1) % 2 ^ Reg.HP.Q_CMD_CNT.width ∧ d.cmds = s.dev.cmds
    let c : Cmd := { tag := num e 2 2, q := q, sqHead := head, entry := e, state := .waiting,
                     conflict := (s.dev.cmdOf (num e 2 2)).isSome }
    (s.dev.fetchCheck e = none → Does (.commandFetch e) s after (setCmds fun cs => cs ++ [c])) ∧
    (∀ st det, s.dev.fetchCheck e = some (st, det) → Does (.commandFetch e) s after
        (seqs [when (st == stTagConflict) (inc HP Reg.HP.TAG_CONF_CNT),
          setCmds fun cs => cs ++ [{ c with state := .done st det 0, order := s.dev.hp.doneCnt }],
          modHp fun h => { h with doneCnt := h.doneCnt + 1 }]))) ∧
  (∀ (s : State) (e : List Byte), s.runs → s.dev.nextQueue = none ∨ s.dev.dmaUp = false →
    Does (.commandFetch e) s fun d => d = s.dev) ∧
  (∀ (s : State) (c : Cmd), s.runs → s.dev.nextDone = some c → s.dev.dmaUp = true →
    let x := s.dev.queueAt c.q
    let tail := s.dev.rd HP Reg.HP.Q_CQ_TAIL c.q
    let next := (tail + 1) % x.cqSize
    Does .completionWrite s (fun d =>
        d.out = .completion c.q tail c.tag c.outcome.1 c.outcome.2.1 c.sqHead (b2n x.phase) c.outcome.2.2 ::
          ((seqs [when (!c.data.isEmpty) (hostWrite c.addr (c.data.take c.len)),
            hostWrite (x.cqBase + 16 * tail) (c.entryBytes x.phase)]).run s.dev).out ∧
        d.rd HP Reg.HP.Q_CQ_TAIL c.q = next % 2 ^ Reg.HP.Q_CQ_TAIL.width ∧
        SameRegs s.dev d [Reg.HP.Q_CQ_TAIL.at HP c.q] ∧
        d.queueAt c.q = { x with phase := if next = 0 then !x.phase else x.phase, coal := x.coal + 1 } ∧ d.cmds = s.dev.cmds)
      (seqs [setCmds (List.filter fun y => y.order != c.order || !y.isDone),
        if s.dev.rd HP Reg.HP.Q_COAL_US c.q = 0 ∨ x.coal + 1 ≥ s.dev.rd HP Reg.HP.Q_COAL_CNT c.q then sendCoalesced c.q
        else startIfIdle (.coalesce c.q) (dtOfUs (s.dev.rd HP Reg.HP.Q_COAL_US c.q))])) ∧
  (∀ s : State, s.runs → s.dev.nextDone = none ∨ s.dev.dmaUp = false → Does .completionWrite s fun d => d = s.dev)

/-- The coalescing timer runs out and the message is sent (R374); an unmasked vector's pending message is sent (R353); Bus Master
Enable clears (R364). A failed access of host memory (R365, R374): counted; kind and address held from the first one until DMA_ERR
is cleared; then the source fires, the command ends with DMA_ERROR, or the queue pair stops. -/
def Obligations.MessagesAndDmaFailures : Prop :=
  (∀ (s : State) (q t0 : Nat), s.runs → s.dev.deadline (.coalesce q) = some t0 →
    Does (.coalesceTimerExpiry q) s (fun d => d.deadline (.coalesce q) = none ∧ d.clock = (s.dev.reach t0).clock ∧
      d.regs = s.dev.regs) (sendCoalesced q)) ∧
  (∀ (s : State) (v : Nat), s.runs → Does (.msixVectorUnmask v) s (fun d => d.hp.masked.testBit v = false ∧
      (∀ w, w ≠ v → d.hp.masked.testBit w = s.dev.hp.masked.testBit w) ∧ d.regs = s.dev.regs) flushMsix) ∧
  (∀ s : State, s.runs → Does .busMasterEnableClear s fun d =>
    d.rd HP Reg.HP.BME = 0 ∧ OnlyRegs s.dev d [Reg.HP.BME.at HP]) ∧
  (∀ (s : State) (what n kind a : Nat), s.runs → kind < 8 →
     Does (.dmaAccessFail what n kind a) s (fun d =>
       d.rd HP Reg.HP.DMA_ERR_CNT = min 65535 (s.dev.rd HP Reg.HP.DMA_ERR_CNT + 1) ∧ d.rd HP Reg.HP.DMA_ERR ≠ 0 ∧
       (s.dev.rd HP Reg.HP.DMA_ERR = 0 → d.rd HP Reg.HP.ERR_KIND = kind ∧ d.live HP Reg.HP.ERR_ADDR_LO = a % 2 ^ 64) ∧
       (s.dev.rd HP Reg.HP.DMA_ERR ≠ 0 → d.rd HP Reg.HP.ERR_KIND = s.dev.rd HP Reg.HP.ERR_KIND ∧
         d.live HP Reg.HP.ERR_ADDR_LO = s.dev.live HP Reg.HP.ERR_ADDR_LO))
       (seqs [fireEvent HP 2 noScope [],
         if what = 0 then seqs [complete n stDmaError kind 0,
           modCmd n fun c => { c with state := (if c.isDone then .done stDmaError kind 0 else c.state), data := [] }]
         else when ((what == 1 || what == 2) && s.dev.queueOn n) (stopQueue n what)]))

/-- The UCIe link (R349, R350, R372): down or in retraining it loses LINK_UP, WIDTH and SPEED and is counted; in D3hot it only
notes that; the replayed flits that it reports count (the model's choice of the moment, log entry 173). Up, at a width and rate
that the bonding supports, it shows its width, rate and repaired lanes, the conditions follow, and held writes and messages go
out. A Function Level Reset (R350): after the taps are closed and the queues' completions discarded, no queue pair is enabled, no
tap is open, every vector is masked, Bus Master Enable is 0, and FLR_CNT has counted. -/
def Obligations.LinkAndFunctionReset : Prop :=
  (∀ (s : State) (kind replays : Nat), s.runs → kind < 2 →
    Does (.ucieLinkDown kind replays) s (fun d => d.rd HP Reg.HP.LINK_UP = 0 ∧ d.rd HP Reg.HP.WIDTH = 0 ∧ d.rd HP Reg.HP.SPEED = 0 ∧
      d.rd HP Reg.HP.RETRAIN_CNT = (if kind = 1 ∧ s.dev.rd HP Reg.HP.LINK_UP ≠ 0 then
        min 65535 (s.dev.rd HP Reg.HP.RETRAIN_CNT + 1) else s.dev.rd HP Reg.HP.RETRAIN_CNT) ∧
      d.rd HP Reg.HP.DOWN_CNT = (if kind = 0 ∧ s.dev.rd HP Reg.HP.LINK_UP ≠ 0 then
        min 65535 (s.dev.rd HP Reg.HP.DOWN_CNT + 1) else s.dev.rd HP Reg.HP.DOWN_CNT) ∧
      d.rd HP Reg.HP.RETRY_CNT = min (2 ^ Reg.HP.RETRY_CNT.width - 1) (s.dev.rd HP Reg.HP.RETRY_CNT + replays) ∧
      OnlyRegs s.dev d ([Reg.HP.LINK_UP, Reg.HP.WIDTH, Reg.HP.SPEED, Reg.HP.RETRAIN_CNT, Reg.HP.DOWN_CNT,
        Reg.HP.RETRY_CNT].map (·.at HP))) (condStart HP 3 0 noScope [])) ∧
  (∀ (s : State) (replays : Nat), s.runs → Does (.ucieLinkDown 2 replays) s fun d => d.rd HP Reg.HP.D3 = 1 ∧
    d.rd HP Reg.HP.RETRY_CNT = min (2 ^ Reg.HP.RETRY_CNT.width - 1) (s.dev.rd HP Reg.HP.RETRY_CNT + replays) ∧
    OnlyRegs s.dev d [Reg.HP.D3.at HP, Reg.HP.RETRY_CNT.at HP]) ∧
  (∀ (s : State) (width speed repaired : Nat), s.runs →
    (speed = 4 ∨ speed = 8 ∨ speed = 16) →
    (if s.dev.variant.bondS = true then width = 16 ∧ repaired = 0 else width = 64 ∨ width = 32) →
    Does (.ucieLinkUp width speed repaired) s (fun d =>
      d.rd HP Reg.HP.LINK_UP = 1 ∧ d.rd HP Reg.HP.D3 = 0 ∧ d.rd HP Reg.HP.BME = 1 ∧
      d.rd HP Reg.HP.WIDTH = width ∧ d.rd HP Reg.HP.SPEED = speed ∧
      d.rd HP Reg.HP.REPAIRED = repaired % 2 ^ Reg.HP.REPAIRED.width ∧
      OnlyRegs s.dev d ([Reg.HP.LINK_UP, Reg.HP.D3, Reg.HP.BME, Reg.HP.WIDTH, Reg.HP.SPEED, Reg.HP.REPAIRED].map (·.at HP)))
    (seqs [condEnd HP 3 0, condSet (decide (width < (if s.dev.variant.bondS then 16 else 64) ∨ speed < 16)) HP 4 0 noScope [],
      flushWrites, flushMsix])) ∧
  (∀ (s : State) (width speed repaired : Nat), s.runs → s.dev.linkTrains width speed repaired = false →
    Does (.ucieLinkUp width speed repaired) s fun d => d = s.dev) ∧
  (∀ s : State, s.runs →
     let d₁ := (seqs [forEach s.dev.openTaps closeTap,
       forEach (List.range 16) fun q => seqs [stopTimer (.coalesce q), discardQueue q]]).run s.dev
     Does .flr s (fun d =>
       (∀ q < 16, d.rd HP Reg.HP.Q_ENABLE q = 0) ∧ (∀ t < 64, d.rd HP Reg.HP.TAP_STATE t = 0) ∧ d.queue = [] ∧ d.tap = [] ∧
       d.rd HP Reg.HP.BME = 0 ∧ d.rd HP Reg.HP.D3 = 0 ∧ d.hp.masked = 2 ^ 128 - 1 ∧ d.hp.pba = 0 ∧ d.hp.heldWrites = [] ∧
       d.rd HP Reg.HP.FLR_CNT = min (2 ^ Reg.HP.FLR_CNT.width - 1) (d₁.rd HP Reg.HP.FLR_CNT + 1) ∧
       d.rd HP Reg.HP.LINK_UP = d₁.rd HP Reg.HP.LINK_UP ∧ d.cmds = d₁.cmds) (setCmds id))

/-- SET-WALLCLOCK (R32, R362): accepted, it waits for T_EFF, or 64 dt where that is 0, and a second one meanwhile is BUSY; at
t_eff wall time takes the value, the remainder clears and the epoch counts, with a CLOCK_SET record and the command's success. -/
def Obligations.WallClockIsSet : Prop :=
  (∀ (s : State) (tag : Nat) (c : Cmd), s.runs → s.dev.passed tag 0x0C = some c →
    (s.dev.base.pendingWall = [] → Does (.setWallclock tag) s (fun d => d = { s.dev with base := { s.dev.base with pendingWall :=
      [{ tag := tag, wall := { sec := c.par 28 4, ns := c.par 24 4 },
         tEff := if c.par 32 8 = 0 then s.dev.dt + 64 else c.par 32 8 }] } }) (takeUp tag)) ∧
    (s.dev.base.pendingWall ≠ [] → Does (.setWallclock tag) s (fun d => d = s.dev) (complete tag stBusy 0 0))) ∧
  (∀ (s : State) (w : WallPending) (rest : List WallPending), s.runs → s.dev.base.pendingWall = w :: rest →
    s.dev.base.counting = true →
    Does .wallclockApply s (fun d => d.clock.wall = w.wall ∧ d.clock.rem = 0 ∧
      d.clock.epoch = (s.dev.clock.epoch + 1) % 65536 ∧ d.dt = (s.dev.reach w.tEff).dt ∧ d.rd TB Reg.TB.WALL_VALID = 1 ∧
      d.base = { s.dev.base with pendingWall := rest } ∧ SameRegs s.dev d [Reg.TB.WALL_VALID.at TB]) (seqs [clockSetRec (s.dev.reach w.tEff).clock, complete w.tag stSuccess 0 w.tEff]))

/-- Taps (R366 to R370). TAP-OPEN of an open tap, above the limit, or of a source that is not there is REFUSED with detail 1, 2 or
3; else the tap opens with its source, format, point and ring. TAP-CLOSE closes it. The consumer doorbell moves CONS alone. A
segment of an open tap (R366, R368, R370), once the lanes have brought all its samples: with room in its ring, not paused and with
DMA running it is written, header first, and counted, and PROD moves on by its size; else it is counted as lost and PROD stays. A
segment still in progress waits; a closed tap has none. -/
def Obligations.TapsAndTheirSegments : Prop :=
  (∀ (s : State) (tag : Nat) (c : Cmd), s.runs → s.dev.passed tag 0x11 = some c → c.par 26 1 < 64 →
    let t := c.par 26 1
    let u := c.par 24 2
    let fits := (s.dev.openTaps.map s.dev.tapRate).foldl (· + ·) 0 + s.dev.rateOf u (c.par 28 1) ≤ s.dev.tapLimit
    (s.dev.tapOpen t = true → Does (.tapOpen tag) s (fun d => d = s.dev) (complete tag stRefused 1 0)) ∧
    (s.dev.tapOpen t = false → s.dev.sourceOk u = true → ¬fits →
      Does (.tapOpen tag) s (fun d => d = s.dev) (complete tag stRefused 2 0)) ∧
    (s.dev.tapOpen t = false → s.dev.sourceOk u = false →
      Does (.tapOpen tag) s (fun d => d = s.dev) (complete tag stRefused 3 0)) ∧
    (s.dev.tapOpen t = false → s.dev.sourceOk u = true → fits → Does (.tapOpen tag) s (fun d =>
      d.tapOpen t = true ∧ d.rd HP Reg.HP.TAP_SOURCE t = u ∧ d.rd HP Reg.HP.TAP_PROD t = 0 ∧ d.rd HP Reg.HP.TAP_CONS t = 0 ∧
      d.rd HP Reg.HP.TAP_SEGMENTS t = 0 ∧ d.rd HP Reg.HP.TAP_LOST t = 0 ∧ (d.tapAt t).ring = c.addr ∧
      (d.tapAt t).statusAt = c.par 32 8 ∧ d.rd HP Reg.HP.TAP_FORMAT t = c.par 28 1 % 2 ^ Reg.HP.TAP_FORMAT.width ∧
      d.rd HP Reg.HP.TAP_POINT t = c.par 27 1 % 2 ^ Reg.HP.TAP_POINT.width ∧ d.rd HP Reg.HP.TAP_STATE t = 1 ∧
      (∀ t', t' ≠ t → d.tapAt t' = s.dev.tapAt t')) (complete tag stSuccess 0 s.dev.dt))) ∧
  (∀ (s : State) (tag : Nat) (c : Cmd), s.runs → s.dev.passed tag 0x12 = some c →
    Does (.tapClose tag) s (fun d => d = (when (s.dev.tapOpen (c.par 24 1)) (closeTap (c.par 24 1))).run s.dev)
      (complete tag stSuccess 0 (s.dev.rd HP Reg.HP.TAP_SEGMENTS (c.par 24 1)))) ∧
  (∀ (s : State) (t v : Nat), s.runs → t < 64 → v < 2 ^ 32 → Does (.tapConsumerDoorbell t v) s fun d =>
    d.rd HP Reg.HP.TAP_CONS t = v ∧ OnlyRegs s.dev d [Reg.HP.TAP_CONS.at HP t]) ∧
  (∀ (s : State) (t : Nat) (feed : Feed), s.runs → t < 64 →
     let e := (runPlane feed).run s.dev
     let x := e.tapAt t
     let u := e.rd HP Reg.HP.TAP_SOURCE t
     let fmt := e.rd HP Reg.HP.TAP_FORMAT t
     let size := 64 + segSamples u * (4 + 4 * fmt)
     let used := (x.prod + 2 ^ 32 - e.rd HP Reg.HP.TAP_CONS t) % 2 ^ 32
     let room := used + size ≤ e.rd HP Reg.HP.TAP_RING_BYTES t
     (∀ xs left, e.tapOpen t = true → e.nextSegment t = some (xs, left) →
       let e₁ := { e with plane := { e.plane with taps := e.plane.taps.put {} t left } }
       (e.rd HP Reg.HP.TAP_STATE t ≠ 2 → e.dmaUp = true → room → Does (.tapSegment t feed) s (fun d =>
         d.out = ((ringWrite e₁ t (segHeader e₁ t (xs.head?.getD {}) ++ tapSamples u fmt xs)).run e₁).out ∧
         d.rd HP Reg.HP.TAP_PROD t = (x.prod + size) % 2 ^ 32 ∧
         d.rd HP Reg.HP.TAP_SEGMENTS t = (e.rd HP Reg.HP.TAP_SEGMENTS t + 1) % 2 ^ Reg.HP.TAP_SEGMENTS.width ∧
         (d.tapAt t).seg = x.seg + 1 ∧ (d.tapAt t).skipped = 0 ∧
         SameRegs e d [Reg.HP.TAP_PROD.at HP t, Reg.HP.TAP_SEGMENTS.at HP t])
         (seqs [tapStatus t, when (decide (2 * used ≤ e.rd HP Reg.HP.TAP_RING_BYTES t ∧
           2 * (used + size) > e.rd HP Reg.HP.TAP_RING_BYTES t)) (sendMsix (16 + t))])) ∧
       ((e.rd HP Reg.HP.TAP_STATE t = 2 ∨ e.dmaUp = false ∨ ¬room) → Does (.tapSegment t feed) s (fun d =>
         d.rd HP Reg.HP.TAP_LOST t = min (2 ^ Reg.HP.TAP_LOST.width - 1) (e.rd HP Reg.HP.TAP_LOST t + 1) ∧
         (d.tapAt t).seg = x.seg + 1 ∧ (d.tapAt t).skipped = x.skipped + 1 ∧ d.out = e.out ∧
         SameRegs e d [Reg.HP.TAP_LOST.at HP t])
         (when (x.lossAt.all fun l => decide (e.dt ≥ l + dtOfMs 1)) (seqs [
           modTap t fun x => { x with lossAt := some e.dt }, fireEvent HP 5 noScope [t]])))) ∧
     (e.tapOpen t = false ∨ e.nextSegment t = none → Does (.tapSegment t feed) s fun d => d = e))

/-! ### The Woodshed -/

/-- Discovery ends, once per reset while the root is locked (R378, R379): a foreign medium or one without P0's two devices leaves
its state and raises the medium source; an unlabelled one is formatted: P0 and the records are empty, labels and a journal page
are written, FORMATTED sets and a record is written; a known one goes on, with the devices that are missing lost and its defect
list's zones BAD. A usable medium reads READY. A rebuild of the zone map ends likewise with MEDIUM_STATE 1 (R37). What a page read
finds (R382, R383, R390, R391), from the symbols that differ from what was written: a page that decodes counts its corrected
symbols, and waits for its refresh when there are REFRESH_SYM of them; a Lost page is counted, raises its source, reads Lost from
then on and waits to be written back as Lost. An unchanged frame is Clean. Reads of the medium while it can be read (R383, R391):
a page read by a logical address, and the patrol's next in-use frame with its progress: at the end of a pass PASS_CNT counts and
the pass starts over. The device has answered. While the medium cannot be read neither takes place, nor does the patrol of a zone
that is not in use. -/
def Obligations.DiscoveryAndReads : Prop :=
  (∀ (s : State) (found : List FoundDevice) (setId : List Byte), s.runs →
     let fs := s.dev.reachable found
     let st := classify s.dev.cy.devId fs
     let unsup := (found.filter fun x => !x.usable).map fun x => x.ch * 2 + x.cs
     (s.dev.rd CK Reg.CK.ROOT_LOCK ≠ 0 → s.dev.rd WS Reg.WS.MEDIUM_STATE = 0 → s.dev.med.rebuilding = false →
       (4 ≤ st → Does (.discoveryDone found setId) s (fun d => d.rd WS Reg.WS.MEDIUM_STATE = st % 8 ∧
         SameRegs s.dev d [Reg.WS.MEDIUM_STATE.at WS] ∧
         d = { s.dev with regs := d.regs, med := { s.dev.med with unsup := unsup } }) (condStart WS 0 0 devScope [])) ∧
       (st = 2 → Does (.discoveryDone found setId) s (fun d =>
           d = { s.dev with med := { formatted setId fs with unsup := unsup }, p0 := {}, store := {} })
         (seqs [writeLabels setId fs, writeJournal true true 0 [], putB WS Reg.WS.FORMATTED true,
           noteRec WS 0x40 (setId.take 16), mediumReady])) ∧
       (st = 1 → Does (.discoveryDone found setId) s (fun d => d = { s.dev with med := { s.dev.med with
             unsup := unsup, setId := ((fs.filterMap (·.label)).head?.map (·.setId)).getD s.dev.med.setId } })
         (seqs [forEach (s.dev.med.devices.filter fun x => !(fs.any fun y => y.ch == x.ch && y.cs == x.cs) &&
           !s.dev.med.failed.contains (x.ch * 2 + x.cs)) deviceLost,
           forEach (fs.flatMap FoundDevice.badZones) badZone, mediumReady]))) ∧
     (s.dev.med.rebuilding = true → Does (.discoveryDone found setId) s fun d =>
       d.rd WS Reg.WS.MEDIUM_STATE = 1 ∧ d.rd WS Reg.WS.WRITES_HELD = 0 ∧
       SameRegs s.dev d [Reg.WS.MEDIUM_STATE.at WS, Reg.WS.WRITES_HELD.at WS] ∧
       d = { s.dev with regs := d.regs, med := { s.dev.med with rebuilding := false } }) ∧
     (s.dev.med.rebuilding = false → s.dev.rd CK Reg.CK.ROOT_LOCK = 0 ∨ s.dev.rd WS Reg.WS.MEDIUM_STATE ≠ 0 →
       Does (.discoveryDone found setId) s fun d => d = s.dev)) ∧
  ((∀ (d : Dev) (lz p n : Nat) (e : Errs), readSyms e = some n →
     let d' := (readOutcome lz p e).run d
     d'.rd WS Reg.WS.CORR_SYM = (if n > 0 then min (2 ^ Reg.WS.CORR_SYM.width - 1) (d.rd WS Reg.WS.CORR_SYM + n)
       else d.rd WS Reg.WS.CORR_SYM) ∧
     ((lz, p) ∈ d'.med.refresh ↔ (lz, p) ∈ d.med.refresh ∨ d.rd WS Reg.WS.REFRESH_SYM ≤ n) ∧
     (∀ x, x ≠ (lz, p) → (x ∈ d'.med.refresh ↔ x ∈ d.med.refresh)) ∧
     SameRegs d d' [Reg.WS.CORR_SYM.at WS] ∧
     d' = { d with regs := d'.regs, med := { d.med with refresh := d'.med.refresh } }) ∧
   (∀ (d : Dev) (lz p : Nat) (e : Errs), readSyms e = none →
     ∃ d', (readOutcome lz p e).run d = (seqs [fireEvent WS 1 noScope [], losePage lz p, wantRefresh lz p]).run d' ∧
       d'.rd WS Reg.WS.UNCORR_CNT = min (2 ^ Reg.WS.UNCORR_CNT.width - 1) (d.rd WS Reg.WS.UNCORR_CNT + 1) ∧
       OnlyRegs d d' [Reg.WS.UNCORR_CNT.at WS]) ∧
   readSyms [] = some 0 ∧ (∀ bs : List Byte, readData bs [] = some bs) ∧
   (∀ (d : Dev) (lz p : Nat), lz / 2 ^ 20 = 4 →
     ((losePage lz p).run d).med.userPage (lz % 2 ^ 20 * 256 + p) [] = none)) ∧
  (∀ (s : State) (lz z p : Nat) (e : Errs), s.runs →
     let answered := fun h => { s.dev with med := { s.dev.med with late := s.dev.med.late.put 0 (zoneDev h) 0 } }
     let inUse := (s.dev.med.zone z).state = 1 ∨ (s.dev.med.zone z).state = 5
     let total := 257 * (s.dev.med.zones.filter fun e => e.2.state == 1 || e.2.state == 5).length
     let n := s.dev.med.patrol + 1
     (s.dev.mediaUp = true →
       (∀ h, s.dev.med.holder lz = some h →
         Does (.pageRead lz p e) s (fun d => d = (readOutcome lz p e).run (answered h))) ∧
       (s.dev.med.holder lz = none → Does (.pageRead lz p e) s (fun d => d = (readOutcome lz p e).run s.dev)) ∧
       (inUse → Does (.patrolRead z p e) s (fun d =>
           d.rd WS Reg.WS.CH_PATROL_ZONE (zoneCh z) = z % 32768 % 2 ^ Reg.WS.CH_PATROL_ZONE.width ∧
           d.rd WS Reg.WS.CH_PASS_PCT (zoneCh z) =
             (if n ≥ total then 0 else 10000 * n / total) % 2 ^ Reg.WS.CH_PASS_PCT.width ∧
           SameRegs ((readOutcome (s.dev.med.zone z).lzone p e).run (answered z)) d
             [Reg.WS.CH_PATROL_ZONE.at WS (zoneCh z), Reg.WS.CH_PASS_PCT.at WS (zoneCh z)])
         (if n ≥ total then seqs [
           incWrap WS Reg.WS.PASS_CNT, put WS Reg.WS.PASS_MIN (min 65535 ((s.dev.dt - s.dev.med.patrolAt) / dtOfS 60)),
           modMed fun m => { m with patrol := 0, patrolAt := s.dev.dt }]
         else modMed fun m => { m with patrol := n }))) ∧
     (s.dev.mediaUp = false → Does (.pageRead lz p e) s fun d => d = s.dev) ∧
     (s.dev.mediaUp = false ∨ ¬inUse → Does (.patrolRead z p e) s fun d => d = s.dev))

/-- A page write with its read-back (R381, R383, R389, R398): its frame goes to the zone that holds the logical zone, or to a free
zone that exists and is put to use for it, at the page's place and with the zone's next write sequence; a write that would open a
257th zone waits with WRITES_HELD, and one to a zone that is to be migrated waits for that. A migration that waited commits (R386,
R390, R396, R399): an exchange moves data within the channel; a retirement takes its replacement; where no source can give one and
the channel has no spare left, the worn zone stays in use. What `moveZone` makes of the two zones. A journal page is written
(R397, R398): the sequence number moves on, up to 62 waiting changes and the next zones of the snapshot are in it, and each of
those zones keeps its WEAR there and closes 1 s after its last write; a copy that cannot be written raises its condition. With
neither copy, or without the medium, nothing is written. -/
def Obligations.PagesMoveAndAreWritten : Prop :=
  (∀ (s : State) (lz p dest : Nat) (refresh : Bool) (data : List Byte) (e1 e2 : Errs), s.runs → s.dev.mediaUp = true →
     let m := s.dev.med
     let z := (m.holder lz).getD dest
     let mine := fun (x : Zone) => if (m.holder lz).isNone then { x with state := 1, lzone := lz, start := 0, gap := 256 } else x
     let x := mine (m.zone z)
     ((m.holder lz).isSome = true ∨ m.takes dest = true) →
     (m.due.any (·.1 == z) = false → (refresh = true → (lz, p) ∈ m.refresh) →
       ((m.zone z).isOpen = true ∨ m.openZones < 256 → Does (.pageWriteVerify lz p refresh data e1 e2 dest) s (fun d =>
         d.med = { (if (m.holder lz).isNone then m.setZone z mine else m) with refresh := m.refresh.filter (· != (lz, p)) } ∧
         d.out = .mediaWrite (zoneDev z) (frameAddr z (x.frameOf p)) (frameBytes data lz p (x.wseq + 1)) :: s.dev.out ∧
         d.rd WS Reg.WS.REFRESH_CNT = (if refresh = true then
           min (2 ^ Reg.WS.REFRESH_CNT.width - 1) (s.dev.rd WS Reg.WS.REFRESH_CNT + 1) else s.dev.rd WS Reg.WS.REFRESH_CNT) ∧
         SameRegs s.dev d [Reg.WS.REFRESH_CNT.at WS])
         (zoneWrite z (readSyms e1 == some 0) (readSyms e2 == some 0))) ∧
       ((m.zone z).isOpen = false → 256 ≤ m.openZones →
         Does (.pageWriteVerify lz p refresh data e1 e2 dest) s fun d => d.rd WS Reg.WS.WRITES_HELD = 1 ∧
           OnlyRegs s.dev d [Reg.WS.WRITES_HELD.at WS])) ∧
     (m.due.any (·.1 == z) = true → Does (.pageWriteVerify lz p refresh data e1 e2 dest) s fun d => d = s.dev)) ∧
  (∀ (s : State) (src dest cause : Nat) (lost : List Nat), s.runs → s.dev.mediaUp = true →
    (s.dev.med.due.find? fun x => x.1 == src) = some (src, cause) →
    let ended : Dev → Prop := fun d =>
      d = { s.dev with med := { s.dev.med with due := s.dev.med.due.filter fun x => x.1 != src } }
    (cause = 0 → s.dev.med.takes dest = true → zoneCh dest = zoneCh src →
      Does (.migrationDone src dest lost) s ended (exchange src dest)) ∧
    (cause ≠ 0 → s.dev.source src dest ≠ none → s.dev.med.takes dest = true →
      Does (.migrationDone src dest lost) s ended (retireZone src dest cause lost)) ∧
    (cause ≠ 0 → s.dev.source src dest = none → (s.dev.med.chan (zoneCh src)).spares = 0 →
      Does (.migrationDone src dest lost) s ended
        (seqs [takeReplacement src dest, setMed fun m => m.setZone src fun x => { x with state := 5 }]))) ∧
  (∀ (s : State) (src dest : Nat) (lost : List Nat), s.runs → (s.dev.med.due.find? fun x => x.1 == src) = none →
    Does (.migrationDone src dest lost) s fun d => d = s.dev) ∧
  (∀ (m : Medium) (src dest st : Nat), src ≠ dest →
    ((m.moveZone src dest st).zone dest).lzone = (m.zone src).lzone ∧ ((m.moveZone src dest st).zone dest).state = 1 ∧
    ((m.moveZone src dest st).zone src).state = st ∧ ((m.moveZone src dest st).zone src).isOpen = false ∧
    (∀ z, z ≠ src → z ≠ dest → (m.moveZone src dest st).zone z = m.zone z)) ∧
  (∀ (s : State) (okA okB : Bool), s.runs →
     let m := s.dev.med
     let cs := m.changes.take 62
     let zs := m.snapZones (126 - cs.length)
     let next := (zs.getLast?.map (· + 1)).getD 0
     (s.dev.mediaUp = true → (okA || okB) = true → Does (.journalPageWrite okA okB) s (fun d =>
         d.med = { m with jseq := m.jseq + 1, changes := m.changes.drop 62, snapNext := next
                          zones := m.zones.map fun e => if zs.contains e.1 then (e.1, { e.2 with
                            saved := e.2.wear, isOpen := e.2.isOpen && decide (s.dev.dt < e.2.lastWrite + dtOfS 1) }) else e } ∧
         d.out = ((writeJournal okA okB next (cs ++ zs.map (m.entry 1))).run s.dev).out ∧ d.regs = s.dev.regs)
       (seqs [showMedium, when (!(okA && okB)) (seqs [putB WS Reg.WS.JOURNAL_ONE true, condStart WS 8 0 devScope []]),
         withDev fun d => when (decide (d.med.openZones < 256)) (putB WS Reg.WS.WRITES_HELD false)])) ∧
     (s.dev.mediaUp = false ∨ (okA || okB) = false → Does (.journalPageWrite okA okB) s fun d => d = s.dev))

/-- A media command that does not complete within 1 ms is counted for its channel, and the third in a row loses the device and
raises its source (R389). A strobe training keeps the delay it found (R513). The host's transfers, once fetched and checked (R361,
R390, R392): outside P4 they are REFUSED (with DETAIL 0, the model's choice, log entry 24); a read delivers its pages, corrected,
or ends with MEDIA where one reads Lost; a write places each page's bytes and ends with MEDIA where one could not be verified.
While the medium cannot be reached both wait. -/
def Obligations.MediaTransfersAndTimeouts : Prop :=
  (∀ (s : State) (c k : Nat), s.runs →
    let dev := s.dev.med.devices.find? fun x => x.ch == c && x.cs == k && !s.dev.med.failed.contains (c * 2 + k)
    let n := s.dev.med.late.get 0 (c * 2 + k) + 1
    (∀ x, dev = some x → Does (.mediaCommandTimeout c k) s (fun d =>
      d.rd WS Reg.WS.CH_TIMEOUT_CNT c = min (2 ^ Reg.WS.CH_TIMEOUT_CNT.width - 1) (s.dev.rd WS Reg.WS.CH_TIMEOUT_CNT c + 1) ∧
      d.med = { s.dev.med with late := s.dev.med.late.put 0 (c * 2 + k) n } ∧
      SameRegs s.dev d [Reg.WS.CH_TIMEOUT_CNT.at WS c])
      (when (decide (n ≥ 3)) (seqs [deviceLost x, fireEvent WS 3 devScope [c, k]]))) ∧
    (dev = none → Does (.mediaCommandTimeout c k) s fun d => d = s.dev)) ∧
  (∀ (s : State) (c delay : Nat), s.runs →
    (s.dev.mediaUp = true → s.dev.med.devices.any (·.ch == c) = true → Does (.xspiDsRetrain c delay) s fun d =>
      d = { s.dev with med := { s.dev.med with strobe := s.dev.med.strobe.put 0 c delay } }) ∧
    (s.dev.mediaUp = false ∨ s.dev.med.devices.any (·.ch == c) = false → Does (.xspiDsRetrain c delay) s fun d => d = s.dev)) ∧
  (∀ (s : State) (tag : Nat) (es : List (Nat × Errs)) (c : Cmd), s.runs → s.dev.passed tag 0x20 = some c →
    let page := fun p => s.dev.med.userPage p (errsOf es p)
    (s.dev.inP4 c = false → Does (.mediaRead tag es) s (fun d => d = s.dev) (complete tag stRefused 0 0)) ∧
    (s.dev.inP4 c = true → s.dev.mediaUp = false → Does (.mediaRead tag es) s fun d => d = s.dev) ∧
    (s.dev.inP4 c = true → s.dev.mediaUp = true →
      ((∀ p ∈ c.pages, page p ≠ none) → Does (.mediaRead tag es) s (fun d =>
          d = (forEach c.pages fun p => readOutcome (4 * 2 ^ 20 + p / 256) (p % 256) (errsOf es p)).run s.dev)
        (complete tag stSuccess 0 c.len (c.pages.flatMap fun p => (page p).getD []))) ∧
      ((∃ p ∈ c.pages, page p = none) → Does (.mediaRead tag es) s (fun d => d = (forEach c.pages fun p =>
          if page p = none then
            seqs [inc WS Reg.WS.UNCORR_CNT, fireEvent WS 1 noScope [], losePage (4 * 2 ^ 20 + p / 256) (p % 256)]
          else readOutcome (4 * 2 ^ 20 + p / 256) (p % 256) (errsOf es p)).run s.dev) (complete tag stMedia 0 0)))) ∧
  (∀ (s : State) (tag : Nat) (bytes : List Byte) (bad : List Nat) (c : Cmd), s.runs → s.dev.passed tag 0x21 = some c →
    (s.dev.inP4 c = false → Does (.mediaWrite tag bytes bad) s (fun d => d = s.dev) (complete tag stRefused 0 0)) ∧
    (s.dev.inP4 c = true → s.dev.mediaUp = false → Does (.mediaWrite tag bytes bad) s fun d => d = s.dev) ∧
    (s.dev.inP4 c = true → s.dev.mediaUp = true → Does (.mediaWrite tag bytes bad) s (fun d =>
        (∀ i, i < c.len / 4096 → d.med.user.get [] (c.par 24 8 / 4096 + i) =
          (if c.par 24 8 / 4096 + i ∈ bad then [] else field bytes (4096 * i) 4096)) ∧
        (∀ p, p ∉ c.pages → d.med.user.get [] p = s.dev.med.user.get [] p) ∧
        d = { s.dev with med := { s.dev.med with user := d.med.user } })
      (if c.pages.any bad.contains then complete tag stMedia 0 0 else complete tag stSuccess 0 c.len)))

/-! ### The Event Recorder -/

/-- The oldest open record closes (R410, R412): its CHAIN is the digest of its predecessor's and its 48 bytes, and becomes the
class's head. Without an open record, or while Device Time does not count, none closes. Losses and seals. The LOSS record is a
Warning of EV, an audit record if any audit event was lost; it carries both counts and the time of the first loss, and the counts
start over (R413). A class's seal falls due over its last closed record, and the Caddy is asked to sign it where its identity is
good (R328, R414). -/
def Obligations.RecordsCloseAndLossesFallDue : Prop :=
  (∀ (s : State) (q : QSlot), s.runs → s.dev.base.counting = true →
    s.dev.ev.queue.find? (fun x => x.isOpen && x.r.seq.isSome) = some q →
    let a := q.r.audit
    let c := s.dev.ev.chain a
    let link := Config.shake256 (c.head ++ q.r.bytes48) 16
    let now := s.dev.reach (q.r.dt + openWindow)
    Does .recordClose s (fun d =>
      d.ev.chain a = { c with
        head := link, headSeq := q.r.seq.getD 0, closed := c.closed + 1
        firstClosed := if c.closed = 0 then now.dt else c.firstClosed, lastRec := some q.r } ∧
      d.ev.chain (!a) = s.dev.ev.chain (!a) ∧ d.clock = now.clock ∧ d.store = s.dev.store ∧
      (s.dev.ev.clear = none → d.ev.queue =
        s.dev.ev.queue.map fun x => if x.slot = q.slot then { x with kind := .placed link } else x))
      (when (a && q.r.code == 0x41 && q.r.source == EV) (requestSeal true))) ∧
  (∀ s : State, s.runs → s.dev.base.counting = false ∨ s.dev.ev.queue.find? (fun x => x.isOpen && x.r.seq.isSome) = none →
    Does .recordClose s fun d => d = s.dev) ∧
  (∀ s : State, s.runs → s.dev.base.counting = true → 0 < s.dev.ev.lostAud + s.dev.ev.lostOp → s.dev.ev.admits = true →
    s.dev.rd EV Reg.EV.P1_DIVERT = 0 → s.dev.rd WS Reg.WS.AUDIT_STOPPED = 0 → 9 ≤ s.dev.ev.p1Left →
    let r := Rec.stamp {
      audit := decide (s.dev.ev.lostAud > 0), sev := 1, code := 0x42, source := EV
      payload := leBytes 4 (min (2 ^ 32 - 1) s.dev.ev.lostAud) ++ leBytes 4 (min (2 ^ 32 - 1) s.dev.ev.lostOp) ++
        leBytes 8 s.dev.ev.firstLoss } s.dev
    joinNewest r s.dev.dt s.dev.ev.queue = none →
    Does .lossRecord s fun d =>
      d.ev.queue = s.dev.ev.queue ++
        [{ slot := s.dev.ev.nextSlot, r := { r with seq := if s.dev.ev.scanned then some s.dev.ev.nextSeq else none } }] ∧
      d.ev.lostAud = 0 ∧ d.ev.lostOp = 0 ∧ d.ev.firstLoss = 0) ∧
  (∀ s : State, s.runs → 0 < s.dev.ev.lostAud + s.dev.ev.lostOp → s.dev.ev.admits = true →
    Does .lossRecord s (fun d => d = (createRec {
        audit := decide (s.dev.ev.lostAud > 0), sev := 1, code := 0x42, source := EV
        payload := leBytes 4 (min (2 ^ 32 - 1) s.dev.ev.lostAud) ++ leBytes 4 (min (2 ^ 32 - 1) s.dev.ev.lostOp) ++
          leBytes 8 s.dev.ev.firstLoss }).run s.dev)
      (modEv fun e => { e with lostAud := 0, lostOp := 0, firstLoss := 0, lossFired := false })) ∧
  (∀ s : State, s.runs → s.dev.ev.lostAud + s.dev.ev.lostOp = 0 ∨ s.dev.ev.admits = false →
    Does .lossRecord s fun d => d = s.dev) ∧
  (∀ (s : State) (a : Bool), s.runs → (s.dev.ev.chain a).closed = 0 → Does (.sealDue a) s fun d => d = s.dev) ∧
  (∀ (s : State) (a : Bool) (r : Rec), s.runs → s.dev.base.counting = true → 0 < (s.dev.ev.chain a).closed →
    (s.dev.ev.chain a).lastRec = some r → (s.dev.ev.chain a).sealDue = false →
    Does (.sealDue a) s (fun d =>
      (d.ev.chain a).sealDue = true ∧ (d.ev.chain a).closed = 0 ∧ (d.ev.chain a).covered = some r ∧
      (d.ev.chain a).coveredChain = (s.dev.ev.chain a).head ∧ (d.ev.chain a).blank = decide (s.dev.rd CY Reg.CY.ID_OK = 0) ∧
      (d.ev.chain (!a)) = s.dev.ev.chain (!a) ∧ d.ev.queue = s.dev.ev.queue ∧
      d.clock = if (s.dev.ev.chain a).closed < 4096
        then (s.dev.reach ((s.dev.ev.chain a).firstClosed + openWindow)).clock else s.dev.clock)
      (when (s.dev.rd CY Reg.CY.ID_OK != 0) (requestSign (.seal a))))

/-- Commits (R416, R417). A tail shadow takes the placed slots that leave the page partial, at most once per 100 ms; a full page
takes as many as complete it. A write that fails leaves log and queue. In P2's overwrite phase one record replaces the victim;
without a victim it is dropped; a victim index that fails its check is rebuilt by a scan. A CLEAR record starts its partition
over, alone on page 0 (R421). -/
def Obligations.CommitsReachTheLog : Prop :=
  (∀ (s : State) (a ok : Bool) (qs : List QSlot), s.runs → s.dev.commits a = true →
    (s.dev.ev.ready a).take (min (s.dev.store.tailRoom a - 1) (s.dev.logRoom a)) = qs → qs ≠ [] →
    (if a then s.dev.ev.tailAt1 else s.dev.ev.tailAt2) ≤ s.dev.dt →
    (ok = true → Does (.tailShadowWrite a ok) s (fun d =>
      d.store.log a = s.dev.store.log a ++ qs.map QSlot.stored ∧ d.store.log (!a) = s.dev.store.log (!a) ∧
      d.ev.queue = (s.dev.ev.queue.filter fun q => !qs.any fun x => x.slot == q.slot) ∧
      (if a then d.ev.tailAt1 else d.ev.tailAt2) = s.dev.dt + 49152000)
      (withDev fun d => when (!a && d.logRoom false == 0) (seqs [
        modStore fun st => { st with p2Full := true }, putB EV Reg.EV.P2_OVERWRITE true]))) ∧
    (ok = false → Does (.tailShadowWrite a ok) s fun d =>
      d.store = s.dev.store ∧ d.ev.queue = s.dev.ev.queue ∧ d.regs = s.dev.regs)) ∧
  (∀ (s : State) (a ok : Bool), s.runs → s.dev.commits a = true → (a = true ∨ s.dev.store.p2Full = false) →
    let n := s.dev.store.tailRoom a
    n ≤ (s.dev.ev.ready a).length → n ≤ s.dev.logRoom a →
    (ok = true → Does (.recordPageCommit a ok false) s (fun d =>
      d.store.log a = s.dev.store.log a ++ ((s.dev.ev.ready a).take n).map QSlot.stored ∧
      d.store.log (!a) = s.dev.store.log (!a) ∧
      d.ev.hwSeq = (((s.dev.ev.ready a).take n).map fun q => q.r.seq.getD 0).foldl max s.dev.ev.hwSeq)
      (withDev fun d => when (!a && d.logRoom false == 0) (seqs [
        modStore fun st => { st with p2Full := true }, putB EV Reg.EV.P2_OVERWRITE true]))) ∧
    (ok = false → Does (.recordPageCommit a ok false) s fun d => d = s.dev)) ∧
  (∀ (s : State) (a ok : Bool), s.runs → s.dev.commits a = false →
    Does (.recordPageCommit a ok false) s (fun d => d = s.dev) ∧ Does (.tailShadowWrite a ok) s fun d => d = s.dev) ∧
  (∀ (s : State) (ok : Bool), s.runs → s.dev.commits false = true → s.dev.store.p2Full = true → s.dev.ev.ready false ≠ [] →
    Does (.recordPageCommit false ok true) s (fun d => d.ev = { s.dev.ev with p2Held := true } ∧ d.rd EV Reg.EV.SCANNING = 1 ∧
      d.store = s.dev.store ∧ SameRegs s.dev d [Reg.EV.SCANNING.at EV]) (fireEvent EV 6 noScope [])) ∧
  (∀ (s : State) (q : QSlot) (qs : List QSlot) (r : Rec) (ch : List Byte), s.runs → s.dev.commits false = true →
    s.dev.store.p2Full = true → s.dev.ev.ready false = q :: qs → q = { slot := q.slot, r := r, kind := .placed ch } →
    s.dev.logRoom false = 0 →
    (∀ v, s.dev.store.victim r.sev = some v → Does (.recordPageCommit false true false) s fun d =>
      d.store.p2 = s.dev.store.without v ++ [q.stored] ∧ d.store.p1 = s.dev.store.p1 ∧
      d.ev.queue = s.dev.ev.queue.filter (fun x => q.slot != x.slot) ∧
      d.ev.hwSeq = max s.dev.ev.hwSeq (r.seq.getD 0)) ∧
    (s.dev.store.victim r.sev = none → Does (.recordPageCommit false true false) s (fun d =>
      d.store = s.dev.store ∧ d.ev.queue = s.dev.ev.queue.filter (fun x => x.slot != q.slot) ∧
      d.rd EV Reg.EV.OP_DROPPED = min (2 ^ Reg.EV.OP_DROPPED.width - 1) (s.dev.rd EV Reg.EV.OP_DROPPED + 1))
      (fireEvent EV 3 noScope []))) ∧
  (∀ (s : State) (a : Bool) (n : Nat) (q : QSlot), s.runs → s.dev.ev.clearSeq a = some n →
    s.dev.ev.queue.find? (fun x => x.isRec && !x.isOpen && x.r.audit == a && x.r.seq == some n) = some q →
    s.dev.writesUp = true → s.dev.rd EV Reg.EV.FROZEN = 0 →
    Does (.clearPageWritten a true) s (fun d =>
      d.store.log a = [q.stored] ∧ d.store.log (!a) = s.dev.store.log (!a) ∧
      d.ev.queue = (s.dev.ev.queue.filter fun x => !(x.r.audit == a && decide (x.r.seq.getD 0 ≤ q.r.seq.getD 0))) ∧
      d.ev.hwSeq = max s.dev.ev.hwSeq (q.r.seq.getD 0) ∧ d.ev.clearSeq a = none)
      (seqs [if a then resumeP1 else putB EV Reg.EV.P2_OVERWRITE false, clearEnds])) ∧
  (∀ (s : State) (a ok : Bool), s.runs → ok = false ∨ s.dev.ev.clearSeq a = none →
    Does (.clearPageWritten a ok) s fun d => d = s.dev)

/-- The scan after a reset (R418): P1 is trusted up to its first broken link; SEQ goes on 32,769 above the highest found; the
chains go on from the records with the highest SEQ, or from their seeds; then the SCAN record is created, and records created
before the end of the scan take their SEQ. A scan that rebuilds the victim index lets P2's commits go on (R416). The recorder's
commands. READ-RECORDS gives whole records in order of SEQ, a seal never split, or BUSY before the scan has ended (R419). FREEZE
stops commits for 10 s, a second FREEZE starts the time over; THAW or the end of that time lets them go on (R420). CLEAR-RECORDS
has its token signed, or ends with BUSY (R421). -/
def Obligations.ScansAndClears : Prop :=
  (∀ (s : State) (lost : Nat), s.runs → s.dev.rd EV Reg.EV.SCANNING ≠ 0 → s.dev.rd WS Reg.WS.READY ≠ 0 →
    (s.dev.ev.scanned = true → Does (.recordScanDone lost) s fun d =>
      d.rd EV Reg.EV.SCANNING = 0 ∧ d.ev = { s.dev.ev with p2Held := false } ∧ SameRegs s.dev d [Reg.EV.SCANNING.at EV] ∧
      d = { s.dev with regs := d.regs, ev := d.ev }) ∧
    (s.dev.ev.scanned = false →
      let p1 := linked none s.dev.store.p1
      let hw := (p1 ++ s.dev.store.p2).foldl (fun a x => max a x.seq) 0
      Does (.recordScanDone lost) s (fun d =>
          d.store = { s.dev.store with p1 := p1 } ∧ d.rd EV Reg.EV.SCANNING = 0 ∧ d.rd EV Reg.EV.READY = 1 ∧
          d.rd EV Reg.EV.P2_OVERWRITE = b2n s.dev.store.p2Full ∧
          d.ev.scanned = true ∧ d.ev.queue = [] ∧ d.ev.hwSeq = hw ∧ d.ev.seqBase = hw + 32768 ∧ d.ev.nextSeq = hw + 32769 ∧
          d.ev.p1Left = s.dev.p1Slots - p1.length ∧
          d.ev.aud.head = ((lastOf p1).map (·.1)).getD (s.dev.chainSeed true) ∧
          d.ev.op.head = ((lastOf s.dev.store.p2).map (·.1)).getD (s.dev.chainSeed false))
        (seqs [showHeads,
          createRec { audit := true, sev := 0, code := 0x44, source := EV
                      payload := leBytes 6 hw ++ leBytes 2 lost ++ leBytes 1 s.dev.ev.resetKind },
          forEach s.dev.ev.queue admitOld,
          when (!s.dev.store.captures.isEmpty)
            (put EV Reg.EV.CAP_NEXT (((s.dev.store.captures.map (·.number)).foldl max 0 + 5) % 2 ^ 32)),
          showCaptures]))) ∧
  (∀ (s : State) (lost : Nat), s.runs → s.dev.rd EV Reg.EV.SCANNING = 0 ∨ s.dev.rd WS Reg.WS.READY = 0 →
    Does (.recordScanDone lost) s fun d => d = s.dev) ∧
  (∀ (s : State) (tag : Nat) (c : Cmd), s.runs → s.dev.passed tag 0x18 = some c →
    (s.dev.ev.scanned = true → s.dev.rd EV Reg.EV.SCANNING = 0 →
      let out := takeWhole (c.len / 64)
        (((s.dev.store.log (c.par 24 1 == 1)).filter fun x => decide (x.seq ≥ c.par 32 8)).foldr insertStored [])
      Does (.readRecords tag) s (fun d => d = s.dev) (complete tag stSuccess 0 out.length (out.flatMap (·.bytes)))) ∧
    ((s.dev.ev.scanned = false ∨ s.dev.rd EV Reg.EV.SCANNING ≠ 0) →
      Does (.readRecords tag) s (fun d => d = s.dev) (complete tag stBusy 0 0))) ∧
  (∀ (s : State) (tag : Nat) (c : Cmd), s.runs → s.dev.passed tag 0x19 = some c →
    ((c.par 24 1).testBit 0 = true → Does (.freeze tag) s (fun d =>
      d.rd EV Reg.EV.FROZEN = 1 ∧ d.deadline .thaw = some (s.dev.dt + 4915200000) ∧ d.ev = s.dev.ev)
      (seqs [freezeRecord 1, complete tag stSuccess 0 (s.dev.dt + 4915200000)])) ∧
    ((c.par 24 1).testBit 0 = false → s.dev.rd EV Reg.EV.FROZEN ≠ 0 → Does (.thaw tag) s (fun d =>
      d.rd EV Reg.EV.FROZEN = 0 ∧ d.deadline .thaw = none ∧ d.ev = s.dev.ev)
      (seqs [freezeRecord 0, complete tag stSuccess 0 0])) ∧
    ((c.par 24 1).testBit 0 = false → s.dev.rd EV Reg.EV.FROZEN = 0 →
      Does (.thaw tag) s (fun d => d = s.dev) (complete tag stSuccess 0 0))) ∧
  (∀ (s : State) (t0 : Nat), s.runs → s.dev.deadline .thaw = some t0 → Does .freezeAutoThaw s (fun d =>
    d.rd EV Reg.EV.FROZEN = 0 ∧ d.deadline .thaw = none ∧ d.clock = (s.dev.reach t0).clock ∧ d.ev = s.dev.ev)
    (freezeRecord 2)) ∧
  (∀ (s : State) (tag : Nat) (data : List Byte) (c : Cmd), s.runs → s.dev.passed tag 0x1A = some c → data.length = c.len →
    (s.dev.clearBusy data = false → Does (.clearRecords tag data) s (fun d => d = (takeUp tag).run s.dev)
      (requestSign (.token tag data))) ∧
    (s.dev.clearBusy data = true → Does (.clearRecords tag data) s (fun d => d = s.dev) (complete tag stBusy 0 0)))

/-- CAPTURE (R363, R425, R429): refused for heat, for a fifth capture, for want of pages of P3 and for a bad source, in this
order; else it is pending with its reservation and the capture points of its sources, the oldest stored captures make room, and it
triggers at once or waits TRIG_WAIT_S for its trigger. It ends with TIMEOUT when none comes. Chunks and completion (R426 to R428).
A chunk whose samples the lanes have brought is kept, each sample as the ring or the track gives it or in a gap with its cause;
with no room in staging all that was there is a gap of cause 2. One whose samples have not all come waits. With every chunk taken
the capture is stored, its gaps are counted, and the capture ends. Reading a stored capture, and the Capture Rings (R424, R430).
GO starts a copy of stored pages; it is rejected with RANGE for pages that are not there or do not fit, and with BUSY while a
capture streams. The copy ends with its pages in staging, with RD_ERR 1 where a page read Lost. An accepted write of RING_SRC
restarts the section's ring, which forgets its history; one that a cause rejects changes nothing else (R54). -/
def Obligations.CapturesPendAndAreStored : Prop :=
  (∀ (s : State) (tag : Nat) (data : List Byte) (c : Cmd), s.runs → s.dev.passed tag 0x10 = some c → data.length = c.len →
    let us := sourceList data
    let pages := capturePages us.length (ceilDiv (c.par 24 4 + c.par 28 4) 1024)
    let held := (s.dev.ev.captures.map (·.pages)).sum
    let refused := fun k => Does (.capture tag data) s (fun d => d = s.dev) (complete tag stRefused k 0)
    (s.dev.rd TM Reg.TM.LEVEL ≥ 1 → refused 1) ∧
    (s.dev.rd TM Reg.TM.LEVEL = 0 →
      (4 ≤ s.dev.ev.captures.length → refused 2) ∧
      (s.dev.ev.captures.length < 4 →
        (256 * s.dev.med.p3 < held + pages → refused 3) ∧
        (held + pages ≤ 256 * s.dev.med.p3 →
          (us.all s.dev.sourceOk = false → refused 4) ∧
          (us.all s.dev.sourceOk = true → Does (.capture tag data) s (fun d =>
            d.ev = { s.dev.ev with captures := s.dev.ev.captures ++ [{
              tag := tag, trig := c.par 33 1, trigUnit := c.par 34 2, trigCode := c.par 36 2, pre := c.par 24 4, post := c.par 28 4
              sources := us.map fun u => (u, s.dev.capturePoint u), pages := pages
              done := us.map fun _ => 0, kept := us.map fun _ => [], stamp0 := us.map fun _ => 0 }] } ∧
            d.store = { s.dev.store with captures := roomFor (256 * s.dev.med.p3) (held + pages) s.dev.store.captures } ∧
            d.cmds = ((takeUp tag).run s.dev).cmds)
            (seqs [if c.par 33 1 = 0 then trigger 0 0 0 s.dev.dt else startTimer (.capWait tag) (491520000 * c.par 38 2),
              showCaptures])))))) ∧
  (∀ (s : State) (tag t0 : Nat), s.runs → s.dev.deadline (.capWait tag) = some t0 → Does (.captureTimeout tag) s (fun d =>
    d.ev = { s.dev.ev with captures := s.dev.ev.captures.filter fun c => c.tag != tag } ∧ d.deadline (.capWait tag) = none ∧
    d.clock = (s.dev.reach t0).clock ∧ d.regs = s.dev.regs) (seqs [complete tag stTimeout 0 0, showCaptures])) ∧
  (∀ (s : State) (tag j drained : Nat) (feed : Feed) (c : Capture), s.runs →
    let e := (runPlane feed).run s.dev
    e.ev.captures.find? (fun x => x.tag == tag && x.tTrig.isSome) = some c →
    let i := c.done.getD j 0
    let n := min 1024 (c.pre + c.post - 1024 * i)
    let src := (c.sources.getD j (0, 0)).1
    let tr := e.plane.caps.get {} (16 * tag + j)
    let at0 : Int := (1024 * i : Nat) - (c.pre : Int)
    let due := j < c.sources.length ∧ i < c.dpages ∧ 0 < tr.n ∧ at0 + (n : Nat) ≤ e.capFirst c j + (tr.n : Nat)
    let stampOf := fun k : Int => ((tr.stamp0 : Int) + (k - e.capFirst c j) * (e.sourcePeriod src : Nat)).toNat
    let e₁ := { e with ev := { e.ev with captures := drain drained e.ev.captures } }
    let room : Bool := decide ((e₁.ev.captures.map (·.staged.length)).sum < e.stagingChunks)
    let got : List (Nat × List Byte) := (List.range n).map fun k : Nat => e₁.capSample c j (at0 + (k : Nat))
    let ys : List (Nat × List Byte) := got.map fun x => if x.1 == 0 && !room then (2, gapped 1) else x
    let bytes := ys.flatMap (·.2)
    (due → Does (.captureChunk tag j drained feed) s (fun d =>
      d.ev.captures = (e₁.ev.captures.map fun x => if x.tag == tag then { x with
        done := x.done.modify j (· + 1)
        kept := x.kept.modify j (· ++ bytes)
        stamp0 := if i = 0 then x.stamp0.set j (stampOf at0) else x.stamp0
        gaps := ys.zipIdx.foldl (fun gs x => if x.1.1 = 0 then gs else
          addGap { stamp := stampOf (at0 + (x.2 : Nat)), samples := 1, src := j, cause := x.1.1 } (e.sourcePeriod src) gs) x.gaps
        staged := if ys.any (·.1 == 0) then x.staged ++ [{ src := j, index := i, bytes := bytes }] else x.staged } else x) ∧
      d.store = e.store ∧ d.regs = e.regs)
      (seqs [incBy (crU (secOf src)) Reg.CR.SRAM_GAP (ys.filter (·.1 == 3)).length, showCaptures])) ∧
    (¬due → Does (.captureChunk tag j drained feed) s fun d => d = e)) ∧
  (∀ (s : State) (tag : Nat) (c : Capture), s.runs →
    s.dev.ev.captures.find? (fun x => x.tag == tag && x.tTrig.isSome) = some c →
    let x := c.store s.dev
    let gap := b2n (!c.gaps.isEmpty)
    ((∀ n ∈ c.done, n = c.dpages) → Does (.captureComplete tag) s (fun d =>
        d.store = { s.dev.store with captures := s.dev.store.captures ++ [x.1] } ∧ x.1.number = c.number ∧
        d.ev = { s.dev.ev with captures := s.dev.ev.captures.filter fun y => y.tag != tag } ∧
        d.rd EV Reg.EV.GAP_ENTRIES = min (2 ^ Reg.EV.GAP_ENTRIES.width - 1) (s.dev.rd EV Reg.EV.GAP_ENTRIES + c.gaps.length) ∧
        SameRegs s.dev d [Reg.EV.GAP_ENTRIES.at EV])
      (seqs [showCaptures, noteRec EV 0x48 (leBytes 4 c.number ++ leBytes 1 (gap + 2 * b2n c.wallValid) ++ x.2.take 11),
        when (gap == 1) (fireEvent EV 5 noScope []), complete tag stSuccess 0 (c.number + gap * 2 ^ 32)])) ∧
    (¬(∀ n ∈ c.done, n = c.dpages) → Does (.captureComplete tag) s fun d => d = s.dev)) ∧
  (∀ s : State, s.runs →
    let n := s.dev.rd EV Reg.EV.CAP_RD_NUM
    let p := s.dev.rd EV Reg.EV.CAP_RD_PAGE
    let len := s.dev.rd EV Reg.EV.CAP_RD_LEN
    let found := s.dev.store.captures.find? fun c => c.number == n && decide (p + len ≤ c.pages.length)
    let fits := found ≠ none ∧ len ≤ 256 * s.dev.rd WS Reg.WS.CAP_MIB
    (fits → (∀ x ∈ s.dev.ev.captures, x.tTrig = none) → Does .captureReadGo s fun d =>
        d.rd EV Reg.EV.RD_STATE = 1 ∧ d.rd EV Reg.EV.RD_ERR = 0 ∧
        d.ev = { s.dev.ev with rdCopy := some { number := n, page := p, len := len } } ∧
        SameRegs s.dev d [Reg.EV.RD_STATE.at EV, Reg.EV.RD_ERR.at EV]) ∧
    (fits → (∃ x ∈ s.dev.ev.captures, x.tTrig ≠ none) → Does .captureReadGo s fun d => Rejected s.dev d EV 0x19C 6) ∧
    (¬fits → Does .captureReadGo s fun d => Rejected s.dev d EV 0x19C 3)) ∧
  (∀ (s : State) (lost : Bool) (r : RdCopy), s.runs → s.dev.ev.rdCopy = some r → Does (.captureCopyDone lost) s fun d =>
    d.rd EV Reg.EV.RD_STATE = (if lost then 3 else 2) ∧ d.rd EV Reg.EV.RD_ERR = (if lost then 1 else 0) ∧
    d.ev.rdCopy = none ∧
    (∀ c, s.dev.store.captures.find? (fun c => c.number == r.number) = some c →
      d.ev.staging = ((c.pages.drop r.page).take r.len).flatten) ∧
    SameRegs s.dev d [Reg.EV.RD_STATE.at EV, Reg.EV.RD_ERR.at EV]) ∧
  (∀ (s : State) (lost : Bool), s.runs → s.dev.ev.rdCopy = none → Does (.captureCopyDone lost) s fun d => d = s.dev) ∧
  (∀ (s : State) (n k v be : Nat), s.runs → n < 4 → k < 8 → v < 2 ^ 32 →
    let cause := s.dev.judgeWrite (crU n) (0x100 + 4 * k) v be {
      mode := s.dev.modeIn [.cold, .kindling], range := v.testBit 31 && !s.dev.ringUnit n (v % 65536)
      busy := s.dev.ringCopies n }
    (s.dev.present (crU n) = true → cause = none → Does (.ringSrcWrite (crU n) k v be) s (fun d =>
      d.rd (crU n) Reg.CR.EN k = v / 2 ^ 31 % 2 ∧ d.rd (crU n) Reg.CR.UNIT k = v % 65536 ∧
      OnlyRegs s.dev d [Reg.CR.EN.at (crU n) k, Reg.CR.UNIT.at (crU n) k])
      (seqs [restartRing n, inc (crU n) Reg.CR.RESTART_CNT])) ∧
    (s.dev.present (crU n) = true → ∀ x, cause = some x →
      Does (.ringSrcWrite (crU n) k v be) s fun d => Rejected s.dev d (crU n) (0x100 + 4 * k) x) ∧
    (s.dev.present (crU n) = false → Does (.ringSrcWrite (crU n) k v be) s fun d => Unmapped s.dev d)) ∧
  (∀ (d : Dev) (n : Nat), n < 4 → let d' := (restartRing n).run d
    d'.ringAt n = d.dt ∧ (∀ k < 8, d'.plane.rings.get {} (8 * n + k) = {} ∧ d'.rd (crU n) Reg.CR.HELD k = 0))

/-! ### The Caddy -/

/-- Nonces, the random generator and the signing engine (R332, R337, R346). NEW draws a fresh nonce and stamps it; while a token
is being verified it is rejected with BUSY, and while RNG_OK is 0 it leaves no nonce. The engine takes the next request as it
completes one: a seal is signed, an attestation is answered, a container is checked, or the command that carried a token or a
profile goes on; with no request nothing happens. OTP burns (R324, R325). An owner's or a profile's body is burned and read back
before its marker, a revocation's mark alone; when everything reads back right the slot is shown and its command goes on; a body
that does not leaves the marker unburned; where either does not, the failure is counted and reported, and the command ends with
it. The floor's bits burn in order. A raise that burns every bit reaches its target. With no burn asked for nothing happens. -/
def Obligations.NoncesAndBurns : Prop :=
  (∀ s : State, s.runs →
    (s.dev.verifying = true → Does .nonceNew s fun d => Rejected s.dev d CY 0x10C 6) ∧
    (s.dev.verifying = false → s.dev.rd CY Reg.CY.RNG_OK = 0 → Does .nonceNew s fun d =>
      d.rd CY Reg.CY.NONCE_VALID = 0 ∧ d.cy = { s.dev.cy with nonce := [] } ∧ d = { s.dev with regs := d.regs, cy := d.cy }) ∧
    (s.dev.verifying = false → s.dev.rd CY Reg.CY.RNG_OK ≠ 0 → Does .nonceNew s fun d =>
      d.rd CY Reg.CY.NONCE_VALID = 1 ∧ d.live CY Reg.CY.NONCE_DT_LO = s.dev.dt % 2 ^ 64 ∧
      d.cy = { s.dev.cy with nonce := leBytes 16 (Config.freeValue s.dev.drawn % 2 ^ 128) } ∧ d.drawn = s.dev.drawn + 1)) ∧
  (∀ (s : State) (ok : Bool), s.runs → Does (.randomGeneratorHealth ok) s (fun d =>
    d.rd CY Reg.CY.RNG_OK = b2n ok ∧ OnlyRegs s.dev d [Reg.CY.RNG_OK.at CY]) (condSet (!ok) CY 2 0 noScope [])) ∧
  (∀ (s : State) (ok : Bool) (x : SignReq) (rest : List SignReq), s.runs → s.dev.cy.queue = x :: rest →
    let taken : Dev → Prop := fun d => d.cy = { s.dev.cy with queue := rest } ∧ d.rd CY Reg.CY.BUSY = b2n (!rest.isEmpty) ∧
      SameRegs s.dev d [Reg.CY.BUSY.at CY, Reg.CY.SIGN_CNT.at CY]
    (∀ a, x = .seal a → Does (.signatureDone ok) s (fun d => taken d ∧
      d.rd CY Reg.CY.SIGN_CNT = (s.dev.rd CY Reg.CY.SIGN_CNT + 1) % 2 ^ Reg.CY.SIGN_CNT.width ∧
      ((s.dev.ev.chain a).sealDue = true → (s.dev.ev.chain a).signedAt = none →
        (d.ev.chain a).signedAt = some s.dev.dt)) startFront) ∧
    (∀ tag st, x = .attest tag st → Does (.signatureDone ok) s taken (seqs [attested tag st, startFront])) ∧
    (∀ tag k, x = .token tag k → Does (.signatureDone ok) s taken (seqs [tokenVerified tag k ok, startFront])) ∧
    (x = .container → Does (.signatureDone ok) s (fun d => taken d ∧ d.ev = s.dev.ev ∧ d.cmds = s.dev.cmds) startFront) ∧
    (∀ tag k, x = .profile tag k → Does (.signatureDone ok) s taken
      (seqs [match s.dev.cmdOf tag with
        | some c => installSigned c k
        | none => skip, startFront]))) ∧
  (∀ (s : State) (ok : Bool), s.runs → s.dev.cy.queue = [] → Does (.signatureDone ok) s fun d => d = s.dev) ∧
  (∀ (s : State) (got : List Byte) (okA okB : Bool) (rest : List Burn), s.runs →
    let ends : Nat → List Byte → Nat → Script → Script → Prop := fun base body mark good bad =>
      let m := burnt [0x5A, 0xA5] (got.drop body.length)
      let whole := burnt body got = body ∧ m = [0x5A, 0xA5]
      let cells := if burnt body got = body then seqs [burnBytes base body, burnBytes mark m] else burnBytes base (burnt body got)
      (whole → Does (.otpBurnDone got okA okB) s (fun d =>
        d = { s.dev with cy := { s.dev.cy with burns := rest }, otp := (cells.run s.dev).otp }) good) ∧
      (¬whole → Does (.otpBurnDone got okA okB) s (fun d =>
        d = { s.dev with cy := { s.dev.cy with burns := rest }, otp := (cells.run s.dev).otp })
        (seqs [inc CY Reg.CY.BURN_FAIL, showCaddy, fireEvent CY 1 devScope [], bad]))
    (∀ tag i key, s.dev.cy.burns = .enrol tag i key :: rest → ends (ownerAt i) key (ownerAt i + 64)
      (seqs [showCaddy, endOwner tag 0x29 i 0 key]) (endOwner tag 0x29 i cyOtp key)) ∧
    (∀ tag i, s.dev.cy.burns = .revoke tag i :: rest → ends (ownerAt i + 66) [] (ownerAt i + 66)
      (seqs [showCaddy, endOwner tag 0x2A i 0 (s.dev.ownerKey i)]) (endOwner tag 0x2A i cyOtp (s.dev.ownerKey i))) ∧
    (∀ tag i dg ver, s.dev.cy.burns = .profile tag i dg ver :: rest →
      ends (profileAt i) (dg ++ leBytes 8 ver) (profileAt i + 78)
        (seqs [showCaddy, auditRec CY 0x43 (leBytes 1 i ++ dg.take 15), activate tag okA okB]) (endConfirmOtp tag)) ∧
    (∀ tag target, s.dev.cy.burns = .floor tag target :: rest →
      Does (.otpBurnDone got okA okB) s (fun d => d = { s.dev with cy := { s.dev.cy with burns := rest } })
        (seqs [burnFloor target got 64 0, endFloor tag s.dev.floor target]))) ∧
  (∀ (s : State) (got : List Byte) (okA okB : Bool), s.runs → s.dev.cy.burns = [] →
    Does (.otpBurnDone got okA okB) s fun d => d = s.dev) ∧
  (∀ (d : Dev) (target : Nat), target ≤ 64 → target ≤ ((burnFloor target [] 64 0).run d).floor)

/-- Owners (R334, R345) and profiles (R342). OWNER-ENROL is refused outside Cold and Banked and with no empty slot; the first
owner of a device is burned at once, a later one needs a token. OWNER-REVOKE needs Banked and a token. PROFILE-INSTALL is refused
but in Banked and in Cold after discovery, and for a malformed object; the active profile's own object is written to ACTIVE, any
other goes to the engine for its signature. ATTEST needs an identity, and has room for four that wait (R328, R332, R344). A
command that is not there, or that carries other data than it says, has no effect. -/
def Obligations.CaddyCommands : Prop :=
  (∀ (s : State) (tag : Nat) (data : List Byte) (c : Cmd), s.runs → s.dev.passed tag 0x29 = some c → data.length = c.len →
    let key := enrolKey data
    (s.dev.mode ≠ .cold → s.dev.mode ≠ .banked → Does (.ownerEnrol tag data) s (fun d => d = s.dev)
      (endOwner tag 0x29 (s.dev.emptyOwner.getD 0xFF) cyMode key)) ∧
    (s.dev.mode = .cold ∨ s.dev.mode = .banked →
      (s.dev.emptyOwner = none → Does (.ownerEnrol tag data) s (fun d => d = s.dev) (endOwner tag 0x29 0xFF cyFull key)) ∧
      (∀ i, s.dev.emptyOwner = some i →
        (s.dev.virgin = true → Does (.ownerEnrol tag data) s fun d =>
          d.cy.burns = s.dev.cy.burns ++ [.enrol tag i key] ∧ d.cy.queue = s.dev.cy.queue ∧ d.otp = s.dev.otp) ∧
        (s.dev.virgin = false → data.length = 64 → Does (.ownerEnrol tag data) s (fun d => d = s.dev)
          (seqs [tokenOutcome [] 1, endOwner tag 0x29 i cyToken key])) ∧
        (s.dev.virgin = false → data.length ≠ 64 → Does (.ownerEnrol tag data) s fun d =>
          d.cy.queue = s.dev.cy.queue ++ [.token tag (data.drop 64)] ∧ d.rd CY Reg.CY.BUSY = 1 ∧
          d.cy.burns = s.dev.cy.burns ∧ d.otp = s.dev.otp)))) ∧
  (∀ (s : State) (tag : Nat) (data : List Byte) (c : Cmd), s.runs → s.dev.passed tag 0x2A = some c → data.length = c.len →
    let slot := c.par 24 1
    (s.dev.mode ≠ .banked → Does (.ownerRevoke tag data) s (fun d => d = s.dev)
      (endOwner tag 0x2A slot cyMode (s.dev.ownerKey slot))) ∧
    (s.dev.mode = .banked → Does (.ownerRevoke tag data) s fun d =>
      d.cy.queue = s.dev.cy.queue ++ [.token tag data] ∧ d.otp = s.dev.otp)) ∧
  (∀ (s : State) (tag : Nat) (data : List Byte) (ok : Bool) (c : Cmd), s.runs → s.dev.passed tag 0x28 = some c →
    data.length = c.len →
    let o := data.take 1280
    (s.dev.mode ≠ .banked → (s.dev.mode = .cold → s.dev.rd WS Reg.WS.READY = 0) →
      Does (.profileInstall tag data ok) s (fun d => d = s.dev) (cyComplete tag cyMode 0)) ∧
    (s.dev.mode = .banked ∨ (s.dev.mode = .cold ∧ s.dev.rd WS Reg.WS.READY ≠ 0) →
      (profileFields o = false → Does (.profileInstall tag data ok) s (fun d => d = s.dev) (cyComplete tag cyObject 0)) ∧
      (profileFields o = true → s.dev.activeDigest = some (profileDigest o) →
        (s.dev.writesUp = false → Does (.profileInstall tag data ok) s fun d => d = s.dev) ∧
        (s.dev.writesUp = true → ok = false →
          Does (.profileInstall tag data ok) s (fun d => d = s.dev) (cyComplete tag cyMedia 0)) ∧
        (s.dev.writesUp = true → ok = true → Does (.profileInstall tag data ok) s
          (fun d => d = { s.dev with p0 := { s.dev.p0 with active := o } }) (seqs [showCaddy, cyComplete tag 0 0]))) ∧
      (profileFields o = true → s.dev.activeDigest ≠ some (profileDigest o) → Does (.profileInstall tag data ok) s fun d =>
        d.cy.queue = s.dev.cy.queue ++ [.profile tag (data.drop 1280)] ∧ d.rd CY Reg.CY.BUSY = 1 ∧ d.p0 = s.dev.p0 ∧
        d.otp = s.dev.otp))) ∧
  (∀ (s : State) (tag : Nat) (c : Cmd), s.runs → s.dev.passed tag 0x0D = some c →
    (s.dev.rd CY Reg.CY.ID_OK = 0 → Does (.attest tag) s (fun d => d = s.dev) (cyComplete tag cyIdentity 0)) ∧
    (s.dev.rd CY Reg.CY.ID_OK ≠ 0 → 4 ≤ ((s.dev.cy.queue.drop 1).filter SignReq.isAttest).length →
      Does (.attest tag) s (fun d => d = s.dev) (cyComplete tag cyBusy 0)) ∧
    (s.dev.rd CY Reg.CY.ID_OK ≠ 0 → ((s.dev.cy.queue.drop 1).filter SignReq.isAttest).length < 4 →
      Does (.attest tag) s (fun d =>
        d.cy.queue = s.dev.cy.queue ++ [.attest tag []] ∧ d.rd CY Reg.CY.BUSY = 1 ∧ d.otp = s.dev.otp) startFront)) ∧
  (∀ (s : State) (tag : Nat) (data : List Byte) (ok : Bool), s.runs →
    ((∀ c, s.dev.passed tag 0x29 = some c → data.length ≠ c.len) → Does (.ownerEnrol tag data) s fun d => d = s.dev) ∧
    ((∀ c, s.dev.passed tag 0x2A = some c → data.length ≠ c.len) → Does (.ownerRevoke tag data) s fun d => d = s.dev) ∧
    ((∀ c, s.dev.passed tag 0x28 = some c → data.length ≠ c.len) → Does (.profileInstall tag data ok) s fun d => d = s.dev) ∧
    (s.dev.passed tag 0x0D = none → Does (.attest tag) s fun d => d = s.dev))

/-! ### Modes -/

/-- A transition of R80: MODE, PREV_MODE, CAUSE and MODE_DT take it, TRANS_CNT counts it; then the record, vector 85 and what the
entry does follow (R82, R92, R353). -/
def Obligations.TransitionsSetTheModeRegisters : Prop :=
  ∀ (d : Dev) (new : Mode) (cause : Nat), cause < 256 →
    let x := (onExit d.mode new cause).run d
    ∃ d', (changeMode new cause).run d = (seqs [modeRecord d.mode new cause, sendMsix 85, onEntry new]).run d' ∧
      d'.rd MC Reg.MC.MODE = new.enc ∧ d'.mode = new ∧ d'.rd MC Reg.MC.PREV_MODE = d.mode.enc ∧ d'.rd MC Reg.MC.CAUSE = cause ∧
      d'.rd MC Reg.MC.TRANS_CNT = (x.rd MC Reg.MC.TRANS_CNT + 1) % 2 ^ Reg.MC.TRANS_CNT.width ∧
      d'.live MC Reg.MC.MODE_DT_LO = d.dt % 2 ^ 64 ∧
      SameRegs x d' [Reg.MC.MODE.at MC, Reg.MC.PREV_MODE.at MC, Reg.MC.CAUSE.at MC, Reg.MC.TRANS_CNT.at MC, Reg.MC.MODE_DT_LO.at MC]

/-- Requests for a mode (R86, R87, R195). The checks of R87 are made in their order, and the first that fails is the result; a
request for Service or for a lockout clear needs a token; an accepted request is carried out. SURVEY waits for the Survey's end;
its record carries the cause 0x11, for which R90 has no code of its own (the model's choice, log entry 157). An EXTEST instruction
loaded in Cold holds the device there until another loads; AUTOBOOT leaves the Cold of a reset once (R80, R496). -/
def Obligations.ModeRequestsAreJudged : Prop :=
  (∀ (s : State) (tag : Nat) (data : List Byte) (c : Cmd), s.runs → s.dev.passed tag 0x08 = some c → data.length = c.len →
    (∀ r, s.dev.reqFirst c.target c.clearFlag = some r →
      Does (.modeRequest tag data) s (fun d => d = s.dev) (refuseRequest tag c.target r)) ∧
    (s.dev.reqFirst c.target c.clearFlag = none → s.dev.reqToken c.target c.clearFlag = none →
      (∀ r, s.dev.reqLast c.target = some r →
        Does (.modeRequest tag data) s (fun d => d = s.dev) (refuseRequest tag c.target r)) ∧
      (s.dev.reqLast c.target = none → Does (.modeRequest tag data) s (fun d =>
        d.rd MC Reg.MC.REQ_TARGET = c.target.enc ∧ d.rd MC Reg.MC.REQ_RESULT = 0 ∧
        OnlyRegs s.dev d [Reg.MC.REQ_TARGET.at MC, Reg.MC.REQ_RESULT.at MC])
        (seqs [
          if c.target = .kindling then enterKindling 0x11 true
          else if c.target = .banked ∧ s.dev.mode = .survey then changeMode .banked 0x21
          else changeMode c.target 0x11,
          complete tag stSuccess 0 s.dev.dt]))) ∧
    (∀ ty, s.dev.reqFirst c.target c.clearFlag = none → s.dev.reqToken c.target c.clearFlag = some ty →
      (data ≠ [] → Does (.modeRequest tag data) s fun d =>
        d.cy.queue = s.dev.cy.queue ++ [.token tag data] ∧ d.rd CY Reg.CY.BUSY = 1 ∧ d.mode = s.dev.mode) ∧
      (data = [] → Does (.modeRequest tag data) s (fun d => d = s.dev)
        (seqs [tokenOutcome [] 1, refuseRequest tag c.target rqToken])))) ∧
  (∀ (s : State) (tag : Nat) (data : List Byte), s.runs →
    ((∀ c, s.dev.passed tag 0x08 = some c → data.length ≠ c.len) → Does (.modeRequest tag data) s fun d => d = s.dev) ∧
    (s.dev.passed tag 0x09 = none → Does (.survey tag) s fun d => d = s.dev)) ∧
  (∀ (d : Dev) (t : Mode) (clear : Bool),
    (d.rd MC Reg.MC.TRANSITION ≠ 0 → d.reqFirst t clear = some rqBusy) ∧
    (d.rd MC Reg.MC.TRANSITION = 0 → d.mode ≠ .cold → d.legal t clear = false → d.reqFirst t clear = some rqIllegal) ∧
    (d.rd MC Reg.MC.TRANSITION = 0 → d.mode ≠ .cold → d.legal t clear = true → d.emberMask ≠ 0 →
      d.reqFirst t clear = some rqCause) ∧
    (d.rd MC Reg.MC.TRANSITION = 0 → d.mode = .banked → d.emberMask = 0 → d.rd MC Reg.MC.LOCKOUT ≠ 0 →
      d.reqFirst .carry false = some rqLockout)) ∧
  (∀ (s : State) (tag : Nat) (c : Cmd), s.runs → s.dev.passed tag 0x09 = some c →
    (∀ r, (s.dev.reqFirst .survey false).or (s.dev.reqLast .survey) = some r →
      Does (.survey tag) s (fun d => d = s.dev) (refuseRequest tag .survey r)) ∧
    ((s.dev.reqFirst .survey false).or (s.dev.reqLast .survey) = none → Does (.survey tag) s (fun d =>
      d.rd MC Reg.MC.REQ_TARGET = Mode.survey.enc ∧ d.rd MC Reg.MC.REQ_RESULT = 0 ∧
      OnlyRegs s.dev d [Reg.MC.REQ_TARGET.at MC, Reg.MC.REQ_RESULT.at MC])
      (seqs [changeMode .survey 0x11, takeUp tag]))) ∧
  (∀ s : State, s.runs →
    Yields .jtagExtestLoad s (fun d => d = { s.dev with mc := { s.dev.mc with extest := decide (s.dev.mode = .cold) } } ∧
      (s.dev.mode = .cold → d.kindleWaits = true)) ∧
    Yields .jtagBypassLoad s fun d => d = { s.dev with mc := { s.dev.mc with extest := false } }) ∧
  (∀ s : State, s.runs → s.dev.mode = .cold → s.dev.mc.autoboot = true → s.dev.rd MC Reg.MC.TRANS_CNT = 0 →
    s.dev.variant.consistent = true → s.dev.kindleWaits = false →
    Does .autobootKindling s (fun d => d = (changeMode .kindling 0x10).run s.dev) (seqs [
      modCc fun c => { c with phase := .entry, tried := [], shadow := [], reloading := false, firstPass := true, timedOut := false },
      putB CC Reg.CC.SHADOW_OK false, stopTimer .revertRetry, put CC Reg.CC.KINDLE_ERR 0, put CC Reg.CC.STEP 1])) ∧
  (∀ s : State, s.runs → s.dev.mode ≠ .cold ∨ s.dev.mc.autoboot = false ∨ s.dev.rd MC Reg.MC.TRANS_CNT ≠ 0 ∨
    s.dev.variant.consistent = false ∨ s.dev.kindleWaits = true → Does .autobootKindling s fun d => d = s.dev)

/-- The steps of Kindling (R312, R313). The directory is read and an attempt begins; the slot is loaded, validated and applied, or
the attempt fails; the self-tests release the engines that passed; with links, alignment and every synthesiser programmed Kindling
ends in Banked, and a configuration on probation gets its window. Each step waits for its turn, and before it comes nothing
happens. The attempt fails too when KINDLE_TIMEOUT runs out (R91). -/
def Obligations.KindlingSteps : Prop :=
  (∀ s : State, s.runs → s.dev.mode = .kindling →
    (s.dev.cc.phase = .entry → s.dev.mediaUp = true →
      Does .kindlingEntry s (fun d => d = readDirectory.run s.dev) kindleHead) ∧
    (s.dev.cc.phase = .loading → s.dev.mediaUp = true → s.dev.checking = false →
      (Does (.kindleSlotLoaded false) s (fun d => d = s.dev) (failAttempt 0x02 0x15)) ∧
      (let c := s.dev.currentBytes
       let v := s.dev.validate c c.length
       Does (.kindleSlotLoaded true) s (fun d =>
         d.cc.shadow = c ∧ d.rd CC Reg.CC.STEP = 3 ∧ d.p0 = s.dev.p0 ∧ d.mode = .kindling)
         (seqs [showValidation v true, match v with
           | some _ => failAttempt 0x03 0x15
           | none => applyStep c]))) ∧
    (∀ (failed : List Nat) (other okA okB : Bool), s.dev.cc.phase = .selftest → s.dev.ce.committing = none →
      let released : Dev → Prop := fun d => ∀ n ∈ s.dev.sections, n ∉ failed →
        d.rd (peU n) Reg.PE.SELFTEST_OK = 1 ∧ d.rd (peU n) Reg.PE.LOCKSTEP_ERR = 0
      let only : Dev → Prop := fun d => OnlyRegs s.dev d (Reg.CC.STEP.at CC :: s.dev.sections.flatMap fun n =>
        if n ∈ failed then [] else [Reg.PE.SELFTEST_OK.at (peU n), Reg.PE.LOCKSTEP_ERR.at (peU n)])
      ((other = false ∨ ∃ n ∈ s.dev.sections, n ∈ failed) →
        Does (.peSelftestDone failed other okA okB) s (fun d => released d ∧ only d) (failAttempt 0x04 0x15)) ∧
      (other = true → (∀ n ∈ s.dev.sections, n ∉ failed) →
        Does (.peSelftestDone failed other okA okB) s (fun d => released d ∧ only d ∧ d.rd CC Reg.CC.STEP = 6) (seqs [
          loadCal, put CC Reg.CC.STEP 7,
          when (s.dev.dirNow.cur.any fun i => (s.dev.dirNow.slot i).confirmed) (confirmSteps none okA okB),
          put CC Reg.CC.STEP 8, modCc fun x => { x with phase := .links }, forEach s.dev.links startLink]))) ∧
    (s.dev.kindled = true → Does .kindlingComplete s (fun d => d = (changeMode .banked 0x16).run s.dev) (seqs [
      modCc fun x => { x with phase := .idle, tried := [],
                              probLeft := if s.dev.dirNow.probation then 491520000 * hProbS s.dev.currentBytes else 0 },
      put CC Reg.CC.STEP 0])) ∧
    (∀ t0, s.dev.deadline .kindle = some t0 → s.dev.reverting = false → Does .kindleTimeout s (fun d =>
      d.deadline .kindle = none ∧ d.clock = (s.dev.reach t0).clock ∧ d.regs = s.dev.regs) (failAttempt 0x05 0x18))) ∧
  (∀ (s : State) (failed : List Nat) (other okA okB ok : Bool), s.runs →
    (s.dev.mode ≠ .kindling ∨ s.dev.cc.phase ≠ .entry ∨ s.dev.mediaUp = false → Does .kindlingEntry s fun d => d = s.dev) ∧
    (s.dev.mode ≠ .kindling ∨ s.dev.cc.phase ≠ .loading ∨ s.dev.mediaUp = false ∨ s.dev.checking = true →
      Does (.kindleSlotLoaded ok) s fun d => d = s.dev) ∧
    (s.dev.mode ≠ .kindling ∨ s.dev.cc.phase ≠ .selftest ∨ s.dev.ce.committing.isSome = true →
      Does (.peSelftestDone failed other okA okB) s fun d => d = s.dev) ∧
    (s.dev.kindled = false → Does .kindlingComplete s fun d => d = s.dev) ∧
    (s.dev.deadline .kindle = none → Does .kindleTimeout s fun d => d = s.dev) ∧
    (∀ t0, s.dev.deadline .kindle = some t0 → s.dev.mode ≠ .kindling ∨ s.dev.reverting = true → Does .kindleTimeout s fun d =>
      d.deadline .kindle = none ∧ d.clock = (s.dev.reach t0).clock ∧ d.regs = s.dev.regs ∧ d.cc = s.dev.cc)) ∧
  (∀ (d : Dev) (err cause : Nat), err < 256 → ((failAttempt err cause).run d).cc =
    { d.cc with phase := .writing, tried := d.cc.tried ++ d.dirNow.cur.toList, timedOut := cause == 0x18,
                ops := d.cc.ops ++ [.kindleRevert cause] } ∧ ((failAttempt err cause).run d).rd CC Reg.CC.KINDLE_ERR = err)

/-- What ends a mode by itself (R80, R83, R93, R197, R339). Ember is left for its return mode after the holdoff once no cause is
active, and each retry is remembered; Backoff for Carry when its dwell runs out; an unsettled Survey and a Service whose token
expires for Banked. A timer that does not run has no effect, and one that runs out in another mode only stops. -/
def Obligations.ModesEndByThemselves : Prop :=
  (∀ (s : State) (t0 : Nat), s.runs →
    (s.dev.deadline .holdoff = some t0 → Does .emberHoldoffExpiry s (fun d =>
      d.mc = { s.dev.mc with holdoffDone := true } ∧ d.deadline .holdoff = none ∧ d.clock = (s.dev.reach t0).clock ∧
      d.regs = s.dev.regs) (when (s.dev.mode == .ember && s.dev.emberClear) emberRetry)) ∧
    (s.dev.deadline .backoffDwell = some t0 → s.dev.mode = .backoff → s.dev.backoffAmounts = [] →
      Does .backoffDwellExpiry s (fun d => d.deadline .backoffDwell = none ∧ d.clock = (s.dev.reach t0).clock ∧
        d.regs = s.dev.regs) (changeMode .carry 0x33)) ∧
    (s.dev.deadline .survey = some t0 → s.dev.mode = .survey → Does .surveyTimerExpiry s (fun d =>
      d.deadline .survey = none ∧ d.clock = (s.dev.reach t0).clock ∧ d.regs = s.dev.regs)
      (seqs [forEach s.dev.sections fun n =>
          let ps := s.dev.unsettledPaths n
          when (!ps.isEmpty) (fireEvent (dsU n) 5
            (setScope (dsU n) 0xFF (uniq (ps.map (s.dev.rcvOf n)))) [(ps.length : Int), (s.dev.worstUnsettled n : Int)]),
        changeMode .banked 0x21])) ∧
    (s.dev.deadline .serviceToken = some t0 → s.dev.mode = .service → Does .serviceTokenExpiry s (fun d =>
      d.deadline .serviceToken = none ∧ d.clock = (s.dev.reach t0).clock ∧ d.regs = s.dev.regs) (changeMode .banked 0x28))) ∧
  (∀ s : State, s.runs → s.dev.mode = .ember → s.dev.mc.holdoffDone = true → s.dev.emberClear = true →
    let remembered : Dev → Prop := fun d => d.mc = { s.dev.mc with retries := s.dev.dt :: s.dev.mc.retries } ∧ d.regs = s.dev.regs
    (s.dev.rd MC Reg.MC.RETURN_MODE ≠ Mode.kindling.enc → Does .emberRetry s remembered (seqs [
      changeMode (Mode.ofCode (s.dev.rd MC Reg.MC.RETURN_MODE)) 0x44,
      put MC Reg.MC.RETRY_HOUR (s.dev.recentRetries.length + 1)])) ∧
    (s.dev.rd MC Reg.MC.RETURN_MODE = Mode.kindling.enc → Does .emberRetry s remembered (seqs [
      enterKindling 0x44 true, put MC Reg.MC.RETRY_HOUR (s.dev.recentRetries.length + 1)]))) ∧
  (∀ s : State, s.runs →
    (s.dev.mode ≠ .ember ∨ s.dev.mc.holdoffDone = false ∨ s.dev.emberClear = false → Does .emberRetry s fun d => d = s.dev) ∧
    (∀ i t, (i, t) ∈ [(Instr.emberHoldoffExpiry, Timer.holdoff), (.backoffDwellExpiry, .backoffDwell), (.surveyTimerExpiry, .survey),
        (.serviceTokenExpiry, .serviceToken)] →
      (s.dev.deadline t = none → Does i s fun d => d = s.dev) ∧
      (∀ t0, s.dev.deadline t = some t0 → (i = .backoffDwellExpiry ∧ (s.dev.mode ≠ .backoff ∨ s.dev.backoffAmounts ≠ []) ∨
          i = .surveyTimerExpiry ∧ s.dev.mode ≠ .survey ∨ i = .serviceTokenExpiry ∧ s.dev.mode ≠ .service) →
        Does i s fun d => d.deadline t = none ∧ d.clock = (s.dev.reach t0).clock ∧ d.regs = s.dev.regs ∧ d.mc = s.dev.mc)))

/-! ### Configuration slots -/

/-- STAGE (R311): refused outside its modes, out of sequence, and while a staged slot is validated; OFFSET 0 asks for a directory
write first, a later part goes to the slot at its offset, or ends with MEDIA where its write fails; the last part starts the
validation, its signature in the Caddy's engine (R332). The validation ends with STAGE_STATE 3 or 4 and asks for a directory
write. A command that must wait, or is not there, has no effect yet. COMMIT, CONFIRM and REVERT (R311, R314, R315): their refusals
in order; an accepted one asks for its directory write, and a COMMIT or REVERT shows its transition in progress. A command that
must wait for an earlier operation has no effect yet. -/
def Obligations.StagingAndSlotCommands : Prop :=
  (∀ (s : State) (tag : Nat) (data : List Byte) (ok : Bool) (c : Cmd), s.runs → s.dev.passed tag 0x01 = some c →
    data.length = c.len → s.dev.cc.ops = [] →
    let off := c.par 24 4
    let final := (c.par 28 1).testBit 0
    let i := s.dev.dirNow.stg
    let modeOk := s.dev.modeIn [.banked, .carry, .backoff, .ember, .service] = true ∨
      (s.dev.mode = .cold ∧ s.dev.rd WS Reg.WS.READY ≠ 0)
    let inSeq := (off = 0 ∨ off = s.dev.rd CC Reg.CC.STAGE_BYTES) ∧ off + data.length ≤ 4194304
    (¬modeOk → Does (.stage tag data ok) s (fun d => d = s.dev) (ccComplete tag ccMode 0)) ∧
    (modeOk → ¬inSeq → Does (.stage tag data ok) s (fun d => d = s.dev) (ccComplete tag ccSequence 0)) ∧
    (modeOk → inSeq → s.dev.cc.validating ≠ none →
      Does (.stage tag data ok) s (fun d => d = s.dev) (ccComplete tag ccBusy 0)) ∧
    (modeOk → inSeq → s.dev.cc.validating = none → s.dev.writesUp = false → Does (.stage tag data ok) s fun d => d = s.dev) ∧
    (modeOk → inSeq → s.dev.cc.validating = none → s.dev.writesUp = true →
      (off = 0 → Does (.stage tag data ok) s fun d =>
        d.cc = { s.dev.cc with ops := [.stageBegin tag data final ok] } ∧ d.p0 = s.dev.p0 ∧ d.regs = ((takeUp tag).run s.dev).regs) ∧
      (off ≠ 0 → ok = false → Does (.stage tag data ok) s (fun d => d = (takeUp tag).run s.dev) (ccComplete tag ccMedia 0)) ∧
      (off ≠ 0 → ok = true → i < 3 → Does (.stage tag data ok) s (fun d =>
        d.p0.slotBytes i = stagedBytes (s.dev.p0.slotBytes i) off data ∧
        (∀ k < 3, k ≠ i → d.p0.slotBytes k = s.dev.p0.slotBytes k) ∧
        d.rd CC Reg.CC.STAGE_BYTES = off + data.length ∧ d.rd CC Reg.CC.STAGE_STATE = if final then 2 else 1)
        (if final then seqs [modCc fun c => { c with validating := some tag }, requestSign .container]
          else ccComplete tag 0 (off + data.length))))) ∧
  (∀ (s : State) (tag : Nat) (data : List Byte) (ok : Bool), s.runs →
    ((∀ c, s.dev.passed tag 0x01 = some c → data.length ≠ c.len) ∨ s.dev.cc.ops ≠ []) →
    Does (.stage tag data ok) s fun d => d = s.dev) ∧
  (∀ (s : State) (tag : Nat), s.runs → s.dev.cc.validating = some tag → s.dev.stageEnding = false → s.dev.checking = false →
    let v := s.dev.validate (s.dev.p0.slotBytes s.dev.dirNow.stg) (s.dev.rd CC Reg.CC.STAGE_BYTES)
    Does .stageValidationDone s fun d =>
      d.rd CC Reg.CC.STAGE_STATE = (if v = none then 3 else 4) ∧ d.rd CC Reg.CC.PASSED = b2n v.isNone ∧ d.p0 = s.dev.p0 ∧
      d.cc = { s.dev.cc with ops := s.dev.cc.ops ++ [.stageEnd tag v.isNone] }) ∧
  (∀ s : State, s.runs → s.dev.cc.validating = none ∨ s.dev.stageEnding = true ∨ s.dev.checking = true →
    Does .stageValidationDone s fun d => d = s.dev) ∧
  (∀ (s : State) (tag : Nat) (c : Cmd), s.runs →
     let x := s.dev.dirNow
     let ends := fun (i : Instr) (r : Nat) => Does i s (fun d => d = s.dev) (ccComplete tag r 0)
     (s.dev.passed tag 0x02 = some c → s.dev.cc.ops = [] →
       (s.dev.mode ≠ .banked → ends (.commit tag) ccMode) ∧
       (s.dev.mode = .banked → x.probation = true → ends (.commit tag) ccProbation) ∧
       (s.dev.mode = .banked → x.probation = false → x.stateOf (some x.stg) ≠ 2 → ends (.commit tag) ccNoStaged) ∧
       (s.dev.mode = .banked → x.probation = false → x.stateOf (some x.stg) = 2 → Does (.commit tag) s fun d =>
         d.cc = { s.dev.cc with ops := [.commit tag] } ∧ d.rd MC Reg.MC.TRANSITION = 1 ∧ d.p0 = s.dev.p0)) ∧
     (s.dev.passed tag 0x03 = some c → (s.dev.cc.ops = [] ∨ s.dev.autoReverting = true) →
       let modeOk := s.dev.modeIn [.banked, .survey, .carry, .backoff, .ember, .service]
       (modeOk = false → ends (.confirm tag) ccMode) ∧
       (modeOk = true → x.probation = false → ends (.confirm tag) ccNotOnProbation) ∧
       (modeOk = true → x.probation = true → s.dev.autoReverting = true → ends (.confirm tag) ccBusy) ∧
       (modeOk = true → x.probation = true → s.dev.autoReverting = false → Does (.confirm tag) s fun d =>
         d.cc = { s.dev.cc with ops := [.confirm tag] } ∧ d.p0 = s.dev.p0)) ∧
     (s.dev.passed tag 0x04 = some c → s.dev.cc.ops = [] →
       let low := x.prev.any fun i => decide ((x.slot i).secVer < s.dev.floor)
       (s.dev.mode ≠ .banked → ends (.revert tag) ccMode) ∧
       (s.dev.mode = .banked → x.stateOf x.prev ≠ 3 → ends (.revert tag) ccNoPrevious) ∧
       (s.dev.mode = .banked → x.stateOf x.prev = 3 → low = true → ends (.revert tag) ccFloor) ∧
       (s.dev.mode = .banked → x.stateOf x.prev = 3 → low = false → Does (.revert tag) s fun d =>
         d.cc = { s.dev.cc with ops := [.revert tag] } ∧ d.rd MC Reg.MC.TRANSITION = 1 ∧ d.p0 = s.dev.p0)) ∧
     (s.dev.passed tag 0x02 = none ∨ s.dev.cc.ops ≠ [] → Does (.commit tag) s fun d => d = s.dev) ∧
     (s.dev.passed tag 0x03 = none ∨ (s.dev.cc.ops ≠ [] ∧ s.dev.autoReverting = false) →
       Does (.confirm tag) s fun d => d = s.dev) ∧
     (s.dev.passed tag 0x04 = none ∨ s.dev.cc.ops ≠ [] → Does (.revert tag) s fun d => d = s.dev))

/-- Directory writes and probation (R308, R310, R314). A write that verifies puts the operation's directory, with the next SEQ,
into the page that does not hold the one in force, and the operation goes on; one that fails leaves both pages. The probation
window's end asks for an automatic revert where Previous is usable, and a failed one is tried again; in Ember and Service the
retry waits (the model's reading, log entry 171). -/
def Obligations.DirectoryWritesEnd : Prop :=
  (∀ (s : State) (ok okA okB : Bool) (op : DirOp) (rest : List DirOp), s.runs → s.dev.cc.ops = op :: rest → s.dev.writesUp = true →
    let x := s.dev.dirNow
    let y := { op.result s.dev.p0 x with
      seq := x.seq + 1, dt := s.dev.dt, wall := s.dev.clock.wall, epoch := s.dev.clock.epoch }
    (ok = true → Does (.directoryWriteDone ok okA okB) s (fun d =>
      d.cc = { s.dev.cc with ops := rest, dir := some y } ∧
      d.p0 = (if s.dev.p0.directory.isSome = true ∧ s.dev.p0.dirA = some x then { s.dev.p0 with dirB := some y }
        else { s.dev.p0 with dirA := some y }) ∧ d.regs = s.dev.regs)
      (seqs [slotRecords op x y, showDirectory, dirWritten op okA okB])) ∧
    (ok = false → Does (.directoryWriteDone ok okA okB) s (fun d =>
      d.cc = { s.dev.cc with ops := rest } ∧ d.p0 = s.dev.p0 ∧ d.regs = s.dev.regs)
      (seqs [fireEvent CC 6 devScope [], dirFailed op]))) ∧
  (∀ (s : State) (ok okA okB : Bool), s.runs → s.dev.cc.ops = [] ∨ s.dev.writesUp = false →
    Does (.directoryWriteDone ok okA okB) s fun d => d = s.dev) ∧
  (∀ (s : State) (t0 : Nat), s.runs →
    (s.dev.deadline .probation = some t0 → Does .probationExpiry s (fun d =>
      d.cc = { s.dev.cc with probLeft := 0 } ∧ d.deadline .probation = none ∧ d.clock = (s.dev.reach t0).clock)
      (when (s.dev.prevOk s.dev.dirNow) (requestDir .autoRevert))) ∧
    (s.dev.deadline .revertRetry = some t0 → Does .revertWriteRetry s (fun d =>
      d.cc = s.dev.cc ∧ d.deadline .revertRetry = none ∧ d.clock = (s.dev.reach t0).clock)
      (when s.dev.dirNow.probation (if s.dev.probCounts = true then requestDir .autoRevert
        else startTimer .revertRetry 491520000))) ∧
    (s.dev.deadline .probation = none → Does .probationExpiry s fun d => d = s.dev) ∧
    (s.dev.deadline .revertRetry = none → Does .revertWriteRetry s fun d => d = s.dev)) ∧
  (∀ (p : Parcel) (x : Directory) (op : DirOp),
    ((op = .promote ∨ ∃ t, op = .commit t) → (op.result p x).cur = some x.stg ∧ (op.result p x).prev = x.cur ∧
      (op.result p x).probation = true ∧ (op.result p x).bootTries = 0 ∧
      (∀ i, x.prev = some i → (op.result p x).stg = i)) ∧
    ((op = .autoRevert ∨ (∃ t, op = .revert t) ∨ ∃ c, op = .kindleRevert c) →
      (op.result p x).cur = x.prev ∧ (op.result p x).prev = x.cur ∧ (op.result p x).bootTries = 0) ∧
    (∀ t l, op = .lockoutClear t l → op.result p x = { x with lockout := false, lockoutCause := 0 }))

/-! ### Faults of the die -/

/-- The scrub and the shadow (R317, R318). A pass rewrites the words it found, counts itself and shows its time; a word's LK
fields take the shadow's value; each is counted and named, and raises the source of its kind. Before the scrubber runs a pass does
nothing. A reload passes when the slot still holds what the shadow was loaded from. A triple-modular disagreement is counted. SRAM
errors (R37). A corrected error is counted in its unit; in a cell's SRAM the sixteenth within 1 s raises the source and the count
starts over; an absent unit has no SRAM. An uncorrectable one draws its region's reaction. -/
def Obligations.ScrubAndSramErrors : Prop :=
  (∀ (s : State) (us : Nat) (words : List (Nat × Nat × Nat)) (bad : Bool), s.runs →
    let x := (forEach words fun w => fixWord w.1 w.2.1 w.2.2).run s.dev
    (s.dev.scrubs = true → Does (.scrubPass us words bad) s (fun d =>
      d.rd CC Reg.CC.PASS_CNT = (x.rd CC Reg.CC.PASS_CNT + 1) % 2 ^ Reg.CC.PASS_CNT.width ∧
      d.rd CC Reg.CC.PASS_TIME = min us 20000 ∧ OnlyRegs x d [Reg.CC.PASS_CNT.at CC, Reg.CC.PASS_TIME.at CC])
      (when bad startReload)) ∧
    (s.dev.scrubs = false → Does (.scrubPass us words bad) s fun d => d = s.dev)) ∧
  (∀ (d : Dev) (u off idx : Nat), d.present u = true → u < 65536 → off < 0x1000 →
    let key := off + 0x1000 * idx
    let again := d.cc.fixed.any fun x => x.1 == u && x.2.1 == key && decide (d.dt ≤ x.2.2 + 491520000)
    let x := (restoreWord u off idx).run d
    (∀ w, d.shadowWord u off idx = some w → typeOf u ≠ 8 →
      ∀ f ∈ wordFields (typeOf u) (pathOffset (typeOf u) off idx), f.1.acc = .lk → x.rd u f.1 f.2.1 f.2.2 = f.1.of w.value) ∧
    ∃ d', (fixWord u off idx).run d = (seqs [
        if tripledWord u off idx = true then fireEvent CC 5 devScope [] else if again = true then fireEvent CC 1 devScope []
          else fireEvent CC 0 noScope [],
        modCc fun c => { c with fixed :=
          (u, key, d.dt) :: c.fixed.filter fun x => !(x.1 == u && x.2.1 == key) && decide (d.dt ≤ x.2.2 + 491520000) }]).run d' ∧
      Counts x d' CC Reg.CC.SCRUB_FIX ∧ d'.rd CC Reg.CC.FIX_UNIT = u ∧ d'.rd CC Reg.CC.FIX_OFFSET = off ∧
      OnlyRegs x d' [Reg.CC.SCRUB_FIX.at CC, Reg.CC.FIX_UNIT.at CC, Reg.CC.FIX_OFFSET.at CC]) ∧
  (∀ (s : State) (ok : Bool), s.runs →
    (s.dev.cc.reloading = true → ok = true → cDigest s.dev.currentBytes = cDigest s.dev.cc.shadow →
      Does (.shadowReloadDone ok) s fun d => d.rd CC Reg.CC.SHADOW_OK = 1 ∧
        d.cc = { s.dev.cc with reloading := false, shadow := s.dev.currentBytes } ∧ SameRegs s.dev d [Reg.CC.SHADOW_OK.at CC]) ∧
    (s.dev.cc.reloading = true → ok = false ∨ cDigest s.dev.currentBytes ≠ cDigest s.dev.cc.shadow → Does (.shadowReloadDone ok) s
      (fun d => d = { s.dev with cc := { s.dev.cc with reloading := false } }) (fireEvent CC 3 devScope [])) ∧
    (s.dev.cc.reloading = false → Does (.shadowReloadDone ok) s fun d => d = s.dev)) ∧
  (∀ s : State, s.runs → Does .tmrDisagreement s (fun d => Counts s.dev d CC Reg.CC.TMR_FIX ∧
    OnlyRegs s.dev d [Reg.CC.TMR_FIX.at CC]) (fireEvent CC 4 noScope [])) ∧
  (∀ (s : State) (w : SramWord) (gaps : List (Nat × Nat × Nat × Nat)), s.runs → s.dev.present (sramOwner w) = true →
    let u := sramOwner w
    let counted : Dev → Prop := fun d =>
      d.rd u Reg.HDR.ECC_CORR = min (2 ^ Reg.HDR.ECC_CORR.width - 1) (s.dev.rd u Reg.HDR.ECC_CORR + 1) ∧
      SameRegs s.dev d [Reg.HDR.ECC_CORR.at u]
    let ts := s.dev.dt :: (s.dev.cellAt u).eccAt.filter fun t => decide (s.dev.dt < t + 491520000)
    (typeOf u ≠ 3 → Does (.sramEccError w false gaps) s fun d => counted d ∧ d.cell = s.dev.cell) ∧
    (typeOf u = 3 → ts.length < 16 → Does (.sramEccError w false gaps) s fun d => counted d ∧ (d.cellAt u).eccAt = ts) ∧
    (typeOf u = 3 → 16 ≤ ts.length → Does (.sramEccError w false gaps) s
      (fun d => counted d ∧ (d.cellAt u).eccAt = []) (fireEvent u 3 (cellScope u) []))) ∧
  (∀ (s : State) (w : SramWord) (gaps : List (Nat × Nat × Nat × Nat)), s.runs → s.dev.present (sramOwner w) = false →
    Does (.sramEccError w false gaps) s fun d => d = s.dev) ∧
  (∀ (s : State) (gaps : List (Nat × Nat × Nat × Nat)), s.runs →
    let draws := fun (w : SramWord) (p : Script) => Does (.sramEccError w true gaps) s (fun d => d = s.dev) p
    (∀ u, draws (.link u) (fireEvent u 0 (setScope u 0xFF (s.dev.linkCells u)) [])) ∧
    (∀ c, draws (.cell c) (fireEvent c 16 (cellScope c) [])) ∧
    (∀ u, draws (.align u) (if typeOf u = 3 then fireEvent u 17 (cellScope u) []
      else fireEvent u 17 (setScope u 0xFF (s.dev.cellsOfCb (secOf u) (idxOf u))) [])) ∧
    (∀ n p, draws (.damper n p) (seqs [fireEvent (dsU n) 1 (s.dev.pathScope n p) [], zeroPath n p .stateError])) ∧
    (∀ n, draws (.ring n) (seqs [fireEvent (crU n) 0 noScope [], forEach gaps (spoilRing n)])) ∧
    (∀ k, draws (.record k) (seqs [fireEvent EV 0 devScope [], dropSlot k])) ∧
    draws .captures (seqs [fireEvent WS 11 devScope [], forEach gaps spoil]) ∧
    (∀ t, draws (.media t) (seqs [fireEvent WS 10 devScope [], spoilTransfer t])) ∧
    (∀ q, draws (.queues q) (stopQueue q 3)) ∧
    (s.dev.cc.shadow ≠ [] → draws .shadow startReload) ∧ (s.dev.cc.shadow = [] → draws .shadow skip) ∧
    (s.dev.rd WS Reg.WS.READY = 0 → draws .zoneMap (fireEvent WS 9 devScope [])) ∧
    (s.dev.rd WS Reg.WS.READY ≠ 0 → Does (.sramEccError .zoneMap true gaps) s (fun d =>
      d.med = { s.dev.med with rebuilding := true } ∧ d.rd WS Reg.WS.MEDIUM_STATE = 3 ∧ d.rd WS Reg.WS.WRITES_HELD = 1)
      (fireEvent WS 9 devScope [])))

/-- The check sources (R475 to R477), the engines' lockstep (R208) and the Cross-Section Bus (R18, R181). A residue that differs
from its prediction, two groups of shadow samples in a row that mismatch, a muted cell's output that is not 0, the two mute rails
that differ and a pin that reads against its commanded level for 64 cycles hold their source's condition; the check's next pass
ends it, which the spec leaves open (the model's choice, log entry 178). On a link a wrong word or a rail is an event. A lockstep
mismatch sets LOCKSTEP_ERR and marks every cell of the section muted. A word of the bus with wrong parity is counted and reported.
-/
def Obligations.ChecksRaiseTheirSources : Prop :=
  (∀ (s : State) (u k : Nat) (f : Finding) (ra rb : Bool), s.runs → s.dev.present u = true →
    let same : Dev → Prop := fun d => d = s.dev
    let vals : List Int := [b2n ra, b2n rb]
    (typeOf u = 3 →
      (∀ a b, Does (.datapathCheckFail u (.residue a b)) s same
        (condSet (a % 3 != b % 3) u 21 0 (cellScope u) [Int.ofNat a, Int.ofNat b])) ∧
      (∀ p q, let bad := monMismatch p q (64 * 2 ^ 46)
        let n := if bad = true then (s.dev.cellAt u).shadowBad + 1 else 0
        Does (.datapathCheckFail u (.shadow p q)) s (fun d => (d.cellAt u).shadowBad = n ∧ d.regs = s.dev.regs)
          (when (!bad || decide (2 ≤ n)) (condSet bad u 21 2 (cellScope u)
            [signed 16 (levelCode cdbOpen p (64 * 2 ^ 46)), signed 16 (levelCode cdbOpen q (64 * 2 ^ 46))]))) ∧
      (∀ re im, Does (.datapathCheckFail u (.output re im)) s same
        (condSet (s.dev.rd u Reg.BC.MUTE_SRC != 0 && (re, im) != (0, 0)) u 21 3 (cellScope u) [re / 256, im / 256])) ∧
      Does (.muteRailDisagreement u k ra rb) s same (condSet (ra != rb) u 21 1 (cellScope u) vals)) ∧
    (typeOf u = 5 → ∀ a b, Does (.datapathCheckFail u (.residue a b)) s same
      (condSet (a % 3 != b % 3) u 18 1 (setScope u 0xFF (s.dev.cellsOfCb (secOf u) (idxOf u))) [Int.ofNat a, Int.ofNat b])) ∧
    (typeOf u = 2 →
      (∀ a b, Does (.datapathCheckFail u (.word a b)) s same
        (when (a != b) (fireEvent u 4 (setScope u 0xFF (s.dev.linkCells u)) [Int.ofNat a, Int.ofNat b]))) ∧
      Does (.muteRailDisagreement u k ra rb) s same
        (when (ra != rb) (fireEvent u 4 (setScope u 0xFF (s.dev.linkCells u)) vals))) ∧
    (typeOf u = 6 → Does (.muteRailDisagreement u k ra rb) s same
      (condSet (ra != rb) u 8 (16 + k) (s.dev.groupScope (secOf u) k) vals)) ∧
    (typeOf u ≠ 2 → typeOf u ≠ 3 → typeOf u ≠ 5 → Does (.datapathCheckFail u f) s same) ∧
    (typeOf u ≠ 2 → typeOf u ≠ 3 → typeOf u ≠ 6 → Does (.muteRailDisagreement u k ra rb) s same)) ∧
  (∀ (s : State) (u k : Nat) (f : Finding) (ra rb : Bool), s.runs → s.dev.present u = false →
    Does (.datapathCheckFail u f) s (fun d => d = s.dev) ∧ Does (.muteRailDisagreement u k ra rb) s fun d => d = s.dev) ∧
  (∀ (s : State) (n p : Nat) (level : Bool) (cycles : Nat), s.runs →
    let bad := level != s.dev.pinLevel n p
    let func := s.dev.rd (rcU n) Reg.RC.PIN_FUNC p
    let judged := s.dev.present (rcU n) = true ∧ func ≠ 0 ∧ func ≠ 9 ∧ (bad = true → 64 ≤ cycles)
    (judged → Does (.pinReadbackMismatch n p level cycles) s (fun d => d = s.dev)
      (condSet bad (rcU n) 8 p (s.dev.groupScope n (s.dev.rd (rcU n) Reg.RC.PIN_GROUP p))
        [b2n (s.dev.pinLevel n p), b2n level])) ∧
    (¬judged → Does (.pinReadbackMismatch n p level cycles) s fun d => d = s.dev)) ∧
  (∀ (s : State) (n : Nat), s.runs →
    (n < 4 → s.dev.sectionOn n = true → s.dev.mode ≠ .cold → Does (.lockstepMismatch n) s (fun d =>
      d.rd (peU n) Reg.PE.LOCKSTEP_ERR = 1 ∧ (∀ c ∈ s.dev.cellsOf n, d.muteCause c mcLockstep = true))
      (condStart (peU n) 0 0 { addr := n * 8192, cells := s.dev.cellsOf n } [])) ∧
    (s.dev.sectionOn n = false ∨ s.dev.mode = .cold → Does (.lockstepMismatch n) s fun d => d = s.dev)) ∧
  (∀ (s : State) (n src : Nat), s.runs →
    let ps := (s.dev.pathsOf n).filter fun p => s.dev.srcOf n p == src
    (s.dev.sectionOn n = true → ps ≠ [] → Does (.xbusParityFail n src) s
      (fun d => Counts s.dev d (dsU n) Reg.DS.PARITY_CNT ∧ OnlyRegs s.dev d [Reg.DS.PARITY_CNT.at (dsU n)])
      (fireEvent (dsU n) 0 (setScope (dsU n) 0xFF (uniq (ps.map (s.dev.rcvOf n)))) [(src : Int)])) ∧
    (s.dev.sectionOn n = false ∨ ps = [] → Does (.xbusParityFail n src) s fun d => d = s.dev))

/-! ### Calibration -/

/-- Runs (R278 to R281). CAL-RUN is refused with its reason, or starts half A in the first free slot. Half A ends and half B
begins after half the time each; at the end of half B the first check of R280 that fails is the reason, and a run that passes them
all is accepted into the set, or only reported; a failure of the image accumulator ends its run. What a half measured is formed
from the samples up to its end. Automatic runs wait for their turn every AUTO_MIN minutes. -/
def Obligations.CalibrationRuns : Prop :=
  (∀ (s : State) (tag : Nat) (c : Cmd), s.runs → s.dev.passed tag 0x0A = some c →
    let kind := c.par 24 1
    let u := c.par 26 2
    (∀ r, s.dev.runRefusal kind u = some r → Does (.calRun tag) s (fun d => d = s.dev) (complete tag (calStatus r) r 0)) ∧
    (s.dev.runRefusal kind u = none → ∃ k, s.dev.freeRun = some k ∧ Does (.calRun tag) s fun d =>
      (∃ r : CalRun, d.ce.runs = s.dev.ce.runs ++ [(k, r)] ∧ r.kind = kind ∧ r.target = u ∧ r.runId = s.dev.ce.nextRun ∧
        r.tag = some tag ∧ r.half = none) ∧
      d.rd CE Reg.CE.SLOT_TARGET k = u % 2 ^ Reg.CE.SLOT_TARGET.width ∧ d.rd CE Reg.CE.SLOT_KIND k = kind % 2 ^ Reg.CE.SLOT_KIND.width ∧
      d.rd CE Reg.CE.SLOT_PHASE k = 1 ∧ d.deadline (.calHalf k) = some (s.dev.dt + 491520 * c.par 28 4 / 2))) ∧
  (∀ (s : State) (tag : Nat), s.runs → s.dev.passed tag 0x0A = none → Does (.calRun tag) s fun d => d = s.dev) ∧
  (∀ s : State, s.runs →
    (∀ t0, s.dev.deadline .autoCal = some t0 → Does .autoCalStart s (fun d =>
      d.deadline .autoCal = some ((s.dev.reach t0).dt + 491520000 * (60 * s.dev.rd CE Reg.CE.AUTO_MIN)) ∧
      d.ce.autoQ = (if s.dev.rd CE Reg.CE.AUTO_EN = 0 then s.dev.ce.autoQ else s.dev.autoTargets) ∧ d.regs = s.dev.regs)
      (when (s.dev.rd CE Reg.CE.AUTO_EN != 0) startAutos)) ∧
    (s.dev.deadline .autoCal = none → Does .autoCalStart s fun d => d = s.dev)) ∧
  (∀ (s : State) (k t0 : Nat) (feed : Feed) (parity : Bool), s.runs → k < 16 → s.dev.deadline (.calHalf k) = some t0 →
    let e := (runPlane feed).run ((stopTimer (.calHalf k)).run (s.dev.reach t0))
    (s.dev.rd CE Reg.CE.SLOT_PHASE k = 1 →
      (∀ r, e.ce.runs.find? (fun x => x.1 == k) = some (k, r) →
        ((r.kind ≠ 3 ∨ parity = false) → Does (.calHalfEnd k feed parity) s fun d =>
          d.rd CE Reg.CE.SLOT_PHASE k = 2 ∧ d.deadline (.calHalf k) = some (e.dt + 491520 * r.runMs / 2) ∧ d.clock = e.clock ∧
          d.ce.runs = (e.ce.runs.map fun x =>
            if x.1 == k then (k, { x.2 with
              half := some (e.calHalf r), acc := { since := e.dt }, coup := e.calCoupling r, model := e.modelOk r }) else x) ∧
          SameRegs e d [Reg.CE.SLOT_PHASE.at CE k]) ∧
        (r.kind = 3 → parity = true → Does (.calHalfEnd k feed parity) s (fun d => d = e) (parityLost k r))) ∧
      (e.ce.runs.find? (fun x => x.1 == k) = none → Does (.calHalfEnd k feed parity) s fun d => d = e) ∧
      Does (.calRunEnd k feed parity) s fun d => d = s.dev) ∧
    (s.dev.rd CE Reg.CE.SLOT_PHASE k = 2 →
      (∀ r ha, e.ce.runs.find? (fun x => x.1 == k) = some (k, r) → r.half = some ha →
        let hb := e.calHalf r
        let judged := fun p => Does (.calRunEnd k feed parity) s (fun d => d = e) p
        let result := if r.kind = 6 then (detMean ha hb).flatMap fun m => leBytes 2 (codeOf 16 (roundOpen m.2.1 m.2.2))
          else calPayload r.kind 0 (calMean (calTotal r ha) (calTotal r hb))
        (r.kind = 3 → parity = true → judged (parityLost k r)) ∧
        ((r.kind ≠ 3 ∨ parity = false) →
          (∀ c, e.calReason r ha hb (e.calCoupling r) (e.modelOk r) = some c →
            judged (endRun k c (if c = 0x18 then result else []))) ∧
          (e.calReason r ha hb (e.calCoupling r) (e.modelOk r) = none →
            (r.noApply = true → judged (endRun k caEstimated result)) ∧
            (r.noApply = false → judged (seqs [acceptRun r ha hb, endRun k caAccepted result]))))) ∧
      ((∀ r ha, e.ce.runs.find? (fun x => x.1 == k) = some (k, r) → r.half ≠ some ha) →
        Does (.calRunEnd k feed parity) s fun d => d = e) ∧
      Does (.calHalfEnd k feed parity) s fun d => d = s.dev)) ∧
  (∀ (s : State) (k : Nat) (feed : Feed) (parity : Bool), s.runs → s.dev.deadline (.calHalf k) = none →
    Does (.calHalfEnd k feed parity) s (fun d => d = s.dev) ∧ Does (.calRunEnd k feed parity) s fun d => d = s.dev)

/-- The Steep and the reference (R285, R288, R289), at multiples of 1 ms and of 1 s, in every mode from Banked to Service. Each
tick moves every ramp one step. A second that passes is accepted: at least 8 detections in each half, by the instant each was
delivered (the model's reading, log entry 182), and frame lock; any other breaks the row of accepted ones. After DISC_HOLD without
one the reference goes to HOLD. Commits of the calibration set (R293, R294). A commit that is due takes the next SEQ and zeroes
the marker of the slot that does not hold the current set. When it ends well the new set is in force and the other slot is gone;
when it fails the current set stands, the failure is counted, and it is tried again after 1 s. -/
def Obligations.SteepReferenceAndCommits : Prop :=
  (∀ (s : State) (t : Nat), s.runs →
    let due := fun (k per : Nat) => s.dev.base.counting = true ∧ s.dev.dt ≤ t ∧ t % per = 0 ∧ s.dev.ticksAt k ≤ t
    let a := s.dev.refHalf (t - 245760000)
    let b := s.dev.refHalf t
    let later := s.dev.ce.refDet.filter fun y => decide (t < y.1)
    let ticked : Nat → Dev → Prop := fun k d => d.clock = (s.dev.reach t).clock ∧ d.ticksAt k = t + 1 ∧ d.regs = s.dev.regs
    (due 0 491520 → Does (.steepTick t) s (fun d => ticked 0 d ∧ d.ce = s.dev.ce)
      (when s.dev.configured (forEach s.dev.ce.ramps tickRamp))) ∧
    (¬due 0 491520 → Does (.steepTick t) s fun d => d = s.dev) ∧
    (due 1 491520000 → s.dev.configured = true → s.dev.rd CE Reg.CE.REF_EN ≠ 0 →
      (s.dev.secondOk a b = true → Does (.refSecond t) s (fun d => ticked 1 d ∧ d.ce = { s.dev.ce with refDet := later })
        (seqs [secondAccepted (-((a.sum * b.n + b.sum * a.n) * 1000000)) (2 * a.n * b.n * s.dev.refScale),
          holdTarget, refCommit])) ∧
      (s.dev.secondOk a b = false → Does (.refSecond t) s
        (fun d => ticked 1 d ∧ d.ce = { s.dev.ce with refDet := later, inRow := 0 }) (seqs [holdTarget, refCommit]))) ∧
    (due 1 491520000 → s.dev.configured = false ∨ s.dev.rd CE Reg.CE.REF_EN = 0 →
      Does (.refSecond t) s fun d => ticked 1 d ∧ d.ce = { s.dev.ce with refDet := later }) ∧
    (¬due 1 491520000 → Does (.refSecond t) s fun d => d = s.dev)) ∧
  (∀ (d : Dev) (a b : RefHalf), d.secondOk a b = true → 8 ≤ a.n ∧ 8 ≤ b.n ∧
    d.rd (sdU (d.rd CE Reg.CE.REF_SS)) Reg.SD.K_FRAME_LOCK (d.rd CE Reg.CE.REF_CAR) ≠ 0) ∧
  (∀ s : State, s.runs →
    (∀ t0, s.dev.deadline .refHold = some t0 →
      (s.dev.rd CE Reg.CE.REF_EN ≠ 0 → s.dev.rd CE Reg.CE.REF_STATE = 1 → Does .refHoldEntry s (fun d =>
        d.ce = { s.dev.ce with inRow := 0 } ∧ d.deadline .refHold = none ∧ d.clock = (s.dev.reach t0).clock) (setRefState 2)) ∧
      (s.dev.rd CE Reg.CE.REF_EN = 0 ∨ s.dev.rd CE Reg.CE.REF_STATE ≠ 1 → Does .refHoldEntry s fun d =>
        d.ce = s.dev.ce ∧ d.deadline .refHold = none ∧ d.clock = (s.dev.reach t0).clock ∧ d.regs = s.dev.regs)) ∧
    (s.dev.deadline .refHold = none → Does .refHoldEntry s fun d => d = s.dev)) ∧
  (∀ s : State, s.runs → s.dev.ce.due = true → s.dev.ce.committing = none → s.dev.configured = true →
    s.dev.writesUp = true → s.dev.deadline .calRetry = none →
    Does .calSetCommit s fun d =>
      d.ce.due = false ∧
      (∃ x : CalSet, d.ce.committing = some x ∧ x.entries = s.dev.refEntries ∧ x.dt = s.dev.dt ∧
        x.seq = (if s.dev.rd CE Reg.CE.SET_VALID = 0 then 0 else s.dev.live CE Reg.CE.SET_SEQ_LO) + 1) ∧
      d.p0 = (if s.dev.rd CE Reg.CE.SET_VALID ≠ 0 ∧ s.dev.rd CE Reg.CE.SET_SLOT = 0 then { s.dev.p0 with calB := none }
        else { s.dev.p0 with calA := none })) ∧
  (∀ s : State, s.runs → s.dev.ce.due = false ∨ s.dev.ce.committing ≠ none ∨ s.dev.configured = false ∨ s.dev.writesUp = false ∨
    s.dev.deadline .calRetry ≠ none → Does .calSetCommit s fun d => d = s.dev) ∧
  (∀ (s : State) (ok : Bool), s.runs → s.dev.ce.committing = none → Does (.calSetCommitDone ok) s fun d => d = s.dev) ∧
  (∀ (s : State) (x : CalSet), s.runs → s.dev.ce.committing = some x →
    (Does (.calSetCommitDone true) s fun d =>
      d.ce = { s.dev.ce with committing := none, stored := x.entries } ∧ d.rd CE Reg.CE.SET_VALID = 1 ∧
      d.live CE Reg.CE.SET_SEQ_LO = x.seq % 2 ^ 64 ∧
      d.p0 = (if s.dev.rd CE Reg.CE.SET_VALID ≠ 0 ∧ s.dev.rd CE Reg.CE.SET_SLOT = 0
        then { s.dev.p0 with calA := none, calB := some x } else { s.dev.p0 with calA := some x, calB := none })) ∧
    (Does (.calSetCommitDone false) s (fun d =>
      d.ce = { s.dev.ce with committing := none } ∧ d.p0 = s.dev.p0 ∧ d.rd CE Reg.CE.STORE_ERR = 1 ∧
      Counts s.dev d CE Reg.CE.STORE_FAIL) (seqs [fireEvent CE 0 noScope [], startTimer .calRetry 491520000]))) ∧
  (∀ (s : State) (t0 : Nat), s.runs → s.dev.deadline .calRetry = some t0 → s.dev.ce.committing = none →
    Does .calCommitRetry s (fun d => d.deadline .calRetry = none ∧ d.clock = (s.dev.reach t0).clock ∧ d.regs = s.dev.regs)
      startCommit) ∧
  (∀ s : State, s.runs →
    (∀ t0, s.dev.deadline .calRetry = some t0 → s.dev.ce.committing ≠ none → Does .calCommitRetry s fun d =>
      d.deadline .calRetry = none ∧ d.clock = (s.dev.reach t0).clock ∧ d.regs = s.dev.regs ∧ d.p0 = s.dev.p0) ∧
    (s.dev.deadline .calRetry = none → Does .calCommitRetry s fun d => d = s.dev))

/-! ### Converter stream links -/

/-- Start-up (R102, R104, R106, R108). An RX link leaves code-group synchronisation at an LMFC boundary; a received ILAS reports
its arrivals, in whole dt rounded up, and fails or leads to the data phase; its retry restarts the link. A TX link whose SYNC~ is
deasserted sends ILAS from the next boundary for four multiframes, and then enters the data phase. Entering it a link whose mute's
checks have passed runs LINK_HOLD ms, else it is in DATA at once. A command that finds the link elsewhere has no effect. -/
def Obligations.LinksStartUp : Prop :=
  (∀ (s : State) (u t : Nat) (c0 c1 : List Nat) (a0 a1 : Nat), s.runs →
    let rx := isRxl u = true ∧ s.dev.linkOn u = true
    let tx := isRxl u = false ∧ s.dev.linkOn u = true
    let ilas := rx ∧ s.dev.linkState u = lsIlas ∧ s.dev.deadline (.ilasRetry u) = none
    let l0 := ceilDiv a0 65536
    let l1 := ceilDiv a1 65536
    let arrived : Dev → Prop := fun d => d.clock = (s.dev.reach t).clock ∧
      (s.dev.sub0 u = false → d.rd u Reg.RXL.ARRIVAL_L0 = l0 % 2 ^ Reg.RXL.ARRIVAL_L0.width ∧
        (s.dev.fmt u ≠ 2 → d.rd u Reg.RXL.ARRIVAL_L1 = l1 % 2 ^ Reg.RXL.ARRIVAL_L1.width)) ∧
      SameRegs s.dev d [Reg.RXL.ARRIVAL_L0.at u, Reg.RXL.ARRIVAL_L1.at u]
    let fail := s.dev.ilasFailure u [c0, c1]
    let late := if s.dev.sub0 u then none else s.dev.tooLate u l0 l1
    (rx → s.dev.linkState u = lsCgs → Does (.cgsAchieved u t) s fun d =>
      d.linkState u = lsIlas ∧ d.rd u Reg.RXL.SYNC_OUT = 0 ∧ d.rd u Reg.RXL.LANE_SYNC = (if s.dev.fmt u = 2 then 1 else 3) ∧
      d.clock = (s.dev.reach (s.dev.boundaryAt u t)).clock ∧
      SameRegs s.dev d [Reg.RXL.LINK_STATE.at u, Reg.RXL.SYNC_OUT.at u, Reg.RXL.LANE_SYNC.at u]) ∧
    (¬(rx ∧ s.dev.linkState u = lsCgs) → Does (.cgsAchieved u t) s fun d => d = s.dev) ∧
    (ilas →
      (∀ x, fail = some x → Does (.ilasReceived u t c0 c1 a0 a1) s arrived (ilasFail u x.1 x.2.1 x.2.2.1 x.2.2.2)) ∧
      (∀ x, fail = none → late = some x → Does (.ilasReceived u t c0 c1 a0 a1) s arrived (ilasFail u 5 x.1 0 0)) ∧
      (fail = none → late = none → Does (.ilasReceived u t c0 c1 a0 a1) s arrived
        (seqs [when (!s.dev.sub0 u) (judgeArrival u l0 l1), enterData u t]))) ∧
    (¬ilas → Does (.ilasReceived u t c0 c1 a0 a1) s fun d => d = s.dev) ∧
    (tx → Does (.txSyncDeassert u t) s fun d =>
      d.rd u Reg.TXL.SYNC_IN = 0 ∧ SameRegs s.dev d [Reg.TXL.SYNC_IN.at u] ∧ d.clock = (s.dev.reach t).clock ∧
      (s.dev.linkState u = lsCgs → (d.linkAt u).ilasAt = some (s.dev.boundaryAt u (t + 1))) ∧
      (s.dev.linkState u ≠ lsCgs → d.link = s.dev.link)) ∧
    (¬tx → Does (.txSyncDeassert u t) s fun d => d = s.dev)) ∧
  (∀ (d : Dev) (u b : Nat), (d.linksOn.filter fun u => !isRxl u) = [u] → (d.linkAt u).ilasAt = some b →
    let x := refreshTxLinks.run d
    (d.linkState u = lsCgs → b ≤ d.dt → d.dt < b + 4 * d.lmfc u → x.linkState u = lsIlas) ∧
    (d.linkState u = lsCgs ∨ d.linkState u = lsIlas → b + 4 * d.lmfc u ≤ d.dt → x.inData u = true) ∧
    (d.dt < b → x = d)) ∧
  (∀ (s : State) (u : Nat), s.runs →
    (∀ t0, s.dev.deadline (.ilasRetry u) = some t0 → Does (.ilasRetryTimer u) s (fun d =>
      d.deadline (.ilasRetry u) = none ∧ d.clock = (s.dev.reach t0).clock ∧ d.regs = s.dev.regs)
      (when (s.dev.mode == .kindling || s.dev.rd u Reg.RXL.RESYNC_AUTO != 0) (restartLink u))) ∧
    (s.dev.deadline (.ilasRetry u) = none → Does (.ilasRetryTimer u) s fun d => d = s.dev)) ∧
  (∀ (d : Dev) (u t : Nat), isUnitOf 0x01 4 u = true ∨ isUnitOf 0x02 4 u = true →
    let x := (enterData u t).run d
    let waits := d.linkMuted u && !(isRxl u && d.is u Reg.RXL.LAT_SHIFT)
    x.linkState u = (if waits then lsHold else lsData) ∧ (x.linkAt u).reached = true ∧
    (waits = true → x.deadline (.linkHold u) =
      some (t + 491520 * if isRxl u then d.rd u Reg.RXL.LINK_HOLD else d.rd u Reg.TXL.LINK_HOLD)))

/-- Errors, requests and test patterns (R105 to R108, R110 to R112). Each character error in the data phase counts in its lane's
counter and draws its reaction. On a TX link a SYNC~ low run of N_REQ samples mutes and restarts it, and a shorter one is counted
as a report; a link mute ends LINK_HOLD ms after the data phase. RESYNC and PAT_CFG are written as R107 and R110 let them. A
checker locks after 64 clean words, counts what it sees from the next marker on, and loses lock at 16 bad ones of 64; a generator
sends its pattern with the injected bit flipped. A command that finds the link or the lane elsewhere has no effect. -/
def Obligations.LinkErrorsAndPatterns : Prop :=
  (∀ (s : State) (u t lane pos : Nat), s.runs →
    let takes := isUnitOf 0x01 4 u = true ∧ s.dev.linkOn u = true ∧ s.dev.inData u = true ∧ (s.dev.fmt u = 2 → lane ≠ 1)
    let counts := fun (f : Fld) (k : Nat) (q : Script) => Does (.laneCharError u t lane k pos) s (fun d =>
      Counts s.dev d u f lane ∧ d.clock = (s.dev.reach t).clock ∧ SameRegs s.dev d [f.at u lane]) q
    (takes → lane < 2 →
      counts Reg.RXL.L_DISP_ERR 0 (badChar u t) ∧ counts Reg.RXL.L_NIT_ERR 1 (badChar u t) ∧
      counts Reg.RXL.L_UNEXP_K 2 (badChar u t) ∧ counts Reg.RXL.L_ALIGN_ERR 3 (misplacedA u lane pos) ∧
      counts Reg.RXL.L_ALIGN_ERR 4 skip ∧
      Does (.laneCharError u t lane 5 pos) s (fun d => Counts s.dev d u Reg.RXL.L_CGS_LOSS lane ∧
        (d.rd u Reg.RXL.LANE_SYNC).testBit lane = false ∧ d.clock = (s.dev.reach t).clock) (loseLink u 1)) ∧
    (isRxl u = false ∨ s.dev.linkOn u = false ∨ s.dev.inData u = false ∨ (s.dev.fmt u = 2 ∧ lane = 1) →
      ∀ k, Does (.laneCharError u t lane k pos) s fun d => d = s.dev)) ∧
  (∀ (s : State) (u t run : Nat), s.runs → isUnitOf 0x02 4 u = true → s.dev.linkOn u = true → 0 < run →
    let low : Dev → Prop := fun d => d.rd u Reg.TXL.SYNC_IN = 1 ∧ d.clock = (s.dev.reach t).clock
    (s.dev.inData u = true →
      (nReq (s.dev.fmt u) ≤ run → Does (.txSyncRequest u t run) s
        (fun d => low d ∧ Counts s.dev d u Reg.TXL.SYNC_REQ_CNT ∧
          SameRegs s.dev d [Reg.TXL.SYNC_IN.at u, Reg.TXL.SYNC_REQ_CNT.at u]) (seqs [linkMute u 5, restartLink u])) ∧
      (run < nReq (s.dev.fmt u) →
        Does (.txSyncRequest u t run) s (fun d => low d ∧ SameRegs s.dev d [Reg.TXL.SYNC_IN.at u]) ∧
        Does (.syncErrReport u t run) s (fun d => d.rd u Reg.TXL.SYNC_IN = 0 ∧ Counts s.dev d u Reg.TXL.SYNC_ERR_CNT ∧
          d.clock = (s.dev.reach t).clock ∧ SameRegs s.dev d [Reg.TXL.SYNC_IN.at u, Reg.TXL.SYNC_ERR_CNT.at u])
          (inWindowCount u (s.dev.rd u Reg.TXL.SYNC_ERR_THRESH) (fireEvent u 2 (setScope u 0xFF (s.dev.linkCells u)) [])))) ∧
    (s.dev.linkState u = lsCgs ∨ s.dev.linkState u = lsIlas → Does (.txSyncRequest u t run) s fun d =>
      low d ∧ d.linkState u = lsCgs ∧ (d.linkAt u).ilasAt = none ∧
      SameRegs s.dev d [Reg.TXL.SYNC_IN.at u, Reg.TXL.LINK_STATE.at u]) ∧
    (s.dev.inData u = false → s.dev.linkState u ≠ lsCgs → s.dev.linkState u ≠ lsIlas →
      Does (.txSyncRequest u t run) s fun d => low d ∧ SameRegs s.dev d [Reg.TXL.SYNC_IN.at u])) ∧
  (∀ (s : State) (u t run : Nat), s.runs →
    (isRxl u = true ∨ s.dev.linkOn u = false ∨ run = 0 → Does (.txSyncRequest u t run) s fun d => d = s.dev) ∧
    (isRxl u = true ∨ s.dev.linkOn u = false ∨ s.dev.inData u = false ∨ run = 0 ∨ nReq (s.dev.fmt u) ≤ run →
      Does (.syncErrReport u t run) s fun d => d = s.dev)) ∧
  (∀ (s : State) (u : Nat), s.runs →
    (∀ t0, s.dev.deadline (.linkHold u) = some t0 → Does (.linkHoldExpiry u) s (fun d =>
      d.linkState u = (if s.dev.linkState u = lsHold then lsData else s.dev.linkState u) ∧ d.clock = (s.dev.reach t0).clock)
      (linkUnmute u)) ∧
    (s.dev.deadline (.linkHold u) = none → Does (.linkHoldExpiry u) s fun d => d = s.dev)) ∧
  (∀ (s : State) (u v be : Nat), s.runs →
    (isUnitOf 0x01 4 u = true → WritesWord (.resync u v be) s u 0x110 v be (resyncRule u v)
      (seqs [if v.testBit 0 then restartLink u else afterTest u (s.dev.testKey u),
        afterTest (txlU (secOf u) (idxOf u)) (s.dev.testKey (txlU (secOf u) (idxOf u)))])) ∧
    (typeOf u ≠ 1 → Does (.resync u v be) s fun d => d = s.dev) ∧
    (∀ lane, lane < 2 → isUnitOf 0x01 4 u = true ∨ isUnitOf 0x02 4 u = true →
      WritesWord (.patCfgWrite u lane v be) s u (0x160 + 0x40 * lane) v be (patRule v)
        (seqs [clearChecker u lane, freshChecker u lane (s.dev.patWord u lane), clearSpareLane u, afterTest u (s.dev.testKey u)])) ∧
    (∀ lane, typeOf u ≠ 1 → typeOf u ≠ 2 → Does (.patCfgWrite u lane v be) s fun d => d = s.dev)) ∧
  (∀ (s : State) (u lane : Nat) (words : List (Nat × Nat)), s.runs →
    let tests := s.dev.linkOn u = true ∧ s.dev.linkState u = lsTest ∧ (s.dev.fmt u = 2 → lane ≠ 1)
    let checks := isRxl u = true ∧ s.dev.rd u Reg.RXL.L_CHK_EN lane ≠ 0 ∧ s.dev.rd u Reg.RXL.L_PATTERN lane ≠ 0
    let sends := isRxl u = false ∧ s.dev.rd u Reg.TXL.L_GEN_EN lane ≠ 0 ∧ s.dev.rd u Reg.TXL.L_PATTERN lane ≠ 0
    (tests → checks → Does (.patternCheckerLock u lane words) s fun d => d = (forEach words (receiveWord u lane)).run s.dev) ∧
    (tests → sends → Does (.patternCheckerLock u lane words) s fun d => d = (forEach words fun _ => sendWord u lane).run s.dev) ∧
    (¬tests ∨ (¬checks ∧ ¬sends) → Does (.patternCheckerLock u lane words) s fun d => d = s.dev)) ∧
  (∀ (d : Dev) (u lane i got : Nat), lane < 2 →
    let pat := d.rd u Reg.RXL.L_PATTERN lane
    let flip := d.injFlip u lane pat i (d.is u Reg.RXL.L_INJ_EN lane) (d.rd u Reg.RXL.L_INJ_N lane) (d.rd u Reg.RXL.L_INJ_BIT lane)
    let c := (d.linkAt u).chk lane
    let rd := if i = 0 then d.repDisparity u lane pat got c.rd else c.rd
    let e := got ^^^ (d.patternWord u lane pat rd i ^^^ flip)
    let x := (checkWord u lane i got).run d
    (d.rd u Reg.RXL.L_LOCKED lane = 0 →
      (e = 0 → 63 ≤ c.clean → x.rd u Reg.RXL.L_LOCKED lane = 1) ∧
      (e ≠ 0 → x.rd u Reg.RXL.L_LOCKED lane = 0 ∧ ((x.linkAt u).chk lane).clean = 0)) ∧
    (d.rd u Reg.RXL.L_LOCKED lane ≠ 0 →
      (16 ≤ ((((e != 0) :: c.recent).take 64).filter id).length →
        x.rd u Reg.RXL.L_LOCKED lane = 0 ∧ Counts d x u Reg.RXL.L_LOCK_LOSS lane) ∧
      (c.counting = true ∨ i = 0 →
        (e ≠ 0 → Counts d x u Reg.RXL.L_REAL_ERR lane) ∧
        (flip ≠ 0 → e &&& flip = 0 → Counts d x u Reg.RXL.L_INJ_SEEN lane) ∧
        (flip ≠ 0 → e &&& flip ≠ 0 → Counts d x u Reg.RXL.L_INJ_MISSED lane)))) ∧
  (∀ (d : Dev) (u lane : Nat),
    let pat := d.rd u Reg.TXL.L_PATTERN lane
    let c := (d.linkAt u).chk lane
    let flip := d.injFlip u lane pat c.word (d.is u Reg.TXL.L_INJ_EN lane) (d.rd u Reg.TXL.L_INJ_N lane) (d.rd u Reg.TXL.L_INJ_BIT lane)
    let x := (sendWord u lane).run d
    x.out = .patternSent u lane [d.patternWord u lane pat c.rd c.word ^^^ flip] :: d.out ∧
    (flip ≠ 0 → Counts d x u Reg.TXL.L_INJ_MADE lane ∧ SameRegs d x [Reg.TXL.L_INJ_MADE.at u lane]) ∧
    (flip = 0 → x.regs = d.regs))

/-! ### Band cells and Combiners -/

/-- A block of a cell's grid ends (R128, R132, R133, R160, R161): its instant is that at which its last sample leaves the cell
(the model's reading, log entry 164). The block counts, and the stamps are those of its first sample at the ADC and at the DAC;
then powers, spectra, AGC, probe, detectors and the deliveries follow, of which the settling flag leaves out spectra, averages and
AGC (the AGC's hold is the model's choice, log entry 159). A cell that is not on, or has no grid, ends no block. -/
def Obligations.BlocksEndOnTheGrid : Prop :=
  (∀ (s : State) (c tg : Nat) (feed : Feed), s.runs → isUnitOf 0x03 32 c = true → s.dev.cellOn c = true →
    (s.dev.cellAt c).tg = some tg →
    let e := (runPlane feed).run (s.dev.reach
      (tg + (256 * ((s.dev.cellAt c).blocks + 1) - 1) * s.dev.period c + s.dev.rxChain c + s.dev.core c))
    let done := (e.plane.cells.get {} c).done.filter fun b => decide (tg ≤ b.g)
    (done = [] → Does (.blockEnd c feed) s fun d => d = e) ∧
    (∀ b rest, done = b :: rest →
      let flag := e.settles c b.g
      let tadc := b.g - e.rd (e.rxlOf c) Reg.RXL.PATH_DT
      let n := b.num % 2 ^ 32
      Does (.blockEnd c feed) s (fun d =>
        d.clock = e.clock ∧ d.rd c Reg.BC.BLK_CNT = (n + 1) % 2 ^ 32 ∧ (d.cellAt c).blocks = b.num + 1 ∧
        (d.cellAt c).stampRx = tadc ∧
        (d.cellAt c).stampTx = b.g + e.rxChain c + e.core c + e.txChain c + e.rd (e.txlOf c) Reg.TXL.PATH_DT ∧
        (d.plane.cells.get {} c).done = rest ∧ (∀ x, x ≠ c → d.cellAt x = e.cellAt x) ∧
        SameRegs e d [Reg.BC.BLK_CNT.at c])
        (seqs [powerBlock c n (energy b.raw, energy b.xin, energy b.out, normMax b.out) flag,
          when (!flag) (seqs [spectrumBlock c b.g (spectrum b.xin.reverse) (spectrum b.out.reverse), agcBlock c b.eqE,
            calBlock c b.xin]),
          probeBlock c b.traffic, spectralBlock c (energy b.out) (spectrum b.out.reverse) flag,
          noiseBlock c tadc (energy b.xin), takeTaps c, deliverLoop c, refreshUplink c]))) ∧
  (∀ (s : State) (c : Nat) (feed : Feed), s.runs → s.dev.cellOn c = false ∨ (s.dev.cellAt c).tg = none →
    Does (.blockEnd c feed) s fun d => d = s.dev)

/-- Writes, response sets, gain and squelch of a cell (R126, R127, R151, R152, R155, R161). A change of the averaging starts the
spectra over at the next block boundary; RESP_SEL waits for a block boundary unless the cell is Off; GAIN_SET is re-combined at
once; an upward step adds 0.01 dB; the gate opens when the detector has been at SQ_OPEN for SQ_ATTACK samples, and closes when it
has been below SQ_CLOSE for SQ_RELEASE. Where a command's condition does not hold it has no effect of its own. Power monitors, the
Combiner's reports and saturation windows (R96, R141, R162, R167, R168, R477): each window shows its levels, and the monitor
condition, the sum check and the saturation sources follow; an interval of 65,536 samples reports its ratios. A window that is not
due has no effect. -/
def Obligations.CellSettingsAndMonitors : Prop :=
  (∀ (s : State) (c v be : Nat), s.runs →
    (isUnitOf 0x03 32 c = true →
      WritesWord (.measCfgWrite c v be) s c 0x144 v be plainRule (withDev fun d => modCell c fun x => { x with
        measRestart := some (match x.tg with
          | some tg => d.nextBlock c tg
          | none => 0) }) ∧
      WritesWord (.gainSetWrite c v be) s c 0x108 v be (fun d => { range := d.gainBad c v, mode := d.modeIn [.cold, .kindling] })
        (withDev fun d => when (d.cellOn c) (combine c)) ∧
      WritesWord (.respSelWrite c v be) s c 0x228 v be (fun d => { mode := d.modeIn [.cold, .kindling] })
        (withDev fun d => seqs [
          putB c Reg.BC.RESP_PEND (d.rd c Reg.BC.RESP_SEL != d.rd c Reg.BC.RESP_ACTIVE),
          when (d.rd c Reg.BC.STATE == csOff) (respSwitch c d.dt)])) ∧
    (typeOf c ≠ 3 → ∀ i ∈ [Instr.measCfgWrite c v be, .gainSetWrite c v be, .respSelWrite c v be],
      Does i s fun d => d = s.dev)) ∧
  (∀ (s : State) (c : Nat), s.runs →
    let waits := s.dev.cellOn c = true ∧ s.dev.rd c Reg.BC.RESP_PEND ≠ 0 ∧ s.dev.rd c Reg.BC.SWITCH_AT_SYNC = 0
    (∀ tg, (s.dev.cellAt c).tg = some tg → waits → Does (.respSwitch c) s (fun d =>
      d.clock = (s.dev.reach (s.dev.nextBlock c tg)).clock ∧ d.regs = s.dev.regs)
      (respSwitch c (max s.dev.dt (s.dev.nextBlock c tg)))) ∧
    ((s.dev.cellAt c).tg = none ∨ ¬waits → Does (.respSwitch c) s fun d => d = s.dev)) ∧
  (∀ (d : Dev) (c t : Nat), d.rd c Reg.BC.RESP_SEL ≠ d.rd c Reg.BC.RESP_ACTIVE → ∃ d',
    (respSwitch c t).run d = (noteRec c 0x40 (leBytes 1 (d.rd c Reg.BC.RESP_SEL))).run d' ∧
    d'.rd c Reg.BC.RESP_ACTIVE = d.rd c Reg.BC.RESP_SEL % 2 ^ Reg.BC.RESP_ACTIVE.width ∧ d'.rd c Reg.BC.RESP_PEND = 0 ∧
    (d'.cellAt c).respEnd = t + d.dDec c + d.dInt c ∧ ((d.cellAt c).respEnd < t → (d'.cellAt c).respFrom = t)) ∧
  (∀ (s : State) (c : Nat), s.runs →
    let ended : Nat → Dev → Prop := fun t0 d => d.deadline (.gainSlew c) = none ∧ d.clock = (s.dev.reach t0).clock ∧ d.regs = s.dev.regs
    (∀ (t0 : Nat) (t a : Int), s.dev.deadline (.gainSlew c) = some t0 → levelOf (s.dev.rd c Reg.BC.G_TARGET) = some t →
      s.dev.gApplied c = some a → Does (.gainSlewStep c) s (ended t0)
        (when (decide (a < t) && !(s.dev.cellAt c).rampHold) (setApplied c (some (a + 1))))) ∧
    (∀ t0 : Nat, s.dev.deadline (.gainSlew c) = some t0 → levelOf (s.dev.rd c Reg.BC.G_TARGET) = none ∨ s.dev.gApplied c = none →
      Does (.gainSlewStep c) s (ended t0)) ∧
    (s.dev.deadline (.gainSlew c) = none → Does (.gainSlewStep c) s fun d => d = s.dev)) ∧
  (∀ (s : State) (c t : Nat) (feed : Feed), s.runs →
    let e := (runPlane feed).run (s.dev.reach t)
    let g := e.plane.cells.get {} c
    let opens := e.rd c Reg.BC.SQ_EN ≠ 0 ∧ e.rd c Reg.BC.SQ_CLOSED ≠ 0 ∧ e.rd c Reg.BC.SQ_ATTACK ≤ g.openRun
    let closes := e.rd c Reg.BC.SQ_EN ≠ 0 ∧ e.rd c Reg.BC.SQ_CLOSED = 0 ∧
      ∃ f, g.lowFrom = some f ∧ f + dtOfUs (e.rd c Reg.BC.SQ_RELEASE) ≤ e.dt
    (s.dev.cellOn c = true →
      (opens → Does (.squelchOpen c t feed) s (fun d => d = e) (seqs [setGate c true, inc c Reg.BC.SQ_OPEN_CNT])) ∧
      (¬opens → Does (.squelchOpen c t feed) s fun d => d = e) ∧
      (closes → Does (.squelchReleaseExpiry c t feed) s (fun d => d = e) (setGate c false)) ∧
      (¬closes → Does (.squelchReleaseExpiry c t feed) s fun d => d = e)) ∧
    (s.dev.cellOn c = false → Does (.squelchOpen c t feed) s (fun d => d = s.dev) ∧
      Does (.squelchReleaseExpiry c t feed) s fun d => d = s.dev)) ∧
  (∀ (s : State) (u t a b : Nat), s.runs →
    let due := s.dev.base.counting = true ∧ t % 4096 = 0 ∧ s.dev.dt ≤ t ∧ s.dev.ticksAt (0x10000 + u) ≤ t
    let now : Dev → Prop := fun d => d.clock = (s.dev.reach t).clock ∧ d.ticksAt (0x10000 + u) = t + 1
    (due → s.dev.cellOn u = true →
      let n := 4096 / s.dev.period u
      let bad := monMismatch a (b * 2 ^ 16) (n * 2 ^ 46)
      let nb := if bad then (s.dev.cellAt u).monBad + 1 else 0
      let ng := if bad then 0 else (s.dev.cellAt u).monGood + 1
      let ma := levelCode cdbOpen a (n * 2 ^ 46)
      let mb := levelCode cdbOpen b (n * 2 ^ 30)
      Does (.powerMonitorWindow u t a b) s (fun d => now d ∧
        d.rd u Reg.BC.MON_A = ma % 2 ^ Reg.BC.MON_A.width ∧ d.rd u Reg.BC.MON_B = mb % 2 ^ Reg.BC.MON_B.width ∧
        (d.cellAt u).monBad = nb ∧ (d.cellAt u).monGood = ng ∧
        (d.cellAt u).monSegs = (max a (b * 2 ^ 16) * s.dev.period u :: (s.dev.cellAt u).monSegs).take 120 ∧
        SameRegs s.dev d [Reg.BC.MON_A.at u, Reg.BC.MON_B.at u])
        (monRun u 20 (cellScope u) bad nb ng [signed 16 ma, signed 16 mb])) ∧
    (due → s.dev.combOn u = true →
      let n := 4096 / samplePeriod (s.dev.fmt (txlU (secOf u) (idxOf u)))
      let bad := monMismatch a (b * 2 ^ 8) (n * 2 ^ 38)
      let nb := if bad then (s.dev.combAt u).monBad + 1 else 0
      let ng := if bad then 0 else (s.dev.combAt u).monGood + 1
      let ma := levelCode cdbOpen a (n * 2 ^ 38)
      let mb := levelCode cdbOpen b (n * 2 ^ 30)
      Does (.powerMonitorWindow u t a b) s (fun d => now d ∧
        d.rd u Reg.CB.MON_A = ma % 2 ^ Reg.CB.MON_A.width ∧ d.rd u Reg.CB.MON_B = mb % 2 ^ Reg.CB.MON_B.width ∧
        (d.combAt u).monBad = nb ∧ (d.combAt u).monGood = ng ∧ SameRegs s.dev d [Reg.CB.MON_A.at u, Reg.CB.MON_B.at u])
        (seqs [monRun u 16 (setScope u 0xFF (s.dev.cellsOfCb (secOf u) (idxOf u))) bad nb ng [signed 16 ma, signed 16 mb],
          withDev fun e => putB u Reg.CB.MON_MISMATCH (e.holds u 16), sumCheck u t ma])) ∧
    (due → s.dev.cellOn u = false → s.dev.combOn u = false →
      Does (.powerMonitorWindow u t a b) s fun d => now d ∧ d.regs = s.dev.regs) ∧
    (¬due → Does (.powerMonitorWindow u t a b) s fun d => d = s.dev)) ∧
  (∀ (s : State) (u t : Nat) (feed : Feed), s.runs →
    let e := (runPlane feed).run (s.dev.reach t)
    (s.dev.combOn u = true →
      ((e.plane.combs.get {} u).report = none → Does (.parIntervalEnd u t feed) s fun d => d = e) ∧
      (∀ r, (e.plane.combs.get {} u).report = some r → Does (.parIntervalEnd u t feed) s fun d =>
        d.clock = e.clock ∧ (d.plane.combs.get {} u).report = none ∧
        (r.maxIn ≠ 0 → r.sumIn ≠ 0 →
          d.rd u Reg.CB.PAR_IN = levelCode cdbOpen (r.maxIn * 65536) r.sumIn % 2 ^ Reg.CB.PAR_IN.width) ∧
        (r.maxOut ≠ 0 → r.sumOut ≠ 0 →
          d.rd u Reg.CB.PAR_OUT = levelCode cdbOpen (r.maxOut * 65536) r.sumOut % 2 ^ Reg.CB.PAR_OUT.width) ∧
        (r.any = false → d.rd u Reg.CB.CFR_EVM = 0x8000) ∧
        (r.any = true → r.canc ≠ 0 → r.sumOut ≠ 0 →
          d.rd u Reg.CB.CFR_EVM = levelCode cdbOpen r.canc (r.sumOut * 2 ^ 42) % 2 ^ Reg.CB.CFR_EVM.width) ∧
        SameRegs e d [Reg.CB.PAR_IN.at u, Reg.CB.PAR_OUT.at u, Reg.CB.CFR_EVM.at u])) ∧
    (s.dev.combOn u = false → Does (.parIntervalEnd u t feed) s fun d => d = s.dev)) ∧
  (∀ (s : State) (u t : Nat) (feed : Feed), s.runs →
    let due := s.dev.base.counting = true ∧ t % 491520 = 0 ∧ s.dev.dt ≤ t ∧ s.dev.ticksAt (0x20000 + u) ≤ t
    let e := (runPlane feed).run ((upd (.ticks (0x20000 + u) (t + 1))).run (s.dev.reach t))
    (due →
      (typeOf u = 2 → Does (.saturationWindow u t feed) s (fun d => d = e) (when (e.linkAt u).satSeen
        (seqs [modLink u (fun l => { l with satSeen := false }), fireEvent u 3 noScope []]))) ∧
      (typeOf u = 3 → Does (.saturationWindow u t feed) s (fun d => d = e) (seqs [
        when (e.cellAt u).strSeen (seqs [modCell u (fun x => { x with strSeen := false }), fireEvent u 0 (cellScope u) []]),
        when (e.cellAt u).satSeen (seqs [modCell u (fun x => { x with satSeen := false }), fireEvent u 1 (cellScope u) []])])) ∧
      (typeOf u = 5 → Does (.saturationWindow u t feed) s (fun d => d = e) (when (e.combAt u).satSeen
        (seqs [modComb u (fun x => { x with satSeen := false }),
          fireEvent u 0 (setScope u 0xFF (e.cellsOfCb (secOf u) (idxOf u))) []]))) ∧
      (typeOf u ≠ 2 → typeOf u ≠ 3 → typeOf u ≠ 5 → Does (.saturationWindow u t feed) s fun d => d = e)) ∧
    (¬due → Does (.saturationWindow u t feed) s fun d => d = s.dev))

/-! ### The Damper -/

/-- Hops (R182, R183, R188, R189, R477). A hop of a declared path whose 32 samples are there counts at its end, with its power and
that of the source's probe; one that sounded intact in Listen, at a used hop of the throttle level, with the path not frozen,
updates the path; a residue failure discards it. An update counts when every lag of its taps was measured, and moves taps and lags
by the rule of R183; a rounding that the rule leaves open is a free value. Measurement updates and host writes (R187, R190, R191,
R202). At each 1 ms every Slice measures its paths once a configuration is applied; a suspended path goes back to PROBE when its
hold ends; ZERO_ALL zeroes every path of its Slice; PATH_SEL latches the path's last snapshot. -/
def Obligations.PathsAreUpdatedAndMeasured : Prop :=
  (∀ (s : State) (n p h : Nat) (feed : Feed) (residue : Bool), s.runs →
    let c := s.dev.rcvOf n p
    let key := 0x40000 + n * 256 + p
    (∀ tg, (s.dev.cellAt c).tg = some tg →
      let te := s.dev.inputAt c tg (32 * h + 31)
      let e := (runPlane feed).run ((upd (.ticks key (te + 1))).run (s.dev.reach te))
      let due := s.dev.pathOn n p = true ∧ s.dev.ticksAt key ≤ te ∧ s.dev.dt ≤ te
      let rcv := e.rcvOf n p
      let t0 := tg + 32 * h * e.period rcv - e.rd (e.rxlOf rcv) Reg.RXL.PATH_DT
      let hears := (e.rxGroup n (e.rd rcv Reg.BC.RXL)).any fun k => e.listened n k t0 (t0 + 31 * e.period rcv)
      let used := !e.hopZeroed rcv tg h && hears && !e.skips h && !e.pathFrozen n p
      (due → e.hopEps rcv h = none → Does (.damperHop n p h feed residue) s fun d => d = e) ∧
      (∀ eps, due → e.hopEps rcv h = some eps →
        let counted : Dev → Prop := fun d => d.clock = e.clock ∧ d.regs = e.regs ∧
          d.pathAt' n p = { e.pathAt' n p with
            hops := (e.pathAt' n p).hops + 1, eps := (e.pathAt' n p).eps + energy eps
            probe := (e.pathAt' n p).probe + e.hopProbe n p tg h }
        (residue = true → Does (.damperHop n p h feed residue) s counted (fireEvent (dsU n) 6 (e.pathScope n p) [])) ∧
        (residue = false → used = true →
          Does (.damperHop n p h feed residue) s counted (seqs [calHop n p tg h eps, useHop n p tg h eps])) ∧
        (residue = false → used = false → Does (.damperHop n p h feed residue) s counted)) ∧
      (¬due → Does (.damperHop n p h feed residue) s fun d => d = s.dev)) ∧
    ((s.dev.cellAt c).tg = none → Does (.damperHop n p h feed residue) s fun d => d = s.dev)) ∧
  (∀ (d : Dev) (n p tg h : Nat) (eps : List Cx),
    let x := (useHop n p tg h eps).run d
    let own := ((d.probeGrads n p tg h eps).drop (d.below n p)).take (d.taps n p)
    let full := own.all (·.isSome)
    let g := if d.rd (dsU n) Reg.DS.P_ADAPT_STATE p = asRefine then (d.signalGrads n p tg h eps).1 else own.map (·.getD (0, 0))
    x.rd (dsU n) Reg.DS.P_FROZEN p = 0 ∧ (x.pathAt' n p).used = (d.pathAt' n p).used + 1 ∧
    (x.pathAt' n p).w = (if full = true then
      stepTaps d.drawn (d.taps n p) (d.tAdapt n p) (d.cellRate (d.rcvOf n p)) (d.pathAt' n p).w g else (d.pathAt' n p).w) ∧
    (x.pathAt' n p).m = stepLags (d.drawn + 1) (d.tRes n) (d.cellRate (d.rcvOf n p)) (d.pathAt' n p).m (d.probeGrads n p tg h eps) ∧
    x.rd (dsU n) Reg.DS.P_UPDATES p = (if full = true then
      (d.rd (dsU n) Reg.DS.P_UPDATES p + 1) % 2 ^ Reg.DS.P_UPDATES.width else d.rd (dsU n) Reg.DS.P_UPDATES p)) ∧
  (∀ (s : State) (t : Nat), s.runs →
    let due := s.dev.base.counting = true ∧ t % 491520 = 0 ∧ s.dev.dt ≤ t ∧ s.dev.ticksAt 2 ≤ t
    let now : Dev → Prop := fun d => d.clock = (s.dev.reach t).clock ∧ d.ticksAt 2 = t + 1 ∧ d.regs = s.dev.regs
    (due → Does (.damperMeasurementUpdate t) s now (when s.dev.applied
      (seqs [forEach s.dev.sections measureSlice, judgeGlobalMargin,
        withDev fun e => when (e.mode == .survey && e.surveyMet) (changeMode .banked 0x20)]))) ∧
    (¬due → Does (.damperMeasurementUpdate t) s fun d => d = s.dev)) ∧
  (∀ (s : State) (n p : Nat), s.runs →
    (∀ t0, s.dev.deadline (.refineHold (dsU n) p) = some t0 → Does (.refineHoldExpiry n p) s fun d =>
      (s.dev.rd (dsU n) Reg.DS.P_ADAPT_STATE p = asSuspended → d.rd (dsU n) Reg.DS.P_ADAPT_STATE p = asProbe) ∧
      (s.dev.rd (dsU n) Reg.DS.P_ADAPT_STATE p ≠ asSuspended → d.regs = s.dev.regs) ∧ d.clock = (s.dev.reach t0).clock ∧
      SameRegs s.dev d [Reg.DS.P_ADAPT_STATE.at (dsU n) p]) ∧
    (s.dev.deadline (.refineHold (dsU n) p) = none → Does (.refineHoldExpiry n p) s fun d => d = s.dev)) ∧
  (∀ (s : State) (n v be : Nat), s.runs →
    WritesWord (.zeroAll n v be) s (dsU n) 0x11C v be (fun d => { mode := v.testBit 1 && !d.modeIn [.banked, .service] })
      (withDev fun d => when (v.testBit 1) (forEach (d.pathsOf n) fun p => zeroPath n p .host)) ∧
    WritesWord (.pathSelWrite n v be) s (dsU n) 0x180 v be (fun d => { range := decide (d.rd (dsU n) Reg.DS.PATH_CNT ≤ v % 256) })
      (modP n (v % 256) fun x => { x with latched := x.shown }))

/-! ### Protection Engines -/

/-- The ends of holds (R216, R218, R219, R221, R226, R230). A trip's mute releases, the spectral cut ends, the margin mute may
release; a carrier without a detection for DONOR_HOLD is LOST and its cells are muted; SYNC_HOLD after a change of frame lock the
cells that rely on the carrier follow it. -/
def Obligations.ProtectionHoldsEnd : Prop :=
  (∀ (s : State) (c k t0 : Nat), s.runs →
    let ended : Dev → Prop := fun d => d.clock = (s.dev.reach t0).clock ∧ d.regs = s.dev.regs
    (s.dev.deadline (.tripHold c k) = some t0 →
      (k = 1 → Does (.tripHoldExpiry c k) s (fun d => ended d ∧ (d.cellAt c).heldGrowth = false) (clearCause c mcGrowth)) ∧
      (k = 2 → Does (.tripHoldExpiry c k) s (fun d => ended d ∧ (d.cellAt c).heldSpectral = false) (refreshTerms c)) ∧
      (k ≠ 1 → k ≠ 2 → Does (.tripHoldExpiry c k) s (fun d => ended d ∧ (d.cellAt c).heldCeiling = false) (refreshTerms c))) ∧
    (s.dev.deadline (.marginHold c) = some t0 →
      Does (.marginHoldExpiry c) s fun d => ended d ∧ (d.cellAt c).heldMargin = false) ∧
    (s.dev.deadline (.spkHold c) = some t0 → Does (.spkHoldExpiry c) s (fun d => d.clock = (s.dev.reach t0).clock ∧
      d.peRdS c Reg.PE.C_G_SPK = 4000 ∧ SameRegs s.dev d [Reg.PE.C_G_SPK.at (peOf c) (idxOf c)]) (refreshTerms c))) ∧
  (∀ (s : State) (c k n car : Nat), s.runs →
    ∀ x ∈ [(Instr.tripHoldExpiry c k, Timer.tripHold c k), (.marginHoldExpiry c, .marginHold c), (.spkHoldExpiry c, .spkHold c),
      (.donorHoldExpiry n k, .donorHold (peU n) k), (.syncHoldExpiry n car, .syncHold (peU n) car)],
      s.dev.deadline x.2 = none → Does x.1 s fun d => d = s.dev) ∧
  (∀ (s : State) (n k t0 : Nat), s.runs → s.dev.deadline (.donorHold (peU n) k) = some t0 → s.dev.rd (peU n) Reg.PE.PRESENT k = 0 →
    Does (.donorHoldExpiry n k) s fun d => d.clock = (s.dev.reach t0).clock ∧ d.regs = s.dev.regs ∧ d.ev = s.dev.ev) ∧
  (∀ (s : State) (n k t0 : Nat), s.runs → s.dev.deadline (.donorHold (peU n) k) = some t0 → s.dev.rd (peU n) Reg.PE.PRESENT k ≠ 0 →
    let cs := s.dev.cellsOfDonor (n * 8 + k)
    Does (.donorHoldExpiry n k) s (fun d => d.rd (peU n) Reg.PE.PRESENT k = 0 ∧ d.clock = (s.dev.reach t0).clock ∧
      SameRegs s.dev d [Reg.PE.PRESENT.at (peU n) k])
      (seqs [donorRecord n k false, forEach cs fun c => markCause c mcDonor,
        when (!cs.isEmpty) (condStart (peU n) 7 k (setScope (peU n) k cs) [])])) ∧
  (∀ (s : State) (n car t0 : Nat), s.runs → s.dev.deadline (.syncHold (peU n) car) = some t0 →
    let cs := s.dev.tddCells n car
    let ended : Dev → Prop := fun d => d.clock = (s.dev.reach t0).clock ∧ d.regs = s.dev.regs
    (s.dev.locked (car / 8) (car % 8) = true → Does (.syncHoldExpiry n car) s ended
      (seqs [forEach cs fun c => clearCause c mcSync, condEnd (peU n) 8 car])) ∧
    (s.dev.locked (car / 8) (car % 8) = false → Does (.syncHoldExpiry n car) s ended
      (seqs [forEach cs fun c => markCause c mcSync, when (!cs.isEmpty) (condStart (peU n) 8 car (setScope (peU n) (car % 8) cs) [])]))) ∧
  (∀ (d : Dev) (c b : Nat), b < 11 → ((markCause c b).run d).muteCause c b = true ∧ ((clearCause c b).run d).muteCause c b = false)

/-- The periodic checks (R156, R218, R225, R228 to R230, R235), at their multiples of Device Time once a configuration is applied.
A growth window that rises GROW_N times, with its correlation and its floor, trips and the count starts over; the averages, the
fast power, the duties and the allow-list are evaluated for every configured cell. -/
def Obligations.ProtectionChecksRun : Prop :=
  (∀ (s : State) (c t n sum : Nat) (re im : Int), s.runs →
    let due := s.dev.guarded c = true ∧ t % growWindow = 0 ∧ s.dev.dt ≤ t ∧ s.dev.ticksAt (0x30000 + c) ≤ t
    let x := s.dev.cellAt c
    let u := peOf c
    let whole := s.dev.live? c && s.dev.mode != .survey && x.liveFrom.any fun f => decide (f + growWindow ≤ t)
    let old := if s.dev.ticksAt (0x30000 + c) + growWindow = t + 1 then x.grow else []
    let ws := if whole then ((sum, n) :: old).take (s.dev.rd u Reg.PE.GROW_N + 1) else []
    let trips := decide (ws.length = s.dev.rd u Reg.PE.GROW_N + 1) && rises (s.dev.rd u Reg.PE.GROW_DB) ws &&
      rhoAtLeast (s.dev.rd u Reg.PE.GROW_RHO) sum re im && decide (0 < n) &&
      powAtMost 1000 (s.dev.rdS u Reg.PE.GROW_FLOOR) sum (n * 2 ^ 46)
    (¬due → Does (.growthWindowEnd c t n sum re im) s fun d => d = s.dev) ∧
    (due → Does (.growthWindowEnd c t n sum re im) s (fun d =>
      d.clock = (s.dev.reach t).clock ∧ d.regs = s.dev.regs ∧ d.ticksAt (0x30000 + c) = t + 1 ∧
      d.cellAt c = { x with grow := if trips then [] else ws })
      (when trips (growthTrip c [cdbOpen sum (n * 2 ^ 46), rhoCode sum re im])))) ∧
  (∀ (s : State) (t : Nat) (sums : List (Nat × Nat × Nat)), s.runs →
    let at' := fun (k : Nat) (d : Dev) => d.clock = (s.dev.reach t).clock ∧ d.ticksAt k = t + 1 ∧ d.regs = s.dev.regs
    let due := fun (k per : Nat) => s.dev.base.counting = true ∧ s.dev.dt ≤ t ∧ t % per = 0 ∧ s.dev.ticksAt k ≤ t
    ∀ x ∈ [(Instr.ceilingAvgUpdate t, 3, 4096), (.ceilingFastUpdate t sums, 4, 256), (.dutyUpdate t, 5, 491520),
        (.allowRecheck t, 6, 491520)],
      (¬due x.2.1 x.2.2 → Does x.1 s fun d => d = s.dev) ∧
      (due x.2.1 x.2.2 → s.dev.applied = false → Does x.1 s (at' x.2.1))) ∧
  (∀ (s : State) (t : Nat), s.runs → s.dev.base.counting = true → s.dev.dt ≤ t → s.dev.applied = true →
    let at' := fun (k : Nat) (d : Dev) => d.clock = (s.dev.reach t).clock ∧ d.ticksAt k = t + 1 ∧ d.regs = s.dev.regs
    (t % 4096 = 0 → s.dev.ticksAt 3 ≤ t → Does (.ceilingAvgUpdate t) s (at' 3)
      (seqs [forEach s.dev.allCells closeSegment,
        forEach s.dev.sections fun n => withDev fun d => forEach (d.bandsOf n) fun x => averageBand n x.1 x.2])) ∧
    (∀ sums : List (Nat × Nat × Nat), t % 256 = 0 → s.dev.ticksAt 4 ≤ t → Does (.ceilingFastUpdate t sums) s (at' 4)
      (seqs [forEach s.dev.allCells fun c =>
          let x := ((sums.find? fun e => e.1 == c).map (·.2)).getD (0, 0)
          modCell c fun y => { y with fastSegs := (max x.1 (x.2 * 2 ^ 16) * s.dev.period c :: y.fastSegs).take (16 + s.dev.chainSegs c) },
        forEach s.dev.sections fun n => withDev fun d => forEach (d.bandsOf n) fun x => fastBand n x.1 x.2])) ∧
    (t % 491520 = 0 → s.dev.ticksAt 5 ≤ t → Does (.dutyUpdate t) s (at' 5)
      (forEach s.dev.allCells fun c => seqs [squelchDuty c t, when (s.dev.isUplink c) (uplinkDuty c t)])) ∧
    (t % 491520 = 0 → s.dev.ticksAt 6 ≤ t → Does (.allowRecheck t) s (at' 6) (forEach s.dev.allCells allowCell))) ∧
  (∀ (d : Dev) (c lo hi : Nat), (d.cellAt c).range = some (lo, hi) →
    ((lo : Int) ≤ (d.rfBand c).1 → (d.rfBand c).2 ≤ hi → (allowCell c).run d = d) ∧
    ((d.rfBand c).1 < (lo : Int) ∨ (hi : Int) < (d.rfBand c).2 → d.muteCause c mcAllow = false →
      (allowCell c).run d = (seqs [markCause c mcAllow, condStart (peOf c) 9 (idxOf c) (cellScope c) []]).run d))

/-! ### Sync Detectors -/

/-- Detections and the flywheel (R221, R222, R242 to R246). A detection inside the span shows its values, and one at or above
DONOR_MIN reaches the engine; one that fails the residue check is discarded. The end of a span takes the flywheel's step: near
detections in a row gain lock, spans missed in a row lose it, and a tracked timeline moves by the fraction 2^−TRACK_SH of its
error. A mark is stamped when it falls due, and a new timeline is adopted once no group of the carrier is in Send or Switch. -/
def Obligations.SyncDetectorsTrack : Prop :=
  (∀ (s : State) (n k t : Nat) (feed : Feed) (residue : Bool), s.runs →
    let e := (runPlane feed).run (s.dev.reach t)
    (s.dev.carrierOn n k = false → Does (.pssDetection n k t feed residue) s fun d => d = s.dev) ∧
    (s.dev.carrierOn n k = true →
      (e.detected n k = none → Does (.pssDetection n k t feed residue) s fun d => d = e) ∧
      (∀ x, e.detected n k = some x →
        let advs := (x.adv :: (e.carrierAt (n * 8 + k)).cfos).take 16
        let tracks := e.rd CE Reg.CE.REF_EN ≠ 0 ∧ e.rd CE Reg.CE.REF_SS = n ∧ e.rd CE Reg.CE.REF_CAR = k
        (e.inSpan n k x.tdet = false → Does (.pssDetection n k t feed residue) s fun d => d = e) ∧
        (e.inSpan n k x.tdet = true → residue = true → Does (.pssDetection n k t feed residue) s (fun d => d = e)
          (fireEvent (sdU n) 1 (setScope (sdU n) k (e.cellsOfDonor (n * 8 + k))) [])) ∧
        (e.inSpan n k x.tdet = true → residue = false → Does (.pssDetection n k t feed residue) s (fun d =>
          d.carrierAt (n * 8 + k) = { e.carrierAt (n * 8 + k) with det := some x.tdet, cfos := advs, fixed := true } ∧
          d.rd (sdU n) Reg.SD.K_NID2_FOUND k = x.nid2 % 2 ^ Reg.SD.K_NID2_FOUND.width ∧
          d.rd (sdU n) Reg.SD.K_PEAK k = x.rho % 2 ^ Reg.SD.K_PEAK.width ∧
          d.rd (sdU n) Reg.SD.K_PSS_PWR k = codeOf 16 x.pwr % 2 ^ Reg.SD.K_PSS_PWR.width ∧
          d.rd (sdU n) Reg.SD.K_DET_CNT k = (e.rd (sdU n) Reg.SD.K_DET_CNT k + 1) % 2 ^ Reg.SD.K_DET_CNT.width ∧
          (tracks → d.ce.refDet = (e.dt, x.adv) :: e.ce.refDet) ∧ (¬tracks → d.ce = e.ce) ∧
          SameRegs e d [Reg.SD.K_NID2_FOUND.at (sdU n) k, Reg.SD.K_PEAK.at (sdU n) k, Reg.SD.K_PSS_PWR.at (sdU n) k,
            Reg.SD.K_CFO.at (sdU n) k, Reg.SD.K_DET_CNT.at (sdU n) k])
          (when (decide (x.pwr ≥ e.rdS (peU n) Reg.PE.DONOR_MIN k)) (validDetection n k x.pwr)))))) ∧
  (∀ (s : State) (n k t : Nat), s.runs →
    (s.dev.carrierOn n k = false ∨ t < s.dev.dt ∨ (t : Int) * 65536 < s.dev.spanEnd n k →
      Does (.syncSearchEnd n k t) s fun d => d = s.dev) ∧
    (s.dev.carrierOn n k = false ∨ s.dev.hasMarks (n * 8 + k) = false → Does (.frameMark n k) s fun d => d = s.dev) ∧
    ((s.dev.carrierAt (n * 8 + k)).next = none ∨ s.dev.carrierOn n k = false ∨
        (∃ g ∈ s.dev.groupsOn (n * 8 + k), s.dev.busyTx g.1 g.2 = true) →
      Does (.markJumpAdopt n k) s fun d => d = s.dev)) ∧
  (∀ (s : State) (n k t : Nat), s.runs → s.dev.carrierOn n k = true → s.dev.dt ≤ t → s.dev.spanEnd n k ≤ (t : Int) * 65536 →
    let f := s.dev.flywheel n k
    ∃ q, Does (.syncSearchEnd n k t) s (fun d => d.clock = (s.dev.reach t).clock ∧
        d.rdS (sdU n) Reg.SD.K_RATE k = signed 32 (codeOf 32 f.rate % 2 ^ Reg.SD.K_RATE.width) ∧
        d.carrierAt (n * 8 + k) = { s.dev.carrierAt (n * 8 + k) with
          tp := f.tp, good := if f.lost then 0 else f.good, miss := f.miss, det := none }) q ∧
      q = seqs [
        match f.err with
        | some e => showTimeErr n k e
        | none => skip,
        when (s.dev.locked n k && !f.near && f.err.isSome) (inc (sdU n) Reg.SD.K_MISS_CNT k),
        followLock n k f]) ∧
  (∀ (d : Dev) (n k : Nat),
    let f := d.flywheel n k
    let x := d.carrierAt (n * 8 + k)
    let per : Int := ((d.pssPeriod (n * 8 + k) * 65536 : Nat) : Int)
    (∀ t : Nat, x.det = some t → d.locked n k = false → f.tp = (t : Int) * 65536 + per ∧ f.rate = 0) ∧
    (x.det = none → d.locked n k = false → f.good = 0 ∧ f.lost = false ∧
      (0 < d.rd (sdU n) Reg.SD.K_LOCK_N k → f.gained = false)) ∧
    (x.det = none → d.locked n k = true → f.miss = x.miss + 1 ∧ f.rate = d.rdS (sdU n) Reg.SD.K_RATE k ∧
      f.tp = x.tp + per + f.rate ∧ f.gained = false ∧
      f.lost = decide (d.rd (sdU n) Reg.SD.K_UNLOCK_N k ≤ x.miss + 1)) ∧
    (∀ t : Nat, x.det = some t → d.locked n k = true →
      ((t : Int) * 65536 - x.tp).natAbs ≤ d.rd (sdU n) Reg.SD.K_LOCK_TOL k * 65536 → f.miss = 0 ∧
        f.tp = x.tp + roundHalf ((t : Int) * 65536 - x.tp) (65536 * 2 ^ d.rd (sdU n) Reg.SD.K_TRACK_SH k) * 65536 + per + f.rate)) ∧
  (∀ (s : State) (n k : Nat), s.runs → s.dev.carrierOn n k = true →
    (s.dev.hasMarks (n * 8 + k) = true → Does (.frameMark n k) s fun d =>
      d.clock = (s.dev.reach (s.dev.nextMark n k)).clock ∧ (d.carrierAt (n * 8 + k)).mark = s.dev.nextMark n k ∧
      d.live (sdU n) Reg.SD.K_MARK_LO k = s.dev.nextMark n k % 2 ^ 64) ∧
    (∀ x, (s.dev.carrierAt (n * 8 + k)).next = some x → (∀ g ∈ s.dev.groupsOn (n * 8 + k), s.dev.busyTx g.1 g.2 = false) →
      Does (.markJumpAdopt n k) s (fun d =>
        d.carrierAt (n * 8 + k) = { s.dev.carrierAt (n * 8 + k) with next := none } ∧ d.regs = s.dev.regs)
        (seqs [takeTimeline n k x,
          forEach (s.dev.groupsOn (n * 8 + k)) fun g => seqs [
            modGrp g.1 g.2 fun y => { y with held := none }, putB (rcU g.1) Reg.RC.G_SYN_WAIT false g.2, restAgain g.1 g.2],
          inc (sdU n) Reg.SD.K_JUMP_CNT k,
          noteRec (sdU n) 0x40 (leBytes 1 k ++ leBytes 4 (codeOf 32
            (wrapDiff (s.dev.pssPeriod (n * 8 + k) * 65536) (x - (s.dev.carrierAt (n * 8 + k)).fly) / 65536)))])))

/-! ### Radio Control -/

/-- Power and windows of the antenna groups (R250, R252 to R254). Power-up asserts VDD_EN, and leads to Settle while a synthesiser
is not ready, else to Rest or Listen; a bias lead leads to Switch, its start of Send to the Send state, and the end of the entry
through Switch to Rest or Listen, where a TDD group listens only by the marks of its carrier. OFF_REQ starts the orderly
power-down from the step reached, and its timed steps end in Off. -/
def Obligations.GroupsFollowTheirWindows : Prop :=
  (∀ (s : State) (n k : Nat), s.runs → s.dev.radioOp n k = true → s.dev.gState n k = gsOff → Does (.groupPowerUp n k) s (fun d =>
    d.gState n k = (if s.dev.grpReady n k = false then gsSettle
      else if s.dev.grpTdd n k = true ∧ s.dev.hasMarks (s.dev.grpCarrier n k) = true ∧
        (s.dev.rd (rcU n) Reg.RC.G_REST_LISTEN k ≠ 0 ∨ s.dev.inListen n k = true) then s.dev.listenState n k else gsRest) ∧ (d.grp n k).vddAt = some s.dev.dt ∧
    (d.grp n k).bias = false ∧ (s.dev.grpTdd n k = false → d.deadline (.groupStep n k) = some (s.dev.dt + 24576)))
    (groupRecord n k 0)) ∧
  (∀ (s : State) (n k : Nat), s.runs →
    (s.dev.radioOp n k = false ∨ s.dev.gState n k ≠ gsOff → Does (.groupPowerUp n k) s fun d => d = s.dev) ∧
    (s.dev.grpOn n k = false ∨ s.dev.grpTdd n k = true ∨ (s.dev.grp n k).down ≠ .none ∨ s.dev.deadline (.groupStep n k) = none →
      Does (.fddSendStart n k) s fun d => d = s.dev) ∧
    (∀ e m, s.dev.entryAt n k e m kindSend = false → Does (.tddBiasLead n k e m) s fun d => d = s.dev) ∧
    (∀ e m, s.dev.entryAt n k e m kindListen = false →
      Does (.listenStart n k e m) s (fun d => d = s.dev) ∧ Does (.listenEnd n k e m) s fun d => d = s.dev) ∧
    ((s.dev.grp n k).nextS = none ∨ s.dev.gState n k ≠ gsSwitch ∨ (s.dev.grp n k).down ≠ .none →
      Does (.sendStart n k) s fun d => d = s.dev) ∧
    ((s.dev.grp n k).sendEnd = none ∨ s.dev.sending n k = false → Does (.sendEnd n k) s fun d => d = s.dev) ∧
    ((s.dev.grp n k).sendEnd = none ∨ s.dev.gState n k ≠ gsSwitch ∨ (s.dev.grp n k).bias = true →
      Does (.switchEnd n k) s fun d => d = s.dev) ∧
    ((s.dev.grp n k).down = .none ∨ s.dev.deadline (.groupStep n k) = none → Does (.powerDownStep n k) s fun d => d = s.dev)) ∧
  (∀ (s : State) (n k t0 : Nat), s.runs → s.dev.grpOn n k = true → s.dev.grpTdd n k = false → (s.dev.grp n k).down = .none →
    s.dev.deadline (.groupStep n k) = some t0 → (s.dev.gState n k = gsRest ∨ s.dev.gState n k = gsSettle) →
    let st := (s.dev.reach t0).dt + 2458
    (s.dev.grpReady n k = true → Does (.fddSendStart n k) s fun d =>
      d.gState n k = gsSwitch ∧ (d.grp n k).bias = true ∧ (d.grp n k).nextS = some st ∧ d.clock = (s.dev.reach t0).clock) ∧
    (s.dev.grpReady n k = false → Does (.fddSendStart n k) s fun d =>
      (d.grp n k).held = some (st, 0) ∧ d.rd (rcU n) Reg.RC.G_SYN_WAIT k = 1 ∧
      d.deadline (.fddRepeat n k) = some (st + s.dev.settleBudget n k) ∧ d.clock = (s.dev.reach t0).clock)) ∧
  (∀ (s : State) (n k e m v : Nat), s.runs → s.dev.entryAt n k e m kindSend = true →
    let a := (s.dev.entrySpan n k e m).1
    let b := (s.dev.entrySpan n k e m).2
    let t := (a - 492).toNat
    (s.dev.gState n k = gsRest ∨ s.dev.gState n k = gsListenDL ∨ s.dev.gState n k = gsListenUL ∨ s.dev.gState n k = gsSettle) →
    (s.dev.grp n k).down = .none → (s.dev.dt : Int) + 492 ≤ a → (s.dev.grp n k).vddAt = some v → v + 24576 ≤ t →
    Does (.tddBiasLead n k e m) s (fun d => d.clock = (s.dev.reach t).clock ∧ d.regs = s.dev.regs)
      (seqs [when (s.dev.grp n k).held.isSome (skipBurst n k),
        if s.dev.grpReady n k && s.dev.gState n k != gsSettle then startBias n k a.toNat b.toNat
        else seqs [modGrp n k fun g => { g with held := some (a.toNat, b.toNat) }, putB (rcU n) Reg.RC.G_SYN_WAIT true k]])) ∧
  (∀ (d : Dev) (n k st e : Nat),
    let x := (startBias n k st e).run d
    x.gState n k = gsSwitch ∧ x.grp n k = { d.grp n k with
      bias := true, held := none, nextS := some st, sendEnd := if e = 0 then none else some e }) ∧
  (∀ (s : State) (n k st : Nat), s.runs → (s.dev.grp n k).nextS = some st → s.dev.gState n k = gsSwitch →
    (s.dev.grp n k).down = .none → ∃ q, Does (.sendStart n k) s (fun d =>
        d.gState n k = s.dev.sendState n k ∧ d.clock = (s.dev.reach st).clock ∧
        (d.grp n k).nextS = none ∧ (d.grp n k).sendFrom = some (max s.dev.dt st)) q ∧
      q = forEach (s.dev.cellsOfGroup n k) fun c => when (s.dev.cellAt c).rampHold (seqs [
        modCell c fun x => { x with rampHold := false },
        startTimerAt (.gainSlew c) (max s.dev.dt st + s.dev.rampLen n k + s.dev.slewStep c)])) ∧
  (∀ (s : State) (n k e : Nat), s.runs → (s.dev.grp n k).sendEnd = some e →
    (s.dev.sending n k = true → (s.dev.grp n k).down = .none → Does (.sendEnd n k) s fun d =>
      d.gState n k = gsSwitch ∧ (d.grp n k).bias = false ∧ d.clock = (s.dev.reach e).clock) ∧
    (s.dev.sending n k = true → (s.dev.grp n k).down ≠ .none → Does (.sendEnd n k) s fun d =>
      d.gState n k = gsRest ∧ (d.grp n k).bias = false ∧ (d.grp n k).down = .supply ∧
      d.deadline (.groupStep n k) = some ((s.dev.reach e).dt + 24576) ∧ d.clock = (s.dev.reach e).clock) ∧
    (s.dev.gState n k = gsSwitch → (s.dev.grp n k).bias = false → Does (.switchEnd n k) s fun d =>
      d.gState n k = s.dev.restState n k ∧ (d.grp n k).sendEnd = none ∧
      d.clock = (s.dev.reach (e + s.dev.rd (rcU n) Reg.RC.G_SWITCH_DT k)).clock)) ∧
  (∀ (s : State) (n k e m : Nat), s.runs → s.dev.entryAt n k e m kindListen = true →
    let a := (s.dev.entrySpan n k e m).1
    let b := (s.dev.entrySpan n k e m).2
    let free := s.dev.resting n k && (s.dev.grp n k).down == .none
    ((s.dev.dt : Int) ≤ a → Does (.listenStart n k e m) s fun d =>
      (d.grp n k).listening = true ∧ d.clock = (s.dev.reach a.toNat).clock ∧
      d.gState n k = if free then s.dev.listenState n k else s.dev.gState n k) ∧
    ((s.dev.dt : Int) ≤ b → Does (.listenEnd n k e m) s fun d =>
      (d.grp n k).listening = false ∧ d.clock = (s.dev.reach b.toNat).clock ∧
      d.gState n k = if free then (if s.dev.rd (rcU n) Reg.RC.G_REST_LISTEN k ≠ 0 then s.dev.listenState n k else gsRest)
        else s.dev.gState n k)) ∧
  (∀ (s : State) (n k v be : Nat), s.runs → n < 4 → k < 4 →
    WritesWord (.offReqWrite n k v be) s (rcU n) (0x110 + 0x40 * k) v be plainRule
      (withDev fun d => when (d.is (rcU n) Reg.RC.G_OFF_REQ k && d.grpOn n k)
        (if (d.grp n k).down == .none then startDown n k else modGrp n k fun g => { g with forRecal := false }))) ∧
  (∀ (s : State) (n k t0 : Nat), s.runs → s.dev.deadline (.groupStep n k) = some t0 →
    ((s.dev.grp n k).down = .ramp → (s.dev.grp n k).forRecal = false → Does (.powerDownStep n k) s fun d =>
      d.gState n k = gsSwitch ∧ (d.grp n k).down = .bias ∧ (d.grp n k).sendFrom = none ∧
      d.deadline (.groupStep n k) = some ((s.dev.reach t0).dt + 2458)) ∧
    ((s.dev.grp n k).down = .ramp → (s.dev.grp n k).forRecal = true → Does (.powerDownStep n k) s (fun d =>
      d.gState n k = gsRest ∧ (d.grp n k).down = .none ∧ (d.grp n k).bias = false)
      (forEach (s.dev.synthsOf n k) (startWanted n))) ∧
    ((s.dev.grp n k).down = .bias → Does (.powerDownStep n k) s fun d =>
      d.gState n k = gsRest ∧ (d.grp n k).down = .supply ∧ (d.grp n k).bias = false ∧
      d.deadline (.groupStep n k) = some ((s.dev.reach t0).dt + 24576)) ∧
    ((s.dev.grp n k).down = .supply → Does (.powerDownStep n k) s (fun d =>
      d.deadline (.groupStep n k) = none ∧ d.clock = (s.dev.reach t0).clock ∧ d.regs = s.dev.regs) (groupOff n k)))

/-- Synthesisers and their buses (R258 to R262, R264, R272). A synthesiser starts the sequence it waits for, Kindling's PROG first
and a RECAL only while no dependent group is in Switch or Send; frames, waits and transfers lead on to the next entry; its settle
time and its lock make it ready; a lock that is lost outside a sequence mutes, counts and starts RECOVER, where an LD that has not
risen yet while the settle timer runs is no loss (the model's reading, log entry 117). A held request proceeds before its first
legal boundary, or is skipped. A tuner write is read back; one that fails is retried once, then counted. -/
def Obligations.SynthesisersRunTheirSequences : Prop :=
  (∀ (s : State) (n y : Nat), s.runs →
    let idle := s.dev.synOn n y = true ∧ (s.dev.syn n y).run = none
    let busy := (s.dev.groupsOfSynth n y).any (s.dev.busyTx n)
    (∀ kind, idle → s.dev.wanted n y = some kind → (kind ≠ .recal ∨ busy = false) →
      Does (.synSequenceStart n y) s (fun d => d = (startSeq n y kind).run s.dev) (synthReady n y)) ∧
    (idle → s.dev.wanted n y = some .recal → busy = true → Does (.synSequenceStart n y) s (fun d =>
      d.syn n y = { s.dev.syn n y with want := some .recal } ∧ d.regs = s.dev.regs)
      (forEach (s.dev.groupsOfSynth n y) (stopForRecal n))) ∧
    ((s.dev.syn n y).prog = true → s.dev.wanted n y = some .prog) ∧
    (¬idle ∨ s.dev.wanted n y = none → Does (.synSequenceStart n y) s fun d => d = s.dev)) ∧
  (∀ (s : State) (n v be : Nat), s.runs →
    WritesWord (.synRecalWrite n v be) s (rcU n) 0x2C0 v be (fun d => {
        mode := v % 256 != 0 && d.modeIn [.cold, .kindling], busy := v % 256 &&& d.rd (rcU n) Reg.RC.SYN_CTRL_RECAL != 0 })
      (forEach ((List.range 8).filter fun y => v.testBit y) fun y => withDev fun d => when (d.synOn n y) (seqs [
        put (rcU n) Reg.RC.SYN_CTRL_RECAL (d.rd (rcU n) Reg.RC.SYN_CTRL_RECAL ||| 2 ^ y), startWanted n y])) ∧
    (let m := v / 2 ^ 29 % 2
     let cs := v / 2 ^ 27 % 4
     let go := v.testBit 31
     WritesWord (.cspiHostGo n v be) s (rcU n) 0x380 v be (fun d => {
        mode := go && !d.modeIn [.banked, .service], range := go && !d.is (rcU n) Reg.RC.CS_HOST_OK (4 * m + cs)
        busy := go && d.is (rcU n) Reg.RC.XFER_GO })
      (withDev fun d => when go (seqs [
        putB (rcU n) Reg.RC.XFER_GO true,
        busRequest n m (.cspiHost (v.testBit 30) cs (d.rd (rcU n) Reg.RC.XFER_DATA) (d.rd (rcU n) Reg.RC.CS_LEN (4 * m + cs)))])))) ∧
  (∀ (s : State) (n m miso y : Nat), s.runs →
    ((s.dev.master n m).cur = none → Does (.cspiFrameDone n m miso) s fun d => d = s.dev) ∧
    (s.dev.deadline (.seqWait n y) = none → Does (.sequenceWaitExpiry n y) s fun d => d = s.dev) ∧
    (s.dev.deadline (.synSettle n y) = none → Does (.settleTimerExpiry n y) s fun d => d = s.dev) ∧
    (s.dev.synOn n y = false → Does (.ldQualified n y) s (fun d => d = s.dev) ∧ Does (.ldLoss n y) s fun d => d = s.dev) ∧
    (s.dev.deadline (.fddRepeat n y) = none → Does (.fddRequestRepeat n y) s fun d => d = s.dev) ∧
    ((s.dev.grp n y).held = none ∨ s.dev.grpReady n y = false ∨ s.dev.resting n y = false ∨ (s.dev.grp n y).down ≠ .none →
      Does (.heldRequestProceed n y) s fun d => d = s.dev)) ∧
  (∀ (s : State) (n m miso : Nat) (op : BusOp), s.runs → (s.dev.master n m).cur = some op →
    let idle : Dev → Prop := fun d => d.master n m = { s.dev.master n m with cur := none }
    (∀ y, op = .cspiSeq y → Does (.cspiFrameDone n m miso) s (fun d => idle d ∧ d.regs = s.dev.regs)
      (seqs [seqDone n y true, busNext n m])) ∧
    (∀ cs x len, op = .cspiHost true cs x len → Does (.cspiFrameDone n m miso) s (fun d => idle d ∧
      d.rd (rcU n) Reg.RC.XFER_DATA = miso % 2 ^ len % 2 ^ Reg.RC.XFER_DATA.width ∧
      SameRegs s.dev d [Reg.RC.XFER_DATA.at (rcU n)]) (busNext n m)) ∧
    ((∀ y, op ≠ .cspiSeq y) → (∀ cs x len, op ≠ .cspiHost true cs x len) → Does (.cspiFrameDone n m miso) s (fun d => idle d ∧ d.regs = s.dev.regs)
      (busNext n m))) ∧
  (∀ (s : State) (n y t0 : Nat), s.runs →
    (s.dev.deadline (.seqWait n y) = some t0 → Does (.sequenceWaitExpiry n y) s (fun d =>
      d.deadline (.seqWait n y) = none ∧ d.clock = (s.dev.reach t0).clock ∧ d.regs = s.dev.regs) (seqDone n y false)) ∧
    (s.dev.deadline (.synSettle n y) = some t0 → Does (.settleTimerExpiry n y) s (fun d =>
      d.rd (rcU n) Reg.RC.SYN_SETTLING y = 0 ∧ (d.syn n y).settled = true ∧ d.clock = (s.dev.reach t0).clock)
      (synthReady n y))) ∧
  (∀ (s : State) (n y : Nat), s.runs → s.dev.synOn n y = true → s.dev.rd (rcU n) Reg.RC.SYN_LD y < 4 →
    let ld := fun (d : Dev) => (d.rd (rcU n) Reg.RC.LD_LEVEL).testBit (s.dev.rd (rcU n) Reg.RC.SYN_LD y)
    let lost := (s.dev.syn n y).run = none ∧ ((s.dev.syn n y).locked = true ∨ s.dev.rd (rcU n) Reg.RC.SYN_SETTLING y = 0)
    Does (.ldQualified n y) s (fun d => ld d = true ∧ d.syn n y = { s.dev.syn n y with locked := true }) (synthReady n y) ∧
    (lost → Does (.ldLoss n y) s (fun d =>
      ld d = false ∧ Counts s.dev d (rcU n) Reg.RC.SYN_LD_LOSS_CNT y ∧ d.rd (rcU n) Reg.RC.SYN_READY y = 0 ∧
      d.syn n y = { s.dev.syn n y with locked := false, lossMute := true, want := some .recover })
      (seqs [fireEvent (rcU n) 0 (setScope (rcU n) y (s.dev.cellsOfSynth n y)) [], startWanted n y])) ∧
    (¬lost → Does (.ldLoss n y) s fun d =>
      ld d = false ∧ d.syn n y = { s.dev.syn n y with locked := false })) ∧
  (∀ (s : State) (n k st e t0 : Nat), s.runs → (s.dev.grp n k).held = some (st, e) →
    (s.dev.grpReady n k = true → s.dev.resting n k = true → (s.dev.grp n k).down = .none →
      (s.dev.boundary n k st e s.dev.dt = none → Does (.heldRequestProceed n k) s (fun d => d = s.dev) (skipBurst n k)) ∧
      (∀ b, s.dev.boundary n k st e s.dev.dt = some b → Does (.heldRequestProceed n k) s fun d =>
        d.gState n k = gsSwitch ∧ (d.grp n k).bias = true ∧ (d.grp n k).held = none ∧ (d.grp n k).nextS = some b ∧
        d.deadline (.fddRepeat n k) = none ∧ d.clock = (s.dev.reach (b - 492)).clock)) ∧
    (s.dev.deadline (.fddRepeat n k) = some t0 → Does (.fddRequestRepeat n k) s (fun d =>
      d.deadline (.fddRepeat n k) = none ∧ d.clock = (s.dev.reach t0).clock ∧ d.regs = s.dev.regs)
      (seqs [skipBurst n k, stopTimer (.fddRepeat n k), fddRequest n k]))) ∧
  (∀ (s : State) (n k t0 : Nat), s.runs → (s.dev.grp n k).held = none → s.dev.deadline (.fddRepeat n k) = some t0 →
    Does (.fddRequestRepeat n k) s (fun d =>
      d.deadline (.fddRepeat n k) = none ∧ d.clock = (s.dev.reach t0).clock ∧ d.regs = s.dev.regs)
      (seqs [stopTimer (.fddRepeat n k), fddRequest n k])) ∧
  (∀ (s : State) (n m got : Nat) (parityOk : Bool), s.runs →
    let i := 2 + m
    let b := s.dev.master n i
    let does := fun (b' : Bus) (q : Script) => Does (.rffeTransferDone n m parityOk got) s
      (fun d => d.master n i = b' ∧ d.regs = s.dev.regs) q
    let done : Bus := { b with cur := none, retried := false, reading := false }
    (b.cur = none → Does (.rffeTransferDone n m parityOk got) s fun d => d = s.dev) ∧
    (∀ k w, b.cur = some (.tuner k w) →
      (b.reading = false → does { b with reading := true } (sendOp n i (.tuner k w))) ∧
      (b.reading = true → parityOk = true → got = w.code → does done (seqs [rffeEnd n (.tuner k w), busNext n i])) ∧
      (b.reading = true → ¬(parityOk = true ∧ got = w.code) →
        (b.retried = false → does { b with retried := true, reading := false } (sendOp n i (.tuner k w))) ∧
        (b.retried = true → Does (.rffeTransferDone n m parityOk got) s
          (fun d => Counts s.dev d (rcU n) (rffeErr m) ∧ OnlyRegs s.dev d [(rffeErr m).at (rcU n)])
          (seqs [fireEvent (rcU n) 7 (setScope (rcU n) k (s.dev.cellsOfGroup n k)) [],
            modMaster n i fun b => { b with cur := none, retried := false, reading := false },
            rffeEnd n (.tuner k w), busNext n i])))) ∧
    (∀ op, b.cur = some op → (∀ k w, op ≠ .tuner k w) → does done (seqs [rffeEnd n op, busNext n i])))

/-- PA_ALARM, mismatch holds and tuner searches (R256, R266, R267): the pin shows its level, and its group is muted while one of
its inputs is active; the mismatch mute ends with its hold; a search starts when the group and its tuner let it, at least
TUNE_PERIOD after the last. -/
def Obligations.AlarmMismatchAndTuning : Prop :=
  (∀ (s : State) (n p : Nat) (level : Bool), s.runs → s.dev.sectionOn n = true → p < 16 →
    s.dev.rd (rcU n) Reg.RC.PIN_FUNC p = 9 →
    let k := s.dev.rd (rcU n) Reg.RC.PIN_GROUP p
    ∃ q, Does (.paAlarm n p level) s (fun d =>
        d.rd (rcU n) Reg.RC.PIN_LEVEL p = b2n level ∧ OnlyRegs s.dev d [Reg.RC.PIN_LEVEL.at (rcU n) p]) q ∧
      q = seqs [condSet (level != s.dev.is (rcU n) Reg.RC.PIN_POL p) (rcU n) 3 p (setScope (rcU n) k (s.dev.cellsOfGroup n k)) [],
        withDev fun d =>
          let up := (List.range 16).any fun j =>
            d.rd (rcU n) Reg.RC.PIN_FUNC j == 9 && d.rd (rcU n) Reg.RC.PIN_GROUP j == k && d.holdsFor (rcU n) 3 j
          modGrp n k fun g => { g with alarm := up }]) ∧
  (∀ (s : State) (n p : Nat) (level : Bool), s.runs → s.dev.sectionOn n = false ∨ 16 ≤ p ∨ s.dev.rd (rcU n) Reg.RC.PIN_FUNC p ≠ 9 →
    Does (.paAlarm n p level) s fun d => d = s.dev) ∧
  (∀ (s : State) (n k : Nat), s.runs →
    (∀ t0, s.dev.deadline (.mmHold n k) = some t0 → Does (.mmHoldExpiry n k) s (fun d =>
      d.rd (rcU n) Reg.RC.G_MM_MUTE k = 0 ∧ d.deadline (.mmHold n k) = none ∧ d.clock = (s.dev.reach t0).clock ∧
      SameRegs s.dev d [Reg.RC.G_MM_MUTE.at (rcU n) k])
      (seqs [condEnd (rcU n) 5 k, modGrp n k fun g => { g with muteRun := 0 }])) ∧
    (s.dev.deadline (.mmHold n k) = none → Does (.mmHoldExpiry n k) s fun d => d = s.dev)) ∧
  (∀ (s : State) (n k t : Nat), s.runs →
    let last := s.dev.ticksAt (0x50000 + grpKey n k)
    let due := s.dev.grpOn n k = true ∧ (s.dev.mode = .carry ∨ s.dev.mode = .backoff) ∧ s.dev.rd (rcU n) Reg.RC.G_TUNE_EN k ≠ 0 ∧
      (s.dev.rd (rcU n) Reg.RC.AX_EN k 0 ≠ 0 ∨ s.dev.rd (rcU n) Reg.RC.AX_EN k 1 ≠ 0) ∧ s.dev.gState n k ≠ gsOff ∧
      s.dev.rd (rcU n) Reg.RC.G_MM_MUTE k = 0 ∧ s.dev.rd (rcU n) Reg.RC.G_OPEN_SHORT k = 0 ∧ s.dev.dt ≤ t ∧
      (s.dev.grp n k).tune = none ∧ (last = 0 ∨ last - 1 + dtOfMs (s.dev.rd (rcU n) Reg.RC.G_TUNE_PERIOD k) ≤ t)
    (due → Does (.tunePeriod n k t) s fun d =>
      (d.grp n k).tune = some {} ∧ d.ticksAt (0x50000 + grpKey n k) = t + 1 ∧ d.clock = (s.dev.reach t).clock ∧
      d.regs = s.dev.regs) ∧
    (¬due → Does (.tunePeriod n k t) s fun d => d = s.dev))

/-! ### Housekeeping and the Thermal Monitor -/

/-- What asks for conversions (R425, R439 to R441). A TRIG edge triggers captures, and the pass and the slots it is set up for;
the sweep and the pass timer fall due at their multiples; URG_REQ asks for its slots, and a bit reads 1 while its slot is not
taken up (a request for a pending slot merges: DEDUCED, log entry 177); a slot of a group is asked for DET_SETTLE after its Send
start. Nothing is asked for in Cold, out of turn, or twice for one instant. A pass that is asked for starts at entry 0; while one
runs that is counted as an overrun. -/
def Obligations.ConversionsAreAskedFor : Prop :=
  (∀ (s : State) (t : Nat), s.runs → s.dev.base.counting = true → s.dev.dt ≤ t → s.dev.mode ≠ .cold →
    let now : Dev → Prop := fun d => d.clock = (s.dev.reach t).clock ∧ d.regs = s.dev.regs
    (∀ p, Does (.trigEdge p t) s now (seqs [trigger 1 p 0 t, withDev fun d => seqs [
      when ((d.rd HA Reg.HA.TRIG_MASK).testBit p) startPass,
      forEach ((List.range 4).filter fun k => d.rd HA Reg.HA.U_SRC k == 1 && d.rd HA Reg.HA.U_SS k == p) urgentRequest]])) ∧
    (t % 49152 = 0 → s.dev.ticksAt 7 ≤ t → Does (.systemSweep t) s (fun d => now d ∧ d.ticksAt 7 = t + 1 ∧
      d.hk = { s.dev.hk with sweepDue := true }) hkNext) ∧
    (let us := s.dev.rd HA Reg.HA.TMR_US
     s.dev.rd HA Reg.HA.TMR_EN ≠ 0 → us ≠ 0 → t = passTime us (t * 100 / (us * 49152)) → s.dev.ticksAt 8 ≤ t →
      Does (.hkPassTimer t) s (fun d => now d ∧ d.ticksAt 8 = t + 1) startPass) ∧
    (∀ k t0, s.dev.rd HA Reg.HA.U_SRC k = 2 → s.dev.grpOn (s.dev.rd HA Reg.HA.U_SS k) (s.dev.rd HA Reg.HA.U_GRP k) = true →
      (s.dev.grp (s.dev.rd HA Reg.HA.U_SS k) (s.dev.rd HA Reg.HA.U_GRP k)).sentAt = some t0 →
      t = t0 + dtOfUs (s.dev.rd (rcU (s.dev.rd HA Reg.HA.U_SS k)) Reg.RC.G_DET_SETTLE (s.dev.rd HA Reg.HA.U_GRP k)) →
      s.dev.ticksAt (0x60000 + k) ≤ t0 →
      Does (.urgentSendRequest k) s (fun d => now d ∧ d.ticksAt (0x60000 + k) = t0 + 1) (urgentRequest k))) ∧
  (∀ (s : State) (t : Nat), s.runs →
    let late := s.dev.mode = .cold ∨ s.dev.base.counting = false ∨ t < s.dev.dt
    let us := s.dev.rd HA Reg.HA.TMR_US
    (late → ∀ p, Does (.trigEdge p t) s fun d => d = s.dev) ∧
    (late ∨ t % 49152 ≠ 0 ∨ t < s.dev.ticksAt 7 → Does (.systemSweep t) s fun d => d = s.dev) ∧
    (late ∨ s.dev.rd HA Reg.HA.TMR_EN = 0 ∨ us = 0 ∨ t ≠ passTime us (t * 100 / (us * 49152)) ∨ t < s.dev.ticksAt 8 →
      Does (.hkPassTimer t) s fun d => d = s.dev)) ∧
  (∀ (s : State) (k : Nat), s.runs →
    (s.dev.rd HA Reg.HA.U_SRC k ≠ 2 ∨ s.dev.grpOn (s.dev.rd HA Reg.HA.U_SS k) (s.dev.rd HA Reg.HA.U_GRP k) = false ∨
      (s.dev.grp (s.dev.rd HA Reg.HA.U_SS k) (s.dev.rd HA Reg.HA.U_GRP k)).sentAt.all (· < s.dev.ticksAt (0x60000 + k)) = true) →
    Does (.urgentSendRequest k) s fun d => d = s.dev) ∧
  (∀ (s : State) (v be : Nat), s.runs → WritesWord (.urgReq v be) s HA 0x10C v be
    (fun d => { mode := decide (v % 16 ≠ 0) && d.modeIn [.cold, .kindling] })
    (forEach ((List.range 4).filter v.testBit) fun k => seqs [urgentRequest k,
      withDev fun d => when ((d.rd HA Reg.HA.URG_PEND).testBit k) (put HA Reg.HA.URG_REQ (setBit (d.rd HA Reg.HA.URG_REQ) k true))])) ∧
  (∀ d : Dev,
    (d.rd HA Reg.HA.PASS_RUN = 0 → d.rd HA Reg.HA.SEQ_LEN ≠ 0 → ∃ d', startPass.run d = hkNext.run d' ∧
      d'.rd HA Reg.HA.PASS_RUN = 1 ∧ d'.rd HA Reg.HA.CUR_ENTRY = 0 ∧ d'.hk = { d.hk with part := [] }) ∧
    (d.rd HA Reg.HA.PASS_RUN ≠ 0 → d.hk.ovrAt = some d.dt → Counts d (startPass.run d) HA Reg.HA.START_OVR))

/-- Conversions end, and their results are delivered (R438, R442, R443, R446, R447). A conversion of the sweep is judged and the
sweep goes on, sixteen in all; one of a pass or of an urgent slot is kept until its average is complete, which becomes the entry's
result. A rail's level is shown, and with a sound reference its bits follow its windows. -/
def Obligations.ConversionsEnd : Prop :=
  (∀ (s : State) (raw : Nat) (w : HkWork), s.runs → s.dev.base.counting = true → s.dev.hk.cur = some w →
    let samp := s.dev.hk.endAt - hkCycle (s.dev.is HA Reg.HA.HALF) * 44
    let now : Dev → Prop := fun d => d.clock = (s.dev.reach s.dev.hk.endAt).clock ∧ d.regs = s.dev.regs
    (∀ j, w = .sweep j → Does (.hkConversionDone raw) s (fun d => now d ∧ d.hk = { s.dev.hk with cur := none })
      (seqs [sweepResult j raw, modHk fun h => { h with sweepNext := if j ≥ 15 then none else some (j + 1) },
        when (decide (j ≥ 15)) (putB HA Reg.HA.SWEEP_RUN false), hkNext])) ∧
    (∀ e, w = .entry e →
      let codes := s.dev.hk.part ++ [(raw, samp)]
      (codes.length < 2 ^ s.dev.rd HA Reg.HA.ENT_AVG e → Does (.hkConversionDone raw) s
        (fun d => now d ∧ d.hk = { s.dev.hk with cur := none, part := codes }) hkNext) ∧
      (2 ^ s.dev.rd HA Reg.HA.ENT_AVG e ≤ codes.length → Does (.hkConversionDone raw) s
        (fun d => now d ∧ d.hk = { s.dev.hk with cur := none }) (seqs [takeResult e codes, entryDone e, hkNext]))) ∧
    (∀ k second, w = .urgent k second →
      let e := s.dev.rd HA (if second then Reg.HA.U_ENT_B else Reg.HA.U_ENT_A) k
      let codes := s.dev.hk.urgPart ++ [(raw, samp)]
      (codes.length < 2 ^ s.dev.rd HA Reg.HA.ENT_AVG e → Does (.hkConversionDone raw) s
        (fun d => now d ∧ d.hk = { s.dev.hk with cur := none, urgPart := codes }) hkNext) ∧
      (2 ^ s.dev.rd HA Reg.HA.ENT_AVG e ≤ codes.length → Does (.hkConversionDone raw) s
        (fun d => now d ∧ d.hk = { s.dev.hk with cur := none })
        (seqs [takeResult e codes, urgentDone k second, hkNext])))) ∧
  (∀ (s : State) (raw : Nat), s.runs → s.dev.hk.cur = none ∨ s.dev.base.counting = false →
    Does (.hkConversionDone raw) s fun d => d = s.dev) ∧
  (∀ (d : Dev) (e : Nat), e < 64 →
    let x := (entryDone e).run d
    (e + 1 < d.rd HA Reg.HA.SEQ_LEN → x.rd HA Reg.HA.CUR_ENTRY = (e + 1) % 2 ^ Reg.HA.CUR_ENTRY.width ∧
      x.rd HA Reg.HA.PASS_RUN = d.rd HA Reg.HA.PASS_RUN) ∧
    (d.rd HA Reg.HA.SEQ_LEN ≤ e + 1 → x.rd HA Reg.HA.CUR_ENTRY = 0 ∧ x.rd HA Reg.HA.PASS_RUN = 0 ∧
      x.rd HA Reg.HA.PASS_CNT = (d.rd HA Reg.HA.PASS_CNT + 1) % 2 ^ Reg.HA.PASS_CNT.width)) ∧
  (∀ (d : Dev) (r code : Nat), r < 6 → d.rd HA Reg.HA.VREF_FAULT = 0 → d.mc.boDroop = none → d.rd MC Reg.MC.EMBER_SUPPLY = 0 →
    (d.rd HA Reg.HA.SUP_DROOP).testBit r = false → (d.rd HA Reg.HA.SUP_FAIL).testBit r = false →
    let mv := Config.railMv r code % 65536
    let x := (railResult r code).run d
    x.rd HA Reg.HA.RAIL_MV r = mv ∧
    (x.rd HA Reg.HA.SUP_DROOP).testBit r = d.railOut Reg.HA.R_DROOP_LO Reg.HA.R_DROOP_HI r mv ∧
    (x.rd HA Reg.HA.SUP_FAIL).testBit r = d.railOut Reg.HA.R_FAIL_LO Reg.HA.R_FAIL_HI r mv ∧ x.mc = d.mc)

/-- The Thermal Monitor (R449, R453 to R457, R477). A diode pair is measured at its turn: an open or shorted one has failed,
another gives its temperature, and paths that differ raise TM 6; before its turn and in Cold nothing is measured. A throttle dwell
that has passed, the fall hold's end and each rise evaluation let the levels be judged; the shutdown levels are evaluated at their
multiples. A trip counts, slows the DSP, pulls THERM_N and holds Ember's thermal cause. -/
def Obligations.ThermalEvents : Prop :=
  (∀ (s : State) (p t : Nat) (isOpen isShort : Bool) (v1 v2 w1 w2 : Int), s.runs → s.dev.base.counting = true → s.dev.dt ≤ t →
    s.dev.mode ≠ .cold → s.dev.ticksAt 11 ≤ t →
    let taken : Dev → Prop := fun d => d.clock = (s.dev.reach t).clock ∧ d.regs = s.dev.regs ∧
      d.ticksAt 11 = t + 491520 * if s.dev.rd CK Reg.CK.HK_HALF ≠ 0 then 4 else 2
    let a := diodeTemp (s.dev.rd TM Reg.TM.D_ETA p) v1 v2
    let b := diodeTemp (s.dev.rd TM Reg.TM.D_ETA p) w1 w2
    let rs := roundOpen (10 * (v2 - v1)) (9 * 10000)
    ((isOpen || isShort) = true → Does (.diodeMeasurement p t isOpen isShort v1 v2 w1 w2) s taken
      (seqs [when (s.dev.sensorOn (8 + p)) (declareFailed (8 + p) (if isOpen then 1 else 2)), thermalFollow])) ∧
    ((isOpen || isShort) = false → Does (.diodeMeasurement p t isOpen isShort v1 v2 w1 w2) s taken
      (seqs [condSet (decide ((a - b).natAbs > 100)) TM 6 p devScope [a, b], followDiodeCheck,
        if 0 ≤ rs ∧ rs < 65536 then put TM Reg.TM.D_RS rs.toNat p else drawBelow 65536 fun v => put TM Reg.TM.D_RS v p,
        sensorReading (8 + p) none (some a), thermalFollow]))) ∧
  (∀ (s : State) (p t : Nat) (isOpen isShort : Bool) (v1 v2 w1 w2 : Int), s.runs →
    (s.dev.base.counting = false ∨ t < s.dev.dt ∨ s.dev.mode = .cold ∨ t < s.dev.ticksAt 11) →
    Does (.diodeMeasurement p t isOpen isShort v1 v2 w1 w2) s fun d => d = s.dev) ∧
  (∀ (s : State) (n l t0 : Nat), s.runs →
    (s.dev.deadline (.dwell n l) = some t0 → Does (.throttleDwellExpiry n l) s (fun d =>
      (d.nbhdAt n).past.testBit l = true ∧ d.deadline (.dwell n l) = none ∧ d.clock = (s.dev.reach t0).clock ∧
      d.regs = s.dev.regs) judgeLevels) ∧
    (s.dev.deadline .fallHold = some t0 → Does .fallHoldExpiry s (fun d =>
      d.rd TM Reg.TM.FALL_HOLD = 0 ∧ d.deadline .fallHold = none ∧ d.clock = (s.dev.reach t0).clock ∧
      SameRegs s.dev d [Reg.TM.FALL_HOLD.at TM]) judgeLevels) ∧
    (s.dev.deadline (.dwell n l) = none → Does (.throttleDwellExpiry n l) s fun d => d = s.dev) ∧
    (s.dev.deadline .fallHold = none → Does .fallHoldExpiry s fun d => d = s.dev)) ∧
  (∀ (s : State) (t : Nat), s.runs →
    let late := s.dev.mode = .cold ∨ s.dev.base.counting = false ∨ t < s.dev.dt
    (late ∨ t % 49152000 ≠ 0 ∨ t < s.dev.ticksAt 9 → Does (.riseEval t) s fun d => d = s.dev) ∧
    (late ∨ t % 61440 ≠ 0 ∨ t < s.dev.ticksAt 10 → Does (.shutdownEval t) s fun d => d = s.dev)) ∧
  (∀ (s : State) (t : Nat), s.runs → s.dev.base.counting = true → s.dev.dt ≤ t → s.dev.mode ≠ .cold →
    let at' := fun (k : Nat) (d : Dev) => d.clock = (s.dev.reach t).clock ∧ d.ticksAt k = t + 1 ∧ d.regs = s.dev.regs
    (t % 49152000 = 0 → s.dev.ticksAt 9 ≤ t → Does (.riseEval t) s (at' 9) (seqs [forEach (List.range 8) riseOf, judgeLevels])) ∧
    (t % 61440 = 0 → s.dev.ticksAt 10 ≤ t → Does (.shutdownEval t) s (at' 10) (shutdownEval t))) ∧
  (∀ (d : Dev) (n : Nat) (a b : Int), d.rd TM Reg.TM.N_RISE_EN n ≠ 0 → d.nbHot n = some a →
    ((d.nbhdAt n).hist[9]?).join = some b →
    (10 * (d.rd TM Reg.TM.N_RISE_LIM n : Int) ≤ a - b → (((riseOf n).run d).nbhdAt n).rise = true) ∧
    (a - b < 10 * (d.rd TM Reg.TM.N_RISE_LIM n : Int) → (((riseOf n).run d).nbhdAt n).rise =
      ((d.nbhdAt n).rise && decide ((d.nbhdAt n).riseOk + 1 < 10)))) ∧
  (∀ (d : Dev) (inst : Nat) (level : Int) (hot : Nat × Int), ∃ d',
    (shutdownTrip inst level hot).run d = (condStart TM 0 inst { device := true } [level, Int.ofNat hot.1, hot.2]).run d' ∧
    Counts d d' TM Reg.TM.SD_CNT ∧ d'.rd TM Reg.TM.SHUTDOWN = 1 ∧ d'.rd TM Reg.TM.THERM_N = 1 ∧ d'.rd CK Reg.CK.DSP_SLOW = 1 ∧
    d'.rd MC Reg.MC.EMBER_THERMAL = 1 ∧ d'.rd TM Reg.TM.RESTART_LEFT = 30000) ∧
  (∀ d : Dev, ∃ d', shutdownEnd.run d = (seqs [condEnd TM 0 0, condEnd TM 0 1]).run d' ∧ d'.rd CK Reg.CK.DSP_SLOW = 0 ∧
    d'.rd TM Reg.TM.THERM_N = 0 ∧ d'.rd TM Reg.TM.SHUTDOWN = 0 ∧ d'.rd MC Reg.MC.EMBER_THERMAL = 0 ∧
    d'.tm.natTrip = false ∧ d'.tm.extTrip = false ∧ d'.mc.dspSync = true ∧ d'.base.autoSync = true)

/-- FALL_HOLD (R454). A sensor that is declared failed at level T1 or higher, and whose TEMP was its neighbourhood's NB_HOT at its
last valid update, sets FALL_HOLD for 10 s from the declaration, and its record carries the flag; another sets nothing. While
FALL_HOLD is set the device level may rise but does not fall. -/
def Obligations.FallHoldKeepsTheLevel : Prop :=
  (∀ (d : Dev) (i why : Nat), i < 32 → d.sensorFailed i = false →
    let hot := decide (1 ≤ d.rd TM Reg.TM.LEVEL) && (d.sensorAt i).wasHot
    ∃ d', (declareFailed i why).run d = (fireEvent TM 1 noScope [Int.ofNat (b2n hot)]).run d' ∧ d'.dt = d.dt ∧
      (hot = true → d'.rd TM Reg.TM.FALL_HOLD = 1 ∧ d'.deadline .fallHold = some (d.dt + 4915200000)) ∧
      (hot = false → d'.rd TM Reg.TM.FALL_HOLD = d.rd TM Reg.TM.FALL_HOLD ∧ d'.deadline .fallHold = d.deadline .fallHold)) ∧
  (∀ d : Dev, d.rd TM Reg.TM.FALL_HOLD ≠ 0 → d.rd TM Reg.TM.LEVEL ≤ (judgeLevels.run d).rd TM Reg.TM.LEVEL)
end

