-- ==== Sys2Proof/Laws/Bank.lean ====
section
/-! SUPPORT. Sparse tables: a read after a write, and that every operation keeps the canonical form. -/

namespace Sys2Proof.Machine

theorem bankGet_erase_same {V : Type} (dflt : V) (b : List (Nat × V)) (k : Nat) :
    bankGet dflt (bankErase b k) k = dflt := by
  induction b with
  | nil => rfl
  | cons e b ih =>
    obtain ⟨k', v⟩ := e
    by_cases h : k' = k <;> simp [bankErase, bankGet, h, ih]

theorem bankGet_erase_ne {V : Type} (dflt : V) (b : List (Nat × V)) {k k' : Nat} (h : k' ≠ k) :
    bankGet dflt (bankErase b k) k' = bankGet dflt b k' := by
  induction b with
  | nil => rfl
  | cons e b ih =>
    obtain ⟨k₀, v⟩ := e
    by_cases h₀ : k₀ = k
    · subst h₀; simp [bankErase, bankGet, ih, Ne.symm h]
    · by_cases h₁ : k₀ = k'
      · subst h₁; simp [bankErase, bankGet, h₀]
      · simp [bankErase, bankGet, h₀, h₁, ih]

theorem bankGet_insert_same {V : Type} (dflt : V) (b : List (Nat × V)) (k : Nat) (v : V) (h : ∀ e ∈ b, e.1 ≠ k) :
    bankGet dflt (bankInsert b k v) k = v := by
  induction b with
  | nil => simp [bankInsert, bankGet]
  | cons e b ih =>
    obtain ⟨k₀, v₀⟩ := e
    have h₀ : k₀ ≠ k := h _ (List.mem_cons_self ..)
    have ih := ih fun e he => h e (List.mem_cons_of_mem _ he)
    by_cases hlt : k < k₀ <;> simp [bankInsert, bankGet, hlt, h₀, ih]

theorem bankGet_insert_ne {V : Type} (dflt : V) (b : List (Nat × V)) {k k' : Nat} (v : V) (h : k' ≠ k) :
    bankGet dflt (bankInsert b k v) k' = bankGet dflt b k' := by
  induction b with
  | nil => simp [bankInsert, bankGet, Ne.symm h]
  | cons e b ih =>
    obtain ⟨k₀, v₀⟩ := e
    by_cases hlt : k < k₀
    · simp [bankInsert, bankGet, hlt, Ne.symm h]
    · by_cases h₁ : k₀ = k'
      · subst h₁; simp [bankInsert, bankGet, hlt]
      · simp [bankInsert, bankGet, hlt, h₁, ih]

theorem mem_bankErase {V : Type} {b : List (Nat × V)} {k : Nat} {e : Nat × V} (h : e ∈ bankErase b k) : e ∈ b ∧ e.1 ≠ k := by
  induction b with
  | nil => simp [bankErase] at h
  | cons x b ih =>
    obtain ⟨k₀, v₀⟩ := x
    by_cases h₀ : k₀ = k
    · simp only [bankErase, h₀, if_true] at h
      exact ⟨List.mem_cons_of_mem _ (ih h).1, (ih h).2⟩
    · simp only [bankErase, h₀, if_false, List.mem_cons] at h
      obtain rfl | h := h
      · exact ⟨List.mem_cons_self .., h₀⟩
      · exact ⟨List.mem_cons_of_mem _ (ih h).1, (ih h).2⟩

theorem mem_bankInsert {V : Type} {b : List (Nat × V)} {k : Nat} {v : V} {e : Nat × V} (h : e ∈ bankInsert b k v) :
    e = (k, v) ∨ e ∈ b := by
  induction b with
  | nil => simpa [bankInsert] using h
  | cons x b ih =>
    obtain ⟨k₀, v₀⟩ := x
    by_cases hlt : k < k₀
    · simpa [bankInsert, hlt] using h
    · simp only [bankInsert, hlt, if_false, List.mem_cons] at h
      obtain rfl | h := h
      · exact .inr (List.mem_cons_self ..)
      · exact (ih h).imp_right (List.mem_cons_of_mem _)

theorem bankErase_sorted {V : Type} {b : Bank V} (h : b.sorted) (k : Nat) : Bank.sorted (bankErase b k) := by
  unfold Bank.sorted at *
  induction b with
  | nil => simp [bankErase]
  | cons x b ih =>
    obtain ⟨k₀, v₀⟩ := x
    rw [List.pairwise_cons] at h
    by_cases h₀ : k₀ = k
    · simpa [bankErase, h₀] using ih h.2
    · simp only [bankErase, h₀, if_false, List.pairwise_cons]
      exact ⟨fun e he => h.1 e (mem_bankErase he).1, ih h.2⟩

theorem bankInsert_sorted {V : Type} {b : Bank V} (h : b.sorted) (k : Nat) (v : V) (hk : ∀ e ∈ b, e.1 ≠ k) :
    Bank.sorted (bankInsert b k v) := by
  unfold Bank.sorted at *
  induction b with
  | nil => simp [bankInsert]
  | cons x b ih =>
    obtain ⟨k₀, v₀⟩ := x
    have hx : k₀ ≠ k := hk _ (List.mem_cons_self ..)
    have h' := List.pairwise_cons.mp h
    by_cases hlt : k < k₀
    · simp only [bankInsert, hlt, if_true, List.pairwise_cons]
      refine ⟨fun e he => ?_, h'⟩
      obtain rfl | he := List.mem_cons.mp he
      · exact hlt
      · exact Nat.lt_trans hlt (h'.1 e he)
    · simp only [bankInsert, hlt, if_false, List.pairwise_cons]
      refine ⟨fun e he => ?_, ih h'.2 fun e he => hk e (List.mem_cons_of_mem _ he)⟩
      obtain rfl | he := mem_bankInsert he
      · show k₀ < k; omega
      · exact h'.1 e he

end Sys2Proof.Machine

namespace Sys2Proof

open Machine

variable {V : Type} [DecidableEq V]

@[simp] theorem Bank.get_put_same (b : Bank V) (dflt : V) (k : Nat) (v : V) : (b.put dflt k v).get dflt k = v := by
  unfold Bank.put Bank.get
  split
  · rename_i h; rw [bankGet_erase_same, h]
  · exact bankGet_insert_same _ _ _ _ fun e he => (mem_bankErase he).2

theorem Bank.get_put_ne (b : Bank V) (dflt dflt' : V) {k k' : Nat} (v : V) (h : k' ≠ k) :
    (b.put dflt k v).get dflt' k' = b.get dflt' k' := by
  unfold Bank.put Bank.get
  split
  · exact bankGet_erase_ne _ _ h
  · rw [bankGet_insert_ne _ _ _ h, bankGet_erase_ne _ _ h]

theorem Bank.put_sorted {b : Bank V} (h : b.sorted) (dflt : V) (k : Nat) (v : V) : (b.put dflt k v).sorted := by
  unfold Bank.put
  split
  · exact bankErase_sorted h k
  · exact bankInsert_sorted (bankErase_sorted h k) k v fun e he => (mem_bankErase he).2

theorem Bank.put_canon {b : Bank V} {dflt : V} (h : b.canon dflt) (k : Nat) (v : V) : (b.put dflt k v).canon dflt := by
  refine ⟨Bank.put_sorted h.1 dflt k v, fun e he => ?_⟩
  unfold Bank.put at he
  split at he
  · exact h.2 e (mem_bankErase he).1
  · rename_i hv
    obtain rfl | he := mem_bankInsert he
    · exact hv
    · exact h.2 e (mem_bankErase he).1

omit [DecidableEq V] in
theorem Bank.keep_sorted {b : Bank V} (h : b.sorted) (p : Nat → Bool) : (b.keep p).sorted :=
  List.Pairwise.sublist List.filter_sublist h

omit [DecidableEq V] in
theorem Bank.keep_canon {b : Bank V} {dflt : V} (h : b.canon dflt) (p : Nat → Bool) : (b.keep p).canon dflt :=
  ⟨Bank.keep_sorted h.1 p, fun e he => h.2 e (List.mem_filter.mp he).1⟩

omit [DecidableEq V] in
@[simp] theorem Bank.nil_canon (dflt : V) : Bank.canon ([] : Bank V) dflt := by simp [Bank.canon, Bank.sorted]

omit [DecidableEq V] in
@[simp] theorem Bank.get_nil (dflt : V) (k : Nat) : Bank.get ([] : Bank V) dflt k = dflt := rfl

end Sys2Proof
end

