-- ==== Sys2Proof/Laws/State.lean ====
section
/-! SUPPORT. The state: what the commonest updates leave alone, one lemma for each field and update. -/

namespace Sys2Proof.Machine

variable (d : Dev)

@[simp] theorem reg_wide (r : Ref) (v : Nat) : (d.apply (.reg r v)).wide = d.wide := rfl
@[simp] theorem reg_timers (r : Ref) (v : Nat) : (d.apply (.reg r v)).timers = d.timers := rfl
@[simp] theorem reg_clock (r : Ref) (v : Nat) : (d.apply (.reg r v)).clock = d.clock := rfl
@[simp] theorem reg_otp (r : Ref) (v : Nat) : (d.apply (.reg r v)).otp = d.otp := rfl
@[simp] theorem reg_drawn (r : Ref) (v : Nat) : (d.apply (.reg r v)).drawn = d.drawn := rfl
@[simp] theorem reg_out (r : Ref) (v : Nat) : (d.apply (.reg r v)).out = d.out := rfl
@[simp] theorem reg_porst (r : Ref) (v : Nat) : (d.apply (.reg r v)).porst = d.porst := rfl
@[simp] theorem reg_resetn (r : Ref) (v : Nat) : (d.apply (.reg r v)).resetn = d.resetn := rfl
@[simp] theorem reg_base (r : Ref) (v : Nat) : (d.apply (.reg r v)).base = d.base := rfl
@[simp] theorem reg_conds (r : Ref) (v : Nat) : (d.apply (.reg r v)).conds = d.conds := rfl
@[simp] theorem reg_mutes (r : Ref) (v : Nat) : (d.apply (.reg r v)).mutes = d.mutes := rfl
@[simp] theorem reg_unacked (r : Ref) (v : Nat) : (d.apply (.reg r v)).unacked = d.unacked := rfl
@[simp] theorem reg_ev (r : Ref) (v : Nat) : (d.apply (.reg r v)).ev = d.ev := rfl
@[simp] theorem reg_store (r : Ref) (v : Nat) : (d.apply (.reg r v)).store = d.store := rfl
@[simp] theorem reg_mc (r : Ref) (v : Nat) : (d.apply (.reg r v)).mc = d.mc := rfl
@[simp] theorem reg_variant (r : Ref) (v : Nat) : (d.apply (.reg r v)).variant = d.variant := rfl
@[simp] theorem reg_plane (r : Ref) (v : Nat) : (d.apply (.reg r v)).plane = d.plane := rfl
@[simp] theorem reg_link (r : Ref) (v : Nat) : (d.apply (.reg r v)).link = d.link := rfl
@[simp] theorem reg_cell (r : Ref) (v : Nat) : (d.apply (.reg r v)).cell = d.cell := rfl
@[simp] theorem reg_comb (r : Ref) (v : Nat) : (d.apply (.reg r v)).comb = d.comb := rfl
@[simp] theorem reg_path (r : Ref) (v : Nat) : (d.apply (.reg r v)).path = d.path := rfl
@[simp] theorem reg_carrier (r : Ref) (v : Nat) : (d.apply (.reg r v)).carrier = d.carrier := rfl
@[simp] theorem reg_group (r : Ref) (v : Nat) : (d.apply (.reg r v)).group = d.group := rfl
@[simp] theorem reg_synth (r : Ref) (v : Nat) : (d.apply (.reg r v)).synth = d.synth := rfl
@[simp] theorem reg_hk (r : Ref) (v : Nat) : (d.apply (.reg r v)).hk = d.hk := rfl
@[simp] theorem reg_hkRes (r : Ref) (v : Nat) : (d.apply (.reg r v)).hkRes = d.hkRes := rfl
@[simp] theorem reg_tm (r : Ref) (v : Nat) : (d.apply (.reg r v)).tm = d.tm := rfl
@[simp] theorem reg_sensor (r : Ref) (v : Nat) : (d.apply (.reg r v)).sensor = d.sensor := rfl
@[simp] theorem reg_nbhd (r : Ref) (v : Nat) : (d.apply (.reg r v)).nbhd = d.nbhd := rfl
@[simp] theorem reg_bus (r : Ref) (v : Nat) : (d.apply (.reg r v)).bus = d.bus := rfl
@[simp] theorem reg_ring (r : Ref) (v : Nat) : (d.apply (.reg r v)).ring = d.ring := rfl
@[simp] theorem reg_med (r : Ref) (v : Nat) : (d.apply (.reg r v)).med = d.med := rfl
@[simp] theorem reg_p0 (r : Ref) (v : Nat) : (d.apply (.reg r v)).p0 = d.p0 := rfl
@[simp] theorem reg_cc (r : Ref) (v : Nat) : (d.apply (.reg r v)).cc = d.cc := rfl
@[simp] theorem reg_cy (r : Ref) (v : Nat) : (d.apply (.reg r v)).cy = d.cy := rfl
@[simp] theorem reg_hp (r : Ref) (v : Nat) : (d.apply (.reg r v)).hp = d.hp := rfl
@[simp] theorem reg_queue (r : Ref) (v : Nat) : (d.apply (.reg r v)).queue = d.queue := rfl
@[simp] theorem reg_tap (r : Ref) (v : Nat) : (d.apply (.reg r v)).tap = d.tap := rfl
@[simp] theorem reg_ce (r : Ref) (v : Nat) : (d.apply (.reg r v)).ce = d.ce := rfl
@[simp] theorem reg_ticks (r : Ref) (v : Nat) : (d.apply (.reg r v)).ticks = d.ticks := rfl
@[simp] theorem reg_cmds (r : Ref) (v : Nat) : (d.apply (.reg r v)).cmds = d.cmds := rfl
@[simp] theorem arm_regs (c t : Nat) : (d.apply (.arm c t)).regs = d.regs := rfl
@[simp] theorem arm_wide (c t : Nat) : (d.apply (.arm c t)).wide = d.wide := rfl
@[simp] theorem arm_clock (c t : Nat) : (d.apply (.arm c t)).clock = d.clock := rfl
@[simp] theorem arm_otp (c t : Nat) : (d.apply (.arm c t)).otp = d.otp := rfl
@[simp] theorem arm_drawn (c t : Nat) : (d.apply (.arm c t)).drawn = d.drawn := rfl
@[simp] theorem arm_out (c t : Nat) : (d.apply (.arm c t)).out = d.out := rfl
@[simp] theorem arm_porst (c t : Nat) : (d.apply (.arm c t)).porst = d.porst := rfl
@[simp] theorem arm_resetn (c t : Nat) : (d.apply (.arm c t)).resetn = d.resetn := rfl
@[simp] theorem arm_base (c t : Nat) : (d.apply (.arm c t)).base = d.base := rfl
@[simp] theorem arm_conds (c t : Nat) : (d.apply (.arm c t)).conds = d.conds := rfl
@[simp] theorem arm_mutes (c t : Nat) : (d.apply (.arm c t)).mutes = d.mutes := rfl
@[simp] theorem arm_unacked (c t : Nat) : (d.apply (.arm c t)).unacked = d.unacked := rfl
@[simp] theorem arm_ev (c t : Nat) : (d.apply (.arm c t)).ev = d.ev := rfl
@[simp] theorem arm_store (c t : Nat) : (d.apply (.arm c t)).store = d.store := rfl
@[simp] theorem arm_mc (c t : Nat) : (d.apply (.arm c t)).mc = d.mc := rfl
@[simp] theorem arm_variant (c t : Nat) : (d.apply (.arm c t)).variant = d.variant := rfl
@[simp] theorem arm_plane (c t : Nat) : (d.apply (.arm c t)).plane = d.plane := rfl
@[simp] theorem arm_link (c t : Nat) : (d.apply (.arm c t)).link = d.link := rfl
@[simp] theorem arm_cell (c t : Nat) : (d.apply (.arm c t)).cell = d.cell := rfl
@[simp] theorem arm_comb (c t : Nat) : (d.apply (.arm c t)).comb = d.comb := rfl
@[simp] theorem arm_path (c t : Nat) : (d.apply (.arm c t)).path = d.path := rfl
@[simp] theorem arm_carrier (c t : Nat) : (d.apply (.arm c t)).carrier = d.carrier := rfl
@[simp] theorem arm_group (c t : Nat) : (d.apply (.arm c t)).group = d.group := rfl
@[simp] theorem arm_synth (c t : Nat) : (d.apply (.arm c t)).synth = d.synth := rfl
@[simp] theorem arm_hk (c t : Nat) : (d.apply (.arm c t)).hk = d.hk := rfl
@[simp] theorem arm_hkRes (c t : Nat) : (d.apply (.arm c t)).hkRes = d.hkRes := rfl
@[simp] theorem arm_tm (c t : Nat) : (d.apply (.arm c t)).tm = d.tm := rfl
@[simp] theorem arm_sensor (c t : Nat) : (d.apply (.arm c t)).sensor = d.sensor := rfl
@[simp] theorem arm_nbhd (c t : Nat) : (d.apply (.arm c t)).nbhd = d.nbhd := rfl
@[simp] theorem arm_bus (c t : Nat) : (d.apply (.arm c t)).bus = d.bus := rfl
@[simp] theorem arm_ring (c t : Nat) : (d.apply (.arm c t)).ring = d.ring := rfl
@[simp] theorem arm_med (c t : Nat) : (d.apply (.arm c t)).med = d.med := rfl
@[simp] theorem arm_p0 (c t : Nat) : (d.apply (.arm c t)).p0 = d.p0 := rfl
@[simp] theorem arm_cc (c t : Nat) : (d.apply (.arm c t)).cc = d.cc := rfl
@[simp] theorem arm_cy (c t : Nat) : (d.apply (.arm c t)).cy = d.cy := rfl
@[simp] theorem arm_hp (c t : Nat) : (d.apply (.arm c t)).hp = d.hp := rfl
@[simp] theorem arm_queue (c t : Nat) : (d.apply (.arm c t)).queue = d.queue := rfl
@[simp] theorem arm_tap (c t : Nat) : (d.apply (.arm c t)).tap = d.tap := rfl
@[simp] theorem arm_ce (c t : Nat) : (d.apply (.arm c t)).ce = d.ce := rfl
@[simp] theorem arm_ticks (c t : Nat) : (d.apply (.arm c t)).ticks = d.ticks := rfl
@[simp] theorem arm_cmds (c t : Nat) : (d.apply (.arm c t)).cmds = d.cmds := rfl
@[simp] theorem disarm_regs (c : Nat) : (d.apply (.disarm c)).regs = d.regs := rfl
@[simp] theorem disarm_wide (c : Nat) : (d.apply (.disarm c)).wide = d.wide := rfl
@[simp] theorem disarm_clock (c : Nat) : (d.apply (.disarm c)).clock = d.clock := rfl
@[simp] theorem disarm_otp (c : Nat) : (d.apply (.disarm c)).otp = d.otp := rfl
@[simp] theorem disarm_drawn (c : Nat) : (d.apply (.disarm c)).drawn = d.drawn := rfl
@[simp] theorem disarm_out (c : Nat) : (d.apply (.disarm c)).out = d.out := rfl
@[simp] theorem disarm_porst (c : Nat) : (d.apply (.disarm c)).porst = d.porst := rfl
@[simp] theorem disarm_resetn (c : Nat) : (d.apply (.disarm c)).resetn = d.resetn := rfl
@[simp] theorem disarm_base (c : Nat) : (d.apply (.disarm c)).base = d.base := rfl
@[simp] theorem disarm_conds (c : Nat) : (d.apply (.disarm c)).conds = d.conds := rfl
@[simp] theorem disarm_mutes (c : Nat) : (d.apply (.disarm c)).mutes = d.mutes := rfl
@[simp] theorem disarm_unacked (c : Nat) : (d.apply (.disarm c)).unacked = d.unacked := rfl
@[simp] theorem disarm_ev (c : Nat) : (d.apply (.disarm c)).ev = d.ev := rfl
@[simp] theorem disarm_store (c : Nat) : (d.apply (.disarm c)).store = d.store := rfl
@[simp] theorem disarm_mc (c : Nat) : (d.apply (.disarm c)).mc = d.mc := rfl
@[simp] theorem disarm_variant (c : Nat) : (d.apply (.disarm c)).variant = d.variant := rfl
@[simp] theorem disarm_plane (c : Nat) : (d.apply (.disarm c)).plane = d.plane := rfl
@[simp] theorem disarm_link (c : Nat) : (d.apply (.disarm c)).link = d.link := rfl
@[simp] theorem disarm_cell (c : Nat) : (d.apply (.disarm c)).cell = d.cell := rfl
@[simp] theorem disarm_comb (c : Nat) : (d.apply (.disarm c)).comb = d.comb := rfl
@[simp] theorem disarm_path (c : Nat) : (d.apply (.disarm c)).path = d.path := rfl
@[simp] theorem disarm_carrier (c : Nat) : (d.apply (.disarm c)).carrier = d.carrier := rfl
@[simp] theorem disarm_group (c : Nat) : (d.apply (.disarm c)).group = d.group := rfl
@[simp] theorem disarm_synth (c : Nat) : (d.apply (.disarm c)).synth = d.synth := rfl
@[simp] theorem disarm_hk (c : Nat) : (d.apply (.disarm c)).hk = d.hk := rfl
@[simp] theorem disarm_hkRes (c : Nat) : (d.apply (.disarm c)).hkRes = d.hkRes := rfl
@[simp] theorem disarm_tm (c : Nat) : (d.apply (.disarm c)).tm = d.tm := rfl
@[simp] theorem disarm_sensor (c : Nat) : (d.apply (.disarm c)).sensor = d.sensor := rfl
@[simp] theorem disarm_nbhd (c : Nat) : (d.apply (.disarm c)).nbhd = d.nbhd := rfl
@[simp] theorem disarm_bus (c : Nat) : (d.apply (.disarm c)).bus = d.bus := rfl
@[simp] theorem disarm_ring (c : Nat) : (d.apply (.disarm c)).ring = d.ring := rfl
@[simp] theorem disarm_med (c : Nat) : (d.apply (.disarm c)).med = d.med := rfl
@[simp] theorem disarm_p0 (c : Nat) : (d.apply (.disarm c)).p0 = d.p0 := rfl
@[simp] theorem disarm_cc (c : Nat) : (d.apply (.disarm c)).cc = d.cc := rfl
@[simp] theorem disarm_cy (c : Nat) : (d.apply (.disarm c)).cy = d.cy := rfl
@[simp] theorem disarm_hp (c : Nat) : (d.apply (.disarm c)).hp = d.hp := rfl
@[simp] theorem disarm_queue (c : Nat) : (d.apply (.disarm c)).queue = d.queue := rfl
@[simp] theorem disarm_tap (c : Nat) : (d.apply (.disarm c)).tap = d.tap := rfl
@[simp] theorem disarm_ce (c : Nat) : (d.apply (.disarm c)).ce = d.ce := rfl
@[simp] theorem disarm_ticks (c : Nat) : (d.apply (.disarm c)).ticks = d.ticks := rfl
@[simp] theorem disarm_cmds (c : Nat) : (d.apply (.disarm c)).cmds = d.cmds := rfl
@[simp] theorem advance_regs (n : Nat) : (d.apply (.advance n)).regs = d.regs := rfl
@[simp] theorem advance_wide (n : Nat) : (d.apply (.advance n)).wide = d.wide := rfl
@[simp] theorem advance_timers (n : Nat) : (d.apply (.advance n)).timers = d.timers := rfl
@[simp] theorem advance_otp (n : Nat) : (d.apply (.advance n)).otp = d.otp := rfl
@[simp] theorem advance_drawn (n : Nat) : (d.apply (.advance n)).drawn = d.drawn := rfl
@[simp] theorem advance_out (n : Nat) : (d.apply (.advance n)).out = d.out := rfl
@[simp] theorem advance_porst (n : Nat) : (d.apply (.advance n)).porst = d.porst := rfl
@[simp] theorem advance_resetn (n : Nat) : (d.apply (.advance n)).resetn = d.resetn := rfl
@[simp] theorem advance_base (n : Nat) : (d.apply (.advance n)).base = d.base := rfl
@[simp] theorem advance_conds (n : Nat) : (d.apply (.advance n)).conds = d.conds := rfl
@[simp] theorem advance_mutes (n : Nat) : (d.apply (.advance n)).mutes = d.mutes := rfl
@[simp] theorem advance_unacked (n : Nat) : (d.apply (.advance n)).unacked = d.unacked := rfl
@[simp] theorem advance_ev (n : Nat) : (d.apply (.advance n)).ev = d.ev := rfl
@[simp] theorem advance_store (n : Nat) : (d.apply (.advance n)).store = d.store := rfl
@[simp] theorem advance_mc (n : Nat) : (d.apply (.advance n)).mc = d.mc := rfl
@[simp] theorem advance_variant (n : Nat) : (d.apply (.advance n)).variant = d.variant := rfl
@[simp] theorem advance_plane (n : Nat) : (d.apply (.advance n)).plane = d.plane := rfl
@[simp] theorem advance_link (n : Nat) : (d.apply (.advance n)).link = d.link := rfl
@[simp] theorem advance_cell (n : Nat) : (d.apply (.advance n)).cell = d.cell := rfl
@[simp] theorem advance_comb (n : Nat) : (d.apply (.advance n)).comb = d.comb := rfl
@[simp] theorem advance_path (n : Nat) : (d.apply (.advance n)).path = d.path := rfl
@[simp] theorem advance_carrier (n : Nat) : (d.apply (.advance n)).carrier = d.carrier := rfl
@[simp] theorem advance_group (n : Nat) : (d.apply (.advance n)).group = d.group := rfl
@[simp] theorem advance_synth (n : Nat) : (d.apply (.advance n)).synth = d.synth := rfl
@[simp] theorem advance_hk (n : Nat) : (d.apply (.advance n)).hk = d.hk := rfl
@[simp] theorem advance_hkRes (n : Nat) : (d.apply (.advance n)).hkRes = d.hkRes := rfl
@[simp] theorem advance_tm (n : Nat) : (d.apply (.advance n)).tm = d.tm := rfl
@[simp] theorem advance_sensor (n : Nat) : (d.apply (.advance n)).sensor = d.sensor := rfl
@[simp] theorem advance_nbhd (n : Nat) : (d.apply (.advance n)).nbhd = d.nbhd := rfl
@[simp] theorem advance_bus (n : Nat) : (d.apply (.advance n)).bus = d.bus := rfl
@[simp] theorem advance_ring (n : Nat) : (d.apply (.advance n)).ring = d.ring := rfl
@[simp] theorem advance_med (n : Nat) : (d.apply (.advance n)).med = d.med := rfl
@[simp] theorem advance_p0 (n : Nat) : (d.apply (.advance n)).p0 = d.p0 := rfl
@[simp] theorem advance_cc (n : Nat) : (d.apply (.advance n)).cc = d.cc := rfl
@[simp] theorem advance_cy (n : Nat) : (d.apply (.advance n)).cy = d.cy := rfl
@[simp] theorem advance_hp (n : Nat) : (d.apply (.advance n)).hp = d.hp := rfl
@[simp] theorem advance_queue (n : Nat) : (d.apply (.advance n)).queue = d.queue := rfl
@[simp] theorem advance_tap (n : Nat) : (d.apply (.advance n)).tap = d.tap := rfl
@[simp] theorem advance_ce (n : Nat) : (d.apply (.advance n)).ce = d.ce := rfl
@[simp] theorem advance_ticks (n : Nat) : (d.apply (.advance n)).ticks = d.ticks := rfl
@[simp] theorem advance_cmds (n : Nat) : (d.apply (.advance n)).cmds = d.cmds := rfl
@[simp] theorem draw_regs : (d.apply (.draw)).regs = d.regs := rfl
@[simp] theorem draw_wide : (d.apply (.draw)).wide = d.wide := rfl
@[simp] theorem draw_timers : (d.apply (.draw)).timers = d.timers := rfl
@[simp] theorem draw_clock : (d.apply (.draw)).clock = d.clock := rfl
@[simp] theorem draw_otp : (d.apply (.draw)).otp = d.otp := rfl
@[simp] theorem draw_out : (d.apply (.draw)).out = d.out := rfl
@[simp] theorem draw_porst : (d.apply (.draw)).porst = d.porst := rfl
@[simp] theorem draw_resetn : (d.apply (.draw)).resetn = d.resetn := rfl
@[simp] theorem draw_base : (d.apply (.draw)).base = d.base := rfl
@[simp] theorem draw_conds : (d.apply (.draw)).conds = d.conds := rfl
@[simp] theorem draw_mutes : (d.apply (.draw)).mutes = d.mutes := rfl
@[simp] theorem draw_unacked : (d.apply (.draw)).unacked = d.unacked := rfl
@[simp] theorem draw_ev : (d.apply (.draw)).ev = d.ev := rfl
@[simp] theorem draw_store : (d.apply (.draw)).store = d.store := rfl
@[simp] theorem draw_mc : (d.apply (.draw)).mc = d.mc := rfl
@[simp] theorem draw_variant : (d.apply (.draw)).variant = d.variant := rfl
@[simp] theorem draw_plane : (d.apply (.draw)).plane = d.plane := rfl
@[simp] theorem draw_link : (d.apply (.draw)).link = d.link := rfl
@[simp] theorem draw_cell : (d.apply (.draw)).cell = d.cell := rfl
@[simp] theorem draw_comb : (d.apply (.draw)).comb = d.comb := rfl
@[simp] theorem draw_path : (d.apply (.draw)).path = d.path := rfl
@[simp] theorem draw_carrier : (d.apply (.draw)).carrier = d.carrier := rfl
@[simp] theorem draw_group : (d.apply (.draw)).group = d.group := rfl
@[simp] theorem draw_synth : (d.apply (.draw)).synth = d.synth := rfl
@[simp] theorem draw_hk : (d.apply (.draw)).hk = d.hk := rfl
@[simp] theorem draw_hkRes : (d.apply (.draw)).hkRes = d.hkRes := rfl
@[simp] theorem draw_tm : (d.apply (.draw)).tm = d.tm := rfl
@[simp] theorem draw_sensor : (d.apply (.draw)).sensor = d.sensor := rfl
@[simp] theorem draw_nbhd : (d.apply (.draw)).nbhd = d.nbhd := rfl
@[simp] theorem draw_bus : (d.apply (.draw)).bus = d.bus := rfl
@[simp] theorem draw_ring : (d.apply (.draw)).ring = d.ring := rfl
@[simp] theorem draw_med : (d.apply (.draw)).med = d.med := rfl
@[simp] theorem draw_p0 : (d.apply (.draw)).p0 = d.p0 := rfl
@[simp] theorem draw_cc : (d.apply (.draw)).cc = d.cc := rfl
@[simp] theorem draw_cy : (d.apply (.draw)).cy = d.cy := rfl
@[simp] theorem draw_hp : (d.apply (.draw)).hp = d.hp := rfl
@[simp] theorem draw_queue : (d.apply (.draw)).queue = d.queue := rfl
@[simp] theorem draw_tap : (d.apply (.draw)).tap = d.tap := rfl
@[simp] theorem draw_ce : (d.apply (.draw)).ce = d.ce := rfl
@[simp] theorem draw_ticks : (d.apply (.draw)).ticks = d.ticks := rfl
@[simp] theorem draw_cmds : (d.apply (.draw)).cmds = d.cmds := rfl
@[simp] theorem emit_regs (o : Output) : (d.apply (.emit o)).regs = d.regs := rfl
@[simp] theorem emit_wide (o : Output) : (d.apply (.emit o)).wide = d.wide := rfl
@[simp] theorem emit_timers (o : Output) : (d.apply (.emit o)).timers = d.timers := rfl
@[simp] theorem emit_clock (o : Output) : (d.apply (.emit o)).clock = d.clock := rfl
@[simp] theorem emit_otp (o : Output) : (d.apply (.emit o)).otp = d.otp := rfl
@[simp] theorem emit_drawn (o : Output) : (d.apply (.emit o)).drawn = d.drawn := rfl
@[simp] theorem emit_porst (o : Output) : (d.apply (.emit o)).porst = d.porst := rfl
@[simp] theorem emit_resetn (o : Output) : (d.apply (.emit o)).resetn = d.resetn := rfl
@[simp] theorem emit_base (o : Output) : (d.apply (.emit o)).base = d.base := rfl
@[simp] theorem emit_conds (o : Output) : (d.apply (.emit o)).conds = d.conds := rfl
@[simp] theorem emit_mutes (o : Output) : (d.apply (.emit o)).mutes = d.mutes := rfl
@[simp] theorem emit_unacked (o : Output) : (d.apply (.emit o)).unacked = d.unacked := rfl
@[simp] theorem emit_ev (o : Output) : (d.apply (.emit o)).ev = d.ev := rfl
@[simp] theorem emit_store (o : Output) : (d.apply (.emit o)).store = d.store := rfl
@[simp] theorem emit_mc (o : Output) : (d.apply (.emit o)).mc = d.mc := rfl
@[simp] theorem emit_variant (o : Output) : (d.apply (.emit o)).variant = d.variant := rfl
@[simp] theorem emit_plane (o : Output) : (d.apply (.emit o)).plane = d.plane := rfl
@[simp] theorem emit_link (o : Output) : (d.apply (.emit o)).link = d.link := rfl
@[simp] theorem emit_cell (o : Output) : (d.apply (.emit o)).cell = d.cell := rfl
@[simp] theorem emit_comb (o : Output) : (d.apply (.emit o)).comb = d.comb := rfl
@[simp] theorem emit_path (o : Output) : (d.apply (.emit o)).path = d.path := rfl
@[simp] theorem emit_carrier (o : Output) : (d.apply (.emit o)).carrier = d.carrier := rfl
@[simp] theorem emit_group (o : Output) : (d.apply (.emit o)).group = d.group := rfl
@[simp] theorem emit_synth (o : Output) : (d.apply (.emit o)).synth = d.synth := rfl
@[simp] theorem emit_hk (o : Output) : (d.apply (.emit o)).hk = d.hk := rfl
@[simp] theorem emit_hkRes (o : Output) : (d.apply (.emit o)).hkRes = d.hkRes := rfl
@[simp] theorem emit_tm (o : Output) : (d.apply (.emit o)).tm = d.tm := rfl
@[simp] theorem emit_sensor (o : Output) : (d.apply (.emit o)).sensor = d.sensor := rfl
@[simp] theorem emit_nbhd (o : Output) : (d.apply (.emit o)).nbhd = d.nbhd := rfl
@[simp] theorem emit_bus (o : Output) : (d.apply (.emit o)).bus = d.bus := rfl
@[simp] theorem emit_ring (o : Output) : (d.apply (.emit o)).ring = d.ring := rfl
@[simp] theorem emit_med (o : Output) : (d.apply (.emit o)).med = d.med := rfl
@[simp] theorem emit_p0 (o : Output) : (d.apply (.emit o)).p0 = d.p0 := rfl
@[simp] theorem emit_cc (o : Output) : (d.apply (.emit o)).cc = d.cc := rfl
@[simp] theorem emit_cy (o : Output) : (d.apply (.emit o)).cy = d.cy := rfl
@[simp] theorem emit_hp (o : Output) : (d.apply (.emit o)).hp = d.hp := rfl
@[simp] theorem emit_queue (o : Output) : (d.apply (.emit o)).queue = d.queue := rfl
@[simp] theorem emit_tap (o : Output) : (d.apply (.emit o)).tap = d.tap := rfl
@[simp] theorem emit_ce (o : Output) : (d.apply (.emit o)).ce = d.ce := rfl
@[simp] theorem emit_ticks (o : Output) : (d.apply (.emit o)).ticks = d.ticks := rfl
@[simp] theorem emit_cmds (o : Output) : (d.apply (.emit o)).cmds = d.cmds := rfl

end Sys2Proof.Machine
end

