-- ==== Sys2Proof/Laws/Script.lean ====
section
/-! SUPPORT. Updates and scripts: what an update leaves alone, that every update keeps the canonical form and never takes
Device Time back, and how a script runs piece by piece. -/

namespace Sys2Proof.Machine

/-! ### Lists of updates -/

@[simp] theorem applyAll_nil (d : Dev) : d.applyAll [] = d := rfl

@[simp] theorem applyAll_cons (d : Dev) (u : Upd) (us : List Upd) : d.applyAll (u :: us) = (d.apply u).applyAll us := rfl

@[simp] theorem applyAll_append (d : Dev) (us vs : List Upd) : d.applyAll (us ++ vs) = (d.applyAll us).applyAll vs := by
  simp [Dev.applyAll]

/-- What every update keeps, a list of updates keeps. -/
theorem applyAll_keeps {P : Dev → Prop} (h : ∀ d u, P d → P (d.apply u)) (d : Dev) (us : List Upd) (hd : P d) :
    P (d.applyAll us) := by
  induction us generalizing d with
  | nil => exact hd
  | cons u us ih => exact ih _ (h d u hd)

/-- What every update of a list keeps, the list keeps. -/
theorem applyAll_keeps_of {P : Dev → Prop} (us : List Upd) (h : ∀ u ∈ us, ∀ d, P d → P (d.apply u)) (d : Dev) (hd : P d) :
    P (d.applyAll us) := by
  induction us generalizing d with
  | nil => exact hd
  | cons u us ih =>
    exact ih (fun v hv => h v (List.mem_cons_of_mem _ hv)) _ (h u (List.mem_cons_self ..) d hd)

/-! ### Running scripts -/

@[simp] theorem run_skip (d : Dev) : skip.run d = d := rfl
@[simp] theorem run_upd (u : Upd) (d : Dev) : (upd u).run d = d.apply u := rfl
@[simp] theorem run_andThen (p q : Script) (d : Dev) : (andThen p q).run d = q.run (p.run d) := by
  simp [andThen, Script.run]
@[simp] theorem run_seqs_nil (d : Dev) : (seqs []).run d = d := rfl
@[simp] theorem run_seqs_cons (p : Script) (ps : List Script) (d : Dev) : (seqs (p :: ps)).run d = (seqs ps).run (p.run d) := by
  simp [seqs]
@[simp] theorem run_withDev (k : Dev → Script) (d : Dev) : (withDev k).run d = (k d).run d := rfl
@[simp] theorem run_when_true (p : Script) (d : Dev) : (when true p).run d = p.run d := rfl
@[simp] theorem run_when_false (p : Script) (d : Dev) : (when false p).run d = d := rfl
theorem run_when (c : Bool) (p : Script) (d : Dev) : (when c p).run d = if c then p.run d else d := by
  cases c <;> rfl
@[simp] theorem run_forEach_nil {α : Type} (f : α → Script) (d : Dev) : (forEach [] f).run d = d := rfl
@[simp] theorem run_forEach_cons {α : Type} (x : α) (xs : List α) (f : α → Script) (d : Dev) :
    (forEach (x :: xs) f).run d = (forEach xs f).run ((f x).run d) := by
  simp [forEach]
@[simp] theorem run_put (u : Nat) (f : Fld) (v i j : Nat) (d : Dev) : (put u f v i j).run d = d.apply (.reg (f.at u i j) v) := rfl
@[simp] theorem run_emit (o : Output) (d : Dev) : (emit o).run d = d.apply (.emit o) := rfl

/-! ### Changes of the parts behind the registers -/

@[simp] theorem run_modBase (f : TimeBase → TimeBase) (d : Dev) : (modBase f).run d = d.apply (.base (f d.base)) := rfl
@[simp] theorem run_modConds (f : (List CondInst) → (List CondInst)) (d : Dev) : (modConds f).run d = d.apply (.conds (f d.conds)) := rfl
@[simp] theorem run_modMutes (f : (List MuteHold) → (List MuteHold)) (d : Dev) : (modMutes f).run d = d.apply (.mutes (f d.mutes)) := rfl
@[simp] theorem run_modUnacked (f : (List Unacked) → (List Unacked)) (d : Dev) : (modUnacked f).run d = d.apply (.unacked (f d.unacked)) := rfl
@[simp] theorem run_modEv (f : Recorder → Recorder) (d : Dev) : (modEv f).run d = d.apply (.ev (f d.ev)) := rfl
@[simp] theorem run_modStore (f : RecordStore → RecordStore) (d : Dev) : (modStore f).run d = d.apply (.store (f d.store)) := rfl
@[simp] theorem run_modMc (f : ModeCtl → ModeCtl) (d : Dev) : (modMc f).run d = d.apply (.mc (f d.mc)) := rfl
@[simp] theorem run_modVariant (f : Variant → Variant) (d : Dev) : (modVariant f).run d = d.apply (.variant (f d.variant)) := rfl
@[simp] theorem run_modPlane (f : Plane → Plane) (d : Dev) : (modPlane f).run d = d.apply (.plane (f d.plane)) := rfl
@[simp] theorem run_modHk (f : Hk → Hk) (d : Dev) : (modHk f).run d = d.apply (.hk (f d.hk)) := rfl
@[simp] theorem run_modTm (f : Thermal → Thermal) (d : Dev) : (modTm f).run d = d.apply (.tm (f d.tm)) := rfl
@[simp] theorem run_modMed (f : Medium → Medium) (d : Dev) : (modMed f).run d = d.apply (.med (f d.med)) := rfl
@[simp] theorem run_modP0 (f : Parcel → Parcel) (d : Dev) : (modP0 f).run d = d.apply (.p0 (f d.p0)) := rfl
@[simp] theorem run_modCc (f : ConfigCtl → ConfigCtl) (d : Dev) : (modCc f).run d = d.apply (.cc (f d.cc)) := rfl
@[simp] theorem run_modCy (f : Caddy → Caddy) (d : Dev) : (modCy f).run d = d.apply (.cy (f d.cy)) := rfl
@[simp] theorem run_modHp (f : HostPort → HostPort) (d : Dev) : (modHp f).run d = d.apply (.hp (f d.hp)) := rfl
@[simp] theorem run_modCe (f : CalEngine → CalEngine) (d : Dev) : (modCe f).run d = d.apply (.ce (f d.ce)) := rfl
@[simp] theorem run_modCmds (f : (List Cmd) → (List Cmd)) (d : Dev) : (modCmds f).run d = d.apply (.cmds (f d.cmds)) := rfl
@[simp] theorem run_modLink (k : Nat) (f : Link → Link) (d : Dev) : (modLink k f).run d = d.apply (.link k (f (d.linkAt k))) := rfl
@[simp] theorem run_modCell (k : Nat) (f : Cell → Cell) (d : Dev) : (modCell k f).run d = d.apply (.cell k (f (d.cellAt k))) := rfl
@[simp] theorem run_modComb (k : Nat) (f : Comb → Comb) (d : Dev) : (modComb k f).run d = d.apply (.comb k (f (d.combAt k))) := rfl
@[simp] theorem run_modPath (k : Nat) (f : Path → Path) (d : Dev) : (modPath k f).run d = d.apply (.path k (f (d.pathAt k))) := rfl
@[simp] theorem run_modCarrier (k : Nat) (f : Carrier → Carrier) (d : Dev) : (modCarrier k f).run d = d.apply (.carrier k (f (d.carrierAt k))) := rfl
@[simp] theorem run_modGroup (k : Nat) (f : Group → Group) (d : Dev) : (modGroup k f).run d = d.apply (.group k (f (d.groupAt k))) := rfl
@[simp] theorem run_modSynth (k : Nat) (f : Synth → Synth) (d : Dev) : (modSynth k f).run d = d.apply (.synth k (f (d.synthAt k))) := rfl
@[simp] theorem run_modHkRes (k : Nat) (f : HkResult → HkResult) (d : Dev) : (modHkRes k f).run d = d.apply (.hkRes k (f (d.hkResAt k))) := rfl
@[simp] theorem run_modSensor (k : Nat) (f : Sensor → Sensor) (d : Dev) : (modSensor k f).run d = d.apply (.sensor k (f (d.sensorAt k))) := rfl
@[simp] theorem run_modNbhd (k : Nat) (f : Nbhd → Nbhd) (d : Dev) : (modNbhd k f).run d = d.apply (.nbhd k (f (d.nbhdAt k))) := rfl
@[simp] theorem run_modBus (k : Nat) (f : Bus → Bus) (d : Dev) : (modBus k f).run d = d.apply (.bus k (f (d.busAt k))) := rfl
@[simp] theorem run_modRing (k : Nat) (f : Nat → Nat) (d : Dev) : (modRing k f).run d = d.apply (.ring k (f (d.ringAt k))) := rfl
@[simp] theorem run_modQueue (k : Nat) (f : Queue → Queue) (d : Dev) : (modQueue k f).run d = d.apply (.queue k (f (d.queueAt k))) := rfl
@[simp] theorem run_modTap (k : Nat) (f : Tap → Tap) (d : Dev) : (modTap k f).run d = d.apply (.tap k (f (d.tapAt k))) := rfl
@[simp] theorem run_modTicks (k : Nat) (f : Nat → Nat) (d : Dev) : (modTicks k f).run d = d.apply (.ticks k (f (d.ticksAt k))) := rfl
@[simp] theorem run_putB (u : Nat) (f : Fld) (b : Bool) (i j : Nat) (d : Dev) :
    (putB u f b i j).run d = d.apply (.reg (f.at u i j) (b2n b)) := rfl
@[simp] theorem run_inc (u : Nat) (f : Fld) (i j : Nat) (d : Dev) :
    (inc u f i j).run d = d.apply (.reg (f.at u i j) (min (2 ^ f.width - 1) (d.rd u f i j + 1))) := rfl
@[simp] theorem run_startTimer (t : Timer) (n : Nat) (d : Dev) :
    (startTimer t n).run d = d.apply (.arm t.code (d.dt + n + 1)) := rfl
@[simp] theorem run_stopTimer (t : Timer) (d : Dev) : (stopTimer t).run d = d.apply (.disarm t.code) := rfl

/-- What every update keeps, every script keeps. -/
theorem run_keeps {P : Dev → Prop} (h : ∀ d u, P d → P (d.apply u)) (p : Script) (d : Dev) (hd : P d) : P (p.run d) :=
  applyAll_keeps h d (p d) hd

/-! ### Registers -/

@[simp] theorem get_reg_same (d : Dev) (r : Ref) (v : Nat) : (d.apply (.reg r v)).get r = v % 2 ^ r.width := by
  simp [Dev.apply, Dev.get]

theorem get_reg_ne (d : Dev) {r r' : Ref} (v : Nat) (h : r'.key ≠ r.key) : (d.apply (.reg r v)).get r' = d.get r' := by
  simp [Dev.apply, Dev.get, Bank.get_put_ne _ _ _ _ h]

/-- An update that is no register update leaves every register field. -/
theorem get_of_regs {d d' : Dev} (h : d'.regs = d.regs) (r : Ref) : d'.get r = d.get r := by simp [Dev.get, h]

/-! ### Timers -/

theorem deadline_arm_same (d : Dev) (t : Timer) (t0 : Nat) : (d.apply (.arm t.code (t0 + 1))).deadline t = some t0 := by
  simp [Dev.apply, Dev.deadline]

theorem deadline_disarm_same (d : Dev) (t : Timer) : (d.apply (.disarm t.code)).deadline t = none := by
  simp [Dev.apply, Dev.deadline]

/-- A timer that does not run does nothing when it would run out. -/
theorem run_onExpiry_none {t : Timer} {d : Dev} (p : Script) (h : d.deadline t = none) : (onExpiry t p).run d = d := by
  simp [onExpiry, Script.run, h]

/-- A timer that runs: Device Time reaches its deadline, the timer stops, and the script follows. -/
theorem run_onExpiry_some {t : Timer} {d : Dev} {t0 : Nat} (p : Script) (h : d.deadline t = some t0) :
    (onExpiry t p).run d = p.run ((stopTimer t).run ((advanceTo t0).run d)) := by
  have : (onExpiry t p).run d = (seqs [advanceTo t0, stopTimer t, p]).run d := by simp [onExpiry, Script.run, h]
  simp [this]

/-! ### What every update keeps -/

/-- Device Time never goes back under an update. -/
theorem apply_dt_le (d : Dev) (u : Upd) (h : d.timeOk) : d.dt ≤ (d.apply u).dt := by
  unfold Dev.timeOk Dev.dt at h
  cases u <;> simp only [Dev.apply, Dev.dt, Clock.advance, Nat.le_refl] <;> omega

theorem apply_timeOk (d : Dev) (u : Upd) (h : d.timeOk) : (d.apply u).timeOk := by
  unfold Dev.timeOk Dev.dt at *
  cases u <;> simp only [Dev.apply, Clock.advance] <;> first | exact h | omega

/-- A fused bit stays fused under an update (R324). -/
theorem apply_otp_mono (d : Dev) (u : Upd) (a i : Nat) (h : (d.otp.get 0 a).testBit i = true) :
    ((d.apply u).otp.get 0 a).testBit i = true := by
  cases u
  case burn b bits =>
    simp only [Dev.apply]
    by_cases hab : a = b
    · subst hab; simp [Nat.testBit_or, h]
    · rw [Bank.get_put_ne _ _ _ _ hab]; exact h
  all_goals exact h

/-- Every update keeps the sparse tables canonical. -/
theorem apply_canonical (d : Dev) (u : Upd) (h : d.canonical) : (d.apply u).canonical := by
  obtain ⟨h₁, h₂, h₃, h₄, h₅, h₆, h₇, h₈, h₉, h₁₀, h₁₁, h₁₂, h₁₃, h₁₄, h₁₅, h₁₆, h₁₇, h₁₈, h₁₉⟩ := h
  cases u
  case jump n =>
    refine ⟨h₁, h₂, ⟨?_, ?_⟩, h₄, h₅, h₆, h₇, h₈, h₉, h₁₀, h₁₁, h₁₂, h₁₃, h₁₄, h₁₅, h₁₆, h₁₇, h₁₈, h₁₉⟩
    · refine List.pairwise_map.mpr (h₃.1.imp fun {a b} hab => ?_)
      split <;> split <;> exact hab
    · intro e he
      obtain ⟨e', he', rfl⟩ := List.mem_map.mp he
      have := h₃.2 e' he'
      split
      · exact this
      · show e'.2 + n ≠ 0; omega
  case reg => exact ⟨Bank.put_sorted h₁ _ _ _, h₂, h₃, h₄, h₅, h₆, h₇, h₈, h₉, h₁₀, h₁₁, h₁₂, h₁₃, h₁₄, h₁₅, h₁₆, h₁₇, h₁₈, h₁₉⟩
  case wide => exact ⟨h₁, Bank.put_canon h₂ _ _, h₃, h₄, h₅, h₆, h₇, h₈, h₉, h₁₀, h₁₁, h₁₂, h₁₃, h₁₄, h₁₅, h₁₆, h₁₇, h₁₈, h₁₉⟩
  case arm => exact ⟨h₁, h₂, Bank.put_canon h₃ _ _, h₄, h₅, h₆, h₇, h₈, h₉, h₁₀, h₁₁, h₁₂, h₁₃, h₁₄, h₁₅, h₁₆, h₁₇, h₁₈, h₁₉⟩
  case disarm => exact ⟨h₁, h₂, Bank.put_canon h₃ _ 0, h₄, h₅, h₆, h₇, h₈, h₉, h₁₀, h₁₁, h₁₂, h₁₃, h₁₄, h₁₅, h₁₆, h₁₇, h₁₈, h₁₉⟩
  case keepTimers => exact ⟨h₁, h₂, Bank.keep_canon h₃ _, h₄, h₅, h₆, h₇, h₈, h₉, h₁₀, h₁₁, h₁₂, h₁₃, h₁₄, h₁₅, h₁₆, h₁₇, h₁₈, h₁₉⟩
  case burn => exact ⟨h₁, h₂, h₃, Bank.put_canon h₄ _ _, h₅, h₆, h₇, h₈, h₉, h₁₀, h₁₁, h₁₂, h₁₃, h₁₄, h₁₅, h₁₆, h₁₇, h₁₈, h₁₉⟩
  case clearRegs u lo hi => exact ⟨Bank.keep_sorted h₁ (fun k => !(inWindow u lo hi k)), h₂, h₃, h₄, h₅, h₆, h₇, h₈, h₉, h₁₀, h₁₁, h₁₂, h₁₃, h₁₄, h₁₅, h₁₆, h₁₇, h₁₈, h₁₉⟩
  case clearWide u lo hi => exact ⟨h₁, Bank.keep_canon h₂ (fun k => !(inWindow u lo hi k)), h₃, h₄, h₅, h₆, h₇, h₈, h₉, h₁₀, h₁₁, h₁₂, h₁₃, h₁₄, h₁₅, h₁₆, h₁₇, h₁₈, h₁₉⟩
  case link => exact ⟨h₁, h₂, h₃, h₄, Bank.put_canon h₅ _ _, h₆, h₇, h₈, h₉, h₁₀, h₁₁, h₁₂, h₁₃, h₁₄, h₁₅, h₁₆, h₁₇, h₁₈, h₁₉⟩
  case linkClear => exact ⟨h₁, h₂, h₃, h₄, Bank.nil_canon _, h₆, h₇, h₈, h₉, h₁₀, h₁₁, h₁₂, h₁₃, h₁₄, h₁₅, h₁₆, h₁₇, h₁₈, h₁₉⟩
  case cell => exact ⟨h₁, h₂, h₃, h₄, h₅, Bank.put_canon h₆ _ _, h₇, h₈, h₉, h₁₀, h₁₁, h₁₂, h₁₃, h₁₄, h₁₅, h₁₆, h₁₇, h₁₈, h₁₉⟩
  case cellClear => exact ⟨h₁, h₂, h₃, h₄, h₅, Bank.nil_canon _, h₇, h₈, h₉, h₁₀, h₁₁, h₁₂, h₁₃, h₁₄, h₁₅, h₁₆, h₁₇, h₁₈, h₁₉⟩
  case comb => exact ⟨h₁, h₂, h₃, h₄, h₅, h₆, Bank.put_canon h₇ _ _, h₈, h₉, h₁₀, h₁₁, h₁₂, h₁₃, h₁₄, h₁₅, h₁₆, h₁₇, h₁₈, h₁₉⟩
  case combClear => exact ⟨h₁, h₂, h₃, h₄, h₅, h₆, Bank.nil_canon _, h₈, h₉, h₁₀, h₁₁, h₁₂, h₁₃, h₁₄, h₁₅, h₁₆, h₁₇, h₁₈, h₁₉⟩
  case path => exact ⟨h₁, h₂, h₃, h₄, h₅, h₆, h₇, Bank.put_canon h₈ _ _, h₉, h₁₀, h₁₁, h₁₂, h₁₃, h₁₄, h₁₅, h₁₆, h₁₇, h₁₈, h₁₉⟩
  case pathClear => exact ⟨h₁, h₂, h₃, h₄, h₅, h₆, h₇, Bank.nil_canon _, h₉, h₁₀, h₁₁, h₁₂, h₁₃, h₁₄, h₁₅, h₁₆, h₁₇, h₁₈, h₁₉⟩
  case carrier => exact ⟨h₁, h₂, h₃, h₄, h₅, h₆, h₇, h₈, Bank.put_canon h₉ _ _, h₁₀, h₁₁, h₁₂, h₁₃, h₁₄, h₁₅, h₁₆, h₁₇, h₁₈, h₁₉⟩
  case carrierClear => exact ⟨h₁, h₂, h₃, h₄, h₅, h₆, h₇, h₈, Bank.nil_canon _, h₁₀, h₁₁, h₁₂, h₁₃, h₁₄, h₁₅, h₁₆, h₁₇, h₁₈, h₁₉⟩
  case group => exact ⟨h₁, h₂, h₃, h₄, h₅, h₆, h₇, h₈, h₉, Bank.put_canon h₁₀ _ _, h₁₁, h₁₂, h₁₃, h₁₄, h₁₅, h₁₆, h₁₇, h₁₈, h₁₉⟩
  case groupClear => exact ⟨h₁, h₂, h₃, h₄, h₅, h₆, h₇, h₈, h₉, Bank.nil_canon _, h₁₁, h₁₂, h₁₃, h₁₄, h₁₅, h₁₆, h₁₇, h₁₈, h₁₉⟩
  case synth => exact ⟨h₁, h₂, h₃, h₄, h₅, h₆, h₇, h₈, h₉, h₁₀, Bank.put_canon h₁₁ _ _, h₁₂, h₁₃, h₁₄, h₁₅, h₁₆, h₁₇, h₁₈, h₁₉⟩
  case synthClear => exact ⟨h₁, h₂, h₃, h₄, h₅, h₆, h₇, h₈, h₉, h₁₀, Bank.nil_canon _, h₁₂, h₁₃, h₁₄, h₁₅, h₁₆, h₁₇, h₁₈, h₁₉⟩
  case hkRes => exact ⟨h₁, h₂, h₃, h₄, h₅, h₆, h₇, h₈, h₉, h₁₀, h₁₁, Bank.put_canon h₁₂ _ _, h₁₃, h₁₄, h₁₅, h₁₆, h₁₇, h₁₈, h₁₉⟩
  case hkResClear => exact ⟨h₁, h₂, h₃, h₄, h₅, h₆, h₇, h₈, h₉, h₁₀, h₁₁, Bank.nil_canon _, h₁₃, h₁₄, h₁₅, h₁₆, h₁₇, h₁₈, h₁₉⟩
  case sensor => exact ⟨h₁, h₂, h₃, h₄, h₅, h₆, h₇, h₈, h₉, h₁₀, h₁₁, h₁₂, Bank.put_canon h₁₃ _ _, h₁₄, h₁₅, h₁₆, h₁₇, h₁₈, h₁₉⟩
  case sensorClear => exact ⟨h₁, h₂, h₃, h₄, h₅, h₆, h₇, h₈, h₉, h₁₀, h₁₁, h₁₂, Bank.nil_canon _, h₁₄, h₁₅, h₁₆, h₁₇, h₁₈, h₁₉⟩
  case nbhd => exact ⟨h₁, h₂, h₃, h₄, h₅, h₆, h₇, h₈, h₉, h₁₀, h₁₁, h₁₂, h₁₃, Bank.put_canon h₁₄ _ _, h₁₅, h₁₆, h₁₇, h₁₈, h₁₉⟩
  case nbhdClear => exact ⟨h₁, h₂, h₃, h₄, h₅, h₆, h₇, h₈, h₉, h₁₀, h₁₁, h₁₂, h₁₃, Bank.nil_canon _, h₁₅, h₁₆, h₁₇, h₁₈, h₁₉⟩
  case bus => exact ⟨h₁, h₂, h₃, h₄, h₅, h₆, h₇, h₈, h₉, h₁₀, h₁₁, h₁₂, h₁₃, h₁₄, Bank.put_canon h₁₅ _ _, h₁₆, h₁₇, h₁₈, h₁₉⟩
  case busClear => exact ⟨h₁, h₂, h₃, h₄, h₅, h₆, h₇, h₈, h₉, h₁₀, h₁₁, h₁₂, h₁₃, h₁₄, Bank.nil_canon _, h₁₆, h₁₇, h₁₈, h₁₉⟩
  case ring => exact ⟨h₁, h₂, h₃, h₄, h₅, h₆, h₇, h₈, h₉, h₁₀, h₁₁, h₁₂, h₁₃, h₁₄, h₁₅, Bank.put_canon h₁₆ _ _, h₁₇, h₁₈, h₁₉⟩
  case ringClear => exact ⟨h₁, h₂, h₃, h₄, h₅, h₆, h₇, h₈, h₉, h₁₀, h₁₁, h₁₂, h₁₃, h₁₄, h₁₅, Bank.nil_canon _, h₁₇, h₁₈, h₁₉⟩
  case queue => exact ⟨h₁, h₂, h₃, h₄, h₅, h₆, h₇, h₈, h₉, h₁₀, h₁₁, h₁₂, h₁₃, h₁₄, h₁₅, h₁₆, Bank.put_canon h₁₇ _ _, h₁₈, h₁₉⟩
  case queueClear => exact ⟨h₁, h₂, h₃, h₄, h₅, h₆, h₇, h₈, h₉, h₁₀, h₁₁, h₁₂, h₁₃, h₁₄, h₁₅, h₁₆, Bank.nil_canon _, h₁₈, h₁₉⟩
  case tap => exact ⟨h₁, h₂, h₃, h₄, h₅, h₆, h₇, h₈, h₉, h₁₀, h₁₁, h₁₂, h₁₃, h₁₄, h₁₅, h₁₆, h₁₇, Bank.put_canon h₁₈ _ _, h₁₉⟩
  case tapClear => exact ⟨h₁, h₂, h₃, h₄, h₅, h₆, h₇, h₈, h₉, h₁₀, h₁₁, h₁₂, h₁₃, h₁₄, h₁₅, h₁₆, h₁₇, Bank.nil_canon _, h₁₉⟩
  case ticks => exact ⟨h₁, h₂, h₃, h₄, h₅, h₆, h₇, h₈, h₉, h₁₀, h₁₁, h₁₂, h₁₃, h₁₄, h₁₅, h₁₆, h₁₇, h₁₈, Bank.put_canon h₁₉ _ _⟩
  case ticksClear => exact ⟨h₁, h₂, h₃, h₄, h₅, h₆, h₇, h₈, h₉, h₁₀, h₁₁, h₁₂, h₁₃, h₁₄, h₁₅, h₁₆, h₁₇, h₁₈, Bank.nil_canon _⟩
  all_goals exact ⟨h₁, h₂, h₃, h₄, h₅, h₆, h₇, h₈, h₉, h₁₀, h₁₁, h₁₂, h₁₃, h₁₄, h₁₅, h₁₆, h₁₇, h₁₈, h₁₉⟩

end Sys2Proof.Machine
end

