-- ==== Sys2Proof/Laws/Exec.lean ====
section
/-! SUPPORT. What a command can do, said once: outside the reset pins and the identity derivation its effect is a script, which a
block held in reset does not run. -/

namespace Sys2Proof.Machine

theorem perform_runs (p : Script) {s : State} (h : s.runs) : perform p s = .next { s with dev := p.run s.dev } := by
  simp [perform, show s.dev.held = false from h]

theorem performSettled_runs (p : Script) {s : State} (h : s.runs) :
    performSettled p s = .next { s with dev := settle.run (p.run s.dev) } := by
  simp [performSettled, perform_runs _ h]

theorem performClock_runs (p : Script) {s : State} (h : s.runs) :
    performClock p s = .next { s with dev := settle.run (showClockCause.run (p.run s.dev)) } := by
  simp [performClock, performSettled_runs _ h]

theorem perform_held (p : Script) {s : State} (h : s.dev.held = true) : perform p s = .next s := by
  simp [perform, h]

/-- A command that a held block does not take is a script. -/
theorem exec_is_script (i : Instr) (h : i.actsInReset = false) : ∃ p : Script, ∀ s, exec i s = perform p s := by
  cases i <;> first | exact ⟨_, fun _ => rfl⟩ | exact Bool.noConfusion h

end Sys2Proof.Machine
end

