-- ==== Sys2Proof/Laws/Registers.lean ====
section
/-! SUPPORT. Register fields and timers after an update of another, what reaching a time leaves alone, and how a statement of the
form Does is met by the script of a command. -/

namespace Sys2Proof.Machine

/-! ### Statements of the form Does -/

/-- A settled command whose script leads where the named follow-up leads from `d`. -/
theorem does_of {i : Instr} {s : State} {P : Dev → Prop} {q p : Script} (he : exec i s = performSettled p s) (h : s.runs)
   (d : Dev) (hp : p.run s.dev = q.run d) (hP : P d) : Does i s P q := by
  refine ⟨d, ?_, hP⟩
  rw [he, performSettled_runs _ h, hp]

/-! ### Register fields and timers -/

@[simp] theorem rd_reg_same (d : Dev) (u i j v : Nat) (f : Fld) : (d.apply (.reg (f.at u i j) v)).rd u f i j = v % 2 ^ f.width :=
  get_reg_same ..
theorem rd_reg_ne (d : Dev) {u i j : Nat} {f : Fld} {r : Ref} (v : Nat) (h : (f.at u i j).key ≠ r.key) : (d.apply (.reg r v)).rd u f i j = d.rd u f i j :=
  get_reg_ne _ _ h
theorem rd_of_regs {d d' : Dev} (h : d'.regs = d.regs) (u : Nat) (f : Fld) (i j : Nat) : d'.rd u f i j = d.rd u f i j := get_of_regs h _
@[simp] theorem run_incBy (u : Nat) (f : Fld) (n i j : Nat) (d : Dev) : (incBy u f n i j).run d = d.apply (.reg (f.at u i j) (min (2 ^ f.width - 1) (d.rd u f i j + n))) :=
  rfl
@[simp] theorem run_incWrap (u : Nat) (f : Fld) (i j : Nat) (d : Dev) : (incWrap u f i j).run d = d.apply (.reg (f.at u i j) (d.rd u f i j + 1)) :=
  rfl
@[simp] theorem run_startTimerAt (t : Timer) (n : Nat) (d : Dev) : (startTimerAt t n).run d = d.apply (.arm t.code (n + 1)) := rfl
@[simp] theorem run_putS (u : Nat) (f : Fld) (v : Int) (i j : Nat) (d : Dev) : (putS u f v i j).run d = d.apply (.reg (f.at u i j) (codeOf f.width v)) :=
  rfl
theorem run_ite (c : Prop) [Decidable c] (p q : Script) (d : Dev) : Script.run (if c then p else q) d = if c then p.run d else q.run d :=
  by split <;> rfl
theorem deadline_arm_ne (d : Dev) (t : Timer) (k v : Nat) (h : t.code ≠ k) : (d.apply (.arm k v)).deadline t = d.deadline t := by
  simp [Dev.apply, Dev.deadline, Bank.get_put_ne _ _ _ _ h]
theorem deadline_disarm_ne (d : Dev) (t : Timer) (k : Nat) (h : t.code ≠ k) : (d.apply (.disarm k)).deadline t = d.deadline t := by
  simp [Dev.apply, Dev.deadline, Bank.get_put_ne _ _ _ _ h]
theorem deadline_of_timers {d d' : Dev} (h : d'.timers = d.timers) (t : Timer) : d'.deadline t = d.deadline t := by simp [Dev.deadline, h]
/-! ### Reaching a time -/

theorem reach_eq (d : Dev) (t : Nat) : (advanceTo t).run d = { d with clock := (d.reach t).clock } := by
  unfold Dev.reach advanceTo Script.run
  by_cases h1 : d.base.counting = true <;> by_cases h2 : d.dt < t <;> simp [Dev.apply, h1, h2]
@[simp] theorem run_reach (d : Dev) (t : Nat) : (advanceTo t).run d = d.reach t := rfl
/-- Reaching a time changes the clock and nothing else. -/
theorem reach_eq' (d : Dev) (t : Nat) : d.reach t = { d with clock := (d.reach t).clock } := reach_eq d t
@[simp] theorem reach_regs (d : Dev) (t : Nat) : (d.reach t).regs = d.regs := by
  rw [reach_eq']
@[simp] theorem reach_rd (d : Dev) (t u : Nat) (f : Fld) (i j : Nat) : (d.reach t).rd u f i j = d.rd u f i j :=
  rd_of_regs (reach_regs d t) ..
@[simp] theorem reach_wide (d : Dev) (t : Nat) : (d.reach t).wide = d.wide := by
  rw [reach_eq']
@[simp] theorem reach_timers (d : Dev) (t : Nat) : (d.reach t).timers = d.timers := by
  rw [reach_eq']
@[simp] theorem reach_otp (d : Dev) (t : Nat) : (d.reach t).otp = d.otp := by
  rw [reach_eq']
@[simp] theorem reach_drawn (d : Dev) (t : Nat) : (d.reach t).drawn = d.drawn := by
  rw [reach_eq']
@[simp] theorem reach_out (d : Dev) (t : Nat) : (d.reach t).out = d.out := by
  rw [reach_eq']
@[simp] theorem reach_porst (d : Dev) (t : Nat) : (d.reach t).porst = d.porst := by
  rw [reach_eq']
@[simp] theorem reach_resetn (d : Dev) (t : Nat) : (d.reach t).resetn = d.resetn := by
  rw [reach_eq']
@[simp] theorem reach_base (d : Dev) (t : Nat) : (d.reach t).base = d.base := by
  rw [reach_eq']
@[simp] theorem reach_conds (d : Dev) (t : Nat) : (d.reach t).conds = d.conds := by
  rw [reach_eq']
@[simp] theorem reach_mutes (d : Dev) (t : Nat) : (d.reach t).mutes = d.mutes := by
  rw [reach_eq']
@[simp] theorem reach_unacked (d : Dev) (t : Nat) : (d.reach t).unacked = d.unacked := by
  rw [reach_eq']
@[simp] theorem reach_ev (d : Dev) (t : Nat) : (d.reach t).ev = d.ev := by
  rw [reach_eq']
@[simp] theorem reach_store (d : Dev) (t : Nat) : (d.reach t).store = d.store := by
  rw [reach_eq']
@[simp] theorem reach_mc (d : Dev) (t : Nat) : (d.reach t).mc = d.mc := by
  rw [reach_eq']
@[simp] theorem reach_variant (d : Dev) (t : Nat) : (d.reach t).variant = d.variant := by
  rw [reach_eq']
@[simp] theorem reach_plane (d : Dev) (t : Nat) : (d.reach t).plane = d.plane := by
  rw [reach_eq']
@[simp] theorem reach_link (d : Dev) (t : Nat) : (d.reach t).link = d.link := by
  rw [reach_eq']
@[simp] theorem reach_cell (d : Dev) (t : Nat) : (d.reach t).cell = d.cell := by
  rw [reach_eq']
@[simp] theorem reach_comb (d : Dev) (t : Nat) : (d.reach t).comb = d.comb := by
  rw [reach_eq']
@[simp] theorem reach_path (d : Dev) (t : Nat) : (d.reach t).path = d.path := by
  rw [reach_eq']
@[simp] theorem reach_carrier (d : Dev) (t : Nat) : (d.reach t).carrier = d.carrier := by
  rw [reach_eq']
@[simp] theorem reach_group (d : Dev) (t : Nat) : (d.reach t).group = d.group := by
  rw [reach_eq']
@[simp] theorem reach_synth (d : Dev) (t : Nat) : (d.reach t).synth = d.synth := by
  rw [reach_eq']
@[simp] theorem reach_hk (d : Dev) (t : Nat) : (d.reach t).hk = d.hk := by
  rw [reach_eq']
@[simp] theorem reach_hkRes (d : Dev) (t : Nat) : (d.reach t).hkRes = d.hkRes := by
  rw [reach_eq']
@[simp] theorem reach_tm (d : Dev) (t : Nat) : (d.reach t).tm = d.tm := by
  rw [reach_eq']
@[simp] theorem reach_sensor (d : Dev) (t : Nat) : (d.reach t).sensor = d.sensor := by
  rw [reach_eq']
@[simp] theorem reach_nbhd (d : Dev) (t : Nat) : (d.reach t).nbhd = d.nbhd := by
  rw [reach_eq']
@[simp] theorem reach_bus (d : Dev) (t : Nat) : (d.reach t).bus = d.bus := by
  rw [reach_eq']
@[simp] theorem reach_ring (d : Dev) (t : Nat) : (d.reach t).ring = d.ring := by
  rw [reach_eq']
@[simp] theorem reach_med (d : Dev) (t : Nat) : (d.reach t).med = d.med := by
  rw [reach_eq']
@[simp] theorem reach_p0 (d : Dev) (t : Nat) : (d.reach t).p0 = d.p0 := by
  rw [reach_eq']
@[simp] theorem reach_cc (d : Dev) (t : Nat) : (d.reach t).cc = d.cc := by
  rw [reach_eq']
@[simp] theorem reach_cy (d : Dev) (t : Nat) : (d.reach t).cy = d.cy := by
  rw [reach_eq']
@[simp] theorem reach_hp (d : Dev) (t : Nat) : (d.reach t).hp = d.hp := by
  rw [reach_eq']
@[simp] theorem reach_queue (d : Dev) (t : Nat) : (d.reach t).queue = d.queue := by
  rw [reach_eq']
@[simp] theorem reach_tap (d : Dev) (t : Nat) : (d.reach t).tap = d.tap := by
  rw [reach_eq']
@[simp] theorem reach_ce (d : Dev) (t : Nat) : (d.reach t).ce = d.ce := by
  rw [reach_eq']
@[simp] theorem reach_ticks (d : Dev) (t : Nat) : (d.reach t).ticks = d.ticks := by
  rw [reach_eq']
@[simp] theorem reach_cmds (d : Dev) (t : Nat) : (d.reach t).cmds = d.cmds := by
  rw [reach_eq']

@[simp] theorem reach_deadline (d : Dev) (t : Nat) (x : Timer) : (d.reach t).deadline x = d.deadline x := by simp [Dev.deadline]

end Sys2Proof.Machine
end

