-- ==== Sys2Proof/Machine/Pads.lean ====
section
/-! DEFINITION. What the bumps carry (R257, R472, R473, R490 to R492, R495): which are driven, to which level, and which are powered down.
No command reads a bump; these say of a state what a board would see. -/

namespace Sys2Proof.Machine

/-- How a signal bump stands. -/
inductive Drive where
  /-- high impedance, its input ignored -/
  | off
  /-- an input whose buffer is on -/
  | input
  /-- driven to a level -/
  | level (high : Bool)
  deriving DecidableEq, Repr

/-- The block with the sections that the fuses leave, which hold from the instant power is applied (R500). -/
def Dev.fused (d : Dev) : Dev := if d.porst then { d with variant := d.readVariant } else d

/-- The lanes of a link are powered: its section is enabled and its ENABLE is 1 (R490, R491). -/
def Dev.lanesPowered (d : Dev) (u : Nat) : Bool :=
  d.fused.present u && d.is u (if isRxl u then Reg.RXL.ENABLE else Reg.TXL.ENABLE)

/-- SYNC~ of an RX link, high for asserted: asserted in Cold and by a disabled link, and until code-group synchronisation ends; the
driver of a removed section is off (R104, R490, R491). -/
def Dev.syncDrive (d : Dev) (u : Nat) : Drive :=
  if !d.fused.present u then .off
  else .level (d.mode == .cold || !d.lanesPowered u || decide (d.linkState u ≤ lsCgs))

/-- A SYNC~ input of a TX link is taken (R490, R491). -/
def Dev.syncTaken (d : Dev) (u : Nat) : Bool := d.lanesPowered u

/-- PAC pin `p` of section `s` (R256, R257, R490): never driven in a removed section or without a function; PA_ALARM is an input. -/
def Dev.pacDrive (d : Dev) (s p : Nat) : Drive :=
  let f := d.rd (rcU s) Reg.RC.PIN_FUNC p
  if !d.fused.sectionOn s || f == 0 then .off
  else if f == 9 then .input
  else .level (d.pinLevel s p)

/-- The inputs LD, MISO and SDATA of a section keep their buffers on, used or not; those of a removed section are off (R490, R491). -/
def Dev.radioInput (d : Dev) (s : Nat) : Drive := if d.fused.sectionOn s then .input else .off

/-- XSc_CS0_N and XSc_CS1_N, XSc_CK and XSc_RST_N of a bonded channel that discovery found without a device: high, low and low (R492). -/
def Dev.idleChan (d : Dev) (c : Nat) : Option (Drive × Drive × Drive) :=
  if d.fused.variant.bondS && decide (c ≥ 4) then some (.off, .off, .off)
  else if d.rd WS Reg.WS.MEDIUM_STATE != 0 && d.rd WS Reg.WS.CH_CH_STATE c == 0 then some (.level true, .level false, .level false)
  else none

/-- FAULT_N and THERM_N, open drain and active low: low while asserted; FAULT_N is asserted throughout PORST_N and RESET_N (R472,
R473). -/
def Dev.faultN (d : Dev) : Drive := if d.porst || d.resetn || d.is MC Reg.MC.PIN then .level false else .off
/-- See `Dev.faultN`. -/
def Dev.thermN (d : Dev) : Drive := if d.is TM Reg.TM.THERM_N then .level false else .off

/-- IDCODE (R495): UNIT_ID.REV of CS.HP, the Device ID, the manufacturer, and the 1 that IEEE 1149.1 puts in bit 0 (PRESUMED, log
entry 179; unsafe). -/
def Dev.idcode (d : Dev) : Nat :=
  d.unitId HP % 16 * 2 ^ 28 + d.deviceId * 2 ^ 12 + Config.jep106 % 2 ^ 11 * 2 + 1

end Sys2Proof.Machine
end

