-- ==== Sys2Proof/Tests/Slice0.lean ====
section
/-! SUPPORT. Small tests: well-formedness, the witnesses of the statements' hypotheses, and single commands on small states. The
expected values of the last group come from the rules that their comments name. -/

namespace Sys2Proof.Tests

open Sys2Proof.Machine

/-! ### Small states -/

/-- A block that runs, with Device Time counting, after the updates given. -/
def dev (us : List Upd) : Dev := ({ porst := false, base := { counting := true } } : Dev).applyAll us

/-- The state with that block and an empty queue. -/
def st (us : List Upd) : State := { pending := [], dev := dev us }

/-- A register field holds a value. -/
def fld (u : Nat) (f : Fld) (v : Nat) (i : Nat := 0) (j : Nat := 0) : Upd := .reg (f.at u i j) v

/-- A timer runs out at `t0`. -/
def tim (t : Timer) (t0 : Nat) : Upd := .arm t.code (t0 + 1)

/-- The block is in a mode. -/
def inMode (m : Mode) : Upd := fld MC Reg.MC.MODE m.enc

/-- A command entry of tag 5 (R355). -/
def entry (op : Nat) (par : List Byte := []) (len addr : Nat := 0) : List Byte :=
  (leBytes 2 op ++ leBytes 2 5 ++ leBytes 4 0 ++ leBytes 8 addr ++ leBytes 4 len ++ leBytes 4 0 ++ par ++
    List.replicate 40 0).take 64

/-- That command has passed its checks. -/
def passed (op : Nat) (par : List Byte := []) (len addr : Nat := 0) : Cmd :=
  { tag := 5, q := 0, sqHead := 0, entry := entry op par len addr }

/-- A state in which it is outstanding. -/
def cst (us : List Upd) (op : Nat) (par : List Byte := []) (len addr : Nat := 0) : State :=
  st (us ++ [.cmds [passed op par len addr]])

/-! ### Well-formedness -/

theorem test_well_formed_is_taken_0 : ([
    .identityDerivationDone (List.replicate 57 0), .clockMonitorWindow 0 (List.replicate 8 0), .syncDtLoRead 0x0300,
    .blkRxLoRead 0x0300, .pRawRead 0x0300, .wordsLoRead 0x0100 0, .markLoRead 0 0, .verLoRead 0, .hkResultRead 0,
    .registerWrite 0 0 0 15, .unmappedWrite 0 0, .writeRejectClear 0 0 15, .errPendClear 0 false 0 15,
    .errAck 0 0 15, .cntClear 0 0 15, .faultPinSwWrite 0 15, .sqDoorbell 0 0, .cqDoorbell 0 0, .queueEnable 0,
    .queueDisable 0, .commandFetch (List.replicate 64 0), .coalesceTimerExpiry 0, .dmaAccessFail 0 0 1 0,
    .ucieLinkDown 0 0, .tapSegment 0 [], .tapConsumerDoorbell 0 0, .settlingEnd 0x0300, .resync 0x0100 0 15,
    .cgsAchieved 0x0100 0, .ilasReceived 0x0100 0 [] [] 0 0, .ilasRetryTimer 0x0100, .laneCharError 0x0100 0 0 0 0,
    .linkHoldExpiry 0x0100, .txSyncRequest 0x0200 0 0, .syncErrReport 0x0200 0 0, .patCfgWrite 0x0100 0 0 15,
    .respSelWrite 0x0300 0 15, .respSwitch 0x0300, .blockEnd 0x0300 [], .measCfgWrite 0x0300 0 15] : List Instr).all (fun i => i.wf) = true := by
  decide +kernel

theorem test_well_formed_is_taken_1 : ([
    .gainSetWrite 0x0300 0 15, .gainSlewStep 0x0300, .squelchOpen 0x0300 0 [], .squelchReleaseExpiry 0x0300 0 [],
    .powerMonitorWindow 0x0300 0 0 0, .parIntervalEnd 0x0500 0 [], .saturationWindow 0x0200 0 [],
    .xbusParityFail 0 0, .damperHop 0 0 0 [] false, .refineHoldExpiry 0 0, .zeroAll 0 0 15, .pathSelWrite 0 0 15,
    .lockstepMismatch 0, .growthWindowEnd 0x0300 0 0 0 0 0, .tripHoldExpiry 0x0300 1, .marginHoldExpiry 0x0300,
    .spkHoldExpiry 0x0300, .donorHoldExpiry 0 0, .syncHoldExpiry 0 0, .pssDetection 0 0 0 [] false,
    .syncSearchEnd 0 0 0, .frameMark 0 0, .markJumpAdopt 0 0, .groupPowerUp 0 0, .fddSendStart 0 0,
    .tddBiasLead 0 0 0 0, .sendStart 0 0, .sendEnd 0 0, .switchEnd 0 0, .listenStart 0 0 0 0, .listenEnd 0 0 0 0,
    .offReqWrite 0 0 0 15, .powerDownStep 0 0, .paAlarm 0 0 false, .synSequenceStart 0 0, .synRecalWrite 0 0 15,
    .cspiFrameDone 0 0 0, .sequenceWaitExpiry 0 0, .cspiHostGo 0 0 15, .settleTimerExpiry 0 0] : List Instr).all (fun i => i.wf) = true := by
  decide +kernel

theorem test_well_formed_is_taken_2 : ([
    .ldQualified 0 0, .ldLoss 0 0, .heldRequestProceed 0 0, .fddRequestRepeat 0 0, .rffeTransferDone 0 0 false 0,
    .mmHoldExpiry 0 0, .tunePeriod 0 0 0, .calHalfEnd 0 [] false, .calRunEnd 0 [] false, .mediaCommandTimeout 0 0,
    .xspiDsRetrain 0 0, .trigEdge 0 0, .ringSrcWrite 0x0900 0 0 15, .urgReq 0 15, .urgentSendRequest 0,
    .hkConversionDone 0, .diodeMeasurement 0 0 false false 0 0 0 0, .throttleDwellExpiry 0 1,
    .txSyncDeassert 0x0200 0, .patternCheckerLock 0x0100 0 [], .msixVectorUnmask 0, .pinReadbackMismatch 0 0 false 0] : List Instr).all (fun i => i.wf) = true := by
  decide +kernel

theorem test_ill_formed_is_refused_0 : ([
    .identityDerivationDone [0], .clockMonitorWindow 0 [0], .syncDtLoRead 0x1B00, .syncDtLoRead 0x0320,
    .blkRxLoRead 0x1B00, .blkRxLoRead 0x0320, .pRawRead 0x1B00, .pRawRead 0x0320, .wordsLoRead 0x1B00 0,
    .wordsLoRead 0x0104 0, .wordsLoRead 0x0100 2, .markLoRead 4 0, .markLoRead 0 8, .verLoRead 3, .hkResultRead 64,
    .registerWrite 0 0x1000 0 15, .registerWrite 0 0 (2 ^ 32) 15, .registerWrite 0 0 0 16, .registerWrite 0 2 0 15,
    .unmappedWrite 1 0, .writeRejectClear 0 (2 ^ 32) 15, .writeRejectClear 0 0 16, .errPendClear 0 false (2 ^ 32) 15,
    .errPendClear 0 false 0 16, .errAck 0 (2 ^ 32) 15, .errAck 0 0 16, .cntClear 0 (2 ^ 32) 15, .cntClear 0 0 16,
    .faultPinSwWrite (2 ^ 32) 15, .faultPinSwWrite 0 16, .sqDoorbell 16 0, .cqDoorbell 16 0, .queueEnable 16,
    .queueDisable 16, .commandFetch [0], .coalesceTimerExpiry 16, .dmaAccessFail 4 0 1 0, .dmaAccessFail 0 0 5 0,
    .dmaAccessFail 0 0 0 0, .ucieLinkDown 3 0] : List Instr).all (fun i => !i.wf) = true := by
  decide +kernel

theorem test_ill_formed_is_refused_1 : ([
    .tapSegment 64 [], .tapConsumerDoorbell 64 0, .settlingEnd 0x1B00, .settlingEnd 0x0320, .resync 0x1B00 0 15,
    .resync 0x0104 0 15, .resync 0x0100 (2 ^ 32) 15, .resync 0x0100 0 16, .cgsAchieved 0x1B00 0,
    .cgsAchieved 0x0104 0, .ilasReceived 0x1B00 0 [] [] 0 0, .ilasReceived 0x0104 0 [] [] 0 0,
    .ilasReceived 0x0100 0 [] [] (2 ^ 32) 0, .ilasReceived 0x0100 0 [] [] 0 (2 ^ 32), .ilasRetryTimer 0x1B00,
    .ilasRetryTimer 0x0104, .laneCharError 0x1B00 0 0 0 0, .laneCharError 0x0104 0 0 0 0,
    .laneCharError 0x0100 0 2 0 0, .laneCharError 0x0100 0 0 6 0, .linkHoldExpiry 0x1B00, .linkHoldExpiry 0x0104,
    .txSyncRequest 0x1B00 0 0, .txSyncRequest 0x0204 0 0, .syncErrReport 0x1B00 0 0, .syncErrReport 0x0204 0 0,
    .patCfgWrite 0x1B00 0 0 15, .patCfgWrite 0x0104 0 0 15, .patCfgWrite 0x0100 2 0 15,
    .patCfgWrite 0x0100 0 (2 ^ 32) 15, .patCfgWrite 0x0100 0 0 16, .respSelWrite 0x1B00 0 15,
    .respSelWrite 0x0320 0 15, .respSelWrite 0x0300 (2 ^ 32) 15, .respSelWrite 0x0300 0 16, .respSwitch 0x1B00,
    .respSwitch 0x0320, .blockEnd 0x1B00 [], .blockEnd 0x0320 [], .measCfgWrite 0x1B00 0 15] : List Instr).all (fun i => !i.wf) = true := by
  decide +kernel

theorem test_ill_formed_is_refused_2 : ([
    .measCfgWrite 0x0320 0 15, .measCfgWrite 0x0300 (2 ^ 32) 15, .measCfgWrite 0x0300 0 16,
    .gainSetWrite 0x1B00 0 15, .gainSetWrite 0x0320 0 15, .gainSetWrite 0x0300 (2 ^ 32) 15,
    .gainSetWrite 0x0300 0 16, .gainSlewStep 0x1B00, .gainSlewStep 0x0320, .squelchOpen 0x1B00 0 [],
    .squelchOpen 0x0320 0 [], .squelchReleaseExpiry 0x1B00 0 [], .squelchReleaseExpiry 0x0320 0 [],
    .powerMonitorWindow 0x1B00 0 0 0, .powerMonitorWindow 0x0320 0 0 0, .parIntervalEnd 0x1B00 0 [],
    .parIntervalEnd 0x0504 0 [], .saturationWindow 0x1B00 0 [], .saturationWindow 0x0204 0 [], .xbusParityFail 4 0,
    .damperHop 4 0 0 [] false, .damperHop 0 256 0 [] false, .refineHoldExpiry 4 0, .refineHoldExpiry 0 256,
    .zeroAll 4 0 15, .zeroAll 0 (2 ^ 32) 15, .zeroAll 0 0 16, .pathSelWrite 4 0 15, .pathSelWrite 0 (2 ^ 32) 15,
    .pathSelWrite 0 0 16, .lockstepMismatch 4, .growthWindowEnd 0x1B00 0 0 0 0 0, .growthWindowEnd 0x0320 0 0 0 0 0,
    .tripHoldExpiry 0x1B00 1, .tripHoldExpiry 0x0320 1, .tripHoldExpiry 0x0300 4, .tripHoldExpiry 0x0300 0,
    .marginHoldExpiry 0x1B00, .marginHoldExpiry 0x0320, .spkHoldExpiry 0x1B00] : List Instr).all (fun i => !i.wf) = true := by
  decide +kernel

theorem test_ill_formed_is_refused_3 : ([
    .spkHoldExpiry 0x0320, .donorHoldExpiry 4 0, .donorHoldExpiry 0 8, .syncHoldExpiry 4 0, .syncHoldExpiry 0 32,
    .pssDetection 4 0 0 [] false, .pssDetection 0 8 0 [] false, .syncSearchEnd 4 0 0, .syncSearchEnd 0 8 0,
    .frameMark 4 0, .frameMark 0 8, .markJumpAdopt 4 0, .markJumpAdopt 0 8, .groupPowerUp 4 0, .groupPowerUp 0 4,
    .fddSendStart 4 0, .fddSendStart 0 4, .tddBiasLead 4 0 0 0, .tddBiasLead 0 4 0 0, .tddBiasLead 0 0 32 0,
    .sendStart 4 0, .sendStart 0 4, .sendEnd 4 0, .sendEnd 0 4, .switchEnd 4 0, .switchEnd 0 4, .listenStart 4 0 0 0,
    .listenStart 0 4 0 0, .listenStart 0 0 32 0, .listenEnd 4 0 0 0, .listenEnd 0 4 0 0, .listenEnd 0 0 32 0,
    .offReqWrite 4 0 0 15, .offReqWrite 0 4 0 15, .offReqWrite 0 0 (2 ^ 32) 15, .offReqWrite 0 0 0 16,
    .powerDownStep 4 0, .powerDownStep 0 4, .paAlarm 4 0 false, .paAlarm 0 16 false] : List Instr).all (fun i => !i.wf) = true := by
  decide +kernel

theorem test_ill_formed_is_refused_4 : ([
    .synSequenceStart 4 0, .synSequenceStart 0 8, .synRecalWrite 4 0 15, .synRecalWrite 0 (2 ^ 32) 15,
    .synRecalWrite 0 0 16, .cspiFrameDone 4 0 0, .cspiFrameDone 0 2 0, .cspiFrameDone 0 0 (2 ^ 32),
    .sequenceWaitExpiry 4 0, .sequenceWaitExpiry 0 8, .cspiHostGo 4 0 15, .cspiHostGo 0 (2 ^ 32) 15,
    .cspiHostGo 0 0 16, .settleTimerExpiry 4 0, .settleTimerExpiry 0 8, .ldQualified 4 0, .ldQualified 0 8,
    .ldLoss 4 0, .ldLoss 0 8, .heldRequestProceed 4 0, .heldRequestProceed 0 4, .fddRequestRepeat 4 0,
    .fddRequestRepeat 0 4, .rffeTransferDone 4 0 false 0, .rffeTransferDone 0 2 false 0,
    .rffeTransferDone 0 0 false 256, .mmHoldExpiry 4 0, .mmHoldExpiry 0 4, .tunePeriod 4 0 0, .tunePeriod 0 4 0,
    .calHalfEnd 16 [] false, .calRunEnd 16 [] false, .mediaCommandTimeout 8 0, .mediaCommandTimeout 0 2,
    .xspiDsRetrain 8 0, .trigEdge 4 0, .ringSrcWrite 0x1B00 0 0 15, .ringSrcWrite 0x0901 0 0 15,
    .ringSrcWrite 0x0900 8 0 15, .ringSrcWrite 0x0900 0 (2 ^ 32) 15] : List Instr).all (fun i => !i.wf) = true := by
  decide +kernel

theorem test_ill_formed_is_refused_5 : ([
    .ringSrcWrite 0x0900 0 0 16, .urgReq (2 ^ 32) 15, .urgReq 0 16, .urgentSendRequest 4, .hkConversionDone 65536,
    .diodeMeasurement 8 0 false false 0 0 0 0, .throttleDwellExpiry 8 1, .throttleDwellExpiry 0 4,
    .throttleDwellExpiry 0 0, .txSyncDeassert 0x1B00 0, .txSyncDeassert 0x0204 0, .patternCheckerLock 0x1B00 0 [],
    .patternCheckerLock 0x0104 0 [], .patternCheckerLock 0x0100 2 [], .msixVectorUnmask 128,
    .pinReadbackMismatch 4 0 false 0] : List Instr).all (fun i => !i.wf) = true := by
  decide +kernel
/-! ### Witnesses: what each statement assumes holds of the states and operands named here -/

theorem test_met_StepRunsFrontCommand :
    ({ State.reset with pending := [.dtLoRead, .alignArm] } : State).pending = .dtLoRead :: [.alignArm] := rfl

theorem test_met_EmptyQueueTicks :
    ((st []).pending = [] ∧ (st []).dev.held = false ∧ (st []).dev.base.counting = true) ∧
    (State.reset.pending = [] ∧ State.reset.dev.held = true) ∧ (st [.base {}]).dev.base.counting = false ∧
    (st []).dev.base.rootFailed = false ∧ (st [.base { counting := true, rootFailed := true }]).dev.base.rootFailed = true := by
  decide +kernel

theorem test_met_HeldBlockIgnoresCommands :
    State.reset.dev.held = true ∧ Instr.actsInReset .dtLoRead = false := by decide +kernel

theorem test_met_StepKeepsInvariant : (st [fld TB Reg.TB.ALIGNED 1]).Inv ∧
    ∃ t, step (st [fld TB Reg.TB.ALIGNED 1]) = .next t := by
  refine ⟨?_, _, rfl⟩
  simp [State.Inv, Dev.canonical, Bank.canon, Bank.sorted, Dev.timeOk, st, dev, fld, Dev.applyAll, Dev.apply, Bank.put, bankInsert, bankErase,
    Fld.at, Reg.TB.ALIGNED]
  decide +kernel

theorem test_met_TimeAndFusesNeverGoBack :
    (st [.advance 9]).dev.timeOk ∧ (∃ t, step (st [.advance 9]) = .next t) ∧
    (∀ c rest, (st [.advance 9]).pending = c :: rest → c.isReset = false) ∧
    (State.reset.dev.otp.get 0 0x30).testBit 1 = true ∧ ∃ t, step State.reset = .next t := by
  refine ⟨by unfold Dev.timeOk; decide +kernel, ⟨_, rfl⟩, fun _ _ h => by simp [st] at h, by decide +kernel, ⟨_, rfl⟩⟩

theorem test_met_PorstAndSupplyLoss : 1000 ≤ 1000 ∧ (659 < 660 ∨ 1550 < 1550) ∧ (660 < 660 ∨ 1549 < 1550) ∧ (660 ≤ 660 ∧ 1550 ≤ 1550) ∧
    199 < 200 ∧ (200 ≤ 200 ∧ 999 < 1000) ∧ (st []).dev.cy.burns = [] := by decide

theorem test_met_ResetAndIdentity :
    1000 ≤ 1000 ∧ (st []).dev.porst = false ∧ State.reset.dev.porst = true ∧
    (({ dev [] with resetn := true } : Dev).resetn = true ∧ ({ dev [] with resetn := true } : Dev).porst = false ∧ (dev []).resetn = false) ∧
    (({ State.reset.dev with resetn := true } : Dev).resetn = true ∧ ({ State.reset.dev with resetn := true } : Dev).porst = true) ∧
    ((dev [fld CY Reg.CY.ID_DONE 1]).rd CY Reg.CY.ID_DONE ≠ 0 ∧ (dev [fld CY Reg.CY.ID_DONE 1]).rd CY Reg.CY.ID_OK = 0 ∧
      ¬((dev []).rd CY Reg.CY.ID_DONE ≠ 0 ∧ (dev []).rd CY Reg.CY.ID_OK = 0) ∧ 3 ∈ (dev []).sections ∧ 3 < 4 ∧ 7 < 8) ∧
    ((Reg.MC.MODE.at MC).key ≠ (Reg.MC.CAUSE.at MC).key ∧ identityKey (Reg.MC.MODE.at MC).key = false) ∧
    (st []).dev.rd CY Reg.CY.ID_DONE = 0 ∧ [(0 : Byte)] ≠ [] := by decide +kernel

/-- A cell's powers of one block. -/
def measured : Upd := .cell 0x300 { latest := [1, 2, 3, 4, 5, 6, 7] }

theorem test_met_LatchedReads : (st []).runs ∧
    (isUnitOf 0x03 32 0x631F = true ∧ (st []).dev.present 0x631F = true ∧ (st [.variant { sectMask := 7 }]).dev.present 0x631F = false) ∧
    (isUnitOf 0x01 4 0x6103 = true ∧ (st []).dev.present 0x6103 = true ∧ (st [.variant { sectMask := 7 }]).dev.present 0x6103 = false ∧ 1 < 2) ∧
    (3 < 4 ∧ 7 < 8 ∧ (st []).dev.present (sdU 3) = true ∧ (st [.variant { sectMask := 7 }]).dev.present (sdU 3) = false) ∧ 2 < 3 ∧ 63 < 64 ∧
    (isUnitOf 0x03 32 0x300 = true ∧ (st [measured]).dev.present 0x300 = true ∧ ((st [measured]).dev.cellAt 0x300).latest[6]? = some 7 ∧
      ((st []).dev.cellAt 0x300).latest = []) := by decide +kernel

theorem test_met_DeviceTimeRead : (st []).runs := by decide +kernel

theorem test_met_WritesAreRejected :
    -- a divisor written with 0, with WRITE_REJECT 0 and 1
    ((st []).runs ∧ 0x108 % 4 = 0 ∧ ownRow (typeOf HA) 0x108 = false ∧ (st []).dev.present HA = true ∧
      (st []).dev.hostFields HA 0x108 ≠ []) ∧
    (st []).dev.judgeWrite HA 0x108 0xFFFFFFFF 7 (registerRule HA 0x108 0xFFFFFFFF (st []).dev) = some 5 ∧
    (st []).dev.rd HA Reg.HDR.WRITE_REJECT = 0 ∧ (st [fld HA Reg.HDR.WRITE_REJECT 1]).dev.rd HA Reg.HDR.WRITE_REJECT ≠ 0 ∧
    (st []).dev.judgeWrite MC 0x144 1 15 {} = none ∧ (st []).dev.judgeWrite MC 0x144 1 15 { mode := true } = some 4 ∧
    (st []).dev.judgeWrite MC 0x144 1 15 { mode := true, range := true } = some 3 ∧
    (st []).dev.judgeWrite MC 0x144 1 15 { busy := true } = some 6 := by decide +kernel

theorem test_met_UnmappedWritesAreCounted : (st []).runs ∧ (st []).dev.present (unitOfBar0 0x01000000) = false ∧
    bar2Mapped 0x100000 = false ∧ (0x0FFC % 4 = 0 ∧ ownRow (typeOf 0x6300) 0x0FFC = false ∧ (st [.variant { sectMask := 7 }]).dev.present 0x6300 = false) ∧
    latchRead HA 0x100 = none ∧ isUnit 0x6300 = true := by decide +kernel

theorem test_met_HeaderWrites :
    ((st []).runs ∧ (st []).dev.present TM = true ∧ (st [.variant { sectMask := 7 }]).dev.present 0x6300 = false ∧ 0x80000001 < 2 ^ 32 ∧ 15 < 16) ∧
    ((8 : Nat).testBit 3 = true ∧ (0x80000001 : Nat).testBit 31 = true ∧ (0x80000001 : Nat).testBit 0 = true) ∧
    (7 ≠ 15 ∧ ¬((7 : Nat).testBit 3 = true ∧ (0x80000001 : Nat).testBit 31 = true) ∧ (2 : Nat).testBit 31 = false ∧ (2 : Nat).testBit 0 = false) ∧
    ((0x108 % 4 = 0 ∧ ownRow (typeOf HA) 0x108 = false) ∧ (st []).dev.hostFields HA 0x108 ≠ [] ∧
      (st []).dev.judgeWrite HA 0x108 5 15 (registerRule HA 0x108 5 (st []).dev) = none ∧ (st []).dev.hostFields HA 0xFF8 = []) ∧
    ((dev []).rd TM Reg.HDR.PEND = 0 ∧ (dev []).rd TM Reg.HDR.PEND_HI = 0 ∧ (dev [fld TM Reg.HDR.PEND_HI 1]).rd TM Reg.HDR.PEND_HI ≠ 0) := by
  decide +kernel

theorem test_met_GraceAndFaultPin :
    ((st [tim (.grace TM) 7]).runs ∧ (st [tim (.grace TM) 7]).dev.deadline (.grace TM) = some 7) ∧
    ((st [tim .faultPhase 7]).runs ∧ (st [tim .faultPhase 7]).dev.deadline .faultPhase = some 7) ∧ 14 ≠ 15 := by decide +kernel

/-- The root is locked. -/
def locked : List Upd := [fld CK Reg.CK.ROOT_LOCK 1]

theorem test_met_RootFailsAndRelocks :
    ((st []).runs ∧ (st []).dev.rd CK Reg.CK.ROOT_LOCK = 0 ∧ (st []).dev.base.rootFailed = false ∧
      refClass 120420 ≠ 0 ∧ refClass 250680 ≠ 0 ∧ refClass 120419 = 0) ∧
    ((st locked).runs ∧ (st locked).dev.rd CK Reg.CK.ROOT_LOCK = 1 ∧ (st locked).dev.rd CK Reg.CK.ROOT_LOCK ≠ 0 ∧ (true = true ∨ rootTrips 0 = true)) ∧
    ((st [.base { rootFailed := true }]).runs ∧ (st [.base { rootFailed := true }]).dev.base.rootFailed = true) := by
  refine ⟨by decide +kernel, ⟨by decide +kernel, by decide +kernel, by decide +kernel, Or.inl rfl⟩, by decide +kernel⟩

theorem test_met_ClocksAreMonitored :
    (7 < 8 ∧ (801 ≤ 800 + 1 ∧ 800 ≤ 801 + 1) ∧ ¬(802 ≤ 800 + 1 ∧ 800 ≤ 802 + 1)) ∧
    (st locked).runs ∧ (st locked).dev.rd CK Reg.CK.ROOT_LOCK = 1 ∧ (st []).dev.rd CK Reg.CK.ROOT_LOCK = 0 ∧ (st []).dev.base.bad < 2 ^ 8 := by
  decide +kernel

/-- SYSREF_PERIOD is 100 and alignment is armed, with an edge seen at 50. -/
def armed : List Upd := [fld TB Reg.TB.SYSREF_PERIOD 100, fld TB Reg.TB.ALIGN_ARMED 1, .advance 150,
  .base { counting := true, prevEdge := some 50, relockAlign := true }, inMode .banked]

theorem test_met_AlignmentIsArmedAndStamped :
    ((dev armed).rd TB Reg.TB.SYSREF_PERIOD = 100 ∧ (dev armed).dt = 150 ∧ (dev armed).rd TB Reg.TB.ALIGN_ARMED ≠ 0 ∧
      (dev armed).base.prevEdge = some (150 - 100) ∧ 100 ≤ 150 ∧ 150 + alignJump 150 100 ≤ dtMax) ∧
    (dev []).rd TB Reg.TB.ALIGN_ARMED = 0 ∧ (∀ p, (dev (armed ++ [.base {}])).base.prevEdge = some p → p + 100 ≠ 150) ∧
    (st locked).runs ∧ (st locked).dev.rd CK Reg.CK.ROOT_LOCK = 1 ∧ (st []).dev.rd CK Reg.CK.ROOT_LOCK = 0 ∧
    ((st []).dev.mode ≠ .banked ∧ (st []).dev.mode ≠ .service) ∧
    ((st [inMode .service]).dev.mode = .service ∧ (st [inMode .service]).dev.rd TB Reg.TB.ALIGN_ARMED = 0) ∧
    ((st armed).dev.mode = .banked ∧ (st armed).dev.rd TB Reg.TB.ALIGN_ARMED ≠ 0 ∧ (st armed).dev.base.relockAlign = true) ∧
    ((st [inMode .banked, fld TB Reg.TB.ALIGN_ARMED 1]).dev.rd TB Reg.TB.ALIGN_ARMED ≠ 0 ∧
      (st [inMode .banked, fld TB Reg.TB.ALIGN_ARMED 1]).dev.base.relockAlign = false) := by
  refine ⟨by decide +kernel, by decide +kernel, ?_, by decide +kernel⟩
  intro p h
  rw [show (dev (armed ++ [.base {}])).base.prevEdge = none by decide +kernel] at h
  cases h

theorem test_met_SyncRequests :
    ((cst [inMode .banked] 0x0B).runs ∧ ((cst [inMode .banked] 0x0B).dev.passed 5 0x0B) = some (passed 0x0B) ∧
      (cst [inMode .banked] 0x0B).dev.modeIn [.survey, .carry, .backoff] = false ∧
      (cst [inMode .banked] 0x0B).dev.rd TB Reg.TB.ALIGNED = 0 ∧
      (cst [inMode .banked, fld TB Reg.TB.ALIGNED 1] 0x0B).dev.rd TB Reg.TB.ALIGNED ≠ 0) ∧
    ((st [.base { syncWait := [(5, 64, 200)] }]).dev.base.syncWait.find? fun w => w.1 == 5) = some (5, 64, 200) ∧
    ((st (inMode .banked :: locked)).dev.rd CK Reg.CK.ROOT_LOCK = 1 ∧
      (st (inMode .banked :: locked)).dev.modeIn [.kindling, .banked, .ember, .service] = true) ∧
    (st (inMode .carry :: locked)).dev.modeIn [.survey, .carry, .backoff] = true ∧
    (cst [inMode .carry] 0x0B).dev.modeIn [.survey, .carry, .backoff] = true ∧ isUnitOf 0x03 32 0x300 = true ∧
    (dev [.base { lastSync := some 7 }]).base.lastSync = some 7 ∧
    (st [tim (.settle 0x300) 9]).dev.deadline (.settle 0x300) = some 9 := by decide +kernel

/-- Queue pair 15 is enabled, with rings of 4 and 2 entries and one entry to fetch; DMA runs. -/
def ringed : List Upd := [fld HP Reg.HP.Q_ENABLE 1 15, .queue 15 { sqSize := 4, cqSize := 2, sqTail := 1 },
  fld HP Reg.HP.LINK_UP 1, fld HP Reg.HP.BME 1]

theorem test_met_DoorbellsAndQueuePairs :
    ((st ringed).runs ∧ (st ringed).dev.queueOn 15 = true) ∧
    (3 % 2048 < ((st ringed).dev.queueAt 15).sqSize ∧ ((st ringed).dev.queueAt 15).sqSize ≤ 4 % 2048) ∧
    (1 % 2048 < ((st ringed).dev.queueAt 15).cqSize ∧ ((st ringed).dev.queueAt 15).cqSize ≤ 2 % 2048) ∧
    (st []).dev.queueOn 15 = false ∧ 15 < 16 ∧ (st []).dev.rd HP Reg.HP.Q_ENABLE 15 = 0 ∧
    (st ringed).dev.rd HP Reg.HP.Q_ENABLE 15 ≠ 0 := by decide +kernel

/-- A completed command of queue pair 15. -/
def doneCmd : Cmd := { passed 0x0B with q := 15, state := .done stSuccess 0 0 }

theorem test_met_CommandsAreFetchedAndCompleted :
    ((st ringed).runs ∧ (st ringed).dev.nextQueue = some 15 ∧ (st ringed).dev.dmaUp = true ∧ (entry 0x0B).length = 64) ∧
    (st ringed).dev.fetchCheck (entry 0x0B) = none ∧
    (st ringed).dev.fetchCheck (entry 0xFF) = some (stBadOpcode, 0) ∧
    (st ringed).dev.fetchCheck (entry 0x0B [1]) = some (stBadField, 24) ∧
    (st (ringed ++ [.cmds [doneCmd]])).dev.fetchCheck (entry 0x0B) = some (stTagConflict, 0) ∧
    ((st (ringed ++ [.cmds [doneCmd]])).dev.nextDone = some doneCmd ∧ (st (ringed ++ [.cmds [doneCmd]])).dev.dmaUp = true) ∧
    (st []).dev.nextQueue = none ∧ (st []).dev.dmaUp = false ∧ (st []).dev.nextDone = none := by decide +kernel

theorem test_met_MessagesAndDmaFailures :
    (st [tim (.coalesce 15) 7]).runs ∧ (st [tim (.coalesce 15) 7]).dev.deadline (.coalesce 15) = some 7 ∧ 7 < 8 ∧
    (st []).dev.rd HP Reg.HP.DMA_ERR = 0 ∧ (st [fld HP Reg.HP.DMA_ERR 1]).dev.rd HP Reg.HP.DMA_ERR ≠ 0 := by decide +kernel

theorem test_met_LinkAndFunctionReset :
    ((st ringed).runs ∧ 1 < 2 ∧ (st ringed).dev.rd HP Reg.HP.LINK_UP = 1) ∧
    ((st []).dev.variant.bondS = false ∧ (st [.variant { bondS := true }]).dev.variant.bondS = true) ∧
    ((st []).dev.linkTrains 16 16 0 = false ∧ (st [.variant { bondS := true }]).dev.linkTrains 64 16 0 = false) ∧ 15 < 16 ∧ 63 < 64 := by
  decide +kernel

/-- A SET-WALLCLOCK that waits for dt 200. -/
def waitingWall : WallPending := { tag := 5, wall := { sec := 9 }, tEff := 200 }

theorem test_met_WallClockIsSet :
    ((cst [] 0x0C).runs ∧ (cst [] 0x0C).dev.passed 5 0x0C = some (passed 0x0C) ∧ (cst [] 0x0C).dev.base.pendingWall = []) ∧
    ((cst [.base { counting := true, pendingWall := [waitingWall] }] 0x0C).dev.passed 5 0x0C = some (passed 0x0C) ∧
      (cst [.base { counting := true, pendingWall := [waitingWall] }] 0x0C).dev.base.pendingWall = waitingWall :: [] ∧
      (cst [.base { counting := true, pendingWall := [waitingWall] }] 0x0C).dev.base.counting = true) := by decide +kernel

/-- The link is up with 64 lanes at 16 GT/s, and cell 0 of section 0 is configured. -/
def tapping : List Upd := [fld HP Reg.HP.LINK_UP 1, fld HP Reg.HP.BME 1, fld HP Reg.HP.WIDTH 64, fld HP Reg.HP.SPEED 16,
  fld 0x300 Reg.BC.ENABLE 1]

/-- TAP-OPEN of tap 63 from that cell. -/
def openPar : List Byte := leBytes 2 0x300 ++ leBytes 1 63

theorem test_met_TapsAndTheirSegments :
    ((cst tapping 0x11 openPar 65536).runs ∧ (cst tapping 0x11 openPar 65536).dev.passed 5 0x11 = some (passed 0x11 openPar 65536) ∧
      (passed 0x11 openPar 65536).par 26 1 = 63 ∧ (passed 0x11 openPar 65536).par 24 2 = 0x300) ∧
    ((cst tapping 0x11 openPar 65536).dev.tapOpen 63 = false ∧ (cst tapping 0x11 openPar 65536).dev.sourceOk 0x300 = true ∧
      ((dev tapping).openTaps.map (dev tapping).tapRate).foldl (· + ·) 0 + (dev tapping).rateOf 0x300 0 ≤ (dev tapping).tapLimit) ∧
    ¬((dev (tapping.drop 1)).openTaps.map (dev (tapping.drop 1)).tapRate).foldl (· + ·) 0 + (dev (tapping.drop 1)).rateOf 0x300 0
      ≤ (dev (tapping.drop 1)).tapLimit ∧
    (dev []).sourceOk 0x300 = false ∧ (dev [fld HP Reg.HP.TAP_STATE 1 63]).tapOpen 63 = true ∧
    (cst [] 0x12 [63]).dev.passed 5 0x12 = some (passed 0x12 [63]) ∧ 63 < 64 := by decide +kernel

/-- Tap 63 is open on that cell, with one whole block of samples; its ring holds `n` bytes. -/
def blockHeard (n : Nat) : List Upd := tapping ++ [fld HP Reg.HP.TAP_STATE 1 63, fld HP Reg.HP.TAP_SOURCE 0x300 63,
  fld HP Reg.HP.TAP_RING_BYTES n 63,
  .plane { taps := [(63, { xs := List.replicate 255 {} ++ [{ first := true }] })] }]

theorem test_met_TapSegments :
    ((dev (blockHeard 65536)).tapOpen 63 = true ∧ (dev (blockHeard 65536)).dmaUp = true ∧
      ((dev (blockHeard 65536)).nextSegment 63).isSome = true ∧
      (dev (blockHeard 65536)).rd HP Reg.HP.TAP_STATE 63 ≠ 2) ∧
    ((0 + 2 ^ 32 - 0) % 2 ^ 32 + (64 + segSamples 0x300 * 4) ≤ 64 + 1024 ∧ ¬((0 + 2 ^ 32 - 0) % 2 ^ 32 + (64 + segSamples 0x300 * 4) ≤ 64 + 1023)) ∧
    (dev [fld HP Reg.HP.TAP_STATE 2 63]).tapOpen 63 = true ∧ (dev [fld HP Reg.HP.TAP_STATE 2 63]).rd HP Reg.HP.TAP_STATE 63 = 2 ∧
    (dev []).dmaUp = false ∧ (dev []).tapOpen 63 = false ∧ ((dev (blockHeard 65536 ++ [.plane {}])).nextSegment 63) = none := by decide +kernel
/-! #### The Woodshed and the Event Recorder -/

/-- The medium can be read and written, with the root locked. -/
def mediumUp : List Upd := [fld CK Reg.CK.ROOT_LOCK 1, fld WS Reg.WS.MEDIUM_STATE 1, fld WS Reg.WS.READY 1, inMode .banked]

/-- Two usable devices, on channels 0 and 1, that hold nothing. -/
def found : List FoundDevice := [0, 1].map fun c =>
  { ch := c, cs := 0, mhz := 200, addr4 := true, density := 2 ^ 30, inPlace := true, confirmed := true, frames := [], defects := [] }

theorem test_met_DiscoveryAndReads :
    ((st locked).runs ∧ (st locked).dev.rd CK Reg.CK.ROOT_LOCK ≠ 0 ∧ (st locked).dev.rd WS Reg.WS.MEDIUM_STATE = 0 ∧
      (st locked).dev.med.rebuilding = false) ∧
    4 ≤ classify (dev locked).cy.devId ((dev locked).reachable []) ∧
    classify (dev locked).cy.devId ((dev locked).reachable found) = 2 ∧
    (dev [.med { rebuilding := true }]).med.rebuilding = true ∧ (dev []).rd CK Reg.CK.ROOT_LOCK = 0 ∧
    ((st mediumUp).runs ∧ (st mediumUp).dev.mediaUp = true ∧ (st mediumUp).dev.med.holder 7 = none ∧ (dev []).mediaUp = false) ∧
    ((st (mediumUp ++ [.med { zones := [(9, { state := 1, lzone := 7 })] }])).dev.med.holder 7 = some 9 ∧
      (st (mediumUp ++ [.med { zones := [(9, { state := 1, lzone := 7 })] }])).dev.mediaUp = true ∧
      ((st (mediumUp ++ [.med { zones := [(9, { state := 1, lzone := 7 })] }])).dev.med.zone 9).state = 1 ∧
      ¬(((st mediumUp).dev.med.zone 9).state = 1 ∨ ((st mediumUp).dev.med.zone 9).state = 5)) ∧ 4194304 / 2 ^ 20 = 4 := by decide +kernel

-- R379: two labelled devices of one set, of this device, make a known medium
theorem test_met_known_medium (x y : FoundDevice) (l : Label) (hx : x.ch = 0) (hy : y.ch = 1) (h : x.label = some l) (h' : y.label = some l) :
    classify l.devId [x, y] = 1 := by
  simp [classify, h, h', hx, hy, List.eraseDups_cons]

-- R382: one wrong symbol is corrected; thirteen in one codeword are not
theorem test_met_page_read_corrects : readSyms [(0, 1)] = some 1 := by decide +kernel
theorem test_met_page_read_loses : readSyms ((List.range 13).map fun i => (3492 - 4 * i, 1)) = none := by decide +kernel

/-- A medium of one device, with 256 open zones, and zone 300 in use and closed. -/
def fullOpen : Medium := {
  devices := [⟨0, 0, 1⟩]
  zones := (List.range 256).map (fun z => (z, { isOpen := true, lastWrite := 1 })) ++ [(300, { state := 1, lzone := 7 })] }

/-- One device; zone 9 waits for a levelling move, zone 10 for a retirement; there are free zones, or none. -/
def moving (cap : Nat) : List Upd := mediumUp ++ [.med {
  devices := [⟨0, 0, 1⟩], cap := cap, due := [(9, 0), (10, 1)], zones := [(9, { state := 1, lzone := 7 }), (10, { state := 1, lzone := 8 })] }]

theorem test_met_PagesMoveAndAreWritten :
    ((dev (moving 900)).mediaUp = true ∧ ((dev (moving 900)).med.holder 7).isSome = true ∧ (dev (moving 900)).med.holder 6 = none ∧
      (dev (moving 900)).med.takes 11 = true ∧ (dev (moving 900)).med.due.any (·.1 == 11) = false ∧ (dev (moving 900)).med.openZones < 256 ∧
      ((dev (moving 900)).med.zone 11).isOpen = false ∧ (dev (moving 900)).med.due.any (·.1 == 9) = true) ∧
    ((7, 0) ∈ (dev (mediumUp ++ [.med { fullOpen with refresh := [(7, 0)] }])).med.refresh ∧
      (dev (mediumUp ++ [.med fullOpen])).mediaUp = true ∧ (dev (mediumUp ++ [.med fullOpen])).med.holder 7 = some 300 ∧
      ((dev (mediumUp ++ [.med fullOpen])).med.zone 300).isOpen = false ∧ 256 ≤ (dev (mediumUp ++ [.med fullOpen])).med.openZones ∧
      ((dev (mediumUp ++ [.med fullOpen])).med.zone 0).isOpen = true ∧ (dev (mediumUp ++ [.med fullOpen])).med.due.any (·.1 == 300) = false) ∧
    ((dev (moving 900)).med.due.find? (fun x => x.1 == 9) = some (9, 0) ∧ zoneCh 11 = zoneCh 9 ∧
      (dev (moving 900)).med.due.find? (fun x => x.1 == 10) = some (10, 1) ∧ 1 ≠ 0 ∧ (dev (moving 900)).source 10 11 ≠ none ∧
      (dev (moving 0)).source 10 11 = none ∧ ((dev (moving 0)).med.chan (zoneCh 10)).spares = 0 ∧ (dev mediumUp).med.due.find? (fun x => x.1 == 10) = none) ∧
    9 ≠ 11 ∧ (true || false) = true ∧ (false || false) = false := by decide +kernel

/-- A MEDIA-READ or MEDIA-WRITE of page 0. -/
def pagePar : List Byte := leBytes 8 0

/-- P4 has one zone, whose first page holds `bs`. -/
def user (bs : List Byte) : List Upd := mediumUp ++ [.med { p4 := 1, user := [(0, bs)], devices := [⟨0, 0, 1⟩] }]

theorem test_met_MediaTransfersAndTimeouts :
    ((st (user [])).runs ∧ (st (user [])).dev.med.devices.find? (fun x =>
        x.ch == 0 && x.cs == 0 && !(st (user [])).dev.med.failed.contains (0 * 2 + 0)) = some ⟨0, 0, 1⟩ ∧
      (st (user [])).dev.med.devices.any (·.ch == 0) = true ∧ (st []).dev.med.devices.any (·.ch == 0) = false ∧
      (st []).dev.med.devices.find? (fun x => x.ch == 0 && x.cs == 0 && !(st []).dev.med.failed.contains (0 * 2 + 0)) = none) ∧
    (st mediumUp).dev.mediaUp = true ∧
    ((cst mediumUp 0x20 pagePar 4096).dev.passed 5 0x20 = some (passed 0x20 pagePar 4096) ∧
      (cst mediumUp 0x20 pagePar 4096).dev.inP4 (passed 0x20 pagePar 4096) = false) ∧
    ((cst (user [1]) 0x20 pagePar 4096).dev.passed 5 0x20 = some (passed 0x20 pagePar 4096) ∧
      (cst (user [1]) 0x20 pagePar 4096).dev.inP4 (passed 0x20 pagePar 4096) = true ∧
      (cst (user [1]) 0x20 pagePar 4096).dev.mediaUp = true ∧ (cst ((user [1]).drop 4) 0x20 pagePar 4096).dev.mediaUp = false ∧
      (cst ((user [1]).drop 4) 0x20 pagePar 4096).dev.inP4 (passed 0x20 pagePar 4096) = true ∧
      (∀ p ∈ (passed 0x20 pagePar 4096).pages, (cst (user [1]) 0x20 pagePar 4096).dev.med.userPage p [] ≠ none) ∧
      0 ∈ (passed 0x20 pagePar 4096).pages) ∧
    ((cst mediumUp 0x21 pagePar 4096).dev.passed 5 0x21 = some (passed 0x21 pagePar 4096) ∧
      (cst mediumUp 0x21 pagePar 4096).dev.inP4 (passed 0x21 pagePar 4096) = false ∧
      (cst (user []) 0x21 pagePar 4096).dev.inP4 (passed 0x21 pagePar 4096) = true ∧
      (cst (user []) 0x21 pagePar 4096).dev.mediaUp = true ∧ 0 < 4096 / 4096) := by decide +kernel

/-- An audit record and an operational one, with their SEQ. -/
def recOf (a : Bool) (n : Nat) (code : Nat := 0x44) : Rec := { audit := a, sev := 1, code := code, source := EV, seq := some n }

theorem test_met_RecordsCloseAndLossesFallDue :
    ((st [.ev { queue := [{ slot := 0, r := recOf true 9 }] }]).runs ∧
      (st [.ev { queue := [{ slot := 0, r := recOf true 9 }] }]).dev.base.counting = true ∧
      ((st [.ev { queue := [{ slot := 0, r := recOf true 9 }] }]).dev.ev.queue.find? fun x => x.isOpen && x.r.seq.isSome)
        = some { slot := 0, r := recOf true 9 } ∧ (st []).dev.ev.clear = none) ∧
    (0 < (dev [.ev { lostAud := 1, p1Left := 9 }]).ev.lostAud + (dev [.ev { lostAud := 1, p1Left := 9 }]).ev.lostOp ∧
      (dev [.ev { lostAud := 1, p1Left := 9 }]).ev.admits = true ∧ (dev [.ev { lostAud := 1, p1Left := 9 }]).rd EV Reg.EV.P1_DIVERT = 0 ∧
      (dev [.ev { lostAud := 1, p1Left := 9 }]).rd WS Reg.WS.AUDIT_STOPPED = 0 ∧ 9 ≤ (dev [.ev { lostAud := 1, p1Left := 9 }]).ev.p1Left ∧
      joinNewest (recOf true 0) 0 (dev [.ev { lostAud := 1, p1Left := 9 }]).ev.queue = none) ∧
    (0 < ((dev [.ev { aud := { closed := 1, lastRec := some (recOf true 9) } }]).ev.chain true).closed ∧
      ((dev [.ev { aud := { closed := 1, lastRec := some (recOf true 9) } }]).ev.chain true).lastRec = some (recOf true 9) ∧
      ((dev [.ev { aud := { closed := 1, lastRec := some (recOf true 9) } }]).ev.chain true).sealDue = false) ∧
    ((dev [.base {}]).base.counting = false ∧ (dev []).ev.lostAud + (dev []).ev.lostOp = 0 ∧ (dev [.ev { scanned := true, nextSeq := 40000 }]).ev.admits = false ∧
      ((dev []).ev.chain true).closed = 0) := by decide +kernel

/-- A placed record of slot `k`. -/
def placedSlot (a : Bool) (k : Nat) : QSlot := { slot := k, r := recOf a k, kind := .placed [1] }

/-- The partitions have room, and `n` placed records wait to be written. -/
def committing (a : Bool) (n : Nat) : List Upd := mediumUp ++ [.med { p1 := 2, p2 := 2 },
  .ev { scanned := true, queue := (List.range n).map (placedSlot a) }]

/-- P2 is full, with `p2` in it, and one record waits. -/
def overwriting (p2 : List Stored) : List Upd := mediumUp ++ [.med { p1 := 2, p2 := 0 }, .store { p2 := p2, p2Full := true },
  .ev { scanned := true, queue := [placedSlot false 0] }]

theorem test_met_CommitsReachTheLog :
    ((dev (committing true 1)).commits true = true ∧
      ((dev (committing true 1)).ev.ready true).take
        (min ((dev (committing true 1)).store.tailRoom true - 1) ((dev (committing true 1)).logRoom true)) = [placedSlot true 0] ∧
      (dev (committing true 1)).ev.tailAt1 ≤ (dev (committing true 1)).dt) ∧
    ((dev (committing false 64)).commits false = true ∧ (dev (committing false 64)).store.p2Full = false ∧
      (dev (committing false 64)).store.tailRoom false ≤ ((dev (committing false 64)).ev.ready false).length ∧
      (dev (committing false 64)).store.tailRoom false ≤ (dev (committing false 64)).logRoom false) ∧
    ((dev (overwriting [(placedSlot false 3).stored])).commits false = true ∧
      (dev (overwriting [(placedSlot false 3).stored])).store.p2Full = true ∧
      (dev (overwriting [(placedSlot false 3).stored])).ev.ready false = [placedSlot false 0] ∧
      (dev (overwriting [(placedSlot false 3).stored])).logRoom false = 0 ∧
      (dev (overwriting [(placedSlot false 3).stored])).store.victim 1 = some (placedSlot false 3).stored ∧
      (dev (overwriting [])).store.victim 1 = none ∧ (dev (overwriting [])).logRoom false = 0) ∧
    ((dev (mediumUp ++ [.ev { clear := some { tag := 5, mask := 1, p1Seq := some 0 }, queue := [placedSlot true 0] }])).ev.clearSeq true = some 0 ∧
      ((dev (mediumUp ++ [.ev { queue := [placedSlot true 0] }])).ev.queue.find? fun x =>
        x.isRec && !x.isOpen && x.r.audit == true && x.r.seq == some 0) = some (placedSlot true 0) ∧
      (dev mediumUp).writesUp = true ∧ (dev mediumUp).rd EV Reg.EV.FROZEN = 0) ∧
    (dev []).commits true = false ∧ (dev []).ev.clearSeq true = none := by decide +kernel

/-- A scan runs. -/
def scanning (scanned : Bool) : List Upd := mediumUp ++ [fld EV Reg.EV.SCANNING 1, .ev { scanned := scanned }]

theorem test_met_ScansAndClears :
    ((st (scanning true)).runs ∧ (dev (scanning true)).rd EV Reg.EV.SCANNING ≠ 0 ∧ (dev (scanning true)).rd WS Reg.WS.READY ≠ 0 ∧
      (dev (scanning true)).ev.scanned = true ∧ (dev (scanning false)).ev.scanned = false) ∧
    ((cst [.ev { scanned := true }] 0x18 [1] 64).dev.passed 5 0x18 = some (passed 0x18 [1] 64) ∧
      (cst [.ev { scanned := true }] 0x18 [1] 64).dev.ev.scanned = true ∧ (dev [.ev { scanned := true }]).rd EV Reg.EV.SCANNING = 0 ∧
      (cst [] 0x18 [1] 64).dev.passed 5 0x18 = some (passed 0x18 [1] 64) ∧ (cst [] 0x18 [1] 64).dev.ev.scanned = false) ∧
    ((cst [] 0x19 [1]).dev.passed 5 0x19 = some (passed 0x19 [1]) ∧ ((passed 0x19 [1]).par 24 1).testBit 0 = true ∧
      (cst [] 0x19).dev.passed 5 0x19 = some (passed 0x19) ∧ ((passed 0x19).par 24 1).testBit 0 = false ∧
      (cst [fld EV Reg.EV.FROZEN 1] 0x19).dev.rd EV Reg.EV.FROZEN ≠ 0 ∧ (cst [] 0x19).dev.rd EV Reg.EV.FROZEN = 0) ∧
    (st [tim .thaw 7]).dev.deadline .thaw = some 7 ∧
    ((cst [.ev { scanned := true }] 0x1A [] 2).dev.passed 5 0x1A = some (passed 0x1A [] 2) ∧
      ([0, 0] : List Byte).length = (passed 0x1A [] 2).len ∧ (cst [.ev { scanned := true }] 0x1A [] 2).dev.clearBusy [0, 0] = false ∧
      (cst [] 0x1A [] 2).dev.clearBusy [0, 0] = true) ∧
    (dev []).rd EV Reg.EV.SCANNING = 0 ∧ (dev [fld EV Reg.EV.SCANNING 1]).rd WS Reg.WS.READY = 0 := by decide +kernel

/-- CAPTURE of 16 samples of cell 0x300, triggered by a condition. -/
def capPar : List Byte := leBytes 4 0 ++ leBytes 4 16 ++ [1, 2, 0xFF, 0xFF, 0, 0, 1, 0]

/-- A capture of that cell, triggered or pending. -/
def capOf (t : Option Nat) (n : List Nat) : Capture :=
  { tag := 5, trig := 2, trigUnit := 0xFFFF, trigCode := 0, pre := 0, post := 16, sources := [(0x300, 0)], pages := 3, tTrig := t, done := n }

/-- The state that CAPTURE needs. -/
def capturing (cs : List Capture) : List Upd := [inMode .banked, fld 0x300 Reg.BC.ENABLE 1, .med { p3 := 1 }, .ev { captures := cs }]

theorem test_met_CapturesPendAndAreStored :
    ((cst (capturing []) 0x10 capPar 2).dev.passed 5 0x10 = some (passed 0x10 capPar 2) ∧ (leBytes 2 0x300).length = (passed 0x10 capPar 2).len ∧
      (passed 0x10 capPar 2).par 33 1 ≠ 0 ∧ sourceList (leBytes 2 0x300) = [0x300]) ∧
    ((dev [fld TM Reg.TM.LEVEL 1]).rd TM Reg.TM.LEVEL ≥ 1 ∧ (dev (capturing [])).rd TM Reg.TM.LEVEL = 0 ∧
      4 ≤ (dev (capturing (List.replicate 4 (capOf none [])))).ev.captures.length ∧ (dev (capturing [])).ev.captures.length < 4) ∧
    (256 * (dev []).med.p3 < ((dev []).ev.captures.map (·.pages)).sum + capturePages 1 (ceilDiv (0 + 16) 1024) ∧
      ((dev (capturing [])).ev.captures.map (·.pages)).sum + capturePages 1 (ceilDiv (0 + 16) 1024) ≤ 256 * (dev (capturing [])).med.p3) ∧
    ([0x300].all (dev []).sourceOk = false ∧ [0x300].all (dev (capturing [])).sourceOk = true) ∧
    (st [tim (.capWait 5) 7]).dev.deadline (.capWait 5) = some 7 ∧
    (((dev (capturing [capOf (some 0) [0]])).ev.captures.find? fun x => x.tag == 5 && x.tTrig.isSome) = some (capOf (some 0) [0]) ∧
      0 < (capOf (some 0) [0]).sources.length ∧ (capOf (some 0) [0]).done.getD 0 0 < (capOf (some 0) [0]).dpages) ∧
    (((dev (capturing [capOf (some 0) [1]])).ev.captures.find? fun x => x.tag == 5 && x.tTrig.isSome) = some (capOf (some 0) [1]) ∧
      (∀ n ∈ (capOf (some 0) [1]).done, n = (capOf (some 0) [1]).dpages) ∧ ¬∀ n ∈ (capOf (some 0) [0]).done, n = (capOf (some 0) [0]).dpages) := by decide +kernel

/-- The first chunk of a triggered capture has come, of which `n` samples are there. -/
def chunkCame (n : Nat) : Dev := (runPlane []).run (dev (capturing [capOf (some 0) [0]] ++ [.plane { upTo := 1, caps := [(80, { n := n })] }]))

theorem test_met_chunk_came (c : Capture) (h : (chunkCame 16).ev.captures.find? (fun x => x.tag == 5 && x.tTrig.isSome) = some c) :
    c = capOf (some 0) [0] ∧ 0 < ((chunkCame 16).plane.caps.get {} (16 * 5 + 0)).n ∧
      ((1024 * 0 : Nat) : Int) - (0 : Int) + (16 : Nat) ≤ (chunkCame 16).capFirst (capOf (some 0) [0]) 0 + (16 : Nat) ∧
      ¬0 < ((chunkCame 0).plane.caps.get {} (16 * 5 + 0)).n := by
  rw [show (chunkCame 16).ev.captures.find? (fun x => x.tag == 5 && x.tTrig.isSome) = some (capOf (some 0) [0]) by decide +kernel] at h
  cases h
  decide +kernel

/-- One stored capture of one page, which CAP_RD names; CAP_MIB is 1. -/
def reading (cs : List Capture) : List Upd := [.store { captures := [{ number := 5, pages := [[1]] }] }, fld EV Reg.EV.CAP_RD_NUM 5,
  fld EV Reg.EV.CAP_RD_LEN 1, fld WS Reg.WS.CAP_MIB 1, .ev { captures := cs, rdCopy := some { number := 5, page := 0, len := 1 } }]

theorem test_met_StoredCapturesAreRead :
    (((dev (reading [])).store.captures.find? fun c => c.number == (dev (reading [])).rd EV Reg.EV.CAP_RD_NUM &&
        decide ((dev (reading [])).rd EV Reg.EV.CAP_RD_PAGE + (dev (reading [])).rd EV Reg.EV.CAP_RD_LEN ≤ c.pages.length))
      = some { number := 5, pages := [[1]] } ∧
      (dev (reading [])).rd EV Reg.EV.CAP_RD_LEN ≤ 256 * (dev (reading [])).rd WS Reg.WS.CAP_MIB ∧
      (∀ x ∈ (dev (reading [capOf none []])).ev.captures, x.tTrig = none) ∧
      ∃ x ∈ (dev (reading [capOf (some 0) []])).ev.captures, x.tTrig ≠ none) ∧
    (dev (reading [])).ev.rdCopy = some { number := 5, page := 0, len := 1 } ∧
    ((dev (capturing [])).present (crU 0) = true ∧ (0 : Nat) < 4 ∧ 7 < 8 ∧
      (dev (capturing [])).judgeWrite (crU 0) (0x100 + 4 * 7) 0x80000300 15 {
        mode := (dev (capturing [])).modeIn [.cold, .kindling]
        range := (0x80000300 : Nat).testBit 31 && !(dev (capturing [])).ringUnit 0 (0x80000300 % 65536)
        busy := (dev (capturing [])).ringCopies 0 } = none) ∧
    ((dev []).store.captures.find? (fun c => c.number == 5) = none ∧ (dev []).ev.rdCopy = none ∧
      (dev [.variant { sectMask := 7 }]).present (crU 3) = false ∧
      (dev []).judgeWrite (crU 3) 0x11C 1 7 { mode := (dev []).modeIn [.cold, .kindling], range := false, busy := false } = some 5) := by
  decide +kernel

/-! #### The Caddy, modes and configuration slots -/

/-- Bytes of an OTP marker. -/
def marks : List Byte := [0x5A, 0xA5]

theorem test_met_NoncesAndBurns :
    ((st []).runs ∧ (st [.cy { queue := [.token 5 []] }]).dev.verifying = true ∧ (st []).dev.verifying = false ∧
      (st []).dev.rd CY Reg.CY.RNG_OK = 0 ∧ (st [fld CY Reg.CY.RNG_OK 1]).dev.rd CY Reg.CY.RNG_OK ≠ 0) ∧
    ((st [.cy { queue := [.seal true] }]).dev.cy.queue = .seal true :: [] ∧
      (st [.ev { aud := { sealDue := true } }]).dev.ev.chain true = { sealDue := true } ∧
      (st [.cy { queue := [.attest 5 [1], .token 6 []] }]).dev.cy.queue = .attest 5 [1] :: [.token 6 []] ∧
      (st [.cy { queue := [.token 5 []] }]).dev.cy.queue = .token 5 [] :: []) ∧
    ((st [.cy { burns := [.enrol 5 3 [7]] }]).dev.cy.burns = .enrol 5 3 [7] :: [] ∧ burnt [7] [] = [7] ∧
      burnt marks (([] : List Byte).drop [(7 : Byte)].length) = marks ∧ burnt [7] [3] ≠ [7]) ∧
    ((st [.cy { burns := [.revoke 5 3] }]).dev.cy.burns = .revoke 5 3 :: [] ∧ burnt marks [] = marks) ∧
    ((st [.cy { burns := [.profile none 7 [1] 2] }]).dev.cy.burns = .profile none 7 [1] 2 :: [] ∧
      burnt ([1] ++ leBytes 8 2) [] = [1] ++ leBytes 8 2 ∧ burnt marks (([] : List Byte).drop ([(1 : Byte)] ++ leBytes 8 2).length) = marks) ∧
    ((st [.cy { burns := [.floor none 64] }]).dev.cy.burns = .floor none 64 :: [] ∧ 64 ≤ 64) ∧
    ((st [.cy { queue := [.container] }]).dev.cy.queue = .container :: [] ∧ (st [.cy { queue := [.profile 5 [1]] }]).dev.cy.queue = .profile 5 [1] :: [] ∧
      (st []).dev.cy.queue = [] ∧ (st []).dev.cy.burns = []) := by decide +kernel

/-- Every owner slot but the last is enrolled. -/
def enrolled3 : List Upd := (List.range 3).flatMap fun i => [.burn (ownerAt i + 64) 0x5A, .burn (ownerAt i + 65) 0xA5]

theorem test_met_CaddyCommands :
    ((cst [inMode .carry] 0x29 [] 64).dev.passed 5 0x29 = some (passed 0x29 [] 64) ∧ (List.replicate 64 (0 : Byte)).length = (passed 0x29 [] 64).len ∧
      (cst [inMode .carry] 0x29 [] 64).dev.mode ≠ .cold ∧ (cst [inMode .carry] 0x29 [] 64).dev.mode ≠ .banked) ∧
    ((dev (enrolled3 ++ [.burn (ownerAt 3) 1])).mode = .cold ∧ (dev (enrolled3 ++ [.burn (ownerAt 3) 1])).emptyOwner = none) ∧
    ((dev []).emptyOwner = some 0 ∧ (dev []).virgin = true ∧ (dev enrolled3).emptyOwner = some 3 ∧ (dev enrolled3).virgin = false ∧
      (passed 0x29 [] 64).len = 64 ∧ (passed 0x29 [] 328).len ≠ 64) ∧
    ((cst [inMode .carry] 0x2A [3] 2).dev.passed 5 0x2A = some (passed 0x2A [3] 2) ∧ ([0, 0] : List Byte).length = (passed 0x2A [3] 2).len ∧
      (dev [inMode .carry]).mode ≠ .banked ∧ (dev [inMode .banked]).mode = .banked) ∧
    ((cst [inMode .banked] 0x28 [] 2).dev.passed 5 0x28 = some (passed 0x28 [] 2) ∧ ([0, 0] : List Byte).length = (passed 0x28 [] 2).len ∧
      (dev [inMode .carry]).mode ≠ .banked ∧ (dev [inMode .cold]).rd WS Reg.WS.READY = 0 ∧ (dev [fld WS Reg.WS.READY 1]).rd WS Reg.WS.READY ≠ 0 ∧
      profileFields ([0, 0].take 1280) = false) ∧
    ((dev []).passed 5 0x29 = none ∧ (dev []).passed 5 0x2A = none ∧ (dev []).passed 5 0x28 = none ∧ (dev []).passed 5 0x0D = none) ∧
    ((cst [] 0x0D).dev.passed 5 0x0D = some (passed 0x0D) ∧ (dev []).rd CY Reg.CY.ID_OK = 0 ∧ (dev [fld CY Reg.CY.ID_OK 1]).rd CY Reg.CY.ID_OK ≠ 0 ∧
      4 ≤ (((dev [.cy { queue := List.replicate 5 (.attest 6 []) }]).cy.queue.drop 1).filter SignReq.isAttest).length ∧
      (((dev [.cy { queue := List.replicate 4 (.attest 6 []) }]).cy.queue.drop 1).filter SignReq.isAttest).length < 4) := by decide +kernel

theorem test_met_TransitionsSetTheModeRegisters : 255 < 256 := by decide

/-- A MODE-REQUEST for a mode, and for a lockout clear. -/
def reqPar (m : Mode) (clear : Nat := 0) : List Byte := leBytes 1 m.enc ++ leBytes 1 clear

/-- Everything that a request for Survey asks for. -/
def surveyable : List Upd := [inMode .banked, fld TB Reg.TB.ALIGNED 1] ++ (List.range 4).map fun n => fld (peU n) Reg.PE.MODES_OK 0xFF

theorem test_met_ModeRequestsAreJudged :
    ((cst [inMode .banked] 0x08 (reqPar .cold)).dev.passed 5 0x08 = some (passed 0x08 (reqPar .cold)) ∧
      ([] : List Byte).length = (passed 0x08 (reqPar .cold)).len ∧
      (dev [inMode .banked]).reqFirst (passed 0x08 (reqPar .cold)).target (passed 0x08 (reqPar .cold)).clearFlag = some rqIllegal) ∧
    ((dev [inMode .banked]).reqFirst .carry false = none ∧ (dev [inMode .banked]).reqToken .carry false = none ∧
      (dev [inMode .banked]).reqLast .carry = some rqProfile ∧ (dev [inMode .carry]).reqFirst .banked false = none ∧
      (dev [inMode .carry]).reqToken .banked false = none ∧ (dev [inMode .carry]).reqLast .banked = none) ∧
    ((dev [inMode .banked]).reqFirst .service false = none ∧ (dev [inMode .banked]).reqToken .service false = some 1 ∧
      (dev [inMode .banked, fld MC Reg.MC.LOCKOUT 1]).reqFirst .banked true = none ∧
      (dev [inMode .banked, fld MC Reg.MC.LOCKOUT 1]).reqToken .banked true = some 3) ∧
    ((dev [fld MC Reg.MC.TRANSITION 1]).rd MC Reg.MC.TRANSITION ≠ 0 ∧ (dev [inMode .carry]).legal .service false = false ∧
      (dev [inMode .banked, fld MC Reg.MC.EMBER_CLOCK 1]).legal .carry false = true ∧ (dev [inMode .banked, fld MC Reg.MC.EMBER_CLOCK 1]).emberMask ≠ 0 ∧
      (dev [inMode .banked, fld MC Reg.MC.LOCKOUT 1]).emberMask = 0 ∧ (dev [inMode .banked, fld MC Reg.MC.LOCKOUT 1]).rd MC Reg.MC.LOCKOUT ≠ 0) ∧
    ((cst surveyable 0x09).dev.passed 5 0x09 = some (passed 0x09) ∧
      ((cst surveyable 0x09).dev.reqFirst .survey false).or ((cst surveyable 0x09).dev.reqLast .survey) = none ∧
      ((dev []).reqFirst .survey false).or ((dev []).reqLast .survey) = some rqIllegal) ∧
    ((dev (mediumUp ++ [inMode .cold, .mc { autoboot := true }])).mode = .cold ∧
      (dev (mediumUp ++ [inMode .cold, .mc { autoboot := true }])).mc.autoboot = true ∧
      (dev (mediumUp ++ [inMode .cold, .mc { autoboot := true }])).rd MC Reg.MC.TRANS_CNT = 0 ∧
      (dev (mediumUp ++ [inMode .cold, .mc { autoboot := true }])).variant.consistent = true ∧
      (dev (mediumUp ++ [inMode .cold, .mc { autoboot := true }])).kindleWaits = false ∧ (dev []).mc.autoboot = false) ∧
    ((dev []).passed 5 0x08 = none ∧ (dev []).passed 5 0x09 = none ∧ ([1] : List Byte) ≠ []) := by decide +kernel

/-- Kindling in a phase. -/
def kindling (p : KindlePhase) : List Upd := mediumUp ++ [inMode .kindling, .cc { phase := p }, fld TB Reg.TB.ALIGNED 1, tim .kindle 7]

theorem test_met_KindlingSteps :
    ((st (kindling .entry)).runs ∧ (st (kindling .entry)).dev.mode = .kindling ∧ (st (kindling .entry)).dev.cc.phase = .entry ∧
      (st (kindling .entry)).dev.mediaUp = true) ∧
    ((st (kindling .loading)).dev.cc.phase = .loading ∧ (st (kindling .loading)).dev.mediaUp = true ∧ (st (kindling .loading)).dev.checking = false ∧
      (dev [.cy { queue := [.container] }]).checking = true ∧ (dev []).mode ≠ .kindling ∧ (dev []).mediaUp = false) ∧
    ((st (kindling .selftest)).dev.cc.phase = .selftest ∧ (st (kindling .selftest)).dev.ce.committing = none ∧
      (∃ n ∈ (st (kindling .selftest)).dev.sections, n ∈ [3]) ∧ ∀ n ∈ (st (kindling .selftest)).dev.sections, n ∉ ([] : List Nat)) ∧
    ((st (kindling .links)).dev.kindled = true ∧ (dev []).kindled = false ∧ (dev []).deadline .kindle = none ∧
      (dev [.ce { committing := some {} }]).ce.committing.isSome = true) ∧
    ((st (kindling .entry)).dev.deadline .kindle = some 7 ∧ (st (kindling .entry)).dev.reverting = false) ∧ 255 < 256 := by decide +kernel

theorem test_met_ModesEndByThemselves :
    ((st [tim .holdoff 7]).dev.deadline .holdoff = some 7) ∧
    ((st [tim .backoffDwell 7, inMode .backoff]).dev.deadline .backoffDwell = some 7 ∧ (st [tim .backoffDwell 7, inMode .backoff]).dev.mode = .backoff ∧
      (st [tim .backoffDwell 7, inMode .backoff]).dev.backoffAmounts = []) ∧
    ((st [tim .survey 7, inMode .survey]).dev.deadline .survey = some 7 ∧ (st [tim .survey 7, inMode .survey]).dev.mode = .survey) ∧
    ((st [tim .serviceToken 7, inMode .service]).dev.deadline .serviceToken = some 7 ∧ (st [tim .serviceToken 7, inMode .service]).dev.mode = .service) ∧
    ((st [inMode .ember, .mc { holdoffDone := true }, fld MC Reg.MC.RETURN_MODE 2]).dev.mode = .ember ∧
      (st [inMode .ember, .mc { holdoffDone := true }, fld MC Reg.MC.RETURN_MODE 2]).dev.mc.holdoffDone = true ∧
      (st [inMode .ember, .mc { holdoffDone := true }, fld MC Reg.MC.RETURN_MODE 2]).dev.emberClear = true ∧
      (st [inMode .ember, .mc { holdoffDone := true }, fld MC Reg.MC.RETURN_MODE 2]).dev.rd MC Reg.MC.RETURN_MODE ≠ Mode.kindling.enc ∧
      (st [fld MC Reg.MC.RETURN_MODE 1]).dev.rd MC Reg.MC.RETURN_MODE = Mode.kindling.enc) ∧
    ((st [tim .backoffDwell 7]).dev.mode ≠ .backoff ∧ (st []).dev.deadline .holdoff = none ∧ (st []).dev.mc.holdoffDone = false) := by decide +kernel

/-- STAGE of two bytes at an offset. -/
def stagePar (off : Nat) : List Byte := leBytes 4 off ++ [1]

/-- A directory with slot 0 current, slot 1 previous and slot 2 staged, its slots in the states given. -/
def dirWith (p : Bool) (sv prev stg : Nat) : Upd :=
  .p0 { dirA := some { cur := some 0, prev := some 1, stg := 2, probation := p,
                       slots := [{ state := 3 }, { state := prev, secVer := sv }, { state := stg }] } }

theorem test_met_StagingAndSlotCommands :
    ((cst mediumUp 0x01 (stagePar 0) 2).dev.passed 5 0x01 = some (passed 0x01 (stagePar 0) 2) ∧
      ([0, 0] : List Byte).length = (passed 0x01 (stagePar 0) 2).len ∧ (dev mediumUp).cc.ops = [] ∧ (dev mediumUp).writesUp = true ∧
      (passed 0x01 (stagePar 0) 2).par 24 4 = 0) ∧
    ((dev (mediumUp ++ [inMode .survey])).modeIn [.banked, .carry, .backoff, .ember, .service] = false ∧
      (dev (mediumUp ++ [inMode .survey])).mode ≠ .cold ∧ (dev mediumUp).modeIn [.banked, .carry, .backoff, .ember, .service] = true ∧
      (dev (mediumUp ++ [inMode .cold])).mode = .cold ∧ (dev (mediumUp ++ [inMode .cold])).rd WS Reg.WS.READY ≠ 0) ∧
    ((dev []).writesUp = false ∧ (dev []).passed 5 0x01 = none ∧ (dev [.cc { ops := [.bootTry] }]).cc.ops ≠ [] ∧ (dev mediumUp).checking = false ∧
      (dev [.cc { ops := [.bootTry] }]).autoReverting = false) ∧
    (¬((4194304 = 0 ∨ 4194304 = (dev mediumUp).rd CC Reg.CC.STAGE_BYTES) ∧ 4194304 + 2 ≤ 4194304) ∧
      ((2 = 0 ∨ 2 = (dev (mediumUp ++ [fld CC Reg.CC.STAGE_BYTES 2])).rd CC Reg.CC.STAGE_BYTES) ∧ 2 + 2 ≤ 4194304) ∧ (2 : Nat) ≠ 0 ∧
      (dev mediumUp).dirNow.stg < 3) ∧
    ((dev (mediumUp ++ [.cc { validating := some 5 }])).cc.validating ≠ none ∧ (dev mediumUp).cc.validating = none ∧
      (dev (mediumUp ++ [.cc { validating := some 5 }])).cc.validating = some 5 ∧ (dev (mediumUp ++ [.cc { validating := some 5 }])).stageEnding = false) ∧
    ((cst [inMode .banked] 0x02).dev.passed 5 0x02 = some (passed 0x02) ∧ (dev [inMode .carry]).mode ≠ .banked ∧ (dev [inMode .banked]).mode = .banked ∧
      (dev [dirWith true 0 3 2]).dirNow.probation = true ∧ (dev [dirWith false 0 3 0]).dirNow.probation = false ∧
      (dev [dirWith false 0 3 0]).dirNow.stateOf (some (dev [dirWith false 0 3 0]).dirNow.stg) ≠ 2 ∧
      (dev [dirWith false 0 3 2]).dirNow.stateOf (some (dev [dirWith false 0 3 2]).dirNow.stg) = 2) ∧
    ((cst [inMode .banked] 0x03).dev.passed 5 0x03 = some (passed 0x03) ∧ (dev []).modeIn [.banked, .survey, .carry, .backoff, .ember, .service] = false ∧
      (dev [inMode .banked]).modeIn [.banked, .survey, .carry, .backoff, .ember, .service] = true ∧
      (dev [dirWith true 0 3 2, .cc { ops := [.autoRevert] }]).autoReverting = true ∧ (dev [dirWith true 0 3 2]).autoReverting = false ∧
      (dev [dirWith true 0 3 2, .cc { ops := [.autoRevert] }]).dirNow.probation = true) ∧
    ((cst [inMode .banked] 0x04).dev.passed 5 0x04 = some (passed 0x04) ∧
      (dev [dirWith false 0 1 0]).dirNow.stateOf (dev [dirWith false 0 1 0]).dirNow.prev ≠ 3 ∧
      (dev [dirWith false 0 3 0]).dirNow.stateOf (dev [dirWith false 0 3 0]).dirNow.prev = 3 ∧
      ((dev [dirWith false 0 3 0]).dirNow.prev.any fun i => decide (((dev [dirWith false 0 3 0]).dirNow.slot i).secVer < (dev []).floor)) = false ∧
      ((dev [dirWith false 0 3 0]).dirNow.prev.any fun i =>
        decide (((dev [dirWith false 0 3 0]).dirNow.slot i).secVer < (dev [.burn 0x0E80 1]).floor)) = true) := by decide +kernel

theorem test_met_DirectoryWritesEnd :
    ((st (mediumUp ++ [.cc { ops := [.promote, .bootTry] }])).dev.cc.ops = .promote :: [.bootTry] ∧
      (st (mediumUp ++ [.cc { ops := [.promote, .bootTry] }])).dev.writesUp = true) ∧
    (st [tim .probation 7]).dev.deadline .probation = some 7 ∧ (st [tim .revertRetry 7]).dev.deadline .revertRetry = some 7 ∧
    ((dev [dirWith true 0 3 2]).dirNow.prev = some 1) ∧
    ((dev []).cc.ops = [] ∧ (dev []).deadline .probation = none ∧ (dev []).deadline .revertRetry = none) := by decide +kernel

/-! #### Faults of the die and calibration -/

/-- The scrubber runs, in Banked. -/
def scrubbing : List Upd := [inMode .banked, .cc { shadow := [1] }]

/-- A container of one word: 7 at offset 0x120 of Radio Control 0. -/
def oneWord : List Byte := List.replicate 24 0 ++ leBytes 2 1 ++ List.replicate 102 0 ++ leBytes 4 1 ++ leBytes 4 144 ++ leBytes 4 20 ++
  leBytes 4 1 ++ leBytes 2 3 ++ leBytes 2 0x600 ++ leBytes 4 12 ++ leBytes 2 0x120 ++ leBytes 2 6 ++ leBytes 2 1 ++ leBytes 2 0 ++ leBytes 4 7

theorem test_met_ScrubAndSramErrors :
    ((st scrubbing).runs ∧ (st scrubbing).dev.scrubs = true ∧ (st []).runs ∧ (st []).dev.scrubs = false) ∧
    ((dev []).present (bcU 3 31) = true ∧ bcU 3 31 < 65536 ∧ 0xFFF < 0x1000) ∧
    (((dev [.cc { shadow := oneWord }]).shadowWord (rcU 0) 0x120 0).map (·.value) = some 7 ∧ typeOf (rcU 0) ≠ 8 ∧
      (wordFields (typeOf (rcU 0)) (pathOffset (typeOf (rcU 0)) 0x120 0)).any (fun f => f.1.acc == .lk) = true) ∧
    (dev []).cc.reloading = false ∧ (st [.variant { sectMask := 7 }]).dev.present (sramOwner (.cell 0x6300)) = false ∧
    ((dev [.cc { reloading := true }]).cc.reloading = true ∧
      cDigest (dev [.cc { reloading := true }]).currentBytes = cDigest (dev [.cc { reloading := true }]).cc.shadow ∧
      cDigest (dev []).currentBytes ≠ cDigest (List.replicate 184 1)) ∧
    ((st []).dev.present (sramOwner (.link 0x100)) = true ∧ typeOf (sramOwner (.link 0x100)) ≠ 3 ∧ typeOf (sramOwner (.cell 0x300)) = 3 ∧
      ((dev []).dt :: ((dev []).cellAt 0x300).eccAt.filter fun t => decide ((dev []).dt < t + 491520000)).length < 16 ∧
      16 ≤ ((dev [.cell 0x300 { eccAt := List.replicate 15 0 }]).dt ::
        ((dev [.cell 0x300 { eccAt := List.replicate 15 0 }]).cellAt 0x300).eccAt.filter fun t => decide ((dev []).dt < t + 491520000)).length) ∧
    ((dev scrubbing).cc.shadow ≠ [] ∧ (dev []).cc.shadow = [] ∧ (dev mediumUp).rd WS Reg.WS.READY ≠ 0 ∧
      (dev []).rd WS Reg.WS.READY = 0) := by decide +kernel

/-- Path 0 of section 0 is in force, from cell 1 to cell 0; pin 0 has a function. -/
def withPath : List Upd := [inMode .carry, fld (dsU 0) Reg.DS.ENABLE 1, fld (dsU 0) Reg.DS.PATH_CNT 1, fld (dsU 0) Reg.DS.P_SRC 0x301,
  fld (rcU 0) Reg.RC.PIN_FUNC 1]

theorem test_met_ChecksRaiseTheirSources :
    ((st []).runs ∧ (dev []).present 0x31F = true ∧ typeOf 0x31F = 3 ∧ (dev []).present 0x500 = true ∧ typeOf 0x500 = 5 ∧
      (dev []).present 0x200 = true ∧ typeOf 0x200 = 2 ∧ (dev []).present 0x600 = true ∧ typeOf 0x600 = 6 ∧
      (typeOf 0x100 ≠ 2 ∧ typeOf 0x100 ≠ 3 ∧ typeOf 0x100 ≠ 5 ∧ typeOf 0x100 ≠ 6) ∧ (st [.variant { sectMask := 7 }]).dev.present 0x6300 = false) ∧
    ((dev withPath).present (rcU 0) = true ∧ (dev withPath).rd (rcU 0) Reg.RC.PIN_FUNC 0 ≠ 0 ∧ (dev withPath).rd (rcU 0) Reg.RC.PIN_FUNC 0 ≠ 9 ∧
      (true != (dev withPath).pinLevel 0 0) = true ∧ 64 ≤ 64 ∧ (dev []).rd (rcU 0) Reg.RC.PIN_FUNC 0 = 0) ∧
    (3 < 4 ∧ (dev withPath).sectionOn 3 = true ∧ (dev withPath).mode ≠ .cold ∧ (dev [.variant { sectMask := 7 }]).sectionOn 3 = false) ∧
    ((dev withPath).sectionOn 0 = true ∧ ((dev withPath).pathsOf 0).filter (fun p => (dev withPath).srcOf 0 p == 0x301) ≠ [] ∧
      ((dev withPath).pathsOf 0).filter (fun p => (dev withPath).srcOf 0 p == 0x300) = []) := by
  decide +kernel

/-- CAL-RUN of KIND 5 on cell 0x300, for 10 ms. -/
def calPar : List Byte := [5, 0] ++ leBytes 2 0x300 ++ leBytes 4 10

/-- The cell is configured with its equaliser. -/
def calibrated : List Upd := [inMode .banked, fld 0x300 Reg.BC.ENABLE 1, fld 0x300 Reg.BC.EQ_EN 1]

/-- A run of KIND 6 in slot 15, with its half A. -/
def detRun (na : Bool) (kind : Nat := 6) : CalRun := { kind := kind, target := rcU 0, runMs := 10, noApply := na, half := some { det := [(1, 0, 64)] } }

/-- Run slot 15 in a phase. -/
def runIn (p : Nat) (rs : List (Nat × CalRun)) : State := st [fld HA Reg.HA.ENT_FUNC 2, fld HA Reg.HA.ENT_CH 1, fld CE Reg.CE.SLOT_PHASE p 15, .ce { runs := rs }, tim (.calHalf 15) 7]

/-- The block at the end of the half of a state, its plane run. -/
def halfOver (s : State) : Dev := (runPlane []).run ((stopTimer (.calHalf 15)).run (s.dev.reach 7))

theorem test_met_CalibrationRuns :
    ((cst calibrated 0x0A calPar).dev.passed 5 0x0A = some (passed 0x0A calPar) ∧ (passed 0x0A calPar).par 24 1 = 5 ∧
      (passed 0x0A calPar).par 26 2 = 0x300 ∧ (dev []).runRefusal 5 0x300 = some caNotConfigured ∧
      (dev calibrated).runRefusal 5 0x300 = none ∧ (dev []).passed 5 0x0A = none) ∧
    ((st [tim .autoCal 7]).dev.deadline .autoCal = some 7 ∧ (dev []).deadline .autoCal = none ∧ (dev []).deadline (.calHalf 15) = none) ∧
    (15 < 16 ∧ (runIn 1 [(15, detRun false)]).dev.deadline (.calHalf 15) = some 7 ∧
      (runIn 1 [(15, detRun false)]).dev.rd CE Reg.CE.SLOT_PHASE 15 = 1 ∧ (runIn 2 []).dev.rd CE Reg.CE.SLOT_PHASE 15 = 2 ∧
      (halfOver (runIn 1 [(15, detRun false)])).ce.runs.find? (fun x => x.1 == 15) = some (15, detRun false) ∧
      (halfOver (runIn 1 [(15, detRun false 3)])).ce.runs.find? (fun x => x.1 == 15) = some (15, detRun false 3) ∧
      (halfOver (runIn 1 [])).ce.runs.find? (fun x => x.1 == 15) = none ∧ (detRun false).kind ≠ 3 ∧ (detRun false 3).kind = 3) ∧
    ((halfOver (runIn 2 [(15, detRun false)])).ce.runs.find? (fun x => x.1 == 15) = some (15, detRun false) ∧
      (detRun false).half = some { det := [(1, 0, 64)] } ∧ ({} : CalRun).half = none) ∧
    (let e := halfOver (runIn 2 [(15, detRun false)]);
      e.calReason (detRun false) { det := [(1, 0, 64)] } {} (e.calCoupling (detRun false)) (e.modelOk (detRun false)) = some 0x16 ∧
      e.calReason (detRun false) { det := [(1, 0, 64)] } { det := [(1, 0, 64)] } (e.calCoupling (detRun false)) (e.modelOk (detRun false)) = none ∧
      (detRun true).noApply = true ∧ (detRun false).noApply = false) := by decide +kernel

/-- A run of KIND 6 whose half B has the conversions that it needs. -/
def fullRun : CalRun := { detRun false with acc := { det := [(1, 0, 64)] } }

theorem test_met_CalibrationRuns_passes :
    let e := halfOver (runIn 2 [(15, fullRun)])
    e.ce.runs.find? (fun x => x.1 == 15) = some (15, fullRun) ∧
      e.calReason fullRun { det := [(1, 0, 64)] } (e.calHalf fullRun) (e.calCoupling fullRun) (e.modelOk fullRun) = none := by decide +kernel

/-- The reference is enabled and follows, on a locked carrier. -/
def referenced : List Upd := [inMode .banked, fld CE Reg.CE.REF_EN 1, fld CE Reg.CE.REF_STATE 1, fld CE Reg.CE.CAR_RF 1000,
  fld (sdU 0) Reg.SD.K_FRAME_LOCK 1, tim .refHold 7, tim .calRetry 9]

/-- A commit of the set is due. -/
def dueCommit : List Upd := mediumUp ++ [.ce { due := true }]

/-- Eight detections in each half of the second that ends at 491,520,000. -/
def detected : List Upd := referenced ++ [.ce { refDet := List.replicate 8 (1000, 0) ++ List.replicate 8 (300000000, 0) }]

theorem test_met_SteepReferenceAndCommits :
    ((st referenced).runs ∧ (dev referenced).base.counting = true ∧ (dev referenced).dt ≤ 491520000 ∧ (dev referenced).configured = true ∧
      491520000 % 491520 = 0 ∧ (dev referenced).ticksAt 0 ≤ 491520000 ∧ (491520000 % 491520000 = 0 ∧ (dev referenced).ticksAt 1 ≤ 491520000) ∧
      (dev referenced).rd CE Reg.CE.REF_EN ≠ 0 ∧ (dev referenced).secondOk ((dev referenced).refHalf 245760000) ((dev referenced).refHalf 491520000) = false ∧
      (dev detected).secondOk ((dev detected).refHalf 245760000) ((dev detected).refHalf 491520000) = true ∧ 1 % 491520 ≠ 0) ∧
    ((dev referenced).deadline .refHold = some 7 ∧ (dev referenced).rd CE Reg.CE.REF_STATE = 1 ∧ (dev [tim .refHold 7]).deadline .refHold = some 7 ∧
      (dev [tim .refHold 7]).rd CE Reg.CE.REF_EN = 0 ∧ (dev []).deadline .refHold = none ∧ (dev []).configured = false) ∧
    ((dev dueCommit).ce.due = true ∧ (dev dueCommit).ce.committing = none ∧ (dev dueCommit).configured = true ∧
      (dev dueCommit).writesUp = true ∧ (dev dueCommit).deadline .calRetry = none ∧ (dev []).ce.due = false) ∧
    (dev [.ce { committing := some {} }]).ce.committing = some {} ∧
    ((dev referenced).deadline .calRetry = some 9 ∧ (dev referenced).ce.committing = none ∧
      (dev [.ce { committing := some {} }, tim .calRetry 9]).deadline .calRetry = some 9 ∧
      (dev [.ce { committing := some {} }, tim .calRetry 9]).ce.committing ≠ none) := by decide +kernel

/-! #### Links and cells -/

/-- A link in a state, its unit enabled. -/
def linkIn (u s : Nat) (us : List Upd := []) : List Upd :=
  [if isRxl u then fld u Reg.RXL.ENABLE 1 else fld u Reg.TXL.ENABLE 1,
    if isRxl u then fld u Reg.RXL.LINK_STATE s else fld u Reg.TXL.LINK_STATE s] ++ us

theorem test_met_LinksStartUp :
    ((st (linkIn 0x100 lsCgs)).runs ∧ (dev (linkIn 0x100 lsCgs)).linkOn 0x100 = true ∧ isRxl 0x100 = true ∧
      (dev (linkIn 0x100 lsCgs)).linkState 0x100 = lsCgs ∧ (dev (linkIn 0x100 lsIlas)).linkState 0x100 ≠ lsCgs) ∧
    ((dev (linkIn 0x100 lsIlas)).linkState 0x100 = lsIlas ∧ (dev (linkIn 0x100 lsIlas)).deadline (.ilasRetry 0x100) = none ∧
      (dev (linkIn 0x100 lsIlas)).sub0 0x100 = false ∧ (dev (linkIn 0x100 lsIlas)).fmt 0x100 ≠ 2 ∧
      (dev (linkIn 0x100 lsIlas [fld 0x100 Reg.RXL.MF_DELAY 1, fld 0x100 Reg.RXL.K_M1 31])).tooLate 0x100 30 29 = none ∧
      (dev (linkIn 0x100 lsIlas [fld 0x100 Reg.RXL.MF_DELAY 1, fld 0x100 Reg.RXL.K_M1 31])).tooLate 0x100 31 29 ≠ none) ∧
    (isRxl 0x200 = false ∧ (dev (linkIn 0x200 lsCgs)).linkState 0x200 = lsCgs ∧ (dev (linkIn 0x200 lsCgs)).linkOn 0x200 = true ∧
      (dev (linkIn 0x200 lsData)).linkState 0x200 ≠ lsCgs) ∧
    (((dev (linkIn 0x200 lsCgs [.link 0x200 { ilasAt := some 0 }])).linksOn.filter fun u => !isRxl u) = [0x200] ∧
      ((dev (linkIn 0x200 lsCgs [.link 0x200 { ilasAt := some 0 }])).linkAt 0x200).ilasAt = some 0 ∧
      (dev (linkIn 0x200 lsCgs)).dt < 0 + 4 * (dev (linkIn 0x200 lsCgs)).lmfc 0x200 ∧
      0 + 4 * (dev (linkIn 0x200 lsCgs)).lmfc 0x200 ≤ (dev (linkIn 0x200 lsIlas [.advance 200])).dt ∧ (dev (linkIn 0x200 lsCgs)).dt < 1) ∧
    ((dev [tim (.ilasRetry 0x100) 7, inMode .kindling]).deadline (.ilasRetry 0x100) = some 7 ∧ (dev []).deadline (.ilasRetry 0x100) = none) ∧
    (isUnitOf 0x01 4 0x6103 = true ∧ isUnitOf 0x02 4 0x6203 = true) ∧
    ((dev (linkIn 0x100 lsIlas [fld 0x100 Reg.RXL.LINK_MUTE 1])).linkMuted 0x100 &&
      !(isRxl 0x100 && (dev (linkIn 0x100 lsIlas [fld 0x100 Reg.RXL.LINK_MUTE 1])).is 0x100 Reg.RXL.LAT_SHIFT)) = true := by decide +kernel

/-- A link in ILAS with 32 frames in a multiframe. -/
def inIlas : Dev := dev (linkIn 0x100 lsIlas [fld 0x100 Reg.RXL.K_M1 31])

theorem test_met_LinksStartUp_ilas :
    inIlas.ilasFailure 0x100 [[], []] ≠ none ∧
    inIlas.ilasFailure 0x100 [inIlas.ilasChars 0x100 0, inIlas.ilasChars 0x100 1] = none := by decide +kernel

theorem test_met_LinkErrorsAndPatterns :
    ((st (linkIn 0x100 lsData)).runs ∧ isUnitOf 0x01 4 0x100 = true ∧ (dev (linkIn 0x100 lsData)).linkOn 0x100 = true ∧
      (dev (linkIn 0x100 lsData)).inData 0x100 = true ∧ 1 < 2 ∧ (dev (linkIn 0x100 lsData)).fmt 0x100 ≠ 2 ∧ isRxl 0x200 = false) ∧
    (isUnitOf 0x02 4 0x200 = true ∧ (dev (linkIn 0x200 lsHold)).linkOn 0x200 = true ∧ (dev (linkIn 0x200 lsHold)).inData 0x200 = true ∧
      (dev (linkIn 0x200 lsCgs)).inData 0x200 = false ∧ (dev (linkIn 0x200 lsCgs)).linkState 0x200 = lsCgs ∧
      nReq ((dev (linkIn 0x200 lsHold)).fmt 0x200) ≤ 40 ∧ 1 < nReq ((dev (linkIn 0x200 lsHold)).fmt 0x200) ∧ (0 : Nat) < 1 ∧
      (dev (linkIn 0x200 lsTest)).inData 0x200 = false ∧ (dev (linkIn 0x200 lsTest)).linkState 0x200 ≠ lsCgs ∧
      (dev (linkIn 0x200 lsTest)).linkState 0x200 ≠ lsIlas) ∧
    ((dev [tim (.linkHold 0x200) 7]).deadline (.linkHold 0x200) = some 7 ∧ (dev []).deadline (.linkHold 0x200) = none) ∧
    ((dev (linkIn 0x100 lsData [inMode .banked])).present 0x100 = true ∧
      (dev (linkIn 0x100 lsData [inMode .banked])).judgeWrite 0x100 0x110 1 15 (resyncRule 0x100 1 (dev (linkIn 0x100 lsData [inMode .banked]))) = none ∧
      (dev []).judgeWrite 0x100 0x110 1 15 (resyncRule 0x100 1 (dev [])) ≠ none ∧
      (dev [inMode .service]).judgeWrite 0x100 (0x160 + 0x40 * 1) 1 15 (patRule 1 (dev [inMode .service])) = none ∧
      (dev []).judgeWrite 0x100 (0x160 + 0x40 * 1) 1 15 (patRule 1 (dev [])) ≠ none ∧
      (dev [inMode .service]).judgeWrite 0x200 (0x160 + 0x40 * 1) 1 15 (patRule 1 (dev [inMode .service])) = none ∧ typeOf 0x300 ≠ 1 ∧ typeOf 0x300 ≠ 2) ∧
    ((dev (linkIn 0x100 lsTest [fld 0x100 Reg.RXL.L_CHK_EN 1 1, fld 0x100 Reg.RXL.L_PATTERN 1 1])).linkState 0x100 = lsTest ∧
      (dev (linkIn 0x100 lsTest [fld 0x100 Reg.RXL.L_CHK_EN 1 1, fld 0x100 Reg.RXL.L_PATTERN 1 1])).linkOn 0x100 = true ∧
      (dev (linkIn 0x100 lsTest [fld 0x100 Reg.RXL.L_CHK_EN 1 1, fld 0x100 Reg.RXL.L_PATTERN 1 1])).rd 0x100 Reg.RXL.L_CHK_EN 1 ≠ 0 ∧
      (dev (linkIn 0x100 lsTest [fld 0x100 Reg.RXL.L_CHK_EN 1 1, fld 0x100 Reg.RXL.L_PATTERN 1 1])).rd 0x100 Reg.RXL.L_PATTERN 1 ≠ 0 ∧
      (dev (linkIn 0x200 lsTest [fld 0x200 Reg.TXL.L_GEN_EN 1 1, fld 0x200 Reg.TXL.L_PATTERN 1 1])).linkState 0x200 = lsTest ∧
      (dev (linkIn 0x200 lsTest [fld 0x200 Reg.TXL.L_GEN_EN 1 1, fld 0x200 Reg.TXL.L_PATTERN 1 1])).rd 0x200 Reg.TXL.L_GEN_EN 1 ≠ 0 ∧
      (dev (linkIn 0x200 lsTest [fld 0x200 Reg.TXL.L_GEN_EN 1 1, fld 0x200 Reg.TXL.L_PATTERN 1 1])).rd 0x200 Reg.TXL.L_PATTERN 1 ≠ 0 ∧
      (dev (linkIn 0x100 lsTest)).rd 0x100 Reg.RXL.L_CHK_EN 1 = 0) ∧
    ((dev []).rd 0x100 Reg.RXL.L_INJ_EN 1 = 0 ∧ (dev []).rd 0x100 Reg.RXL.L_LOCKED 1 = 0 ∧
      63 ≤ (((dev [.link 0x100 { chk1 := { clean := 63 } }]).linkAt 0x100).chk 1).clean) ∧
    ((dev [fld 0x100 Reg.RXL.L_LOCKED 1 1]).rd 0x100 Reg.RXL.L_LOCKED 1 ≠ 0 ∧
      16 ≤ (((((1 : Nat) != 0) :: List.replicate 15 true).take 64).filter id).length) := by decide +kernel

/-- PRBS7 of lane 1, with bit 3 of every second word flipped. -/
def injecting : Dev := dev [fld 0x100 Reg.RXL.L_PATTERN 1 1, fld 0x100 Reg.RXL.L_INJ_EN 1 1, fld 0x100 Reg.RXL.L_INJ_N 2 1,
  fld 0x100 Reg.RXL.L_INJ_BIT 3 1]

/-- The word the lane's checker expects, without the flip, and its flip. -/
def expects (d : Dev) (i : Nat) : Nat × Nat := (d.patternWord 0x100 1 1 (if i = 0 then d.repDisparity 0x100 1 1 0 ((d.linkAt 0x100).chk 1).rd
  else ((d.linkAt 0x100).chk 1).rd) i, d.injFlip 0x100 1 1 i true 2 3)

theorem test_met_LinkErrorsAndPatterns_words :
    (expects (dev []) 1).1 ^^^ ((expects (dev []) 1).1 ^^^ 0) = 0 ∧ ((expects (dev []) 1).1 ^^^ 1) ^^^ ((expects (dev []) 1).1 ^^^ 0) ≠ 0 ∧
    ((dev [.link 0x100 { chk1 := { counting := true } }]).linkAt 0x100).chk 1 = { counting := true } ∧
    ((List.range 40).any fun i => (expects injecting i).2 != 0) = true ∧ (expects injecting 1).2 = 0 := by decide +kernel

/-- Cell 0 of section 0 runs, with the origin of its grid. -/
def cellRuns (us : List Upd := []) (x : Cell := { tg := some 0 }) : List Upd := [inMode .carry, fld 0x300 Reg.BC.ENABLE 1, .cell 0x300 x] ++ us

/-- The plane is ahead of Device Time, with this of a cell. -/
def cellSig (x : CellSig) : Upd := .plane { upTo := 1000000, cells := [(0x300, x)] }

/-- A state's block at `t`, its plane run. -/
def planed (us : List Upd) (t : Nat) : Dev := (runPlane []).run ((st us).dev.reach t)

/-- When block 0 of that cell leaves it. -/
def blockOver (us : List Upd) : Nat := 0 + (256 * (((dev us).cellAt 0x300).blocks + 1) - 1) * (dev us).period 0x300 + (dev us).rxChain 0x300 + (dev us).core 0x300

theorem test_met_BlocksEndOnTheGrid :
    ((st (cellRuns)).runs ∧ isUnitOf 0x03 32 0x300 = true ∧ (st (cellRuns)).dev.cellOn 0x300 = true ∧
      ((st (cellRuns)).dev.cellAt 0x300).tg = some 0) ∧
    (((planed (cellRuns [cellSig {}]) (blockOver (cellRuns))).plane.cells.get {} 0x300).done.filter fun b => decide (0 ≤ b.g)) = [] ∧
    (((planed (cellRuns [cellSig { done := [{}] }]) (blockOver (cellRuns))).plane.cells.get {} 0x300).done.filter fun b => decide (0 ≤ b.g)) =
      [{}] ∧
    (dev []).cellOn 0x300 = false ∧ ((dev []).cellAt 0x300).tg = none := by decide +kernel

theorem test_met_CellSettingsTakeEffect :
    ((dev (cellRuns)).present 0x300 = true ∧ (dev (cellRuns)).judgeWrite 0x300 0x144 0 15 {} = none ∧
      (dev (cellRuns)).judgeWrite 0x300 0x108 0 15 { range := (dev (cellRuns)).gainBad 0x300 0, mode := (dev (cellRuns)).modeIn [.cold, .kindling] } = none ∧
      (dev []).judgeWrite 0x300 0x108 0 15 { range := (dev []).gainBad 0x300 0, mode := (dev []).modeIn [.cold, .kindling] } ≠ none ∧
      (dev (cellRuns)).judgeWrite 0x300 0x228 1 15 { mode := (dev (cellRuns)).modeIn [.cold, .kindling] } = none ∧ typeOf 0x500 ≠ 3) ∧
    ((dev (cellRuns [fld 0x300 Reg.BC.RESP_PEND 1])).cellOn 0x300 = true ∧ (dev (cellRuns [fld 0x300 Reg.BC.RESP_PEND 1])).rd 0x300 Reg.BC.RESP_PEND ≠ 0 ∧
      (dev (cellRuns)).rd 0x300 Reg.BC.SWITCH_AT_SYNC = 0 ∧ (dev (cellRuns)).rd 0x300 Reg.BC.RESP_PEND = 0 ∧
      (dev [fld 0x300 Reg.BC.RESP_SEL 1]).rd 0x300 Reg.BC.RESP_SEL ≠ (dev [fld 0x300 Reg.BC.RESP_SEL 1]).rd 0x300 Reg.BC.RESP_ACTIVE ∧
      ((dev []).cellAt 0x300).respEnd < 1) ∧
    ((dev (cellRuns [tim (.gainSlew 0x300) 7, fld 0x300 Reg.BC.G_TARGET 5, fld 0x300 Reg.BC.G_APPLIED 4])).deadline (.gainSlew 0x300) = some 7 ∧
      levelOf ((dev (cellRuns [fld 0x300 Reg.BC.G_TARGET 5])).rd 0x300 Reg.BC.G_TARGET) = some 5 ∧
      (dev (cellRuns [fld 0x300 Reg.BC.G_TARGET 5, fld 0x300 Reg.BC.G_APPLIED 4])).gApplied 0x300 = some 4 ∧ (4 : Int) < 5 ∧
      ((dev (cellRuns)).cellAt 0x300).rampHold = false ∧
      levelOf ((dev (cellRuns [fld 0x300 Reg.BC.G_TARGET 0x8000])).rd 0x300 Reg.BC.G_TARGET) = none ∧ (dev []).deadline (.gainSlew 0x300) = none) ∧
    (let e := planed (cellRuns [fld 0x300 Reg.BC.SQ_EN 1, fld 0x300 Reg.BC.SQ_CLOSED 1, fld 0x300 Reg.BC.SQ_ATTACK 1, cellSig { openRun := 1 }]) 9;
      (dev (cellRuns)).cellOn 0x300 = true ∧ e.rd 0x300 Reg.BC.SQ_EN ≠ 0 ∧ e.rd 0x300 Reg.BC.SQ_CLOSED ≠ 0 ∧
      e.rd 0x300 Reg.BC.SQ_ATTACK ≤ (e.plane.cells.get {} 0x300).openRun) ∧
    (let e := planed (cellRuns [fld 0x300 Reg.BC.SQ_EN 1, fld 0x300 Reg.BC.SQ_CLOSED 0, fld 0x300 Reg.BC.SQ_RELEASE 1, cellSig { lowFrom := some 0 }]) 500;
      e.rd 0x300 Reg.BC.SQ_EN ≠ 0 ∧ e.rd 0x300 Reg.BC.SQ_CLOSED = 0 ∧ (e.plane.cells.get {} 0x300).lowFrom = some 0 ∧
      0 + dtOfUs (e.rd 0x300 Reg.BC.SQ_RELEASE) ≤ e.dt) ∧
    ((planed (cellRuns [cellSig {}]) 9).rd 0x300 Reg.BC.SQ_EN = 0 ∧ (dev []).cellOn 0x300 = false) := by decide +kernel

/-- Combiner 0 runs, and this of it is in the plane. -/
def combRuns (x : CombSig := {}) : List Upd := [inMode .carry, fld 0x500 Reg.CB.ENABLE 1, .plane { upTo := 1000000, combs := [(0x500, x)] }]

theorem test_met_MonitorsReport :
    ((st (cellRuns)).runs ∧ (dev (cellRuns)).base.counting = true ∧ 491520 * 128 % 4096 = 0 ∧ 491520 * 128 % 491520 = 0 ∧ (dev (cellRuns)).dt ≤ 491520 * 128 ∧
      (dev (cellRuns)).ticksAt (0x10000 + 0x300) ≤ 491520 * 128 ∧ (dev (cellRuns)).ticksAt (0x20000 + 0x500) ≤ 491520 * 128 ∧
      (dev (cellRuns)).cellOn 0x300 = true ∧ (dev (combRuns)).combOn 0x500 = true ∧ (dev []).cellOn 0x300 = false ∧ (dev []).combOn 0x300 = false ∧
      1 % 4096 ≠ 0 ∧ 1 % 491520 ≠ 0) ∧
    (((planed (combRuns) 9).plane.combs.get {} 0x500).report = none ∧ (dev []).combOn 0x500 = false ∧
      ((planed (combRuns { report := some { maxIn := 1, sumIn := 1, maxOut := 1, sumOut := 1, canc := 1, any := true } }) 9).plane.combs.get {} 0x500).report =
        some { maxIn := 1, sumIn := 1, maxOut := 1, sumOut := 1, canc := 1, any := true }) ∧
    (typeOf 0x200 = 2 ∧ typeOf 0x300 = 3 ∧ typeOf 0x500 = 5 ∧ (typeOf 0x100 ≠ 2 ∧ typeOf 0x100 ≠ 3 ∧ typeOf 0x100 ≠ 5)) := by decide +kernel

/-! #### The Damper, Protection Engines and Sync Detectors -/

/-- Path 0 of section 0 is in force, its receiving cell listens through group 0. -/
def hearing : List Upd := cellRuns ++ withPath ++ [fld (rcU 0) Reg.RC.G_ENABLE 1, fld (rcU 0) Reg.RC.G_RX_MAP 1, .group 0 { lstFrom := some 0 }]

/-- The samples of hop 0 are there. -/
def hopSamples : Upd := cellSig { eps := (List.range 32).map fun (i : Nat) => ((i : Int), ((1 : Int), (0 : Int))) }

/-- The block at the end of hop 0 of path 0, its plane run. -/
def hopOver (us : List Upd) : Dev :=
  let te := (dev us).inputAt 0x300 0 31
  (runPlane []).run ((upd (.ticks 0x40000 (te + 1))).run ((dev us).reach te))

/-- The hop is used. -/
def hopUsed (e : Dev) : Bool :=
  !e.hopZeroed 0x300 0 0 && ((e.rxGroup 0 (e.rd 0x300 Reg.BC.RXL)).any fun k => e.listened 0 k 0 (0 + 31 * e.period 0x300)) && !e.skips 0 && !e.pathFrozen 0 0

theorem test_met_HopsUpdateThePath :
    ((st hearing).runs ∧ (dev hearing).pathOn 0 0 = true ∧ (dev hearing).rcvOf 0 0 = 0x300 ∧ ((dev hearing).cellAt 0x300).tg = some 0 ∧
      (dev hearing).ticksAt 0x40000 ≤ (dev hearing).inputAt 0x300 0 31 ∧ (dev hearing).dt ≤ (dev hearing).inputAt 0x300 0 31) ∧
    ((hopOver (hearing ++ [hopSamples])).rcvOf 0 0 = 0x300 ∧ (hopOver (hearing ++ [cellSig {}])).hopEps 0x300 0 = none ∧
      (hopOver (hearing ++ [hopSamples])).hopEps 0x300 0 = some (List.replicate 32 (1, 0)) ∧ hopUsed (hopOver (hearing ++ [hopSamples])) = true ∧
      hopUsed (hopOver (hearing ++ [hopSamples, .group 0 {}])) = false ∧
      (hopOver (hearing ++ [hopSamples])).rd ((hopOver (hearing ++ [hopSamples])).rxlOf 0x300) Reg.RXL.PATH_DT = 0) ∧
    ((dev []).pathOn 0 0 = false ∧ ((dev []).cellAt ((dev []).rcvOf 0 0)).tg = none) := by decide +kernel

theorem test_met_DamperMeasuresAndZeroes :
    ((dev hearing).base.counting = true ∧ 491520 % 491520 = 0 ∧ (dev hearing).dt ≤ 491520 ∧ (dev hearing).ticksAt 2 ≤ 491520 ∧ 1 % 491520 ≠ 0) ∧
    ((dev [tim (.refineHold (dsU 3) 255) 7, fld (dsU 3) Reg.DS.P_ADAPT_STATE asSuspended 255]).deadline (.refineHold (dsU 3) 255) = some 7 ∧
      (dev [tim (.refineHold (dsU 3) 255) 7, fld (dsU 3) Reg.DS.P_ADAPT_STATE asSuspended 255]).rd (dsU 3) Reg.DS.P_ADAPT_STATE 255 = asSuspended ∧
      (dev [tim (.refineHold (dsU 3) 255) 7]).rd (dsU 3) Reg.DS.P_ADAPT_STATE 255 ≠ asSuspended ∧ (dev []).deadline (.refineHold (dsU 3) 255) = none) ∧
    ((dev hearing).present (dsU 3) = true ∧
      (dev [inMode .banked]).judgeWrite (dsU 3) 0x11C 2 15 { mode := (2 : Nat).testBit 1 && !(dev [inMode .banked]).modeIn [.banked, .service] } = none ∧
      (dev []).judgeWrite (dsU 3) 0x11C 2 15 { mode := (2 : Nat).testBit 1 && !(dev []).modeIn [.banked, .service] } ≠ none ∧
      (dev hearing).judgeWrite (dsU 0) 0x180 0 15 { range := decide ((dev hearing).rd (dsU 0) Reg.DS.PATH_CNT ≤ 0 % 256) } = none ∧
      (dev []).judgeWrite (dsU 0) 0x180 0 15 { range := decide ((dev []).rd (dsU 0) Reg.DS.PATH_CNT ≤ 0 % 256) } ≠ none) := by decide +kernel

theorem test_met_ProtectionHoldsEnd :
    ((st [tim (.tripHold 0x300 3) 7]).runs ∧ 3 ≠ 1 ∧ 3 ≠ 2 ∧ (dev []).deadline (.tripHold 0x300 3) = none ∧ (dev []).deadline (.marginHold 0x300) = none ∧
      (dev []).deadline (.spkHold 0x300) = none ∧ (dev []).deadline (.donorHold (peU 3) 7) = none ∧ (dev []).deadline (.syncHold (peU 3) 31) = none ∧
      (dev [tim (.tripHold 0x300 2) 7]).deadline (.tripHold 0x300 2) = some 7 ∧ (dev [tim (.tripHold 0x300 1) 7]).deadline (.tripHold 0x300 1) = some 7 ∧
      (dev [tim (.tripHold 0x300 3) 7]).deadline (.tripHold 0x300 3) = some 7 ∧ (dev [tim (.marginHold 0x300) 7]).deadline (.marginHold 0x300) = some 7 ∧
      (dev [tim (.spkHold 0x300) 7]).deadline (.spkHold 0x300) = some 7) ∧
    ((dev [tim (.donorHold (peU 3) 7) 9, fld (peU 3) Reg.PE.PRESENT 1 7]).deadline (.donorHold (peU 3) 7) = some 9 ∧
      (dev [tim (.donorHold (peU 3) 7) 9, fld (peU 3) Reg.PE.PRESENT 1 7]).rd (peU 3) Reg.PE.PRESENT 7 ≠ 0 ∧
      (dev [tim (.donorHold (peU 3) 7) 9]).deadline (.donorHold (peU 3) 7) = some 9 ∧ (dev [tim (.donorHold (peU 3) 7) 9]).rd (peU 3) Reg.PE.PRESENT 7 = 0) ∧
    ((dev [tim (.syncHold (peU 3) 31) 9]).deadline (.syncHold (peU 3) 31) = some 9 ∧
      (dev [fld (sdU 3) Reg.SD.K_FRAME_LOCK 1 7]).locked (31 / 8) (31 % 8) = true ∧ (dev []).locked (31 / 8) (31 % 8) = false) ∧ 10 < 11 := by
  decide +kernel

theorem test_met_ProtectionChecksRun :
    ((st (cellRuns)).runs ∧ (dev (cellRuns)).guarded 0x300 = true ∧ 1966 % growWindow = 0 ∧ (dev (cellRuns)).dt ≤ 1966 ∧
      (dev (cellRuns)).ticksAt (0x30000 + 0x300) ≤ 1966 ∧ (dev []).guarded 0x300 = false) ∧
    ((dev (cellRuns)).base.counting = true ∧ (dev (cellRuns)).applied = true ∧ (dev []).applied = false ∧ (dev (cellRuns)).dt ≤ 256 ∧ 1 % 256 ≠ 0 ∧ 4096 % 4096 = 0 ∧ 256 % 256 = 0 ∧ 491520 % 491520 = 0 ∧
      (dev (cellRuns)).ticksAt 3 ≤ 4096 ∧ (dev (cellRuns)).ticksAt 4 ≤ 256 ∧ (dev (cellRuns)).ticksAt 5 ≤ 491520 ∧ (dev (cellRuns)).ticksAt 6 ≤ 491520) ∧
    ((((dev [.cell 0x300 { range := some (0, 1) }]).cellAt 0x300).range = some (0, 1)) ∧
      ((1 : Int) < ((dev [fld (peU 0) Reg.PE.RF_CTR 1000000]).rfBand 0x300).2) ∧
      ((dev [.cell 0x300 { range := some (0, 10 ^ 12) }]).cellAt 0x300).range = some (0, 10 ^ 12) ∧
      0 < ((dev [fld (peU 0) Reg.PE.RF_CTR 1000000]).rfBand 0x300).1 ∧ ((dev [fld (peU 0) Reg.PE.RF_CTR 1000000]).rfBand 0x300).2 < 10 ^ 12 ∧ 0 < ((dev [fld (peU 0) Reg.PE.RF_CTR 1000000]).rfBand 0x300).2 ∧
      (dev []).muteCause 0x300 mcAllow = false) := by decide +kernel

/-- Carrier 7 of section 3 runs; its timeline predicts dt 1,000. -/
def carries (us : List Upd := []) (x : Carrier := { tp := 65536000, det := some 1000 }) : List Upd :=
  [inMode .banked, fld (sdU 3) Reg.SD.K_EN 1 7, .carrier 31 x] ++ us

theorem test_met_SyncDetectorsTrack :
    ((st (carries)).runs ∧ (dev (carries)).carrierOn 3 7 = true ∧ (dev []).carrierOn 3 7 = false ∧ (dev []).hasMarks (3 * 8 + 7) = false ∧
      ((dev []).carrierAt (3 * 8 + 7)).next = none ∧ (planed (carries [.plane { upTo := 1000000 }]) 9).detected 3 7 = none) ∧
    ((dev (carries)).dt ≤ 24576000 ∧ (dev (carries)).spanEnd 3 7 ≤ (24576000 : Int) * 65536 ∧ ((0 : Nat) : Int) * 65536 < (dev (carries)).spanEnd 3 7) ∧
    (((dev (carries)).carrierAt (3 * 8 + 7)).det = some 1000 ∧ (dev (carries)).locked 3 7 = false ∧
      ((dev (carries [] {})).carrierAt (3 * 8 + 7)).det = none ∧ (dev (carries [fld (sdU 3) Reg.SD.K_LOCK_N 1 7])).rd (sdU 3) Reg.SD.K_LOCK_N 7 > 0 ∧
      (dev (carries [fld (sdU 3) Reg.SD.K_FRAME_LOCK 1 7])).locked 3 7 = true ∧
      ((1000 : Int) * 65536 - ((dev (carries)).carrierAt 31).tp).natAbs ≤ (dev (carries)).rd (sdU 3) Reg.SD.K_LOCK_TOL 7 * 65536) ∧
    ((dev (carries [fld (sdU 3) Reg.SD.K_MARKS 1 7])).hasMarks (3 * 8 + 7) = true ∧
      ((dev (carries [] { next := some 5 })).carrierAt (3 * 8 + 7)).next = some 5 ∧
      (∀ g ∈ (dev (carries [] { next := some 5 })).groupsOn (3 * 8 + 7), (dev (carries [] { next := some 5 })).busyTx g.1 g.2 = false) ∧
      (0, 0) ∈ (dev [fld (rcU 0) Reg.RC.G_ENABLE 1, fld (rcU 0) Reg.RC.G_TDD 1, fld (rcU 0) Reg.RC.G_CAR 0,
        fld (rcU 0) Reg.RC.G_STATE gsSwitch]).groupsOn 0 ∧
      (dev [fld (rcU 0) Reg.RC.G_STATE gsSwitch]).busyTx 0 0 = true) := by
  decide +kernel

/-- The carrier's correlator has a peak 128 decimated samples back. -/
def peaked (us : List Upd) (x : Carrier := {}) : Dev := planed (carries ([.plane { upTo := 1000000, pss := [(31, {
  corr := [{ t := 16384, nid2 := 0, a := (0, 0), b := (0, 0), ex := 0 }, { t := 0, nid2 := 0, a := (1, 0), b := (0, 0), ex := 0 }] })] }] ++ us) x) 9

theorem test_met_SyncDetectorsTrack_peak (us : List Upd) (x : Carrier)
    (h1 : ((peaked us x).plane.pss.get {} 31).corr =
      [{ t := 16384, nid2 := 0, a := (0, 0), b := (0, 0), ex := 0 }, { t := 0, nid2 := 0, a := (1, 0), b := (0, 0), ex := 0 }])
    (h2 : (peaked us x).sdPer 3 7 = 128) : ((peaked us x).peakOf 3 7).isSome = true := by
  have h (c : Corr) (hc : c.ex = 0) (er : Nat) : c.rho er = 0 := by simp [Corr.rho, hc]
  simp [Dev.peakOf, h1, h2, h, Corr.power, Cx.add, Cx.norm]

theorem test_met_SyncDetectorsTrack_detection :
    (∃ y, (peaked []).detected 3 7 = some y ∧ (peaked []).inSpan 3 7 y.tdet = true) ∧
    (∃ y, (peaked [fld (sdU 3) Reg.SD.K_FRAME_LOCK 1 7, fld (sdU 3) Reg.SD.K_SRCH_WIN 0 7] { tp := -1 }).detected 3 7 = some y ∧
      (peaked [fld (sdU 3) Reg.SD.K_FRAME_LOCK 1 7, fld (sdU 3) Reg.SD.K_SRCH_WIN 0 7] { tp := -1 }).inSpan 3 7 y.tdet = false) := by
  constructor
  · obtain ⟨y, hy⟩ := Option.isSome_iff_exists.mp (test_met_SyncDetectorsTrack_peak [] {} (by decide +kernel) (by decide +kernel))
    refine ⟨_, by rw [Dev.detected, hy]; rfl, ?_⟩
    simp [Dev.inSpan, show (peaked []).locked 3 7 = false by decide +kernel]
  · obtain ⟨y, hy⟩ := Option.isSome_iff_exists.mp (test_met_SyncDetectorsTrack_peak
      [fld (sdU 3) Reg.SD.K_FRAME_LOCK 1 7, fld (sdU 3) Reg.SD.K_SRCH_WIN 0 7] { tp := -1 } (by decide +kernel) (by decide +kernel))
    refine ⟨_, by rw [Dev.detected, hy]; rfl, ?_⟩
    rw [Dev.inSpan, show Dev.locked _ 3 7 = true by decide +kernel, show (Dev.carrierAt _ (3 * 8 + 7)).tp = -1 by decide +kernel,
      show Dev.rd _ (sdU 3) Reg.SD.K_SRCH_WIN 7 = 0 by decide +kernel]
    simp
    omega

/-! #### Radio Control -/

/-- Group 3 of section 0 is configured in Carry, with a cell that is live. -/
def grouped (us : List Upd := []) (g : Group := {}) : List Upd :=
  [inMode .carry, fld (rcU 0) Reg.RC.G_ENABLE 1 3, fld (rcU 0) Reg.RC.G_TX_MAP 1 3, fld 0x300 Reg.BC.ENABLE 1, fld 0x300 Reg.BC.STATE 3,
    .group 3 g, tim (.groupStep 0 3) 50000] ++ us

/-- It is a TDD group with one entry of a kind, from 60,000 to 61,000. -/
def tdd (kind : Nat) (us : List Upd := []) (g : Group := {}) : List Upd :=
  grouped ([fld (rcU 0) Reg.RC.G_TDD 1 3, fld (sdU 0) Reg.SD.K_MARKS 1, fld (rcU 0) Reg.RC.G_N_ENT 1 3, fld (rcU 0) Reg.RC.T_KIND kind 3,
    fld (rcU 0) Reg.RC.T_START 60000 3, fld (rcU 0) Reg.RC.T_LEN 1000 3] ++ us) g

theorem test_met_GroupsFollowTheirWindows :
    ((st (grouped)).runs ∧ (dev (grouped)).radioOp 0 3 = true ∧ (dev (grouped)).gState 0 3 = gsOff ∧ (dev []).radioOp 0 3 = false ∧
      (dev []).grpOn 0 3 = false ∧ (dev []).entryAt 0 3 0 0 kindSend = false ∧ (dev []).entryAt 0 3 0 0 kindListen = false ∧
      ((dev []).grp 0 3).nextS = none ∧ ((dev []).grp 0 3).sendEnd = none ∧ ((dev []).grp 0 3).down = .none) ∧
    ((dev (tdd kindListen [fld (sdU 0) Reg.SD.K_MARKS 1, fld (rcU 0) Reg.RC.G_REST_LISTEN 1 3])).grpTdd 0 3 = true ∧
      (dev (tdd kindListen [fld (sdU 0) Reg.SD.K_MARKS 1, fld (rcU 0) Reg.RC.G_REST_LISTEN 1 3])).hasMarks
        ((dev (tdd kindListen [fld (sdU 0) Reg.SD.K_MARKS 1, fld (rcU 0) Reg.RC.G_REST_LISTEN 1 3])).grpCarrier 0 3) = true) ∧
    ((dev (grouped [fld (rcU 0) Reg.RC.G_STATE gsRest 3])).grpOn 0 3 = true ∧ (dev (grouped)).grpTdd 0 3 = false ∧
      ((dev (grouped)).grp 0 3).down = .none ∧ (dev (grouped)).deadline (.groupStep 0 3) = some 50000 ∧
      (dev (grouped [fld (rcU 0) Reg.RC.G_STATE gsRest 3])).gState 0 3 = gsRest ∧ (dev (grouped)).grpReady 0 3 = true ∧
      (dev (grouped [fld (rcU 0) Reg.RC.SYN_EN 1 7, fld (rcU 0) Reg.RC.SYN_GRP_MAP 8 7])).grpReady 0 3 = false) ∧
    ((dev (tdd kindSend [fld (rcU 0) Reg.RC.G_STATE gsRest 3] { vddAt := some 0 })).entryAt 0 3 0 0 kindSend = true ∧
      (dev (tdd kindSend [fld (rcU 0) Reg.RC.G_STATE gsRest 3] { vddAt := some 0 })).gState 0 3 = gsRest ∧
      ((dev (tdd kindSend)).dt : Int) + 492 ≤ ((dev (tdd kindSend)).entrySpan 0 3 0 0).1 ∧
      ((dev (tdd kindSend [] { vddAt := some 0 })).grp 0 3).vddAt = some 0 ∧
      0 + 24576 ≤ (((dev (tdd kindSend)).entrySpan 0 3 0 0).1 - 492).toNat) ∧
    (((dev (grouped [fld (rcU 0) Reg.RC.G_STATE gsSwitch 3] { nextS := some 9 })).grp 0 3).nextS = some 9 ∧
      (dev (grouped [fld (rcU 0) Reg.RC.G_STATE gsSwitch 3] { nextS := some 9 })).gState 0 3 = gsSwitch) ∧
    (((dev (grouped [fld (rcU 0) Reg.RC.G_STATE gsSendUL 3] { sendEnd := some 9 })).grp 0 3).sendEnd = some 9 ∧
      (dev (grouped [fld (rcU 0) Reg.RC.G_STATE gsSendUL 3] { sendEnd := some 9 })).sending 0 3 = true ∧
      ((dev (grouped [fld (rcU 0) Reg.RC.G_STATE gsSwitch 3] { sendEnd := some 9 })).grp 0 3).sendEnd = some 9 ∧
      (dev (grouped [fld (rcU 0) Reg.RC.G_STATE gsSwitch 3] { sendEnd := some 9 })).gState 0 3 = gsSwitch ∧
      ((dev (grouped [] { down := .ramp })).grp 0 3).down ≠ .none ∧ ((dev (grouped)).grp 0 3).bias = false) ∧
    ((dev (tdd kindListen)).entryAt 0 3 0 0 kindListen = true ∧ ((dev (tdd kindListen)).dt : Int) ≤ ((dev (tdd kindListen)).entrySpan 0 3 0 0).1 ∧
      ((dev (tdd kindListen)).dt : Int) ≤ ((dev (tdd kindListen)).entrySpan 0 3 0 0).2) ∧
    (0 < 4 ∧ 3 < 4 ∧ (dev (grouped)).present (rcU 0) = true ∧ (dev (grouped)).judgeWrite (rcU 0) (0x110 + 0x40 * 3) 1 15 {} = none ∧
      (dev (grouped)).judgeWrite (rcU 0) (0x110 + 0x40 * 3) 1 7 {} ≠ none) ∧
    (((dev (grouped [] { down := .ramp })).grp 0 3).forRecal = false ∧ ((dev (grouped [] { down := .ramp, forRecal := true })).grp 0 3).forRecal = true ∧
      ((dev (grouped [] { down := .bias })).grp 0 3).down = .bias ∧ ((dev (grouped [] { down := .supply })).grp 0 3).down = .supply) := by
  decide +kernel

/-- Synthesiser 7 of section 0 is configured, group 3 depends on it, and its lock detect is input 3. -/
def tuned (us : List Upd := []) (x : Synth := {}) (g : Group := {}) : List Upd :=
  grouped ([fld (rcU 0) Reg.RC.SYN_EN 1 7, fld (rcU 0) Reg.RC.SYN_GRP_MAP 8 7, fld (rcU 0) Reg.RC.SYN_LD 3 7, .synth 7 x] ++ us) g

theorem test_met_SynthesisersRunTheirSequences :
    ((st (tuned)).runs ∧ (dev (tuned)).synOn 0 7 = true ∧ ((dev (tuned)).syn 0 7).run = none ∧ (dev (tuned [] { want := some .prog })).wanted 0 7 = some .prog ∧
      SeqKind.prog ≠ .recal ∧ (dev (tuned [] { want := some .recal })).wanted 0 7 = some .recal ∧
      ((dev (tuned [fld (rcU 0) Reg.RC.G_STATE gsSwitch 3] { want := some .recal })).groupsOfSynth 0 7).any
        ((dev (tuned [fld (rcU 0) Reg.RC.G_STATE gsSwitch 3] { want := some .recal })).busyTx 0) = true ∧
      ((dev (tuned)).groupsOfSynth 0 7).any ((dev (tuned)).busyTx 0) = false ∧ ((dev (tuned [] { prog := true })).syn 0 7).prog = true ∧
      (dev []).synOn 0 7 = false ∧ (dev (tuned)).wanted 0 7 = none) ∧
    (((dev []).master 0 1).cur = none ∧ (dev []).deadline (.seqWait 0 7) = none ∧ (dev []).deadline (.synSettle 0 7) = none ∧
      (dev []).deadline (.fddRepeat 0 7) = none ∧ ((dev []).grp 0 7).held = none) ∧
    ((dev (tuned)).present (rcU 0) = true ∧
      (dev (tuned)).judgeWrite (rcU 0) 0x2C0 0x80 15 {
        mode := 0x80 % 256 != 0 && (dev (tuned)).modeIn [.cold, .kindling]
        busy := 0x80 % 256 &&& (dev (tuned)).rd (rcU 0) Reg.RC.SYN_CTRL_RECAL != 0 } = none ∧
      (dev []).judgeWrite (rcU 0) 0x2C0 0x80 15 {
        mode := 0x80 % 256 != 0 && (dev []).modeIn [.cold, .kindling]
        busy := 0x80 % 256 &&& (dev []).rd (rcU 0) Reg.RC.SYN_CTRL_RECAL != 0 } ≠ none ∧
      (let d := dev [inMode .banked, fld (rcU 0) Reg.RC.CS_HOST_OK 1];
        d.judgeWrite (rcU 0) 0x380 0x80000000 15 {
          mode := (0x80000000 : Nat).testBit 31 && !d.modeIn [.banked, .service], range := (0x80000000 : Nat).testBit 31 && !d.is (rcU 0) Reg.RC.CS_HOST_OK 0
          busy := (0x80000000 : Nat).testBit 31 && d.is (rcU 0) Reg.RC.XFER_GO } = none)) ∧
    (((dev [.bus 1 { cur := some (.cspiSeq 7) }]).master 0 1).cur = some (.cspiSeq 7) ∧
      ((dev [.bus 1 { cur := some (.cspiHost true 3 0 32) }]).master 0 1).cur = some (.cspiHost true 3 0 32) ∧ 32 ≤ 32 ∧
      ((dev [.bus 1 { cur := some (.cspiHost false 3 0 32) }]).master 0 1).cur = some (.cspiHost false 3 0 32)) ∧
    ((dev [tim (.seqWait 0 7) 9]).deadline (.seqWait 0 7) = some 9 ∧ (dev [tim (.synSettle 0 7) 9]).deadline (.synSettle 0 7) = some 9) ∧
    ((dev (tuned)).rd (rcU 0) Reg.RC.SYN_LD 7 < 4 ∧ ((dev (tuned [] { locked := true })).syn 0 7).locked = true ∧
      ((dev (tuned)).syn 0 7).locked = false ∧ (dev (tuned)).rd (rcU 0) Reg.RC.SYN_SETTLING 7 = 0 ∧
      ((dev (tuned [] { run := some .prog })).syn 0 7).run ≠ none) ∧
    (((dev (tuned [] {} { held := some (9, 10) })).grp 0 3).held = some (9, 10) ∧
      (dev (tuned [fld (rcU 0) Reg.RC.SYN_READY 1 7, fld (rcU 0) Reg.RC.G_STATE gsRest 3])).grpReady 0 3 = true ∧
      (dev (tuned [fld (rcU 0) Reg.RC.G_STATE gsRest 3])).resting 0 3 = true ∧ (dev (tuned)).boundary 0 3 9 10 0 = none ∧
      (dev (tuned)).boundary 0 3 600 700 0 = some 600 ∧ (dev [tim (.fddRepeat 0 3) 9]).deadline (.fddRepeat 0 3) = some 9) ∧
    (let b := fun (retried reading : Bool) => (dev [.bus 3 { cur := some (.tuner 3 { axis := 0, code := 3, onTrial := false }), retried := retried, reading := reading }]).master 0 (2 + 1);
      (b false false).reading = false ∧ (b true true).cur = some (.tuner 3 { axis := 0, code := 3, onTrial := false }) ∧ (b true true).reading = true ∧
      (b true true).retried = true ∧ (b false true).retried = false ∧ ((dev [.bus 3 { cur := some (.rffeSeq 7) }]).master 0 (2 + 1)).cur = some (.rffeSeq 7) ∧
      ((dev []).master 0 (2 + 1)).cur = none) := by decide +kernel

theorem test_met_AlarmMismatchAndTuning :
    ((st [fld (rcU 3) Reg.RC.PIN_FUNC 9 15]).runs ∧ (dev [fld (rcU 3) Reg.RC.PIN_FUNC 9 15]).sectionOn 3 = true ∧ 15 < 16 ∧
      (dev [fld (rcU 3) Reg.RC.PIN_FUNC 9 15]).rd (rcU 3) Reg.RC.PIN_FUNC 15 = 9 ∧ (dev []).rd (rcU 3) Reg.RC.PIN_FUNC 15 ≠ 9) ∧
    ((dev [tim (.mmHold 3 3) 7]).deadline (.mmHold 3 3) = some 7 ∧ (dev []).deadline (.mmHold 3 3) = none ∧ (dev []).grpOn 3 3 = false) ∧
    ((dev (grouped [fld (rcU 0) Reg.RC.G_TUNE_EN 1 3, fld (rcU 0) Reg.RC.AX_EN 1 3, fld (rcU 0) Reg.RC.G_STATE gsRest 3])).grpOn 0 3 = true ∧
      (dev (grouped)).mode = .carry ∧ (dev (grouped [fld (rcU 0) Reg.RC.G_TUNE_EN 1 3])).rd (rcU 0) Reg.RC.G_TUNE_EN 3 ≠ 0 ∧
      (dev (grouped [fld (rcU 0) Reg.RC.AX_EN 1 3])).rd (rcU 0) Reg.RC.AX_EN 3 0 ≠ 0 ∧ (dev (grouped [fld (rcU 0) Reg.RC.G_STATE gsRest 3])).gState 0 3 ≠ gsOff ∧
      (dev (grouped)).rd (rcU 0) Reg.RC.G_MM_MUTE 3 = 0 ∧ (dev (grouped)).rd (rcU 0) Reg.RC.G_OPEN_SHORT 3 = 0 ∧ (dev (grouped)).dt ≤ 0 ∧
      ((dev (grouped)).grp 0 3).tune = none ∧ (dev (grouped)).ticksAt (0x50000 + grpKey 0 3) = 0) := by decide +kernel

/-! #### Housekeeping and the Thermal Monitor -/

/-- The pass timer runs every 100 µs, and urgent slot 3 asks after the Send of group 3, which started at 0. -/
def converting : List Upd := grouped [fld HA Reg.HA.TMR_EN 1, fld HA Reg.HA.TMR_US 100, fld HA Reg.HA.U_SRC 2 3, fld HA Reg.HA.U_GRP 3 3,
  fld HA Reg.HA.SEQ_LEN 1] { sentAt := some 0 }

theorem test_met_ConversionsAreAskedFor :
    ((st converting).runs ∧ (dev converting).base.counting = true ∧ (dev converting).dt ≤ 49152 ∧ (dev converting).mode ≠ .cold ∧
      49152 % 49152 = 0 ∧ (dev converting).ticksAt 7 ≤ 49152 ∧ (dev converting).rd HA Reg.HA.TMR_EN ≠ 0 ∧ (dev converting).rd HA Reg.HA.TMR_US = 100 ∧
      49152 = passTime 100 (49152 * 100 / (100 * 49152)) ∧ (dev converting).ticksAt 8 ≤ 49152) ∧
    ((dev converting).rd HA Reg.HA.U_SRC 3 = 2 ∧ (dev converting).rd HA Reg.HA.U_SS 3 = 0 ∧ (dev converting).rd HA Reg.HA.U_GRP 3 = 3 ∧
      (dev converting).grpOn 0 3 = true ∧ ((dev converting).grp 0 3).sentAt = some 0 ∧
      (dev converting).dt ≤ 0 + dtOfUs ((dev converting).rd (rcU 0) Reg.RC.G_DET_SETTLE 3) ∧ (dev converting).ticksAt (0x60000 + 3) ≤ 0) ∧
    ((dev converting).judgeWrite HA 0x10C 15 15 { mode := decide (15 % 16 ≠ 0) && (dev converting).modeIn [.cold, .kindling] } = none ∧
      (dev []).judgeWrite HA 0x10C 15 15 { mode := decide (15 % 16 ≠ 0) && (dev []).modeIn [.cold, .kindling] } ≠ none) ∧
    ((dev []).mode = .cold ∧ 1 % 49152 ≠ 0 ∧ (dev []).rd HA Reg.HA.TMR_EN = 0 ∧ (dev []).rd HA Reg.HA.U_SRC 3 ≠ 2 ∧
      ((dev converting).grp 0 3).sentAt.all (· < (dev (converting ++ [.ticks (0x60000 + 3) 1])).ticksAt (0x60000 + 3)) = true) ∧
    ((dev converting).rd HA Reg.HA.PASS_RUN = 0 ∧ (dev converting).rd HA Reg.HA.SEQ_LEN ≠ 0 ∧
      (dev [fld HA Reg.HA.PASS_RUN 1]).rd HA Reg.HA.PASS_RUN ≠ 0 ∧ (dev [.hk { ovrAt := some 0 }]).hk.ovrAt = some (dev [.hk { ovrAt := some 0 }]).dt) := by
  decide +kernel

theorem test_met_ConversionsEnd :
    ((st [.hk { cur := some (.sweep 15) }]).runs ∧ (dev [.hk { cur := some (.sweep 15) }]).base.counting = true ∧
      (dev [.hk { cur := some (.sweep 15) }]).hk.cur = some (.sweep 15) ∧ (dev [.hk { cur := some (.entry 63) }]).hk.cur = some (.entry 63) ∧
      (dev [.hk { cur := some (.urgent 3 true) }]).hk.cur = some (.urgent 3 true) ∧
      (dev []).hk.cur = none ∧ (dev [.base {}]).base.counting = false) ∧
    ((([] : List (Nat × Nat)) ++ [(0, 0)]).length < 2 ^ (dev [fld HA Reg.HA.ENT_AVG 1 63]).rd HA Reg.HA.ENT_AVG 63 ∧
      2 ^ (dev []).rd HA Reg.HA.ENT_AVG 63 ≤ (([] : List (Nat × Nat)) ++ [(0, 0)]).length) ∧
    (63 < 64 ∧ 62 + 1 < (dev [fld HA Reg.HA.SEQ_LEN 64]).rd HA Reg.HA.SEQ_LEN ∧ (dev [fld HA Reg.HA.SEQ_LEN 64]).rd HA Reg.HA.SEQ_LEN ≤ 63 + 1) ∧
    (5 < 6 ∧ (dev []).rd HA Reg.HA.VREF_FAULT = 0 ∧ (dev []).mc.boDroop = none ∧ (dev []).rd MC Reg.MC.EMBER_SUPPLY = 0 ∧
      ((dev []).rd HA Reg.HA.SUP_DROOP).testBit 5 = false ∧ ((dev []).rd HA Reg.HA.SUP_FAIL).testBit 5 = false) := by decide +kernel

theorem test_met_ThermalEvents :
    ((st [inMode .banked]).runs ∧ (dev [inMode .banked]).base.counting = true ∧ (dev [inMode .banked]).dt ≤ 49152000 * 5 ∧ (dev [inMode .banked]).mode ≠ .cold ∧
      (dev [inMode .banked]).ticksAt 11 ≤ 49152000 * 5 ∧ (true || false) = true ∧ (false || false) = false) ∧
    ((dev []).mode = .cold ∧ 1 % 49152000 ≠ 0 ∧ 1 % 61440 ≠ 0 ∧ (dev []).deadline (.dwell 7 3) = none ∧ (dev []).deadline .fallHold = none) ∧
    ((dev [tim (.dwell 7 3) 9]).deadline (.dwell 7 3) = some 9 ∧ (dev [tim .fallHold 9]).deadline .fallHold = some 9) ∧
    (49152000 * 5 % 49152000 = 0 ∧ (dev []).ticksAt 9 ≤ 49152000 * 5 ∧ 49152000 * 5 % 61440 = 0 ∧ (dev []).ticksAt 10 ≤ 49152000 * 5) ∧
    ((dev [fld TM Reg.TM.N_RISE_EN 1 7, fld TM Reg.TM.N_NB_HOT 50 7]).rd TM Reg.TM.N_RISE_EN 7 ≠ 0 ∧
      (dev [fld TM Reg.TM.N_RISE_EN 1 7, fld TM Reg.TM.N_NB_HOT 50 7]).nbHot 7 = some 50 ∧
      (((dev [.nbhd 7 { hist := List.replicate 10 (some 40) }]).nbhdAt 7).hist[9]?).join = some 40 ∧
      10 * ((dev [fld TM Reg.TM.N_RISE_LIM 1 7]).rd TM Reg.TM.N_RISE_LIM 7 : Int) ≤ 50 - 40 ∧
      (50 - 41 : Int) < 10 * (dev [fld TM Reg.TM.N_RISE_LIM 1 7]).rd TM Reg.TM.N_RISE_LIM 7) := by decide +kernel

theorem test_met_FallHoldKeepsTheLevel :
    (31 < 32 ∧ (dev [fld TM Reg.TM.LEVEL 1, .sensor 31 { wasHot := true }]).sensorFailed 31 = false ∧
      (decide (1 ≤ (dev [fld TM Reg.TM.LEVEL 1, .sensor 31 { wasHot := true }]).rd TM Reg.TM.LEVEL) &&
        ((dev [fld TM Reg.TM.LEVEL 1, .sensor 31 { wasHot := true }]).sensorAt 31).wasHot) = true ∧
      (decide (1 ≤ (dev []).rd TM Reg.TM.LEVEL) && ((dev []).sensorAt 31).wasHot) = false) ∧
    (dev [fld TM Reg.TM.FALL_HOLD 1]).rd TM Reg.TM.FALL_HOLD ≠ 0 := by decide +kernel


/-! ### Single commands on small states -/

/-- The block after a command, where that answers a next state. -/
def after (i : Instr) (s : State) : Dev :=
  match exec i s with
  | .next t => t.dev
  | _ => s.dev

-- R505: below 0.66 V or 1.55 V counts as PORST_N asserted
theorem test_supply_loss_core : (after (.supplyLossDetect 659 1800) (st [fld MC Reg.MC.MODE 3])).porst = true := by decide +kernel
theorem test_supply_loss_limits : (after (.supplyLossDetect 660 1550) (st [])).porst = false := by decide +kernel

-- R80, R90: RESET_N brings Cold with cause 0x02
theorem test_reset_n : (after (.resetNAssert 1000) (st [inMode .carry])).mode = .cold ∧
    (after (.resetNAssert 1000) (st [inMode .carry])).rd MC Reg.MC.CAUSE = 2 := by decide +kernel

-- R20, R507: 250.68 MHz is the upper edge of the 245.76 MHz window
theorem test_root_lock_classes : ((after (.rootLock 250680) (st [])).rd CK Reg.CK.ROOT_LOCK,
    (after (.rootLock 250681) (st [])).rd CK Reg.CK.ROOT_LOCK) = (1, 0) := by decide +kernel

-- R33: DT_LO latches the high half
theorem test_dt_lo_read : (after .dtLoRead (st [.advance 0x500000007])).rd TB Reg.TB.DT_HI = 5 ∧
    (after .dtLoRead (st [.advance 0x500000007])).out = [.readData TB 0x100 7] := by decide +kernel

-- R49: UNMAPPED_WR saturates at 32 bits
theorem test_unmapped_write : (after (.unmappedWrite 0 0x01000000) (st [fld HP Reg.HP.UNMAPPED_WR 0xFFFFFFFF])).rd HP Reg.HP.UNMAPPED_WR =
    0xFFFFFFFF := by decide +kernel

-- R55: a divisor written with 0 is rejected and keeps its value
theorem test_zero_divisor : (after (.registerWrite HA 0x108 0xFFFFFFFF 7) (st [])).rd HA Reg.HA.TMR_US = (st []).dev.rd HA Reg.HA.TMR_US ∧
    (after (.registerWrite HA 0x108 0xFFFFFFFF 7) (st [])).rd HA Reg.HDR.WRITE_REJECT = 1 := by decide +kernel

-- R59: CNT_CLEAR zeroes the counters, not FLR_CNT (R374: cleared by reset only)
theorem test_cnt_clear : (after (.cntClear HP 1 15) (st [fld HP Reg.HP.DOWN_CNT 9, fld HP Reg.HP.FLR_CNT 9])).rd HP Reg.HP.DOWN_CNT = 0 ∧
    (after (.cntClear HP 1 15) (st [fld HP Reg.HP.DOWN_CNT 9, fld HP Reg.HP.FLR_CNT 9])).rd HP Reg.HP.FLR_CNT = 9 := by decide +kernel

-- R80, R87: Carry to Banked at a host's request; Kindling is not to be had from Carry (result 2)
theorem test_mode_request : ((modeRequest 5 []).run (cst [inMode .carry] 0x08 [2]).dev).mode = .banked := by decide +kernel
theorem test_mode_request_illegal : ((modeRequest 5 []).run (cst [inMode .carry] 0x08 [1]).dev).rd MC Reg.MC.REQ_RESULT = 2 ∧
    ((modeRequest 5 []).run (cst [inMode .carry] 0x08 [1]).dev).mode = .carry := by decide +kernel

-- R87: the profile's refusal (6) comes before the links' and SYSREF's
theorem test_mode_request_order : ((modeRequest 5 []).run (cst [inMode .banked] 0x08 [4]).dev).rd MC Reg.MC.REQ_RESULT = 6 := by
  decide +kernel

-- R151: upward by 0.01 dB a step
theorem test_gain_slew : ((slewUp 0x300).run (dev (cellRuns [fld 0x300 Reg.BC.G_TARGET 6, fld 0x300 Reg.BC.G_APPLIED 4]))).gApplied 0x300 = some 5 := by
  decide +kernel

-- R368: a tap's consumer count is what the host wrote
theorem test_tap_consumer : (after (.tapConsumerDoorbell 15 0x80) (st [fld HP Reg.HP.TAP_STATE 1 15, fld HP Reg.HP.TAP_PROD 0x100 15])).rd HP
    Reg.HP.TAP_CONS 15 = 0x80 := by decide +kernel

-- R29, the spec's worked example: edges at 993,859 and 1,000,003, SYSREF_PERIOD 6,144
theorem test_sysref_aligns :
    let d := (sysrefEdge 1000003 4).run ((sysrefEdge 993859 4).run (dev [fld CK Reg.CK.ROOT_LOCK 1, fld TB Reg.TB.SYSREF_PERIOD 6144,
      fld TB Reg.TB.ALIGN_ARMED 1]))
    (d.dt, d.rd TB Reg.TB.ALIGNED) = (1001472, 1) ∧ ((sysrefEdge 1007616 4).run d).rd TB Reg.TB.PHASE_ERR = 0 ∧
      ((sysrefEdge 1007617 4).run d).rd TB Reg.TB.PHASE_ERR = 1 := by decide +kernel

-- R47, R48: SS2.BC17 and CS.CK
theorem test_unit_addresses : bcU 2 17 = 0x4311 ∧ CK = 0xF700 ∧ unitOfBar0 (0x00471000 + 0x024) = bcU 2 17 := by decide

/-- SS0.BC5 of the worked example of R130: SS0.RXL1 and SS0.TXL2, S20, K = 32. -/
def bc5 : List Upd := [fld 0x101 Reg.RXL.FORMAT 1, fld 0x101 Reg.RXL.K_M1 31, fld 0x101 Reg.RXL.MF_DELAY 1, fld 0x101 Reg.RXL.RBD 8,
  fld 0x101 Reg.RXL.ADC_LAT 180, fld 0x202 Reg.TXL.FORMAT 1, fld 0x202 Reg.TXL.K_M1 31, fld 0x202 Reg.TXL.DAC_LAT 150,
  fld 0x305 Reg.BC.RXL 1, fld 0x305 Reg.BC.CB 2, fld 0x305 Reg.BC.CELL_RATE 2]

-- R101, R103, R130: the values of the worked examples
theorem test_path_delays : ((dev bc5).pathDt 0x101, (dev bc5).pathDt 0x202) = (260, 174) := by decide +kernel
theorem test_latencies : ((dev bc5).rxChain 0x305, (dev bc5).txChain 0x305, (dev bc5).cellLatency 0x305, (dev bc5).pathLatency 0x305) =
    (121, 495, 776, 1106) := by decide +kernel

-- R369, the spec's worked example: a stream tap, a tap on a cell at 122.88 MSPS, and the limits of x64 and x32
theorem test_tap_rates : ((dev bc5).rateOf 0x101 1, (dev bc5).rateOf 0x305 0) = (3940, 523) ∧
    ((dev [fld HP Reg.HP.LINK_UP 1, fld HP Reg.HP.WIDTH 64, fld HP Reg.HP.SPEED 16]).tapLimit,
      (dev [fld HP Reg.HP.LINK_UP 1, fld HP Reg.HP.WIDTH 32, fld HP Reg.HP.SPEED 16]).tapLimit) = (96000, 48000) := by decide +kernel

/-- SS0.AG0 (DONOR) and SS0.AG1 (SERVICE) of the worked example of R251, at a frame mark at 0. -/
def nrPattern : List Upd :=
  [fld (sdU 0) Reg.SD.K_OTA_DT 4916, fld (rcU 0) Reg.RC.G_SERVICE 1 1, fld (rcU 0) Reg.RC.G_LAT_DT 1106 1] ++
    [(0, 0, 2, 0, 912896), (0, 1, 1, 947968, 280832), (1, 0, 1, 0, 912896), (1, 1, 2, 947968, 280832)].flatMap fun x =>
      [fld (rcU 0) Reg.RC.T_KIND x.2.2.1 x.1 x.2.1, fld (rcU 0) Reg.RC.T_START x.2.2.2.1 x.1 x.2.1,
        fld (rcU 0) Reg.RC.T_LEN x.2.2.2.2 x.1 x.2.1]

-- R250, R251: when the worked example's groups listen and send
theorem test_tdd_spans : ((dev nrPattern).entrySpan 0 0 0 0).2 = 917812 ∧ ((dev nrPattern).entrySpan 0 0 1 0).1 = 943052 ∧
    (dev nrPattern).entrySpan 0 1 0 0 = (6022, 918918) ∧ ((dev nrPattern).entrySpan 0 1 1 0).1 = 941946 := by decide +kernel

-- R263, the spec's example: a window from S = 1,000,000, the synthesiser ready 20 µs later, SUB_DT 24,576, SETTLE_BUDGET 200 µs
theorem test_held_boundary :
    (dev [fld (rcU 0) Reg.RC.SYN_EN 1 2, fld (rcU 0) Reg.RC.SYN_GRP_MAP 2 2, fld (rcU 0) Reg.RC.SYN_SETTLE_BUDGET 200 2,
      fld (rcU 0) Reg.RC.G_SUB_DT 24576 1]).boundary 0 1 1000000 1912896 (1000000 + dtOfUs 20) = some 1024576 := by decide +kernel

-- R261: a synthesiser that loses its lock is not ready
theorem test_loss : (after (.ldLoss 0 7) (st (tuned [] { locked := true }))).rd (rcU 0) Reg.RC.SYN_READY 7 = 0 := by decide +kernel

-- R27: one tick
theorem test_empty_queue : (match step (st [.advance 41]) with | .next t => t.dev.dt | _ => 0) = 42 := by decide +kernel

-- R214, by hand: ten levels of -40.00 dB sum to -30.00 dB; 10·log10 2 = 3.0103 is rounded up
theorem test_level_sums : levelSumUp 1 (List.replicate 10 (1, -4000)) = some (-3000) ∧ levelSumUp 1 [(1, -20000), (1, -20000)] = some (-19698) := by
  decide +kernel

end Sys2Proof.Tests
end

namespace Sys2Proof.Machine

/-! ### What every command keeps -/

/-- What a reset leaves has only empty tables, but for the OTP. -/
theorem fresh_canonical {d : Dev} (h : d.otp.canon 0) : d.fresh.canonical := by
  simp [Dev.fresh, Dev.canonical, Bank.sorted, h]

theorem cutBurn_canonical {d : Dev} (h : d.canonical) : (cutBurn.run d).otp.canon 0 := by
  obtain ⟨-, -, -, hotp, -⟩ := run_keeps apply_canonical cutBurn d h
  exact hotp

theorem porstReset_canonical {d : Dev} (h : d.canonical) : d.porstReset.canonical :=
  fresh_canonical (cutBurn_canonical h)

/-- RESET_N keeps some registers beside what every reset leaves. -/
theorem resetReset_canonical {d : Dev} (h : d.canonical) : d.resetReset.canonical := by
  obtain ⟨-, hfresh⟩ := fresh_canonical (cutBurn_canonical h)
  exact ⟨Bank.put_sorted (Bank.keep_sorted h.1 identityKey) Reg.MC.CAUSE.rst (Reg.MC.CAUSE.at MC).key 0x02, hfresh⟩

/-- The one case analysis over the commands: what every update keeps, what the pins and the variant record have no part in, and what
a reset keeps where the command is one, every command keeps. -/
theorem exec_keeps {P : Dev → Prop} {i : Instr} {s t : State} (hupd : ∀ d u, P d → P (d.apply u))
    (hpins : ∀ (d : Dev) (p r : Bool) (v : Variant), P d → P { d with porst := p, resetn := r, variant := v })
    (hreset : i.isReset = true → ∀ d, P d → P d.porstReset ∧ P d.resetReset)
    (h : exec i s = .next t) (hs : P s.dev) : P t.dev := by
  have script (p : Script) (d : Dev) : P d → P (p.run d) := run_keeps hupd p d
  have pulse (ns : Nat) (r : Dev → Dev) (hr : 200 ≤ ns → ∀ d, P d → P (r d)) : P (onPulse ns r s.dev) := by
    have drawn : P { s.dev with drawn := s.dev.drawn + 1 } := hupd s.dev .draw hs
    unfold onPulse
    by_cases h200 : ns < 200
    · simpa [h200] using hs
    · have hr := hr (Nat.le_of_not_lt h200)
      simp only [h200, if_false]
      split
      · split
        · exact hr _ drawn
        · exact drawn
      · exact hr _ hs
  by_cases hact : i.actsInReset = false
  · obtain ⟨p, hp⟩ := exec_is_script i hact
    obtain rfl : _ = t := Host.Outcome.next.inj ((hp s).symm.trans h)
    dsimp only
    split
    · exact hs
    · exact script p _ hs
  cases i <;> try exact absurd rfl hact
  case porstNAssert ns =>
    obtain rfl : _ = t := Host.Outcome.next.inj h
    exact pulse ns _ fun h200 d hd => (hreset (by simpa [Instr.isReset] using h200) d hd).1
  case resetNAssert ns =>
    obtain rfl : _ = t := Host.Outcome.next.inj h
    refine pulse ns _ fun h200 d hd => ?_
    unfold resetNAssert
    split
    · exact hpins d d.porst true d.variant hd
    · exact (hreset (by simpa [Instr.isReset] using h200) d hd).2
  case supplyLossDetect coreMv ioMv =>
    obtain rfl : _ = t := Host.Outcome.next.inj h
    dsimp only
    split
    · rename_i hlow
      exact (hreset (by simpa [Instr.isReset] using hlow) _ hs).1
    · exact hs
  case porstNDeassert auto =>
    obtain rfl : _ = t := Host.Outcome.next.inj h
    dsimp only [porstNDeassert]
    split
    · exact script _ _ (hpins s.dev false s.dev.resetn s.dev.readVariant hs)
    · exact hs
  case resetNDeassert auto =>
    obtain rfl : _ = t := Host.Outcome.next.inj h
    have released := hpins s.dev s.dev.porst false s.dev.variant hs
    dsimp only [resetNDeassert]
    split
    · split
      · exact released
      · exact script _ _ released
    · exact hs
  case identityDerivationDone seed =>
    obtain rfl : _ = t := Host.Outcome.next.inj h
    dsimp only
    split
    · exact hs
    · exact script _ _ hs

/-- What every update keeps, one dt of Device Time keeps. -/
theorem tick_keeps {P : Dev → Prop} (hupd : ∀ d u, P d → P (d.apply u)) (d : Dev) (hd : P d) : P d.tick := by
  unfold Dev.tick
  split
  · exact hd
  · exact run_keeps hupd _ d hd

/-- A step is one dt or one command: what both keep, a step keeps. -/
theorem step_keeps {P : Dev → Prop} {s t : State} (hupd : ∀ d u, P d → P (d.apply u))
    (hpins : ∀ (d : Dev) (p r : Bool) (v : Variant), P d → P { d with porst := p, resetn := r, variant := v })
    (hreset : ∀ c rest, s.pending = c :: rest → c.isReset = true → ∀ d, P d → P d.porstReset ∧ P d.resetReset)
    (h : step s = .next t) (hs : P s.dev) : P t.dev := by
  cases hq : s.pending with
  | nil =>
    simp only [step, hq] at h
    obtain rfl : _ = t := Host.Outcome.next.inj h
    exact tick_keeps hupd _ hs
  | cons c rest =>
    simp only [step, hq] at h
    exact exec_keeps hupd hpins (hreset c rest hq) h hs

/-! ### Fuses through a reset -/

/-- A reset cuts a burn off and keeps the OTP: a fused bit stays fused (R324). -/
theorem reset_keeps_fuse (d : Dev) (a i : Nat) (h : (d.otp.get 0 a).testBit i = true) :
    (d.porstReset.otp.get 0 a).testBit i = true ∧ (d.resetReset.otp.get 0 a).testBit i = true :=
  have hcut := run_keeps (P := fun e => (e.otp.get 0 a).testBit i = true) (fun e u => apply_otp_mono e u a i) cutBurn d h
  ⟨hcut, hcut⟩

/-! ### The soundness of every state -/

/-- Settles O5: the tables are empty but for the OTP's five bytes. -/
theorem resetMeetsInvariant : Obligations.ResetMeetsInvariant := by
  unfold Obligations.ResetMeetsInvariant
  have hotp : Bank.canon otpReset 0 := by simp [otpReset, Bank.canon, Bank.sorted]
  refine ⟨?_, Nat.zero_le _⟩
  simp [State.reset, Dev.canonical, Bank.sorted, hotp]

/-- Settles O6: every update keeps the tables canonical and Device Time within its counter, and a reset empties the tables. -/
theorem stepKeepsInvariant : Obligations.StepKeepsInvariant := by
  unfold Obligations.StepKeepsInvariant
  intro s t hs h
  refine step_keeps (P := fun d => d.canonical ∧ d.timeOk) ?upd ?pins ?reset h hs
  case upd => exact fun d u hd => ⟨apply_canonical d u hd.1, apply_timeOk d u hd.2⟩
  case pins => exact fun d _ _ _ hd => hd
  case reset =>
    exact fun _ _ _ _ d hd => ⟨⟨porstReset_canonical hd.1, Nat.zero_le _⟩, ⟨resetReset_canonical hd.1, Nat.zero_le _⟩⟩

/-- Settles O7: no update takes Device Time back or clears a fused bit, and a reset, which is excluded for the first, keeps the OTP. -/
theorem timeAndFusesNeverGoBack : Obligations.TimeAndFusesNeverGoBack := by
  unfold Obligations.TimeAndFusesNeverGoBack
  constructor
  · intro s t hs h hnr
    refine (step_keeps (P := fun d => s.dev.dt ≤ d.dt ∧ d.timeOk) ?upd ?pins ?reset h ⟨Nat.le_refl _, hs⟩).1
    case upd => exact fun d u hd => ⟨Nat.le_trans hd.1 (apply_dt_le d u hd.2), apply_timeOk d u hd.2⟩
    case pins => exact fun d _ _ _ hd => hd
    case reset =>
      intro c rest hq hr
      simp [hnr c rest hq] at hr
  · intro s t a i hs h
    refine step_keeps (P := fun d => (d.otp.get 0 a).testBit i = true) ?upd ?pins ?reset h hs
    case upd => exact fun d u => apply_otp_mono d u a i
    case pins => exact fun d _ _ _ hd => hd
    case reset => exact fun _ _ _ _ d => reset_keeps_fuse d a i

end Sys2Proof.Machine

namespace Sys2Proof.Machine

/-! ### What a script leaves alone -/

/-- The script leaves `f` of every block as it was. -/
def Keeps {α : Type} (f : Dev → α) (p : Script) : Prop := ∀ d, f (p.run d) = f d

section
variable {α : Type} {f : Dev → α}

theorem keeps_skip : Keeps f skip := fun _ => rfl

theorem keeps_andThen {p q : Script} (hp : Keeps f p) (hq : Keeps f q) : Keeps f (andThen p q) := fun d => by
  rw [run_andThen, hq, hp]

theorem keeps_seqs {ps : List Script} (h : ∀ p ∈ ps, Keeps f p) : Keeps f (seqs ps) := by
  induction ps with
  | nil => exact keeps_skip
  | cons p ps ih => exact keeps_andThen (h p (List.mem_cons_self ..)) (ih fun q hq => h q (List.mem_cons_of_mem _ hq))

theorem keeps_forEach {β : Type} {xs : List β} {g : β → Script} (h : ∀ x, Keeps f (g x)) : Keeps f (forEach xs g) :=
  keeps_seqs fun p hp => by
    obtain ⟨x, -, rfl⟩ := List.mem_map.mp hp
    exact h x

theorem keeps_withDev {k : Dev → Script} (h : ∀ d, Keeps f (k d)) : Keeps f (withDev k) := fun d => h d d

theorem keeps_when {c : Bool} {p : Script} (h : Keeps f p) : Keeps f (when c p) := by
  cases c
  · exact keeps_skip
  · exact h

theorem keeps_ite {c : Prop} [Decidable c] {p q : Script} (hp : Keeps f p) (hq : Keeps f q) :
    Keeps f (if c then p else q) := by
  split <;> assumption

end

/-! ### Scripts that leave Device Time alone -/

@[simp] theorem put_keeps_clock (u : Nat) (f : Fld) (v i j : Nat) : Keeps Dev.clock (put u f v i j) := fun _ => rfl
@[simp] theorem putB_keeps_clock (u : Nat) (f : Fld) (b : Bool) (i j : Nat) : Keeps Dev.clock (putB u f b i j) := fun _ => rfl
@[simp] theorem emit_keeps_clock (o : Output) : Keeps Dev.clock (emit o) := fun _ => rfl
@[simp] theorem modLink_keeps_clock (k : Nat) (g : Link → Link) : Keeps Dev.clock (modLink k g) := fun _ => rfl
@[simp] theorem startTimerAt_keeps_clock (t : Timer) (n : Nat) : Keeps Dev.clock (startTimerAt t n) := fun _ => rfl

@[simp] theorem setLinkState_keeps_clock (u v : Nat) : Keeps Dev.clock (setLinkState u v) :=
  keeps_ite (put_keeps_clock _ _ _ _ _) (put_keeps_clock _ _ _ _ _)

theorem putPathValid_keeps_clock (u : Nat) (b : Bool) : Keeps Dev.clock (putPathValid u b) :=
  keeps_ite (putB_keeps_clock _ _ _ _ _) (putB_keeps_clock _ _ _ _ _)

theorem enterData_keeps_clock (u t : Nat) : Keeps Dev.clock (enterData u t) := by
  refine keeps_withDev fun d => keeps_seqs ?_
  simp [keeps_ite, keeps_seqs, putPathValid_keeps_clock]

theorem refreshTxLinks_keeps_clock : Keeps Dev.clock refreshTxLinks := by
  refine keeps_withDev fun d => keeps_forEach fun u => ?_
  cases (d.linkAt u).ilasAt with
  | none => exact keeps_skip
  | some b =>
    have sent : Keeps Dev.clock (forEach (List.range (formatLanes (d.fmt u))) fun j => emit (.ilasSent u j b (d.ilasChars u j))) :=
      keeps_forEach fun j => emit_keeps_clock _
    refine keeps_seqs ?_
    simp [keeps_when, keeps_seqs, sent, enterData_keeps_clock]

theorem showTimers_keeps_clock : Keeps Dev.clock showTimers := by
  refine keeps_withDev fun d => keeps_seqs ?_
  simp

theorem refreshPins_keeps_clock : Keeps Dev.clock refreshPins :=
  keeps_withDev fun _ => keeps_forEach fun _ => keeps_forEach fun _ => keeps_when (putB_keeps_clock _ _ _ _ _)

/-- The clock after one dt is the clock after the tick's first script: what follows Device Time leaves it alone. -/
theorem tick_clock {d : Dev} (hrun : d.held = false) (hcount : d.base.counting = true) :
    d.tick.clock = ((if d.base.rootFailed then coarseTo (d.base.rcCycles + 1) else upd (.advance 1)).run d).clock := by
  simp only [Dev.tick, hrun, hcount, Bool.not_true, Bool.or_self, Bool.false_eq_true, if_false, run_seqs_cons, run_seqs_nil,
    refreshTxLinks_keeps_clock _, showTimers_keeps_clock _, refreshPins_keeps_clock _]

/-- The cycles that the Time Base counts have no part in how Device Time is reached. -/
theorem coarseTo_clock (n : Nat) (d : Dev) : ((coarseTo n).run d).clock = (d.reach (d.coarseDt n)).clock := by
  simp only [coarseTo, run_withDev, run_seqs_cons, run_seqs_nil, run_modBase, run_reach]
  unfold Dev.reach advanceTo Script.run
  by_cases hcount : d.base.counting = true <;> by_cases hlt : d.dt < d.coarseDt n <;> simp [Dev.apply, hcount, hlt]

/-- Settles O2: a tick that runs makes one dt, or one RC cycle while the root is failed. -/
theorem emptyQueueTicks : Obligations.EmptyQueueTicks := by
  unfold Obligations.EmptyQueueTicks
  intro s hq
  have hstep : step s = .next { s with dev := s.dev.tick } := by simp [step, hq]
  refine ⟨fun hidle => ?_, fun hrun hcount => ⟨_, hstep, hq, fun hroot => ?_, fun hroot => ?_⟩⟩
  · have htick : s.dev.tick = s.dev := by
      unfold Dev.tick
      rcases hidle with h | h <;> simp [h]
    rw [hstep, htick]
  · simp [Dev.dt, tick_clock hrun hcount, hroot, Dev.apply, Clock.advance]
  · simp [Dev.dt, tick_clock hrun hcount, hroot, coarseTo_clock]

end Sys2Proof.Machine

namespace Sys2Proof.Machine

/-! ### Register fields after updates -/

/-- Two fields of one unit stand at different keys when they differ in offset or lowest bit. -/
theorem regKey_ne_of_field {u off off' lo lo' : Nat} (h : off * 32 + lo ≠ off' * 32 + lo') : regKey u off lo ≠ regKey u off' lo' := by
  intro he
  have he : (u * 0x8000 + off) * 32 + lo = (u * 0x8000 + off') * 32 + lo' := he
  omega

theorem rd_reg_field_ne (d : Dev) {u i j i' j' : Nat} {f g : Fld} (v : Nat)
    (h : (f.off + f.stride * i + f.stride2 * j) * 32 + f.lo ≠ (g.off + g.stride * i' + g.stride2 * j') * 32 + g.lo) :
    (d.apply (.reg (g.at u i' j') v)).rd u f i j = d.rd u f i j :=
  rd_reg_ne d v (regKey_ne_of_field h)

/-- Two fields at one place of a unit differ in offset or lowest bit. -/
theorem rd_reg_sibling (d : Dev) {u i j : Nat} {f g : Fld} (v : Nat) (hs : f.stride = g.stride) (hs2 : f.stride2 = g.stride2)
    (h : f.off * 32 + f.lo ≠ g.off * 32 + g.lo) : (d.apply (.reg (g.at u i j) v)).rd u f i j = d.rd u f i j :=
  rd_reg_field_ne d v (by rw [hs, hs2]; omega)

@[simp] theorem b2n_true : b2n true = 1 := rfl
@[simp] theorem b2n_false : b2n false = 0 := rfl

/-- A truth value fits any field. -/
theorem b2n_mod (b : Bool) {n : Nat} (hn : 0 < n) : b2n b % 2 ^ n = b2n b := by
  refine Nat.mod_eq_of_lt (Nat.lt_of_le_of_lt ?_ (Nat.one_lt_two_pow (Nat.ne_of_gt hn)))
  cases b <;> decide

@[simp] theorem rd_emit (d : Dev) (o : Output) (u : Nat) (f : Fld) (i j : Nat) : (d.apply (.emit o)).rd u f i j = d.rd u f i j := rfl
@[simp] theorem rd_base (d : Dev) (b : TimeBase) (u : Nat) (f : Fld) (i j : Nat) : (d.apply (.base b)).rd u f i j = d.rd u f i j := rfl

@[simp] theorem apply_emit_out (d : Dev) (o : Output) : (d.apply (.emit o)).out = o :: d.out := rfl

/-! ### What stays the same -/

@[simp] theorem sameRegs_refl (d : Dev) (rs : List Ref) : SameRegs d d rs := fun _ _ => rfl

/-- A longer list allows more. -/
theorem SameRegs.mono {d d' : Dev} {rs qs : List Ref} (h : SameRegs d d' rs) (hsub : ∀ r, r ∈ rs → r ∈ qs) : SameRegs d d' qs :=
  fun q hq => h q fun r hr => hq r (hsub r hr)

/-- A write of a listed field is one more change that the list allows. -/
@[simp] theorem sameRegs_reg {d d' : Dev} {rs : List Ref} {r : Ref} (hr : r ∈ rs) (v : Nat) :
    SameRegs d (d'.apply (.reg r v)) rs ↔ SameRegs d d' rs :=
  forall₂_congr fun _ hx => by rw [get_reg_ne d' v (hx r hr).symm]

/-- What leaves the register file leaves every field. -/
theorem sameRegs_of_regs {d d' d'' : Dev} {rs : List Ref} (hregs : d''.regs = d'.regs) : SameRegs d d'' rs ↔ SameRegs d d' rs :=
  forall₂_congr fun r _ => by rw [get_of_regs hregs r]

@[simp] theorem sameRegs_emit {d d' : Dev} {rs : List Ref} (o : Output) : SameRegs d (d'.apply (.emit o)) rs ↔ SameRegs d d' rs :=
  sameRegs_of_regs rfl
@[simp] theorem sameRegs_base {d d' : Dev} {rs : List Ref} (b : TimeBase) : SameRegs d (d'.apply (.base b)) rs ↔ SameRegs d d' rs :=
  sameRegs_of_regs rfl

@[simp] theorem onlyRegs_refl (d : Dev) (rs : List Ref) : OnlyRegs d d rs := ⟨sameRegs_refl d rs, rfl⟩

/-- A write of a listed field changes nothing beside the list. -/
@[simp] theorem onlyRegs_reg {d d' : Dev} {rs : List Ref} {r : Ref} (hr : r ∈ rs) (v : Nat) :
    OnlyRegs d (d'.apply (.reg r v)) rs ↔ OnlyRegs d d' rs := by
  refine and_congr (sameRegs_reg hr v) ⟨fun h => ?_, fun h => ?_⟩
  · calc d' = { d'.apply (.reg r v) with regs := d'.regs } := rfl
      _ = { d with regs := d'.regs } := by rw [h]
  · calc d'.apply (.reg r v) = { d' with regs := (d'.apply (.reg r v)).regs } := rfl
      _ = { d with regs := (d'.apply (.reg r v)).regs } := by rw [h]

/-- A change of the Time Base after changes of fields. -/
theorem OnlyRegs.apply_base {d d' : Dev} {rs : List Ref} (h : OnlyRegs d d' rs) (b : TimeBase) :
    d'.apply (.base b) = { d with regs := d'.regs, base := b } := by
  rw [h.2]
  rfl

/-- The same as one frame: the fields and the Time Base. -/
theorem OnlyRegs.base {d d' : Dev} {rs : List Ref} (h : OnlyRegs d d' rs) (b : TimeBase) :
    OnlyRegs { d with base := b } (d'.apply (.base b)) rs :=
  ⟨h.1, h.apply_base b⟩

/-! ### Commands that do not settle -/

/-- A command that runs a script and nothing after it. -/
theorem yields_of {i : Instr} {s : State} {P : Dev → Prop} {p : Script} (he : exec i s = perform p s) (h : s.runs)
    (hP : P (p.run s.dev)) : Yields i s P :=
  ⟨_, he.trans (perform_runs p h), hP⟩

/-! ### Reads that latch a snapshot -/

/-- Settles O12: five fields take the parts of one clock, each by its own write. -/
theorem deviceTimeRead : Obligations.DeviceTimeRead := by
  unfold Obligations.DeviceTimeRead
  intro s h
  refine yields_of (p := readTime) rfl h ?_
  simp only [readTime, run_withDev, run_seqs_cons, run_seqs_nil, run_put, run_emit, List.map_cons, List.map_nil]
  refine ⟨?lo, ?hi, ?ns, ?sec, ?epoch, rfl, ?same, rfl⟩
  case same => simp
  all_goals simp (disch := decide) only [rd_emit, rd_reg_ne, rd_reg_same]
  case lo => exact Nat.mod_mod ..
  all_goals rfl

/-! ### A pair whose high half is narrower than its value -/

/-- A block out of reset whose next sequence number is 2 ^ 48: one bit above the 16 of NEXT_SEQ_HI. -/
def seqPastField : State := { dev := { porst := false, wide := [((Reg.EV.NEXT_SEQ_LO.at EV).key, 2 ^ 48)] } }

/-- What the read of NEXT_SEQ_LO latches there. -/
theorem nextSeqLoRead_seqPastField : exec .nextSeqLoRead seqPastField =
    .next { seqPastField with dev := (latchPair EV Reg.EV.NEXT_SEQ_LO Reg.EV.NEXT_SEQ_HI).run seqPastField.dev } := rfl

/-- Refutes O11: NEXT_SEQ_HI holds 16 bits of the high half and not 32, so of a live value of 2 ^ 48 it latches 0. -/
theorem not_latchedReads : ¬ Obligations.LatchedReads := by
  unfold Obligations.LatchedReads
  intro h
  obtain ⟨-, -, -, -, hnext, -⟩ := h.1 seqPastField rfl
  obtain ⟨d, hexec, -, hhi, -⟩ := hnext
  obtain rfl : _ = d := congrArg State.dev (Host.Outcome.next.inj (nextSeqLoRead_seqPastField.symm.trans hexec))
  exact absurd hhi (by decide)

end Sys2Proof.Machine

namespace Sys2Proof.Machine

/-! ### Lists of writes -/

section
variable {β : Type} {r : β → Ref} {v : β → Nat} {xs : List β}

/-- Writes of fields change the register file alone. -/
theorem run_forEach_reg (r : β → Ref) (v : β → Nat) (xs : List β) (d : Dev) :
    (forEach xs fun x => upd (.reg (r x) (v x))).run d =
      { d with regs := ((forEach xs fun x => upd (.reg (r x) (v x))).run d).regs } := by
  induction xs generalizing d with
  | nil => rfl
  | cons x xs ih =>
    simp only [run_forEach_cons, run_upd]
    rw [ih]
    rfl

/-- A field that no write names stays. -/
theorem get_forEach_reg_ne {q : Ref} (h : ∀ x ∈ xs, q.key ≠ (r x).key) (d : Dev) :
    ((forEach xs fun x => upd (.reg (r x) (v x))).run d).get q = d.get q := by
  induction xs generalizing d with
  | nil => rfl
  | cons x xs ih =>
    simp only [run_forEach_cons, run_upd]
    rw [ih fun y hy => h y (List.mem_cons_of_mem _ hy), get_reg_ne _ _ (h x (List.mem_cons_self ..))]

/-- A field that one write of several names takes that write's value. -/
theorem get_forEach_reg_of_mem (hd : xs.Pairwise fun x y => (r x).key ≠ (r y).key) {x : β} (hx : x ∈ xs) (d : Dev) :
    ((forEach xs fun x => upd (.reg (r x) (v x))).run d).get (r x) = v x % 2 ^ (r x).width := by
  induction xs generalizing d with
  | nil => cases hx
  | cons y ys ih =>
    obtain ⟨hy, hys⟩ := List.pairwise_cons.mp hd
    simp only [run_forEach_cons, run_upd]
    obtain rfl | hx := List.mem_cons.mp hx
    · rw [get_forEach_reg_ne hy, get_reg_same]
    · exact ih hys hx _

/-- Writes of listed fields are changes that the list allows. -/
theorem sameRegs_forEach_reg {d d' : Dev} {rs : List Ref} (h : ∀ x ∈ xs, r x ∈ rs) (hd : SameRegs d d' rs) :
    SameRegs d ((forEach xs fun x => upd (.reg (r x) (v x))).run d') rs := fun q hq =>
  (get_forEach_reg_ne (fun x hx => (hq _ (h x hx)).symm) d').trans (hd q hq)

end

/-! ### Counters that saturate -/

/-- A saturated count fits its field. -/
theorem min_field_mod (w n : Nat) : min (2 ^ w - 1) n % 2 ^ w = min (2 ^ w - 1) n := by
  have hpos : 0 < 2 ^ w := Nat.two_pow_pos w
  exact Nat.mod_eq_of_lt (by omega)

/-- Counting one in a counter that saturates. -/
theorem rd_inc (d : Dev) (u i : Nat) (f : Fld) : ((inc u f i).run d).rd u f i = min (2 ^ f.width - 1) (d.rd u f i + 1) := by
  rw [run_inc, rd_reg_same, min_field_mod]

/-! ### Writes that find no unit -/

/-- The count of unmapped writes moves, and nothing else (R49). -/
theorem unmapped_counts (d : Dev) : Unmapped d (unmapped.run d) :=
  ⟨rd_inc d HP 0 Reg.HP.UNMAPPED_WR, (onlyRegs_reg (List.mem_singleton_self _) _).mpr (onlyRegs_refl d _)⟩

/-- A host write to a unit that the variant does not provide (R38, R49). -/
theorem run_writeReg_absent {u : Nat} (off v be : Nat) (rule : Dev → WriteRule) (after : Script) {d : Dev} (hp : d.present u = false) :
    (writeReg u off v be rule after).run d = unmapped.run d := by
  simp [writeReg, hp]

/-- Settles O14: the write's conditions lead to the one count, and the reads are their definitions' branches. -/
theorem unmappedWritesAreCounted : Obligations.UnmappedWritesAreCounted := by
  unfold Obligations.UnmappedWritesAreCounted
  refine ⟨fun s bar a h hbar => ?_, fun s u off v be h hal hoff hv hown hp => ?_, fun d u off hp hoff => ?_, fun d u => rfl, fun d a => ?_⟩
  · have hcond : (bar == 4 || (bar == 2 && !bar2Mapped a) || (bar == 0 && !s.dev.present (unitOfBar0 a))) = true := by
      simpa [or_assoc] using hbar
    refine yields_of rfl h ?_
    simpa only [run_withDev, hcond, run_when_true] using unmapped_counts s.dev
  · refine does_of (p := registerWrite u off v be) rfl h (unmapped.run s.dev) ?_ (unmapped_counts s.dev)
    simp only [registerWrite, run_withDev, hal, hoff, hv, hown, beq_self_eq_true, decide_true, Bool.not_false, Bool.true_or,
      Bool.and_self, run_when_true, run_writeReg_absent _ _ _ _ _ hp, run_skip]
  · simp [Dev.readWord, hoff, hp]
  · intro u off hnone
    simp only [busRead, run_withDev]
    rw [show latchRead (unitOfBar0 a) (a % 0x1000 / 4 * 4) = none from hnone]
    rfl

end Sys2Proof.Machine

namespace Sys2Proof.Machine

/-! ### Commands of the Clock Root -/

/-- A clock command whose script leads where the named follow-up leads from `d`. -/
theorem does_clock {i : Instr} {s : State} {P : Dev → Prop} {q p : Script} (he : exec i s = performClock p s) (h : s.runs)
    (d : Dev) (hp : showClockCause.run (p.run s.dev) = q.run d) (hP : P d) : Does i s P q :=
  does_of he h d ((run_andThen ..).trans hp) hP

/-- A clock command whose cause is not there. -/
theorem does_clock_skip {i : Instr} {s : State} {p : Script} (he : exec i s = performClock p s) (h : s.runs)
    (hp : p.run s.dev = s.dev) : Does i s (fun d => d = s.dev) showClockCause :=
  does_clock he h s.dev (by rw [hp]) rfl

theorem refClass_lt (khz : Nat) : refClass khz < 4 := by
  unfold refClass
  split
  · decide
  · split <;> decide

theorem is_eq_true {d : Dev} {u i j : Nat} {f : Fld} (h : d.rd u f i j ≠ 0) : d.is u f i j = true := by simp [Dev.is, h]
theorem is_eq_false {d : Dev} {u i j : Nat} {f : Fld} (h : d.rd u f i j = 0) : d.is u f i j = false := by simp [Dev.is, h]

@[simp] theorem sameRegs_reach {d d' : Dev} {rs : List Ref} (t : Nat) : SameRegs d (d'.reach t) rs ↔ SameRegs d d' rs :=
  sameRegs_of_regs (reach_regs d' t)

@[simp] theorem apply_base_base (d : Dev) (b : TimeBase) : (d.apply (.base b)).base = b := rfl
@[simp] theorem apply_base_clock (d : Dev) (b : TimeBase) : (d.apply (.base b)).clock = d.clock := rfl

/-- The RC cycles of a failure move the clock and their own count. -/
theorem coarseTo_eq (n : Nat) (d : Dev) : (coarseTo n).run d =
    { d with clock := (d.reach (d.coarseDt n)).clock, base := { d.base with rcCycles := max d.base.rcCycles n } } := by
  rw [← coarseTo_clock]
  simp only [coarseTo, run_withDev, run_seqs_cons, run_seqs_nil, run_modBase, run_reach]
  rw [reach_eq']
  rfl

theorem coarseTo_rd (n : Nat) (d : Dev) (u i j : Nat) (f : Fld) : ((coarseTo n).run d).rd u f i j = d.rd u f i j := by
  rw [coarseTo_eq]
  rfl

theorem coarseTo_rootFailed (n : Nat) (d : Dev) : ((coarseTo n).run d).base.rootFailed = d.base.rootFailed := by
  rw [coarseTo_eq]

theorem coarseTo_holds (n : Nat) (d : Dev) (u src : Nat) : ((coarseTo n).run d).holds u src = d.holds u src := by
  rw [coarseTo_eq]
  rfl

/-- The fields that a lock of the root writes. -/
def lockFields : List Fld := [Reg.CK.ROOT_LOCK, Reg.CK.REF_FREQ, Reg.CK.REF_PRESENT, Reg.CK.CTRL_ON_RC]

/-- A reference that fits a window of R507: it is classified, and the root locks. -/
theorem lockRoot_fits {khz : Nat} (hfit : refClass khz ≠ 0) (d : Dev) :
    let x := (lockRoot khz).run d
    x.rd CK Reg.CK.ROOT_LOCK = 1 ∧ x.rd CK Reg.CK.REF_FREQ = refClass khz ∧ x.rd CK Reg.CK.REF_PRESENT = 1 ∧
    x.rd CK Reg.CK.CTRL_ON_RC = b2n (d.holds CK 6) ∧
    x = { d with regs := x.regs, base := { d.base with counting := true, rootFailed := false } } ∧
    SameRegs d x (lockFields.map (·.at CK)) := by
  intro x
  obtain ⟨y, hy⟩ : ∃ y, y = (((d.apply (.reg (Reg.CK.REF_FREQ.at CK) (refClass khz))).apply (.reg (Reg.CK.REF_PRESENT.at CK) 1)).apply
    (.reg (Reg.CK.ROOT_LOCK.at CK) 1)).apply (.reg (Reg.CK.CTRL_ON_RC.at CK) (b2n (d.holds CK 6))) := ⟨_, rfl⟩
  have honly : OnlyRegs d y (lockFields.map (·.at CK)) := by simp [hy, lockFields]
  have hx : x = y.apply (.base { d.base with counting := true, rootFailed := false }) := by
    simp [x, hy, lockRoot, bne_iff_ne.mpr hfit]
  refine ⟨?_, ?_, ?_, ?_, ?_, ?_⟩
  · simp (disch := decide) only [hx, hy, rd_base, rd_reg_ne, rd_reg_same]; rfl
  · simp (disch := decide) only [hx, hy, rd_base, rd_reg_ne, rd_reg_same]; exact Nat.mod_eq_of_lt (refClass_lt khz)
  · simp (disch := decide) only [hx, hy, rd_base, rd_reg_ne, rd_reg_same]; rfl
  · simp (disch := decide) only [hx, hy, rd_base, rd_reg_same, b2n_mod]
  · rw [hx, honly.apply_base]
  · rw [hx, sameRegs_base]; exact honly.1

/-- A reference that fits neither: REF_FREQ shows that. -/
theorem run_lockRoot_misfits {khz : Nat} (hfit : refClass khz = 0) (d : Dev) : (lockRoot khz).run d =
    (d.apply (.reg (Reg.CK.REF_FREQ.at CK) 0)).apply (.reg (Reg.CK.REF_PRESENT.at CK) 0) := by
  simp [lockRoot, hfit]

/-- What a root failure shows of the root itself (R20, R24). -/
def markRootLost (khz : Nat) : Script := seqs [
  putB CK Reg.CK.ROOT_LOCK false, putB CK Reg.CK.ROOT_LOST true, putB CK Reg.CK.CTRL_ON_RC true,
  putB CK Reg.CK.REF_PRESENT (refClass khz != 0), when (refClass khz == 0) (put CK Reg.CK.REF_FREQ 0), inc CK Reg.CK.ROOT_FAIL]

/-- The fields that show the root itself. -/
def rootFields : List Fld :=
  [Reg.CK.ROOT_LOCK, Reg.CK.ROOT_LOST, Reg.CK.CTRL_ON_RC, Reg.CK.REF_PRESENT, Reg.CK.REF_FREQ, Reg.CK.ROOT_FAIL]

/-- The fields of a lost root: `x` after the root of `d` failed. -/
def RootShownLost (khz : Nat) (d x : Dev) : Prop :=
  x.rd CK Reg.CK.ROOT_LOCK = 0 ∧ x.rd CK Reg.CK.ROOT_LOST = 1 ∧ x.rd CK Reg.CK.CTRL_ON_RC = 1 ∧
  x.rd CK Reg.CK.REF_PRESENT = b2n (refClass khz != 0) ∧
  x.rd CK Reg.CK.REF_FREQ = (if refClass khz = 0 then 0 else d.rd CK Reg.CK.REF_FREQ) ∧
  x.rd CK Reg.CK.ROOT_FAIL = min 65535 (d.rd CK Reg.CK.ROOT_FAIL + 1)

theorem markRootLost_shows (khz : Nat) (d : Dev) :
    RootShownLost khz d ((markRootLost khz).run d) ∧ OnlyRegs d ((markRootLost khz).run d) (rootFields.map (·.at CK)) := by
  simp only [markRootLost, run_seqs_cons, run_seqs_nil, run_putB, run_when, run_put, run_inc, beq_iff_eq]
  by_cases hfit : refClass khz = 0
  all_goals
    simp only [RootShownLost, hfit, if_true, if_false]
    refine ⟨⟨?_, ?_, ?_, ?_, ?_, ?_⟩, by simp [rootFields]⟩
    all_goals simp (disch := decide) only [rd_reg_ne, rd_reg_same, b2n_mod, min_field_mod]
    all_goals rfl

/-- The root's own fields decide how a lost root shows. -/
theorem RootShownLost.congr {khz : Nat} {d e x y : Dev} (h : RootShownLost khz d x) (hd : d.regs = e.regs)
    (hy : ∀ f ∈ rootFields, y.rd CK f = x.rd CK f) : RootShownLost khz e y := by
  simp only [rootFields, List.forall_mem_cons] at hy
  obtain ⟨h1, h2, h3, h4, h5, h6, -⟩ := hy
  simpa only [RootShownLost, h1, h2, h3, h4, h5, h6, rd_of_regs hd] using h

/-- The GOOD bits stand at keys of their own, apart from the fields that show the root. -/
theorem goodBits_distinct : goodBits.Pairwise fun f g => (f.at CK).key ≠ (g.at CK).key := by decide
theorem rootFields_not_base : ∀ f ∈ rootFields, ∀ g ∈ [Reg.TB.DT_COARSE, Reg.TB.ALIGNED, Reg.TB.ALIGN_ARMED],
    (f.at CK).key ≠ (g.at TB).key := by decide
theorem goodBits_not_base : ∀ f ∈ goodBits, ∀ g ∈ [Reg.TB.DT_COARSE, Reg.TB.ALIGNED, Reg.TB.ALIGN_ARMED],
    (f.at CK).key ≠ (g.at TB).key := by decide
theorem rootFields_not_good : ∀ f ∈ rootFields, ∀ g ∈ goodBits, (f.at CK).key ≠ (g.at CK).key := by decide

/-- Every divided clock's GOOD bit clears. -/
def clearGood : Script := forEach goodBits fun f => putB CK f false

theorem clearGood_eq (d : Dev) : clearGood.run d = (forEach goodBits fun f => upd (.reg (f.at CK) (b2n false))).run d := rfl

theorem clearGood_frame (d : Dev) : clearGood.run d = { d with regs := (clearGood.run d).regs } := by
  rw [clearGood_eq]
  exact run_forEach_reg ..

theorem clearGood_rd_good {f : Fld} (hf : f ∈ goodBits) (d : Dev) : (clearGood.run d).rd CK f = 0 := by
  rw [clearGood_eq]
  exact get_forEach_reg_of_mem goodBits_distinct hf d

theorem clearGood_rd_root {f : Fld} (hf : f ∈ rootFields) (d : Dev) : (clearGood.run d).rd CK f = d.rd CK f := by
  rw [clearGood_eq]
  exact get_forEach_reg_ne (rootFields_not_good f hf) d

/-- What a root failure shows in the Time Base and the registers before its sources are raised (R20, R24, R30, R99). -/
def showRootFailure (t khz : Nat) : Script := seqs [
  advanceTo t, markRootLost khz, clearGood,
  withDev fun e => modBase fun b => { b with rootFailed := true, prevEdge := none, failDt := e.dt, rcCycles := 0 },
  putB TB Reg.TB.DT_COARSE true, putB TB Reg.TB.ALIGNED false, putB TB Reg.TB.ALIGN_ARMED false]

/-- What the Time Base keeps of the failure is its own time. -/
theorem run_showRootFailure (t khz : Nat) (d : Dev) : (showRootFailure t khz).run d =
    ((((clearGood.run ((markRootLost khz).run (d.reach t))).apply (.base { d.base with
      rootFailed := true, prevEdge := none, failDt := (d.reach t).dt, rcCycles := 0 })).apply
      (.reg (Reg.TB.DT_COARSE.at TB) 1)).apply (.reg (Reg.TB.ALIGNED.at TB) 0)).apply (.reg (Reg.TB.ALIGN_ARMED.at TB) 0) := by
  have hframe : clearGood.run ((markRootLost khz).run (d.reach t)) =
      { d.reach t with regs := (clearGood.run ((markRootLost khz).run (d.reach t))).regs } := by
    rw [clearGood_frame, (markRootLost_shows khz (d.reach t)).2.2]
  simp only [showRootFailure, run_seqs_cons, run_seqs_nil, run_withDev, run_modBase, run_putB, run_reach, b2n_true, b2n_false]
  rw [hframe, reach_base]

theorem showRootFailure_shows (t khz : Nat) (d : Dev) :
    let x := (showRootFailure t khz).run d
    RootShownLost khz d x ∧ (∀ f ∈ goodBits, x.rd CK f = 0) ∧ x.rd TB Reg.TB.DT_COARSE = 1 ∧ x.rd TB Reg.TB.ALIGNED = 0 ∧
    x.rd TB Reg.TB.ALIGN_ARMED = 0 ∧ x.clock = (d.reach t).clock ∧
    x.base = { d.base with rootFailed := true, prevEdge := none, failDt := (d.reach t).dt, rcCycles := 0 } ∧
    SameRegs d x (rootFields.map (·.at CK) ++ goodBits.map (·.at CK) ++
      [Reg.TB.DT_COARSE, Reg.TB.ALIGNED, Reg.TB.ALIGN_ARMED].map (·.at TB)) := by
  intro x
  have hx : x = _ := run_showRootFailure t khz d
  have hck {f : Fld} (hf : ∀ g ∈ [Reg.TB.DT_COARSE, Reg.TB.ALIGNED, Reg.TB.ALIGN_ARMED], (f.at CK).key ≠ (g.at TB).key) :
      x.rd CK f = (clearGood.run ((markRootLost khz).run (d.reach t))).rd CK f := by
    simp only [List.forall_mem_cons] at hf
    rw [hx, rd_reg_ne _ _ hf.2.2.1, rd_reg_ne _ _ hf.2.1, rd_reg_ne _ _ hf.1, rd_base]
  obtain ⟨hroot, hsame, hdev⟩ := markRootLost_shows khz (d.reach t)
  refine ⟨hroot.congr (reach_regs d t) fun f hf => ?_, fun f hf => ?_, ?_, ?_, ?_, ?_, ?_, ?_⟩
  · rw [hck (rootFields_not_base f hf), clearGood_rd_root hf]
  · rw [hck (goodBits_not_base f hf), clearGood_rd_good hf]
  · rw [hx, rd_reg_ne _ _ (by decide), rd_reg_ne _ _ (by decide), rd_reg_same]; rfl
  · rw [hx, rd_reg_ne _ _ (by decide), rd_reg_same]; rfl
  · rw [hx, rd_reg_same]; rfl
  · rw [hx]; simp only [reg_clock, apply_base_clock]; rw [clearGood_frame, hdev]
  · rw [hx]; simp only [reg_base, apply_base_base]
  · have hmark : SameRegs d ((markRootLost khz).run (d.reach t)) (rootFields.map (·.at CK)) := fun q hq =>
      (hsame q hq).trans (get_of_regs (reach_regs d t) q)
    have hgood := sameRegs_forEach_reg (r := fun f : Fld => f.at CK) (v := fun _ => b2n false) (xs := goodBits)
      (rs := rootFields.map (·.at CK) ++ goodBits.map (·.at CK)) (fun f hf => List.mem_append_right _ (List.mem_map_of_mem hf))
      (hmark.mono fun _ => List.mem_append_left _)
    rw [hx, clearGood_eq]
    simpa using SameRegs.mono hgood fun _ => List.mem_append_left [Reg.TB.DT_COARSE.at TB, Reg.TB.ALIGNED.at TB, Reg.TB.ALIGN_ARMED.at TB]

/-- What follows of a root failure that takes place. -/
theorem run_rootFailure {d : Dev} {t count khz : Nat} {lostLock : Bool} (hlock : d.rd CK Reg.CK.ROOT_LOCK = 1)
    (hcause : lostLock = true ∨ rootTrips count = true) : (rootFailure t lostLock count khz).run d =
      (seqs [condStart CK 0 0 devScope [], condStart TB 1 0 noScope [], waitAlign,
        when (d.mode != .cold) (modMc fun m => { m with awaitSync := true })]).run ((showRootFailure t khz).run d) := by
  have hcond : (d.is CK Reg.CK.ROOT_LOCK && (lostLock || rootTrips count)) = true := by
    rw [is_eq_true (by rw [hlock]; decide), Bool.true_and, Bool.or_eq_true]
    exact hcause
  simp only [rootFailure, run_withDev, hcond, run_when_true, showRootFailure, markRootLost, clearGood, run_seqs_cons,
    run_seqs_nil]

/-- Settles O17: each command's registers are one block of writes, and what follows it is the script's remainder. -/
theorem rootFailsAndRelocks : Obligations.RootFailsAndRelocks := by
  unfold Obligations.RootFailsAndRelocks
  refine ⟨fun s khz h => ⟨fun hlock hfail hfit => ?lock, fun hlock hfail hfit => ?misfit, fun hno => ?noLock⟩,
    fun s t count khz lostLock h => ⟨fun hlock hcause => ?failure, fun hno => ?noFailure⟩,
    fun s cycles khz h => ⟨fun hfail hfit => ?relock, fun hfail hfit => ?misfitAgain, fun hfail => ?noRelock⟩⟩
  case lock =>
    refine does_clock (p := rootLock khz) rfl h _ rfl ?_
    have hrun : (rootLock khz).run s.dev = (lockRoot khz).run s.dev := by simp [rootLock, is_eq_false hlock, hfail]
    rw [hrun]
    exact lockRoot_fits hfit s.dev
  case misfit =>
    refine does_clock (p := rootLock khz) rfl h _ rfl ?_
    have hrun : (rootLock khz).run s.dev = (lockRoot khz).run s.dev := by simp [rootLock, is_eq_false hlock, hfail]
    rw [hrun, run_lockRoot_misfits hfit]
    refine ⟨?_, ?_, ?_, by simp⟩
    all_goals simp (disch := decide) only [rd_reg_ne, rd_reg_same, hlock, Nat.zero_mod]
  case noLock =>
    refine does_clock_skip (p := rootLock khz) rfl h ?_
    have hcond : (!s.dev.is CK Reg.CK.ROOT_LOCK && !s.dev.base.rootFailed) = false := by
      rcases hno with hlock | hfail
      · simp [is_eq_true hlock]
      · simp [hfail]
    simp [rootLock, hcond]
  case failure =>
    refine does_clock (p := rootFailure t lostLock count khz) rfl h ((showRootFailure t khz).run s.dev) ?_ ?_
    · rw [run_rootFailure hlock hcause]
      simp only [run_seqs_cons, run_seqs_nil]
    · obtain ⟨⟨hlock', hlost, hrc, hpres, hfreq, hcnt⟩, hgood, hrest⟩ := showRootFailure_shows t khz s.dev
      exact ⟨hlock', hlost, hrc, hpres, hfreq, hcnt, hgood, hrest⟩
  case noFailure =>
    refine does_clock_skip (p := rootFailure t lostLock count khz) rfl h ?_
    have hcond : (s.dev.is CK Reg.CK.ROOT_LOCK && (lostLock || rootTrips count)) = false := by
      rcases hno with hlock | ⟨hlost, htrips⟩
      · simp [is_eq_false hlock]
      · simp [hlost, htrips]
    simp [rootFailure, hcond]
  case relock =>
    have hrun : (rootRelock cycles khz).run s.dev = (seqs [condEnd CK 0 0, condEnd TB 1 0,
        if s.dev.mode = .cold then modMc fun m => { m with awaitSync := false } else armAlignment true]).run
        ((lockRoot khz).run ((coarseTo cycles).run s.dev)) := by
      simp only [rootRelock, run_withDev, hfail, run_when_true, run_seqs_cons, run_seqs_nil, bne_iff_ne.mpr hfit]
    refine does_clock (p := rootRelock cycles khz) rfl h ((lockRoot khz).run ((coarseTo cycles).run s.dev)) ?_ ?_
    · rw [hrun]
      simp only [run_seqs_cons, run_seqs_nil]
    · obtain ⟨hlock, hfreq, hpres, hrc, hx, -⟩ := lockRoot_fits hfit ((coarseTo cycles).run s.dev)
      rw [coarseTo_holds] at hrc
      refine ⟨hlock, hfreq, hpres, hrc, ?_, ?_, ?_⟩
      · rw [hx]
      · rw [hx]
      · rw [hx, coarseTo_clock]
  case misfitAgain =>
    refine does_clock (p := rootRelock cycles khz) rfl h _ rfl ?_
    have hrun : (rootRelock cycles khz).run s.dev = (lockRoot khz).run ((coarseTo cycles).run s.dev) := by
      simp [rootRelock, hfail, hfit]
    rw [hrun, run_lockRoot_misfits hfit]
    refine ⟨?_, ?_, ?_, (coarseTo_rootFailed ..).trans hfail, coarseTo_clock cycles s.dev⟩
    all_goals simp (disch := decide) only [rd_reg_ne, rd_reg_same, Nat.zero_mod, coarseTo_rd]
  case noRelock =>
    exact does_clock_skip (p := rootRelock cycles khz) rfl h (by simp [rootRelock, hfail])

end Sys2Proof.Machine

namespace Sys2Proof.Machine

/-! ### Monitor windows -/

/-- Taking a set bit out clears it. -/
theorem testBit_sub_two_pow {b i : Nat} (hb : b.testBit i = true) : (b - 2 ^ i).testBit i = false := by
  have h : (2 ^ i + (b - 2 ^ i)).testBit i = !(b - 2 ^ i).testBit i := Nat.testBit_two_pow_add_eq _ _
  rw [Nat.add_sub_cancel' (Nat.ge_two_pow_of_testBit hb), hb] at h
  simpa using h.symm

/-- Putting a clear bit in sets it. -/
theorem testBit_add_two_pow {b i : Nat} (hb : b.testBit i = false) : (b + 2 ^ i).testBit i = true := by
  rw [Nat.add_comm, Nat.testBit_two_pow_add_eq, hb, Bool.not_false]

/-- The GOOD bit of clock `i`. -/
theorem goodBit_mem {i : Nat} (hi : i < 8) : goodBits.getD i Reg.CK.HK ∈ goodBits := by
  rw [List.getD_eq_getElem?_getD, List.getElem?_eq_getElem (l := goodBits) hi]
  exact List.getElem_mem _

/-- A GOOD bit is one bit, apart from the other fields that a failing window writes. -/
theorem goodBits_apart : ∀ f ∈ goodBits, f.width = 1 ∧ (∀ g ∈ [Reg.CK.FAILED, Reg.CK.CLK_FAIL, Reg.CK.CTRL_ON_RC],
    (f.at CK).key ≠ (g.at CK).key ∧ (g.at CK).key ≠ (f.at CK).key) := by decide

/-- What a passing window writes before the condition ends: the GOOD bit, and the end of a failure. -/
def passWindow (i : Nat) : Script := withDev fun d => seqs [
  putB CK (goodBits.getD i Reg.CK.HK) true,
  when (d.base.bad.testBit i) (modBase fun b => { b with bad := b.bad - 2 ^ i })]

theorem run_clockWindow_passes {i n e : Nat} (hw : windowOk n e = true) (d : Dev) : (clockWindow i n e).run d =
    (seqs [condEnd CK (i + 1) 0, when (i == 5) (putB CK Reg.CK.CTRL_ON_RC false)]).run ((passWindow i).run d) := by
  rw [clockWindow, passWindow, run_withDev, run_withDev, if_pos hw]
  simp only [run_seqs_cons, run_seqs_nil]

theorem passWindow_shows {i : Nat} (hi : i < 8) (d : Dev) : let x := (passWindow i).run d
    x.rd CK (goodBits.getD i Reg.CK.HK) = 1 ∧ OnlyRegs { d with base := x.base } x [(goodBits.getD i Reg.CK.HK).at CK] ∧
    x.base.bad.testBit i = false := by
  obtain ⟨hwidth, -⟩ := goodBits_apart _ (goodBit_mem hi)
  intro x
  obtain ⟨y, hy⟩ : ∃ y, y = d.apply (.reg ((goodBits.getD i Reg.CK.HK).at CK) 1) := ⟨_, rfl⟩
  have hgood : y.rd CK (goodBits.getD i Reg.CK.HK) = 1 := by
    rw [hy, rd_reg_same]
    exact congrArg (1 % 2 ^ ·) hwidth
  have honly : OnlyRegs d y [(goodBits.getD i Reg.CK.HK).at CK] := by
    rw [hy, onlyRegs_reg (List.mem_singleton_self _)]
    exact onlyRegs_refl d _
  have hbase : y.base = d.base := by rw [honly.2]
  cases hbad : d.base.bad.testBit i with
  | false =>
    have hx : x = y := by
      simp only [x, passWindow, run_withDev, run_seqs_cons, run_seqs_nil, run_putB, b2n_true, ← hy, hbad, run_when_false]
    rw [hx]
    refine ⟨hgood, ?_, by rw [hbase, hbad]⟩
    rw [hbase]
    exact honly
  | true =>
    have hx : x = y.apply (.base { d.base with bad := d.base.bad - 2 ^ i }) := by
      simp only [x, passWindow, run_withDev, run_seqs_cons, run_seqs_nil, run_putB, b2n_true, ← hy, hbad, run_when_true, run_modBase,
        hbase]
    refine ⟨by rw [hx, rd_base, hgood], ?_, ?_⟩
    · rw [hx, apply_base_base]
      exact honly.base _
    · rw [hx, apply_base_base]
      exact testBit_sub_two_pow hbad

/-- What a failing window writes before the control domain reacts: the GOOD bit, FAILED, and the count of an onset. -/
def failWindow (i : Nat) : Script := withDev fun d => seqs [
  putB CK (goodBits.getD i Reg.CK.HK) false, put CK Reg.CK.FAILED (d.rd CK Reg.CK.FAILED ||| 2 ^ i),
  when (!d.base.bad.testBit i) (seqs [inc CK Reg.CK.CLK_FAIL, modBase fun b => { b with bad := b.bad + 2 ^ i }])]

theorem run_clockWindow_fails {i n e : Nat} (hw : windowOk n e = false) (d : Dev) : (clockWindow i n e).run d =
    (when (i == 5) (putB CK Reg.CK.CTRL_ON_RC true)).run ((failWindow i).run d) := by
  simp [clockWindow, failWindow, hw]

/-- The fields that a failing window of clock `i` writes. -/
def failFields (i : Nat) : List Fld := [goodBits.getD i Reg.CK.HK, Reg.CK.FAILED, Reg.CK.CLK_FAIL, Reg.CK.CTRL_ON_RC]

theorem failWindow_shows {i : Nat} (hi : i < 8) (d : Dev) : let x := (failWindow i).run d
    x.rd CK (goodBits.getD i Reg.CK.HK) = 0 ∧ (x.rd CK Reg.CK.FAILED).testBit i = true ∧
    x.rd CK Reg.CK.CLK_FAIL = (if d.base.bad.testBit i then d.rd CK Reg.CK.CLK_FAIL else min 65535 (d.rd CK Reg.CK.CLK_FAIL + 1)) ∧
    x.rd CK Reg.CK.CTRL_ON_RC = d.rd CK Reg.CK.CTRL_ON_RC ∧
    OnlyRegs { d with base := x.base } x ((failFields i).map (·.at CK)) ∧ x.base.bad.testBit i = true := by
  obtain ⟨-, hapart⟩ := goodBits_apart _ (goodBit_mem hi)
  simp only [List.forall_mem_cons] at hapart
  obtain ⟨⟨hfailed, hfailed'⟩, ⟨hcnt, hcnt'⟩, ⟨-, hrc'⟩, -⟩ := hapart
  intro x
  obtain ⟨y, hy⟩ : ∃ y, y = (d.apply (.reg ((goodBits.getD i Reg.CK.HK).at CK) 0)).apply
    (.reg (Reg.CK.FAILED.at CK) (d.rd CK Reg.CK.FAILED ||| 2 ^ i)) := ⟨_, rfl⟩
  have hgood : y.rd CK (goodBits.getD i Reg.CK.HK) = 0 := by
    rw [hy, rd_reg_ne _ _ hfailed, rd_reg_same, Nat.zero_mod]
  have hbit : (y.rd CK Reg.CK.FAILED).testBit i = true := by
    rw [hy, rd_reg_same, Nat.testBit_mod_two_pow, Nat.testBit_or, Nat.testBit_two_pow_self, Bool.or_true, Bool.and_true]
    exact decide_eq_true hi
  have hcount : y.rd CK Reg.CK.CLK_FAIL = d.rd CK Reg.CK.CLK_FAIL := by
    rw [hy, rd_reg_ne _ _ (by decide), rd_reg_ne _ _ hcnt']
  have hrc : y.rd CK Reg.CK.CTRL_ON_RC = d.rd CK Reg.CK.CTRL_ON_RC := by
    rw [hy, rd_reg_ne _ _ (by decide), rd_reg_ne _ _ hrc']
  have honly : OnlyRegs d y ((failFields i).map (·.at CK)) := by simp [hy, failFields]
  have hbase : y.base = d.base := by rw [honly.2]
  cases hbad : d.base.bad.testBit i with
  | false =>
    have hx : x = (y.apply (.reg (Reg.CK.CLK_FAIL.at CK) (min (2 ^ Reg.CK.CLK_FAIL.width - 1) (d.rd CK Reg.CK.CLK_FAIL + 1)))).apply
        (.base { d.base with bad := d.base.bad + 2 ^ i }) := by
      simp only [x, failWindow, run_withDev, run_seqs_cons, run_seqs_nil, run_putB, run_put, b2n_false, ← hy, hbad, Bool.not_false,
        run_when_true, run_inc, run_modBase, reg_base, hcount, hbase]
    have hxbase : x.base = { d.base with bad := d.base.bad + 2 ^ i } := by rw [hx, apply_base_base]
    refine ⟨?_, ?_, ?_, ?_, ?_, ?_⟩
    · rw [hx, rd_base, rd_reg_ne _ _ hcnt, hgood]
    · rw [hx, rd_base, rd_reg_ne _ _ (by decide), hbit]
    · rw [hx, rd_base, rd_reg_same, min_field_mod]; rfl
    · rw [hx, rd_base, rd_reg_ne _ _ (by decide), hrc]
    · rw [hxbase, hx]
      exact OnlyRegs.base ((onlyRegs_reg (by simp [failFields]) _).mpr honly) _
    · rw [hxbase]
      exact testBit_add_two_pow hbad
  | true =>
    have hx : x = y := by simp only [x, failWindow, run_withDev, run_seqs_cons, run_seqs_nil, run_putB, run_put, b2n_false, ← hy, hbad, Bool.not_true,
      run_when_false]
    rw [hx]
    refine ⟨hgood, hbit, hcount, hrc, ?_, by rw [hbase, hbad]⟩
    rw [hbase]
    exact honly

/-- Settles O18: a window's verdict decides its writes, and a monitor's end is its script's own steps. -/
theorem clocksAreMonitored : Obligations.ClocksAreMonitored := by
  unfold Obligations.ClocksAreMonitored
  refine ⟨fun d i n e hi => ⟨fun hw => ?passes, fun hw => ?fails⟩, fun s t freq counts h => ⟨fun hlock => ⟨?monitor, ?measure⟩, ?expected, fun hlock => ⟨?noMonitor, ?noMeasure⟩⟩⟩
  case passes =>
    obtain ⟨hgood, honly, hbad⟩ := passWindow_shows hi d
    exact ⟨_, run_clockWindow_passes (decide_eq_true hw) d, hgood, honly.1, honly.2, fun _ => hbad⟩
  case fails =>
    obtain ⟨hgood, hfailed, hcnt, hrc, honly, hbad⟩ := failWindow_shows hi d
    intro d'
    have hd' : d' = _ := run_clockWindow_fails (decide_eq_false hw) d
    by_cases h5 : i = 5
    · have hd' : d' = ((failWindow i).run d).apply (.reg (Reg.CK.CTRL_ON_RC.at CK) 1) := by simp [hd', h5]
      obtain ⟨-, hapart⟩ := goodBits_apart _ (goodBit_mem hi)
      simp only [List.forall_mem_cons] at hapart
      have honly' : OnlyRegs { d with base := d'.base } d' ((failFields i).map (·.at CK)) := by
        rw [hd', reg_base]
        exact (onlyRegs_reg (by simp [failFields]) _).mpr honly
      refine ⟨?_, ?_, ?_, ?_, honly'.1, honly'.2, ?_⟩
      · rw [hd', rd_reg_ne _ _ hapart.2.2.1.1, hgood]
      · rw [hd', rd_reg_ne _ _ (by decide), hfailed]
      · rw [hd', rd_reg_ne _ _ (by decide), hcnt]
      · rw [hd', rd_reg_same, if_pos h5]; rfl
      · rw [hd', reg_base, hbad]
    · have hd' : d' = (failWindow i).run d := by rw [hd', beq_eq_false_iff_ne.mpr h5, run_when_false]
      rw [hd', if_neg h5]
      exact ⟨hgood, hfailed, hcnt, hrc, honly.1, honly.2, hbad⟩
  case monitor =>
    have hrun : (clockMonitor t counts).run s.dev = (seqs [forEach (counts.zip s.dev.expected).zipIdx fun x => clockWindow x.2 x.1.1 x.1.2,
        inOneCycle CK (((counts.zip s.dev.expected).zipIdx.filter fun x => !windowOk x.1.1 x.1.2 && s.dev.clockUsed x.2).map fun x =>
          (x.2 + 1, condStart CK (x.2 + 1) 0 devScope []))]).run (s.dev.reach t) := by
      simp only [clockMonitor, run_withDev, is_eq_true (show s.dev.rd CK Reg.CK.ROOT_LOCK ≠ 0 by rw [hlock]; decide), run_when_true,
        run_seqs_cons, run_seqs_nil, run_reach]
    refine does_clock (p := clockMonitor t counts) rfl h (s.dev.reach t) ?_ rfl
    rw [hrun]
    simp only [run_seqs_cons, run_seqs_nil]
  case measure =>
    refine does_of (p := rcMeasure t freq) rfl h ((s.dev.reach t).apply (.reg (Reg.CK.RC_FREQ.at CK) freq)) ?_ ⟨rd_reg_same .., by simp⟩
    simp only [rcMeasure, run_withDev, is_eq_true (show s.dev.rd CK Reg.CK.ROOT_LOCK ≠ 0 by rw [hlock]; decide), run_when_true,
        run_seqs_cons, run_seqs_nil, run_reach, run_put, run_skip]
  case expected =>
    simp only [Dev.expected, Dev.is, bne_iff_ne]
  case noMonitor =>
    refine does_clock_skip (p := clockMonitor t counts) rfl h ?_
    simp [clockMonitor, is_eq_false hlock]
  case noMeasure =>
    refine does_of (p := rcMeasure t freq) rfl h s.dev ?_ rfl
    simp [rcMeasure, is_eq_false hlock]

end Sys2Proof.Machine

namespace Sys2Proof.Machine

/-! ### Rejected writes -/

/-- A rejected write counts, and shows its cause and offset where none was shown (R54, R60). -/
theorem rejectWrite_rejects (d : Dev) (u : Nat) {off cause : Nat} (hoff : off < 2 ^ 12) (hcause : cause < 2 ^ 4) :
    Rejected d ((rejectWrite u off cause).run d) u off cause := by
  have hrun : (rejectWrite u off cause).run d = (inc u Reg.HDR.REJECT_CNT).run ((putB u Reg.HDR.WRITE_REJECT true).run
      ((when (!d.is u Reg.HDR.WRITE_REJECT) (seqs [put u Reg.HDR.REJECT_CAUSE cause, put u Reg.HDR.REJECT_OFFSET off])).run d)) := by
    simp [rejectWrite]
  rw [hrun]
  by_cases hset : d.rd u Reg.HDR.WRITE_REJECT = 0
  · simp only [is_eq_false hset, Bool.not_false, run_when_true, run_seqs_cons, run_seqs_nil, run_put, run_putB, run_inc, b2n_true]
    refine ⟨?_, ?_, fun _ => ⟨?_, ?_⟩, fun h => absurd hset h, by simp⟩
    all_goals simp (disch := decide) only [rd_reg_sibling, rd_reg_same, min_field_mod]
    · rfl
    · rfl
    · exact Nat.mod_eq_of_lt hcause
    · exact Nat.mod_eq_of_lt hoff
  · simp only [is_eq_true hset, Bool.not_true, run_when_false, run_putB, run_inc, b2n_true]
    refine ⟨?_, ?_, fun h => absurd h hset, fun _ => ⟨?_, ?_⟩, by simp⟩
    all_goals simp (disch := decide) only [rd_reg_sibling, rd_reg_same, min_field_mod]
    all_goals rfl

/-! ### Alignment -/

/-- J is below the period. -/
theorem alignJump_lt (t : Nat) {per : Nat} (h : per ≠ 0) : alignJump t per < per := Nat.mod_lt _ (Nat.pos_of_ne_zero h)

/-- J brings a time to the next multiple of the period. -/
theorem add_alignJump_mod (t : Nat) {per : Nat} (h : per ≠ 0) : (t + alignJump t per) % per = 0 := by
  have hlt : t % per < per := Nat.mod_lt _ (Nat.pos_of_ne_zero h)
  rw [alignJump, Nat.add_mod_mod, ← Nat.mod_add_mod, Nat.add_sub_cancel' (Nat.le_of_lt hlt), Nat.mod_self]

/-- The second edge of a pair: Device Time jumps, and alignment is complete before its record is made. -/
theorem run_alignAt (t per : Nat) (d : Dev) : (alignAt t per).run d =
    (seqs [auditRec TB 0x41 (leBytes 8 t ++ leBytes 4 (alignJump t per)), restartAligned]).run
      (((((d.apply (.jump (alignJump t per))).apply (.reg (Reg.TB.ALIGN_JUMP.at TB) (alignJump t per))).apply
        (.reg (Reg.TB.ALIGNED.at TB) 1)).apply (.reg (Reg.TB.ALIGN_ARMED.at TB) 0)).apply
        (.base { d.base with prevEdge := none, relockAlign := false, autoSync := true })) := by
  simp only [alignAt, run_seqs_cons, run_seqs_nil, run_upd, run_put, run_putB, b2n_true, b2n_false, run_modBase, reg_base]
  rfl

/-- Settles O19: an edge is judged by what alignment remembers, and a write of ARM by the mode and by what is armed. -/
theorem alignmentIsArmedAndStamped : Obligations.AlignmentIsArmedAndStamped := by
  unfold Obligations.AlignmentIsArmedAndStamped
  refine ⟨fun d t per hper h0 ht => ⟨alignJump_lt t h0, add_alignJump_mod t h0, fun harm => ?idle, fun harm => ⟨fun ⟨hprev, hle⟩ hmax => ?second, fun hno => ?first⟩⟩,
    fun s t high h => ⟨fun hlock => ?edge, fun hlock => ?noEdge⟩, fun s h => ⟨fun hb hs => ?mode, fun hmode => ⟨fun harm => ?arm, fun harm hre => ?relocking, fun harm hre => ?busy⟩⟩⟩
  case idle =>
    simp [alignEdge, is_eq_false harm]
  case second =>
    have hcond : per ≠ 0 ∧ d.base.prevEdge.any (fun p => decide (p + per = t)) = true := ⟨h0, by simp [hprev, Nat.sub_add_cancel hle]⟩
    have hrun : (alignEdge t).run d = (alignAt t per).run d := by
      simp only [alignEdge, run_withDev, is_eq_true harm, run_when_true, hper, if_pos hcond]
    refine ⟨_, hrun.trans (run_alignAt t per d), rfl, ?_, ?_, ?_, ?_, rfl⟩
    · show min dtMax (d.dt + alignJump t per) = t + alignJump t per
      rw [ht]
      exact Nat.min_eq_right hmax
    all_goals simp (disch := decide) only [rd_base, rd_reg_ne, rd_reg_same]
    all_goals rfl
  case first =>
    have hcond : ¬(per ≠ 0 ∧ d.base.prevEdge.any (fun p => decide (p + per = t)) = true) := by
      cases hprev : d.base.prevEdge with
      | none => simp
      | some p => simp [hno p hprev]
    simp only [alignEdge, run_withDev, is_eq_true harm, run_when_true, hper, if_neg hcond, run_modBase]
    rfl
  case edge =>
    have hset := is_eq_true (show s.dev.rd CK Reg.CK.ROOT_LOCK ≠ 0 by rw [hlock]; decide)
    refine does_clock (p := sysrefEdge t high) rfl h (((s.dev.reach t).apply (.reg (Reg.TB.SYSREF_CNT.at TB)
      (s.dev.rd TB Reg.TB.SYSREF_CNT + 1))).apply (.emit (.sysrefOut (t + 8) high))) ?_ ⟨?_, ?_, rfl, ?_, ?_⟩
    · simp only [sysrefEdge, run_withDev, hset, run_when_true, run_seqs_cons, run_seqs_nil, run_reach, run_incWrap, reach_rd, run_emit]
    · rw [rd_emit, rd_reg_same]
    · rw [apply_emit_out, reg_out, reach_out]
    · simp
    · rw [reach_eq']
      rfl
  case noEdge =>
    exact does_clock_skip (p := sysrefEdge t high) rfl h (by simp [sysrefEdge, is_eq_false hlock])
  case mode =>
    have hmode : s.dev.modeIn [.banked, .service] = false := by simp [Dev.modeIn, hb, hs]
    refine does_of (p := alignArm) rfl h _ ?_ (rejectWrite_rejects s.dev TB (off := 0x11C) (cause := 4) (by decide) (by decide))
    simp [alignArm, hmode]
  case arm =>
    have hmode : s.dev.modeIn [.banked, .service] = true := by rcases hmode with h | h <;> simp [Dev.modeIn, h]
    refine does_of (p := alignArm) rfl h ((armAlignment false).run s.dev) (by simp [alignArm, hmode, is_eq_false harm]) ?_
    simp only [armAlignment, run_seqs_cons, run_seqs_nil, run_putB, run_modBase]
    refine ⟨by rw [rd_base, rd_reg_same]; rfl, rfl, by simp, rfl⟩
  case relocking =>
    have hmode : s.dev.modeIn [.banked, .service] = true := by rcases hmode with h | h <;> simp [Dev.modeIn, h]
    exact does_of (p := alignArm) rfl h s.dev (by simp [alignArm, hmode, is_eq_true harm, hre]) rfl
  case busy =>
    have hmode : s.dev.modeIn [.banked, .service] = true := by rcases hmode with h | h <;> simp [Dev.modeIn, h]
    refine does_of (p := alignArm) rfl h _ ?_ (rejectWrite_rejects s.dev TB (off := 0x11C) (cause := 6) (by decide) (by decide))
    simp [alignArm, hmode, is_eq_true harm, hre]

end Sys2Proof.Machine

namespace Sys2Proof.Machine

/-! ### Scripts that have no part in the Time Base -/

/-- The script neither reads nor changes the Time Base. -/
def IgnoresBase (p : Script) : Prop := ∀ d b, p.run (d.apply (.base b)) = (p.run d).apply (.base b)

theorem ignoresBase_seqs {ps : List Script} (h : ∀ p ∈ ps, IgnoresBase p) : IgnoresBase (seqs ps) := by
  induction ps with
  | nil => exact fun _ _ => rfl
  | cons p ps ih =>
    intro d b
    rw [run_seqs_cons, run_seqs_cons, h p (List.mem_cons_self ..), ih fun q hq => h q (List.mem_cons_of_mem _ hq)]

theorem ignoresBase_forEach {α : Type} {xs : List α} {f : α → Script} (h : ∀ x, IgnoresBase (f x)) : IgnoresBase (forEach xs f) :=
  ignoresBase_seqs fun p hp => by
    obtain ⟨x, -, rfl⟩ := List.mem_map.mp hp
    exact h x

theorem ignoresBase_when {c : Bool} {p : Script} (h : IgnoresBase p) : IgnoresBase (when c p) := by
  cases c
  · exact fun _ _ => rfl
  · exact h

theorem ignoresBase_put (u : Nat) (f : Fld) (v i j : Nat) : IgnoresBase (put u f v i j) := fun _ _ => rfl
theorem ignoresBase_modCmds (f : List Cmd → List Cmd) : IgnoresBase (modCmds f) := fun _ _ => rfl

/-- The outstanding commands and their numbers stand apart from the Time Base. -/
theorem ignoresBase_setCmds (f : List Cmd → List Cmd) : IgnoresBase (setCmds f) := by
  intro d b
  simp only [setCmds, run_withDev]
  refine ignoresBase_seqs (fun p hp => ?_) d b
  simp only [List.mem_cons, List.not_mem_nil, or_false] at hp
  obtain rfl | rfl | rfl := hp
  · exact ignoresBase_modCmds _
  · exact ignoresBase_put _ _ _ _ _
  · exact ignoresBase_forEach fun q => ignoresBase_when (ignoresBase_put _ _ _ _ _)

theorem ignoresBase_takeUp (tag : Nat) : IgnoresBase (takeUp tag) := ignoresBase_setCmds _

@[simp] theorem apply_base_self (d : Dev) : d.apply (.base d.base) = d := rfl

/-- What ignores the Time Base leaves it. -/
theorem IgnoresBase.run_base {p : Script} (h : IgnoresBase p) (d : Dev) : (p.run d).base = d.base := by
  have hself := h d d.base
  rw [apply_base_self] at hself
  rw [hself, apply_base_base]

/-! ### Wall time -/

/-- No run of time counts in the epoch of wall time. -/
theorem reach_epoch (d : Dev) (t : Nat) : (d.reach t).clock.epoch = d.clock.epoch := by
  unfold Dev.reach advanceTo Script.run
  by_cases hcount : d.base.counting = true <;> by_cases hlt : d.dt < t <;> simp [Dev.apply, hcount, hlt, Clock.advance]

@[simp] theorem setWall_base (d : Dev) (w : Wall) : (d.apply (.setWall w)).base = d.base := rfl

/-- Settles O25: taking a command up has no part in the Time Base, so the pending wall time may be set before it. -/
theorem wallClockIsSet : Obligations.WallClockIsSet := by
  unfold Obligations.WallClockIsSet
  refine ⟨fun s tag c h hc => ⟨fun hidle => ?accepted, fun hbusy => ?busy⟩, fun s w rest h hw hcount => ?applied⟩
  case accepted =>
    refine does_of (p := setWallclock tag) rfl h (s.dev.apply (.base { s.dev.base with pendingWall :=
      [{ tag := tag, wall := { sec := c.par 28 4, ns := c.par 24 4 },
         tEff := if c.par 32 8 = 0 then s.dev.dt + 64 else c.par 32 8 }] })) ?_ rfl
    rw [ignoresBase_takeUp]
    simp only [setWallclock, run_withDev, hc, hidle, List.isEmpty_nil, Bool.not_true, Bool.false_eq_true, if_false, run_seqs_cons,
      run_seqs_nil, run_modBase, (ignoresBase_takeUp tag).run_base]
  case busy =>
    refine does_of (p := setWallclock tag) rfl h s.dev ?_ rfl
    have hne : (!s.dev.base.pendingWall.isEmpty) = true := by simpa using hbusy
    simp only [setWallclock, run_withDev, hc, hne, if_true]
  case applied =>
    have hepoch : (s.dev.reach w.tEff).clock.epoch = s.dev.clock.epoch := reach_epoch ..
    have hbase : (s.dev.reach w.tEff).base = s.dev.base := reach_base ..
    have hsame : SameRegs s.dev (s.dev.reach w.tEff) [Reg.TB.WALL_VALID.at TB] := by simp
    refine does_of (p := wallclockApply) rfl h ((((s.dev.reach w.tEff).apply (.setWall w.wall)).apply
      (.reg (Reg.TB.WALL_VALID.at TB) 1)).apply (.base { s.dev.base with pendingWall := rest })) ?_ ?_
    · have hrun : wallclockApply.run s.dev = (seqs [upd (.setWall w.wall), putB TB Reg.TB.WALL_VALID true,
          modBase fun b => { b with pendingWall := rest }, clockSetRec (s.dev.reach w.tEff).clock,
          complete w.tag stSuccess 0 w.tEff]).run (s.dev.reach w.tEff) := by
        rw [wallclockApply, run_withDev, hw]
        show (when s.dev.base.counting _).run s.dev = _
        rw [hcount, run_when_true, run_seqs_cons, run_reach, run_seqs_cons, run_withDev]
        rfl
      rw [hrun, run_seqs_cons, run_seqs_cons, run_seqs_cons, run_upd, run_putB, run_modBase, reg_base, setWall_base, hbase, b2n_true]
    · generalize s.dev.reach w.tEff = e at *
      refine ⟨rfl, rfl, ?_, rfl, ?_, rfl, ?_⟩
      · rw [← hepoch]; rfl
      · rw [rd_base, rd_reg_same]; rfl
      · rw [sameRegs_base, sameRegs_reg (List.mem_singleton_self _)]
        exact (sameRegs_of_regs rfl).mpr hsame

end Sys2Proof.Machine

namespace Sys2Proof.Machine

/-! ### The fields of a word -/

/-- The indices that a field has at an offset lie in its dimensions and give that offset. -/
theorem instanceAt_spec {f : Fld} {off i j : Nat} (h : f.instanceAt off = some (i, j)) :
    f.off + f.stride * i + f.stride2 * j = off ∧ i ≤ f.count - 1 ∧ j < f.count2 := by
  obtain ⟨j', hmem, hj⟩ := List.exists_of_findSome?_eq_some h
  rw [List.mem_range] at hmem
  dsimp only at hj
  split at hj
  · cases hj
  split at hj
  · split at hj
    · obtain ⟨rfl, rfl⟩ := Prod.mk.inj (Option.some.inj hj)
      exact ⟨by omega, Nat.zero_le _, hmem⟩
    · cases hj
  · split at hj
    next hin =>
      obtain ⟨rfl, rfl⟩ := Prod.mk.inj (Option.some.inj hj)
      have hdiv := Nat.mul_div_cancel' (Nat.dvd_of_mod_eq_zero hin.1)
      exact ⟨by omega, by omega, hmem⟩
    next => cases hj

/-- The last offset at which a field stands. -/
def Fld.last (f : Fld) : Nat := f.off + f.stride * (f.count - 1) + f.stride2 * (f.count2 - 1)

/-- Two fields never share a bit of a word: other lowest bits, other offsets modulo their common step, or tables one after the other. -/
def apart (f g : Fld) : Bool :=
  f.lo != g.lo || decide (f.last < g.off) || decide (g.last < f.off) ||
    (List.range f.count2).all fun j => (List.range g.count2).all fun j' =>
      (f.off + f.stride2 * j) % Nat.gcd f.stride g.stride != (g.off + g.stride2 * j') % Nat.gcd f.stride g.stride

/-- A field stands at no offset outside its first and last. -/
theorem instanceAt_bounds {f : Fld} {off : Nat} {ij : Nat × Nat} (h : f.instanceAt off = some ij) : f.off ≤ off ∧ off ≤ f.last := by
  obtain ⟨hoff, hi, hj⟩ := instanceAt_spec (i := ij.1) (j := ij.2) h
  have hstride : f.stride * ij.1 ≤ f.stride * (f.count - 1) := Nat.mul_le_mul_left _ hi
  have hstride2 : f.stride2 * ij.2 ≤ f.stride2 * (f.count2 - 1) := Nat.mul_le_mul_left _ (by omega)
  unfold Fld.last
  omega

/-- Fields apart that both stand in a word differ in their lowest bits. -/
theorem lo_ne_of_apart {f g : Fld} {off : Nat} {ij ij' : Nat × Nat} (h : apart f g = true) (hf : f.instanceAt off = some ij)
    (hg : g.instanceAt off = some ij') : f.lo ≠ g.lo := by
  obtain ⟨hflo, hfhi⟩ := instanceAt_bounds hf
  obtain ⟨hglo, hghi⟩ := instanceAt_bounds hg
  obtain ⟨hfoff, -, hfj⟩ := instanceAt_spec (i := ij.1) (j := ij.2) hf
  obtain ⟨hgoff, -, hgj⟩ := instanceAt_spec (i := ij'.1) (j := ij'.2) hg
  simp only [apart, Bool.or_eq_true, bne_iff_ne, decide_eq_true_eq, List.all_eq_true, List.mem_range] at h
  obtain ((hlo | hbefore) | hafter) | hstep := h
  · exact hlo
  · omega
  · omega
  · refine absurd ?_ (hstep _ hfj _ hgj)
    have hm {a s i : Nat} (hs : Nat.gcd f.stride g.stride ∣ s) : (a + s * i) % Nat.gcd f.stride g.stride = a % Nat.gcd f.stride g.stride := by
      obtain ⟨k, rfl⟩ := hs
      rw [Nat.mul_assoc, Nat.add_mul_mod_self_left]
    have hfres := hm (a := f.off + f.stride2 * ij.2) (i := ij.1) (Nat.gcd_dvd_left ..)
    have hgres := hm (a := g.off + g.stride2 * ij'.2) (i := ij'.1) (Nat.gcd_dvd_right ..)
    rw [Nat.add_right_comm, hfoff] at hfres
    rw [Nat.add_right_comm, hgoff] at hgres
    exact hfres.symm.trans hgres

/-- The register tables of the spec hold no two LK fields that could meet. -/
theorem typeFields_apart : ∀ t < 32, (typeFields t).Pairwise fun f g => f.acc = .lk → g.acc = .lk → apart f g = true := by
  decide +kernel

/-- No field of the common header's first words is LK but the severities. -/
theorem header_not_lk : ∀ f ∈ Reg.HDR.all, f.acc ≠ .lk := by decide

/-- Every field of a word stands at the word's offset. -/
theorem wordFields_offset {t off : Nat} {x : Fld × Nat × Nat} (hx : x ∈ wordFields t off) :
    x.1.off + x.1.stride * x.2.1 + x.1.stride2 * x.2.2 = off := by
  obtain hsev | hown := List.mem_append.mp hx
  · unfold sevFields at hsev
    split at hsev
    · obtain ⟨i, hi, rfl⟩ := List.mem_map.mp hsev
      have hi16 := List.mem_range.mp (List.mem_filter.mp hi).1
      show 0x20 + 4 * (((off - 0x20) / 4 * 16 + i) / 16) + 0 * 0 + 0 * 0 = off
      omega
    · cases hsev
  · obtain ⟨f, -, hf⟩ := List.mem_filterMap.mp hown
    obtain ⟨ij, hij, rfl⟩ := Option.map_eq_some_iff.mp hf
    exact (instanceAt_spec hij).1

/-- The LK fields of a word differ in their lowest bits. -/
theorem wordFields_lk_distinct {t : Nat} (ht : t < 32) (off : Nat) :
    (wordFields t off).Pairwise fun x y => x.1.acc = .lk → y.1.acc = .lk → x.1.lo ≠ y.1.lo := by
  unfold wordFields
  by_cases hhdr : off < 0x100
  · rw [if_pos hhdr]
    have hno {x : Fld × Nat × Nat} (hx : x ∈ Reg.HDR.all.filterMap fun f => (f.instanceAt off).map fun ij => (f, ij.1, ij.2)) :
        x.1.acc ≠ .lk := by
      obtain ⟨f, hf, hfx⟩ := List.mem_filterMap.mp hx
      obtain ⟨ij, -, rfl⟩ := Option.map_eq_some_iff.mp hfx
      exact header_not_lk f hf
    refine List.pairwise_append.mpr ⟨?_, List.pairwise_of_forall_mem_list fun x hx _ _ hxl => absurd hxl (hno hx),
      fun _ _ y hy _ hyl => absurd hyl (hno hy)⟩
    unfold sevFields
    split
    · refine List.pairwise_map.mpr (List.Pairwise.filter _ (List.pairwise_lt_range.imp_of_mem fun {i j} hi hj hlt _ _ => ?_))
      rw [List.mem_range] at hi hj
      show 2 * (((off - 0x20) / 4 * 16 + i) % 16) ≠ 2 * (((off - 0x20) / 4 * 16 + j) % 16)
      omega
    · exact List.Pairwise.nil
  · have hsev : sevFields t off = [] := if_neg (by omega)
    rw [if_neg hhdr, hsev, List.nil_append]
    refine List.pairwise_filterMap.mpr ((typeFields_apart t ht).imp fun hap x hx y hy hxl hyl => ?_)
    obtain ⟨ij, hij, rfl⟩ := Option.map_eq_some_iff.mp hx
    obtain ⟨ij', hij', rfl⟩ := Option.map_eq_some_iff.mp hy
    exact lo_ne_of_apart (hap hxl hyl) hij hij'

end Sys2Proof.Machine

namespace Sys2Proof.Machine

/-! ### The scrub -/

/-- The LK fields of a configuration word. -/
def lockedFields (u off idx : Nat) : List (Fld × Nat × Nat) :=
  (wordFields (typeOf u) (pathOffset (typeOf u) off idx)).filter fun x => x.1.acc == .lk

/-- They stand at keys of their own. -/
theorem lockedFields_distinct (u off idx : Nat) :
    (lockedFields u off idx).Pairwise fun x y => (x.1.at u x.2.1 x.2.2).key ≠ (y.1.at u y.2.1 y.2.2).key := by
  refine List.pairwise_filter.mpr ((wordFields_lk_distinct (Nat.mod_lt _ (by decide)) _).imp_of_mem fun {x y} hx hy hlo hxl hyl => ?_)
  refine regKey_ne_of_field ?_
  rw [wordFields_offset hx, wordFields_offset hy]
  have hne := hlo (beq_iff_eq.mp hxl) (beq_iff_eq.mp hyl)
  omega

/-- Outside the Protection Engines a configuration word takes from the shadow what its LK fields hold there. -/
theorem restoreWord_restores {d : Dev} {u off idx : Nat} {w : CfgWord} (hw : d.shadowWord u off idx = some w) (ht : typeOf u ≠ 8)
    {f : Fld × Nat × Nat} (hf : f ∈ wordFields (typeOf u) (pathOffset (typeOf u) off idx)) (hlk : f.1.acc = .lk) :
    ((restoreWord u off idx).run d).rd u f.1 f.2.1 f.2.2 = f.1.of w.value := by
  have hrun : (restoreWord u off idx).run d =
      (forEach (lockedFields u off idx) fun x => upd (.reg (x.1.at u x.2.1 x.2.2) (x.1.of w.value))).run d := by
    have hpe : (typeOf u == 0x08) = false := beq_eq_false_iff_ne.mpr ht
    rw [restoreWord, run_withDev, run_seqs_cons, run_seqs_cons, run_seqs_nil, hw]
    cases d.profileFor (hProfile d.cc.shadow) <;> simp only [hpe, run_when_false, run_skip] <;> rfl
  have hmem : f ∈ lockedFields u off idx := List.mem_filter.mpr ⟨hf, beq_iff_eq.mpr hlk⟩
  rw [hrun]
  exact (get_forEach_reg_of_mem (r := fun x : Fld × Nat × Nat => x.1.at u x.2.1 x.2.2) (v := fun x => x.1.of w.value)
    (lockedFields_distinct u off idx) hmem d).trans (Nat.mod_mod _ _)

/-- What a corrected word shows of itself (R317). -/
def showFix (u off : Nat) : Script := seqs [inc CC Reg.CC.SCRUB_FIX, put CC Reg.CC.FIX_UNIT u, put CC Reg.CC.FIX_OFFSET off]

theorem showFix_shows {u off : Nat} (hu : u < 65536) (hoff : off < 0x1000) (d : Dev) : let x := (showFix u off).run d
    Counts d x CC Reg.CC.SCRUB_FIX ∧ x.rd CC Reg.CC.FIX_UNIT = u ∧ x.rd CC Reg.CC.FIX_OFFSET = off ∧
    OnlyRegs d x [Reg.CC.SCRUB_FIX.at CC, Reg.CC.FIX_UNIT.at CC, Reg.CC.FIX_OFFSET.at CC] := by
  intro x
  have hx : x = ((d.apply (.reg (Reg.CC.SCRUB_FIX.at CC) (min (2 ^ Reg.CC.SCRUB_FIX.width - 1) (d.rd CC Reg.CC.SCRUB_FIX + 1)))).apply
      (.reg (Reg.CC.FIX_UNIT.at CC) u)).apply (.reg (Reg.CC.FIX_OFFSET.at CC) off) := by
    simp only [x, showFix, run_seqs_cons, run_seqs_nil, run_inc, run_put]
  refine ⟨?_, ?_, ?_, by simp [hx]⟩
  all_goals simp (disch := decide) only [Counts, hx, rd_reg_ne, rd_reg_same, min_field_mod]
  · exact Nat.mod_eq_of_lt hu
  · exact Nat.mod_eq_of_lt hoff

/-- A word that differs: it is restored, shown, and then reported and remembered. -/
theorem run_fixWord {d : Dev} {u off idx : Nat} (hp : d.present u = true) :
    let key := off + 0x1000 * idx
    let again := d.cc.fixed.any fun x => x.1 == u && x.2.1 == key && decide (d.dt ≤ x.2.2 + dtOfS 1)
    (fixWord u off idx).run d = (seqs [
        if tripledWord u off idx = true then fireEvent CC 5 devScope [] else if again = true then fireEvent CC 1 devScope []
          else fireEvent CC 0 noScope [],
        modCc fun c => { c with fixed :=
          (u, key, d.dt) :: c.fixed.filter fun x => !(x.1 == u && x.2.1 == key) && decide (d.dt ≤ x.2.2 + dtOfS 1) }]).run
      ((showFix u off).run ((restoreWord u off idx).run d)) := by
  simp only [fixWord, run_withDev, hp, run_when_true, showFix, run_seqs_cons, run_seqs_nil]

@[simp] theorem sameRegs_cc {d d' : Dev} {rs : List Ref} (v : ConfigCtl) : SameRegs d (d'.apply (.cc v)) rs ↔ SameRegs d d' rs :=
  sameRegs_of_regs rfl

/-- The end of a reload: it passes or raises its source (R317). -/
theorem run_reloadDone {d : Dev} {ok : Bool} (hre : d.cc.reloading = true) :
    (reloadDone ok).run d = (if ok && cDigest d.currentBytes == cDigest d.cc.shadow
      then seqs [modCc fun c => { c with shadow := d.currentBytes }, putB CC Reg.CC.SHADOW_OK true]
      else fireEvent CC 3 devScope []).run (d.apply (.cc { d.cc with reloading := false })) := by
  rw [reloadDone, run_withDev, hre, run_when_true, run_seqs_cons, run_seqs_cons, run_seqs_nil]
  rfl

/-! ### SRAM -/

/-- A corrected error counts in its unit's header. -/
theorem count_ecc (d : Dev) (u : Nat) :
    ((inc u Reg.HDR.ECC_CORR).run d).rd u Reg.HDR.ECC_CORR = min (2 ^ Reg.HDR.ECC_CORR.width - 1) (d.rd u Reg.HDR.ECC_CORR + 1) ∧
    SameRegs d ((inc u Reg.HDR.ECC_CORR).run d) [Reg.HDR.ECC_CORR.at u] :=
  ⟨rd_inc d u 0 _, by simp⟩

/-- A corrected error outside the cells' SRAM. -/
theorem run_corrected_other {d : Dev} {w : SramWord} (hp : d.present (sramOwner w) = true) (ht : typeOf (sramOwner w) ≠ 3) :
    (corrected w).run d = (inc (sramOwner w) Reg.HDR.ECC_CORR).run d := by
  simp only [corrected, run_withDev, hp, run_when_true, beq_eq_false_iff_ne.mpr ht, run_seqs_cons, run_seqs_nil, run_when_false]

/-- The corrections of a cell's SRAM within the last second, with the present one. -/
def Dev.eccTimes (d : Dev) (u : Nat) : List Nat := d.dt :: (d.cellAt u).eccAt.filter fun t => decide (d.dt < t + dtOfS 1)

/-- A corrected error of a cell's SRAM is counted and remembered; the sixteenth of a second is reported instead (R37). -/
theorem run_corrected_cell {d : Dev} {w : SramWord} (hp : d.present (sramOwner w) = true) (ht : typeOf (sramOwner w) = 3) :
    (corrected w).run d = (if (d.eccTimes (sramOwner w)).length ≥ 16
      then seqs [modCell (sramOwner w) fun x => { x with eccAt := [] }, fireEvent (sramOwner w) 3 (cellScope (sramOwner w)) []]
      else modCell (sramOwner w) fun x => { x with eccAt := d.eccTimes (sramOwner w) }).run
        ((inc (sramOwner w) Reg.HDR.ECC_CORR).run d) := by
  simp only [corrected, run_withDev, hp, run_when_true, ht, beq_self_eq_true, run_seqs_cons, run_seqs_nil]
  rfl

@[simp] theorem cellAt_cell_same (d : Dev) (k : Nat) (v : Cell) : (d.apply (.cell k v)).cellAt k = v := Bank.get_put_same ..
@[simp] theorem sameRegs_cell {d d' : Dev} {rs : List Ref} (k : Nat) (v : Cell) : SameRegs d (d'.apply (.cell k v)) rs ↔ SameRegs d d' rs :=
  sameRegs_of_regs rfl
@[simp] theorem rd_cell (d : Dev) (k : Nat) (v : Cell) (u : Nat) (f : Fld) (i j : Nat) : (d.apply (.cell k v)).rd u f i j = d.rd u f i j := rfl

/-- The block once an error of a cell's SRAM has counted, with the times that the cell now remembers. -/
def Dev.remembering (d : Dev) (u : Nat) (ts : List Nat) : Dev :=
  ((inc u Reg.HDR.ECC_CORR).run d).apply (.cell u { ((inc u Reg.HDR.ECC_CORR).run d).cellAt u with eccAt := ts })

theorem remembering_counts (d : Dev) (u : Nat) (ts : List Nat) : let x := d.remembering u ts
    (x.rd u Reg.HDR.ECC_CORR = min (2 ^ Reg.HDR.ECC_CORR.width - 1) (d.rd u Reg.HDR.ECC_CORR + 1) ∧
      SameRegs d x [Reg.HDR.ECC_CORR.at u]) ∧ (x.cellAt u).eccAt = ts := by
  obtain ⟨hcount, hregs⟩ := count_ecc d u
  exact ⟨⟨(rd_cell ..).trans hcount, (sameRegs_cell ..).mpr hregs⟩, congrArg Cell.eccAt (cellAt_cell_same ..)⟩

/-- An uncorrectable error that does nothing but draw a reaction. -/
theorem draws_of {s : State} {w : SramWord} {gaps : List (Nat × Nat × Nat × Nat)} {q : Script} (h : s.runs)
    (hq : (uncorrectable w gaps).run s.dev = q.run s.dev) : Does (.sramEccError w true gaps) s (fun d => d = s.dev) q :=
  does_of (p := uncorrectable w gaps) rfl h s.dev hq rfl

/-- Settles O42: each report of the scrub and of the SRAM is a few writes, and the reaction that is named follows it. -/
theorem scrubAndSramErrors : Obligations.ScrubAndSramErrors := by
  unfold Obligations.ScrubAndSramErrors
  refine ⟨fun s us words bad h => ⟨fun hon => ?pass, fun hoff => ?noPass⟩, fun d u off idx hp hu hoff => ⟨fun w hw ht f hf hlk => ?restored, ?fixed⟩,
    fun s ok h => ⟨fun hre hok hdg => ?reloaded, fun hre hbad => ?reloadFails, fun hre => ?noReload⟩, fun s h => ?tmr,
    fun s w gaps h hp => ⟨fun ht => ?counted, fun ht hfew => ?remembered, fun ht hmany => ?sixteenth⟩, fun s w gaps h hp => ?absent, fun s gaps h => ?double⟩
  case pass =>
    obtain ⟨x, hx⟩ : ∃ x, x = (forEach words fun w => fixWord w.1 w.2.1 w.2.2).run s.dev := ⟨_, rfl⟩
    rw [← hx]
    refine does_of (p := scrubPass us words bad) rfl h ((x.apply (.reg (Reg.CC.PASS_CNT.at CC) (x.rd CC Reg.CC.PASS_CNT + 1))).apply
      (.reg (Reg.CC.PASS_TIME.at CC) (min us 20000))) ?_ ⟨?_, ?_, by simp⟩
    · rw [scrubPass, run_withDev, hon, run_when_true, run_seqs_cons, ← hx, run_seqs_cons, run_seqs_cons, run_seqs_cons, run_seqs_nil,
        run_incWrap, run_put]
    · rw [rd_reg_ne _ _ (by decide), rd_reg_same]
    · rw [rd_reg_same]
      exact Nat.mod_eq_of_lt (Nat.lt_of_le_of_lt (Nat.min_le_right ..) (by decide))
  case noPass =>
    exact does_of (p := scrubPass us words bad) rfl h s.dev (by simp [scrubPass, hoff]) rfl
  case restored => exact restoreWord_restores hw ht hf hlk
  case fixed => exact ⟨_, run_fixWord hp, showFix_shows hu hoff _⟩
  case reloaded =>
    refine does_of (p := reloadDone ok) rfl h
      ((s.dev.apply (.cc { s.dev.cc with reloading := false, shadow := s.dev.currentBytes })).apply (.reg (Reg.CC.SHADOW_OK.at CC) 1)) ?_
      ⟨rd_reg_same .., rfl, by simp⟩
    rw [run_reloadDone hre, if_pos (by rw [hok, beq_iff_eq.mpr hdg]; rfl)]
    rfl
  case reloadFails =>
    refine does_of (p := reloadDone ok) rfl h (s.dev.apply (.cc { s.dev.cc with reloading := false })) ?_ rfl
    rw [run_reloadDone hre, if_neg (by rcases hbad with hbad | hbad <;> simp [hbad])]
  case noReload =>
    exact does_of (p := reloadDone ok) rfl h s.dev (by simp [reloadDone, hre]) rfl
  case tmr =>
    refine does_of (p := seqs [inc CC Reg.CC.TMR_FIX, fireEvent CC 4 noScope []]) rfl h ((inc CC Reg.CC.TMR_FIX).run s.dev) ?_
      ⟨rd_inc .., by simp⟩
    simp only [run_seqs_cons, run_seqs_nil]
  case counted =>
    refine does_of (p := corrected w) rfl h _ (run_corrected_other hp ht) ⟨count_ecc .., rfl⟩
  case remembered =>
    refine does_of (p := corrected w) rfl h (s.dev.remembering (sramOwner w) (s.dev.eccTimes (sramOwner w))) ?_ (remembering_counts ..)
    rw [run_corrected_cell hp ht, if_neg (show ¬ (s.dev.eccTimes (sramOwner w)).length ≥ 16 from Nat.not_le.mpr hfew)]
    rfl
  case sixteenth =>
    refine does_of (p := corrected w) rfl h (s.dev.remembering (sramOwner w) []) ?_ (remembering_counts ..)
    rw [run_corrected_cell hp ht, if_pos (show (s.dev.eccTimes (sramOwner w)).length ≥ 16 from hmany), run_seqs_cons, run_seqs_cons, run_seqs_nil]
    rfl
  case absent =>
    exact does_of (p := corrected w) rfl h s.dev (by simp [corrected, hp]) rfl
  case double =>
    refine ⟨fun u => draws_of h ?_, fun c => draws_of h ?_, fun u => draws_of h ?_, fun n p => draws_of h ?_, fun n => draws_of h ?_,
      fun k => draws_of h ?_, draws_of h ?_, fun t => draws_of h ?_, fun q => draws_of h ?_, fun hsh => draws_of h ?shadow,
      fun hsh => draws_of h ?noShadow, fun hr => draws_of h ?notReady, fun hr => ?ready⟩
    case shadow =>
      rw [uncorrectable, run_withDev, List.isEmpty_eq_false_iff.mpr hsh]
      rfl
    case noShadow =>
      rw [uncorrectable, run_withDev, hsh]
      rfl
    case notReady =>
      rw [uncorrectable, run_withDev, is_eq_false hr, run_seqs_cons, run_when_false, run_seqs_cons, run_seqs_nil]
    case ready =>
      refine does_of (p := uncorrectable .zoneMap gaps) rfl h ((seqs [modMed fun m => { m with rebuilding := true },
        put WS Reg.WS.MEDIUM_STATE 3, putB WS Reg.WS.WRITES_HELD true]).run s.dev) ?_ ⟨rfl, ?_, ?_⟩
      · rw [uncorrectable, run_withDev, is_eq_true hr, run_seqs_cons, run_when_true, run_seqs_cons, run_seqs_nil]
      all_goals simp (disch := decide) only [run_seqs_cons, run_seqs_nil, run_put, run_putB, rd_reg_ne, rd_reg_same]
      all_goals rfl
    all_goals rw [uncorrectable, run_withDev]

end Sys2Proof.Machine

namespace Sys2Proof.Machine

/-! ### Mute causes -/

/-- Fields of two units stand at different keys. -/
theorem regKey_ne_of_unit {u u' off off' lo lo' : Nat} (hu : u ≠ u') (ho : off < 0x8000) (ho' : off' < 0x8000) (hl : lo < 32)
    (hl' : lo' < 32) : regKey u off lo ≠ regKey u' off' lo' := by
  intro h
  have h' : (u * 0x8000 + off) * 32 + lo = (u' * 0x8000 + off') * 32 + lo' := h
  omega

/-- A write of another field leaves a field as it was. -/
theorem put_keeps_rd {u v i i' : Nat} {f g : Fld} (h : (f.at u i).key ≠ (g.at v i').key) (w : Nat) :
    Keeps (fun d : Dev => d.rd u f i) (put v g w i') := fun d => rd_reg_ne d w h

/-- A trigger writes no field of another unit than the recorder. -/
theorem trigger_keeps_rd {u i : Nat} {f : Fld} (hu : u ≠ EV) (ho : f.off + f.stride * i + f.stride2 * 0 < 0x8000) (hl : f.lo < 32)
    (kind v code t : Nat) : Keeps (fun d : Dev => d.rd u f i) (trigger kind v code t) := by
  have keeps (g : Fld) (w : Nat) (ho' : g.off + g.stride * 0 + g.stride2 * 0 < 0x8000) (hl' : g.lo < 32) :
      Keeps (fun d : Dev => d.rd u f i) (put EV g w) := put_keeps_rd (regKey_ne_of_unit hu ho ho' hl hl') w
  refine keeps_withDev fun d => keeps_when (keeps_seqs ?_)
  simp only [List.forall_mem_cons, List.not_mem_nil, false_imp_iff, implies_true, and_true]
  refine ⟨keeps_forEach fun c => keeps_withDev fun x => keeps_seqs ?_, keeps_withDev fun x => keeps_when (keeps_seqs ?_)⟩
  all_goals simp only [List.forall_mem_cons, List.not_mem_nil, false_imp_iff, implies_true, and_true]
  · exact ⟨fun _ => rfl, fun _ => rfl, fun y => keeps Reg.EV.CAP_NEXT _ (by decide) (by decide) y,
      keeps Reg.EV.STREAMING _ (by decide) (by decide), fun _ => rfl⟩
  · exact ⟨fun _ => rfl, keeps Reg.EV.RD_STATE _ (by decide) (by decide), keeps Reg.EV.RD_ERR _ (by decide) (by decide)⟩

/-- A Protection Engine is not the recorder. -/
theorem peU_ne_ev (n : Nat) : peU n ≠ EV := by
  unfold peU EV unitAddr
  omega

/-- A cell's mute causes stand in its Protection Engine's window. -/
theorem muteCause_offset (c : Nat) :
    Reg.PE.C_MUTE_CAUSE.off + Reg.PE.C_MUTE_CAUSE.stride * idxOf c + Reg.PE.C_MUTE_CAUSE.stride2 * 0 < 0x8000 := by
  have hc : idxOf c < 256 := Nat.mod_lt _ (by decide)
  simp only [Reg.PE.C_MUTE_CAUSE]
  omega

/-- The onset of a mute cause: its bit, then the captures that it triggers. -/
theorem run_markCause {d : Dev} {c b : Nat} (h : d.muteCause c b = false) : (markCause c b).run d =
    (seqs [trigger 2 (peOf c) 0 d.dt, trigger 2 c 0 d.dt]).run
      (d.apply (.reg (Reg.PE.C_MUTE_CAUSE.at (peOf c) (idxOf c)) (d.peRd c Reg.PE.C_MUTE_CAUSE ||| 2 ^ b))) := by
  rw [markCause, run_withDev, h, Bool.not_false, run_when_true, run_seqs_cons]
  rfl

theorem run_markCause_marked {d : Dev} {c b : Nat} (h : d.muteCause c b = true) : (markCause c b).run d = d := by
  rw [markCause, run_withDev, h, Bool.not_true, run_when_false]

/-- The captures that an onset triggers change no mute cause. -/
theorem triggers_keep_muteCause (c c' b t : Nat) (d : Dev) :
    ((seqs [trigger 2 (peOf c) 0 t, trigger 2 c 0 t]).run d).muteCause c' b = d.muteCause c' b := by
  have keeps (v : Nat) (d : Dev) : ((trigger 2 v 0 t).run d).muteCause c' b = d.muteCause c' b :=
    congrArg (Nat.testBit · b) (trigger_keeps_rd (peU_ne_ev _) (muteCause_offset c') (by decide) 2 v 0 t d)
  simp only [run_seqs_cons, run_seqs_nil, keeps]

/-- The onset of a mute cause sets its bit and clears that of no cell. -/
theorem markCause_marks {c c' b : Nat} (hb : b < 11) {d : Dev} (h : c' = c ∨ d.muteCause c' b = true) :
    ((markCause c b).run d).muteCause c' b = true := by
  cases hm : d.muteCause c b with
  | true =>
    rw [run_markCause_marked hm]
    rcases h with rfl | h <;> assumption
  | false =>
    rw [run_markCause hm, triggers_keep_muteCause]
    by_cases hk : (Reg.PE.C_MUTE_CAUSE.at (peOf c') (idxOf c')).key = (Reg.PE.C_MUTE_CAUSE.at (peOf c) (idxOf c)).key
    · have href : Reg.PE.C_MUTE_CAUSE.at (peOf c') (idxOf c') = Reg.PE.C_MUTE_CAUSE.at (peOf c) (idxOf c) := by
        unfold Fld.at at hk ⊢
        rw [Ref.mk.injEq]
        exact ⟨hk, rfl, rfl⟩
      rw [Dev.muteCause, Dev.peRd, Dev.rd, href, get_reg_same, show (Reg.PE.C_MUTE_CAUSE.at (peOf c) (idxOf c)).width = 11 from rfl,
        Nat.testBit_mod_two_pow, Nat.testBit_or, Nat.testBit_two_pow_self]
      simp [hb]
    · have hc : c' ≠ c := fun e => hk (by rw [e])
      rw [Dev.muteCause, Dev.peRd, rd_reg_ne _ _ hk]
      exact h.resolve_left hc

/-- Marking cells one after the other marks every one of them. -/
theorem marks_all {b : Nat} (hb : b < 11) (cs : List Nat) (d : Dev) {c' : Nat} (h : c' ∈ cs ∨ d.muteCause c' b = true) :
    ((forEach cs fun c => markCause c b).run d).muteCause c' b = true := by
  induction cs generalizing d with
  | nil => exact h.resolve_left List.not_mem_nil
  | cons c cs ih =>
    rw [run_forEach_cons]
    refine ih _ ?_
    rcases h with h | h
    · exact (List.mem_cons.mp h).symm.imp_right fun e => markCause_marks hb (.inl e)
    · exact .inr (markCause_marks hb (.inr h))

/-- A mute cause leaves the Protection Engine's lockstep error alone. -/
theorem markCause_keeps_lockstepErr (n c b : Nat) : Keeps (fun d : Dev => d.rd (peU n) Reg.PE.LOCKSTEP_ERR) (markCause c b) := by
  have keeps (v t : Nat) := trigger_keeps_rd (f := Reg.PE.LOCKSTEP_ERR) (i := 0) (peU_ne_ev n) (by decide) (by decide) 2 v 0 t
  refine keeps_withDev fun d => keeps_when (keeps_seqs ?_)
  simp only [List.forall_mem_cons, List.not_mem_nil, false_imp_iff, implies_true, and_true, keeps]
  refine put_keeps_rd (fun hk => ?_) _
  have hk' : (peU n * 0x8000 + 0x100) * 32 + 1 = (peU (secOf c) * 0x8000 + (0x414 + 32 * idxOf c + 0)) * 32 + 10 := hk
  omega

/-- The first part of a lockstep mismatch (R208). -/
def markSection (n : Nat) (cs : List Nat) : Script := seqs [putB (peU n) Reg.PE.LOCKSTEP_ERR true, forEach cs fun c => markCause c mcLockstep]

theorem markSection_marks (n : Nat) (cs : List Nat) (d : Dev) : let x := (markSection n cs).run d
    x.rd (peU n) Reg.PE.LOCKSTEP_ERR = 1 ∧ ∀ c ∈ cs, x.muteCause c mcLockstep = true := by
  simp only [markSection, run_seqs_cons, run_seqs_nil]
  refine ⟨?_, fun c hc => marks_all (by decide) cs _ (.inl hc)⟩
  exact (keeps_forEach (fun c => markCause_keeps_lockstepErr n c _) _).trans (rd_reg_same ..)

/-! ### The checks -/

/-- A unit that is present takes what its datapath check compared. -/
theorem datapath_does {s : State} {u : Nat} {f : Finding} {P : Dev → Prop} {q : Script} (h : s.runs) (hp : s.dev.present u = true)
    (d : Dev) (hd : (datapathCheck u f).run s.dev = q.run d) (hP : P d) : Does (.datapathCheckFail u f) s P q :=
  does_of (p := withDev fun d => when (d.present u) (datapathCheck u f)) rfl h d (by rw [run_withDev, hp, run_when_true, hd]) hP

/-- A unit that is present takes its comparison of the mute rails. -/
theorem muteRails_does {s : State} {u k : Nat} {ra rb : Bool} {q : Script} (h : s.runs) (hp : s.dev.present u = true)
    (hd : (muteRails u k ra rb).run s.dev = q.run s.dev) : Does (.muteRailDisagreement u k ra rb) s (fun d => d = s.dev) q :=
  does_of (p := withDev fun d => when (d.present u) (muteRails u k ra rb)) rfl h s.dev (by rw [run_withDev, hp, run_when_true, hd]) rfl

/-- A unit of another type has no datapath check. -/
theorem run_datapathCheck_other {u : Nat} (h2 : typeOf u ≠ 2) (h3 : typeOf u ≠ 3) (h5 : typeOf u ≠ 5) (f : Finding) (d : Dev) :
    (datapathCheck u f).run d = d := by
  rw [datapathCheck, run_withDev]
  split
  · exact absurd ‹typeOf u = 3› h3
  · exact absurd ‹typeOf u = 3› h3
  · exact absurd ‹typeOf u = 3› h3
  · exact absurd ‹typeOf u = 5› h5
  · exact absurd ‹typeOf u = 2› h2
  · rfl

/-- A unit of another type does not compare the mute rails. -/
theorem run_muteRails_other {u : Nat} (h2 : typeOf u ≠ 2) (h3 : typeOf u ≠ 3) (h6 : typeOf u ≠ 6) (k : Nat) (ra rb : Bool) (d : Dev) :
    (muteRails u k ra rb).run d = d := by
  rw [muteRails, run_withDev]
  dsimp only
  split
  · exact absurd ‹typeOf u = 3› h3
  · exact absurd ‹typeOf u = 2› h2
  · exact absurd ‹typeOf u = 6› h6
  · rfl

/-- A pin is judged when it has a function other than 9, and against its commanded level only after 64 cycles (R477). -/
theorem pinJudged_iff {present bad : Bool} {func cycles : Nat} : (present && func != 0 && func != 9 && (!bad || decide (cycles ≥ 64))) = true ↔
    present = true ∧ func ≠ 0 ∧ func ≠ 9 ∧ (bad = true → 64 ≤ cycles) := by
  cases bad <;> simp [and_assoc]

/-- Settles O43: each check writes what it found, and its condition or its event follows. -/
theorem checksRaiseTheirSources : Obligations.ChecksRaiseTheirSources := by
  unfold Obligations.ChecksRaiseTheirSources
  refine ⟨fun s u k f ra rb h hp => ⟨fun ht => ⟨fun a b => ?residue, fun p q => ?shadow, fun re im => ?output, ?cellRails⟩,
      fun ht a b => ?combiner, fun ht => ⟨fun a b => ?word, ?linkRails⟩, fun ht => ?groupRails, fun h2 h3 h5 => ?noCheck, fun h2 h3 h6 => ?noRails⟩,
    fun s u k f ra rb h hp => ⟨?absentCheck, ?absentRails⟩, fun s n p level cycles h => ⟨fun hj => ?pin, fun hj => ?noPin⟩,
    fun s n h => ⟨fun _ hon hcold => ?lockstep, fun hoff => ?noLockstep⟩, fun s n src h => ⟨fun hon hps => ?parity, fun hoff => ?noParity⟩⟩
  case residue | output | combiner | word =>
    refine datapath_does h hp s.dev ?_ rfl
    rw [datapathCheck, run_withDev, ht]
    rfl
  case shadow =>
    refine datapath_does h hp (s.dev.apply (.cell u { s.dev.cellAt u with
      shadowBad := if monMismatch p q (64 * 2 ^ 46) = true then (s.dev.cellAt u).shadowBad + 1 else 0 })) ?_
      ⟨congrArg Cell.shadowBad (cellAt_cell_same ..), rfl⟩
    rw [datapathCheck, run_withDev, ht]
    change (shadowCheck u p q).run s.dev = _
    rw [shadowCheck, run_withDev]
    dsimp only
    rw [run_seqs_cons, run_seqs_cons, run_seqs_nil]
    rfl
  case cellRails | linkRails | groupRails =>
    refine muteRails_does h hp ?_
    rw [muteRails, run_withDev, ht]
    rfl
  case noCheck => exact datapath_does h hp s.dev (run_datapathCheck_other h2 h3 h5 ..) rfl
  case noRails => exact muteRails_does h hp (run_muteRails_other h2 h3 h6 ..)
  case absentCheck =>
    exact does_of (p := withDev fun d => when (d.present u) (datapathCheck u f)) rfl h s.dev (by rw [run_withDev, hp, run_when_false, run_skip]) rfl
  case absentRails =>
    exact does_of (p := withDev fun d => when (d.present u) (muteRails u k ra rb)) rfl h s.dev (by rw [run_withDev, hp, run_when_false, run_skip]) rfl
  case pin =>
    refine does_of (p := pinReadback n p level cycles) rfl h s.dev ?_ rfl
    rw [pinReadback, run_withDev]
    dsimp only
    rw [pinJudged_iff.mpr hj, run_when_true]
  case noPin =>
    refine does_of (p := pinReadback n p level cycles) rfl h s.dev ?_ rfl
    rw [pinReadback, run_withDev]
    dsimp only
    rw [Bool.eq_false_iff.mpr (mt pinJudged_iff.mp hj), run_when_false, run_skip]
  case lockstep =>
    refine does_of (p := lockstepMismatch n) rfl h ((markSection n (s.dev.cellsOf n)).run s.dev) ?_ (markSection_marks ..)
    rw [lockstepMismatch, run_withDev, hon, bne_iff_ne.mpr hcold, Bool.and_self, run_when_true, markSection]
    simp only [run_seqs_cons, run_seqs_nil]
  case noLockstep =>
    refine does_of (p := lockstepMismatch n) rfl h s.dev ?_ rfl
    have hc : (s.dev.sectionOn n && s.dev.mode != .cold) = false := by rcases hoff with hoff | hoff <;> simp [hoff]
    rw [lockstepMismatch, run_withDev, hc, run_when_false, run_skip]
  case parity =>
    refine does_of (p := parityFail n src) rfl h ((inc (dsU n) Reg.DS.PARITY_CNT).run s.dev) ?_ ⟨rd_inc .., by simp⟩
    rw [parityFail, run_withDev]
    dsimp only
    rw [hon, List.isEmpty_eq_false_iff.mpr hps, Bool.not_false, Bool.and_self, run_when_true, run_seqs_cons,
      run_seqs_cons, run_seqs_nil]
  case noParity =>
    refine does_of (p := parityFail n src) rfl h s.dev ?_ rfl
    have hc : (s.dev.sectionOn n && !((s.dev.pathsOf n).filter fun p => s.dev.srcOf n p == src).isEmpty) = false := by
      rcases hoff with hoff | hoff <;> simp [hoff]
    rw [parityFail, run_withDev]
    dsimp only
    rw [hc, run_when_false, run_skip]

end Sys2Proof.Machine

namespace Sys2Proof.Machine

/-! ### Times in dt -/

/-- A quotient rounded up covers its dividend. -/
theorem le_ceilDiv_mul (a : Nat) {b : Nat} (hb : 0 < b) : a ≤ ceilDiv a b * b := by
  have hrem := Nat.mod_lt (a + b - 1) hb
  have hdiv := Nat.div_add_mod' (a + b - 1) b
  unfold ceilDiv
  omega

/-- It does so by less than one divisor. -/
theorem ceilDiv_mul_lt (a : Nat) {b : Nat} (hb : 0 < b) : ceilDiv a b * b < a + b := by
  have hdiv := Nat.div_mul_le_self (a + b - 1) b
  unfold ceilDiv
  omega

/-- A timer that is started runs out after the time it is given. -/
theorem startTimer_deadline (t : Timer) (n : Nat) (d : Dev) : ((startTimer t n).run d).deadline t = some (d.dt + n) :=
  deadline_arm_same d t (d.dt + n)

/-- Settles O8: whole factors for ms and s, a quotient rounded up for µs, and the deadline that a timer takes of any of them. -/
theorem timersRunWholeTicks : Obligations.TimersRunWholeTicks := by
  unfold Obligations.TimersRunWholeTicks
  refine ⟨rfl, rfl, rfl, fun n => ⟨rfl, rfl, ?_, ?_⟩, fun d t n => ⟨startTimer_deadline t _ d, startTimer_deadline t _ d⟩⟩
  · exact le_ceilDiv_mul (n * 49152) (by decide)
  · exact ceilDiv_mul_lt (n * 49152) (by decide)

/-! ### What every command answers -/

/-- Settles O3: the reset pins, the supply detector and the identity derivation answer directly, every other command by its script. -/
theorem everyCommandAnswers : Obligations.EveryCommandAnswers := by
  unfold Obligations.EveryCommandAnswers
  intro i s
  by_cases hact : i.actsInReset = false
  · obtain ⟨p, hp⟩ := exec_is_script i hact
    exact ⟨_, hp s⟩
  cases i
  case porstNAssert | porstNDeassert | resetNAssert | resetNDeassert | supplyLossDetect | identityDerivationDone => exact ⟨_, rfl⟩
  all_goals exact absurd rfl hact

end Sys2Proof.Machine

namespace Sys2Proof.Machine

/-! ### The causes of R54 -/

/-- A cause of R54 applies to a full write of `v`, where the register's own rule adds `r`. -/
def Dev.causeApplies (d : Dev) (u off v : Nat) (r : WriteRule) (c : Nat) : Prop :=
  (c = 1 ∧ ∃ x ∈ d.hostFields u off, x.1.acc = .lk ∧ x.1.of v ≠ d.rd u x.1 x.2.1 x.2.2) ∨
  (c = 2 ∧ ∃ x ∈ d.hostFields u off, zeroBad x.1 (x.1.of v) = true) ∨
  (c = 3 ∧ (r.range = true ∨ ∃ x ∈ d.hostFields u off, rangeBad x.1 (x.1.of v) = true)) ∨
  (c = 4 ∧ r.mode = true) ∨ (c = 6 ∧ r.busy = true)

theorem judgeWrite_partial (d : Dev) (u off v : Nat) {be : Nat} (r : WriteRule) (hbe : be ≠ 15) : d.judgeWrite u off v be r = some 5 :=
  if_pos hbe

/-- The first cause of a list whose test succeeds. -/
def firstCause : List (Nat × Bool) → Option Nat
  | [] => none
  | (c, t) :: l => if t then some c else firstCause l

/-- Of causes in rising order the first is the lowest. -/
theorem firstCause_lowest {l : List (Nat × Bool)} (h : l.Pairwise fun x y => x.1 < y.1) :
    (firstCause l = none ↔ ∀ c, (c, true) ∉ l) ∧ ∀ c, firstCause l = some c ↔ (c, true) ∈ l ∧ ∀ b, b < c → (b, true) ∉ l := by
  induction l with
  | nil => simp [firstCause]
  | cons x l ih =>
    obtain ⟨m, t⟩ := x
    obtain ⟨hm, hl⟩ := List.pairwise_cons.mp h
    cases t with
    | false => simpa [firstCause] using ih hl
    | true =>
      have hmem : (m, true) ∈ (m, true) :: l := List.mem_cons_self ..
      have hge {c : Nat} (hc : (c, true) ∈ (m, true) :: l) : m ≤ c := by
        obtain hc | hc := List.mem_cons.mp hc
        · exact Nat.le_of_eq (Prod.mk.inj hc).1.symm
        · exact Nat.le_of_lt (hm _ hc)
      refine ⟨⟨fun hn => absurd hn (Option.some_ne_none m), fun hn => absurd hmem (hn m)⟩, fun c => ⟨fun hc => ?_, fun ⟨hc, hlow⟩ => ?_⟩⟩
      · obtain rfl : m = c := Option.some.inj hc
        exact ⟨hmem, fun b hb hmb => absurd hb (Nat.not_lt.mpr (hge hmb))⟩
      · exact congrArg some (Nat.le_antisymm (hge hc) (Nat.le_of_not_lt fun hlt => hlow m hlt hmem))

/-- The tests of a full write, in rising order of their causes. -/
def Dev.fullCauses (d : Dev) (u off v : Nat) (r : WriteRule) : List (Nat × Bool) :=
  let fs := d.hostFields u off
  [(1, fs.any fun x => x.1.acc == .lk && x.1.of v != d.rd u x.1 x.2.1 x.2.2), (2, fs.any fun x => zeroBad x.1 (x.1.of v)),
    (3, r.range || fs.any fun x => rangeBad x.1 (x.1.of v)), (4, r.mode), (6, r.busy)]

theorem judgeWrite_full (d : Dev) (u off v : Nat) (r : WriteRule) : d.judgeWrite u off v 15 r = firstCause (d.fullCauses u off v r) := rfl

theorem fullCauses_rising (d : Dev) (u off v : Nat) (r : WriteRule) : (d.fullCauses u off v r).Pairwise fun x y => x.1 < y.1 := by
  simp [Dev.fullCauses]

theorem causeApplies_iff (d : Dev) (u off v : Nat) (r : WriteRule) (c : Nat) :
    d.causeApplies u off v r c ↔ (c, true) ∈ d.fullCauses u off v r := by
  simp [Dev.causeApplies, Dev.fullCauses, eq_comm (a := true)]

/-- A full write is judged for the lowest cause that applies. -/
theorem judgeWrite_lowest (d : Dev) (u off v : Nat) (r : WriteRule) :
    (d.judgeWrite u off v 15 r = none ↔ ∀ c, ¬ d.causeApplies u off v r c) ∧
    ∀ c, d.judgeWrite u off v 15 r = some c ↔ d.causeApplies u off v r c ∧ ∀ b, b < c → ¬ d.causeApplies u off v r b := by
  simp only [causeApplies_iff, judgeWrite_full]
  exact firstCause_lowest (fullCauses_rising d u off v r)

/-- Cause codes fit REJECT_CAUSE. -/
theorem judgeWrite_lt {d : Dev} {u off v be cause : Nat} {r : WriteRule} (h : d.judgeWrite u off v be r = some cause) : cause < 2 ^ 4 := by
  by_cases hbe : be = 15
  · subst hbe
    obtain ⟨happ, -⟩ := ((judgeWrite_lowest d u off v r).2 cause).mp h
    unfold Dev.causeApplies at happ
    omega
  · rw [judgeWrite_partial d u off v r hbe] at h
    cases h
    decide

/-! ### Host writes -/

/-- A host write that a cause rejects is rejected as a whole (R54). -/
theorem run_writeReg_rejected {d : Dev} {u off v be cause : Nat} {rule : Dev → WriteRule} (after : Script) (hp : d.present u = true)
    (hfs : d.hostFields u off ≠ []) (hj : d.judgeWrite u off v be (rule d) = some cause) :
    (writeReg u off v be rule after).run d = (rejectWrite u off cause).run d := by
  simp [writeReg, hp, hfs, hj]

/-- A host write that no cause rejects is made field by field, and what the register's rule adds follows. -/
theorem run_writeReg_accepted {d : Dev} {u off v be : Nat} {rule : Dev → WriteRule} (after : Script) (hp : d.present u = true)
    (hfs : d.hostFields u off ≠ []) (hj : d.judgeWrite u off v be (rule d) = none) :
    (writeReg u off v be rule after).run d = after.run ((forEach (d.hostFields u off) (writeField u v)).run d) := by
  simp [writeReg, hp, hfs, hj]

/-- A word without a command of its own is written as its fields say. -/
theorem run_registerWrite {d : Dev} {u off v be : Nat} (hal : off % 4 = 0) (hoff : off < 0x1000) (hv : v < 2 ^ 32)
    (hown : ownRow (typeOf u) off = false) : (registerWrite u off v be).run d =
      (writeReg u off v be (registerRule u off v) (registerEffect u off (d.testKey u))).run d := by
  simp only [registerWrite, run_withDev, hal, hoff, hv, hown, beq_self_eq_true, decide_true, Bool.not_false, Bool.true_or, Bool.and_self,
    run_when_true]

/-- Settles O13: the judgement takes the lowest cause that applies, and whatever the register, its cause leads to the one rejection. -/
theorem writesAreRejected : Obligations.WritesAreRejected := by
  unfold Obligations.WritesAreRejected
  refine ⟨fun s u off v be cause h hal hoff hv hown hp hfs hj => ?_, fun d u off v be r => ⟨judgeWrite_partial d u off v r, ?_⟩,
    fun d u off v be cause rule after hp hfs hj => run_writeReg_rejected after hp hfs hj⟩
  · refine does_of (p := registerWrite u off v be) rfl h _ ?_ (rejectWrite_rejects s.dev u hoff (judgeWrite_lt hj))
    exact (run_registerWrite hal hoff hv hown).trans (run_writeReg_rejected _ hp hfs hj)
  · rintro rfl
    exact judgeWrite_lowest d u off v r

/-! ### The grace timer and FAULT_N -/

/-- The Mode Controller is in every variant. -/
theorem present_mc (d : Dev) : d.present MC = true := by
  simp [Dev.present, show isUnit MC = true by decide, show 0x10 ≤ typeOf MC by decide]

/-- Outside the Damper's path window a word is held at its own offset. -/
theorem hostFields_of_type_ne (d : Dev) {u : Nat} (h : typeOf u ≠ 0x04) (off : Nat) : d.hostFields u off = wordFields (typeOf u) off := by
  simp [Dev.hostFields, Dev.hostOffset, h]

/-- The word of FAULT_N's software level holds nothing but SW. -/
theorem hostFields_faultPin (d : Dev) : d.hostFields MC 0x144 = [(Reg.MC.SW, 0, 0)] := by
  rw [hostFields_of_type_ne d (by decide)]
  decide

/-- No cause of R54 applies to a full write of SW. -/
theorem judgeWrite_faultPin (d : Dev) (v : Nat) : d.judgeWrite MC 0x144 v 15 (plainRule d) = none := by
  simp [Dev.judgeWrite, hostFields_faultPin, plainRule, zeroBad, rangeBad, Fld.inRange, Reg.MC.SW]

/-- The pin follows SW unless the hardware phase holds it. -/
theorem run_followSw (d : Dev) : followSw.run d = d.apply (.reg (Reg.MC.PIN.at MC) (b2n (d.is MC Reg.MC.HW_PHASE || d.is MC Reg.MC.SW))) := rfl

/-- The block with a new software level, before the pin follows it. -/
def Dev.swSet (d : Dev) (v : Nat) : Dev := d.apply (.reg (Reg.MC.SW.at MC) (Reg.MC.SW.of v))

theorem swSet_sw (d : Dev) (v : Nat) : (d.swSet v).rd MC Reg.MC.SW = v / 2 ^ Reg.MC.SW.lo % 2 :=
  (rd_reg_same ..).trans (Nat.mod_mod ..)

theorem swSet_phase (d : Dev) (v : Nat) : (d.swSet v).is MC Reg.MC.HW_PHASE = d.is MC Reg.MC.HW_PHASE :=
  congrArg (· != 0) (rd_reg_ne _ _ (by decide))

/-- The level as a truth value is the bit written. -/
theorem swSet_is_sw (d : Dev) (v : Nat) : (d.swSet v).is MC Reg.MC.SW = v.testBit Reg.MC.SW.lo := by
  rw [Dev.is, swSet_sw, Nat.testBit_eq_decide_div_mod_eq]
  obtain hbit | hbit := Nat.mod_two_eq_zero_or_one (v / 2 ^ Reg.MC.SW.lo) <;> rw [hbit] <;> rfl

/-- A full write of FAULT_N's software level. -/
theorem run_writeFaultPin (d : Dev) (v : Nat) : (writeReg MC 0x144 v 15 plainRule followSw).run d = (d.swSet v).apply
    (.reg (Reg.MC.PIN.at MC) (b2n (d.is MC Reg.MC.HW_PHASE || v.testBit Reg.MC.SW.lo))) := by
  have hfs := hostFields_faultPin d
  rw [run_writeReg_accepted _ (present_mc d) (by simp [hfs]) (judgeWrite_faultPin d v), hfs]
  show followSw.run (d.swSet v) = _
  rw [run_followSw, swSet_phase, swSet_is_sw]

/-- The block at the end of the hardware phase, before the pin follows SW again. -/
def Dev.phaseOver (d : Dev) (t0 : Nat) : Dev :=
  (((d.reach t0).apply (.disarm Timer.faultPhase.code)).apply (.reg (Reg.MC.HW_PHASE.at MC) 0)).apply (.reg (Reg.MC.HW_LEFT.at MC) 0)

theorem phaseOver_phase (d : Dev) (t0 : Nat) : (d.phaseOver t0).rd MC Reg.MC.HW_PHASE = 0 := by
  rw [Dev.phaseOver, rd_reg_ne _ _ (by decide), rd_reg_same, Nat.zero_mod]

theorem phaseOver_left (d : Dev) (t0 : Nat) : (d.phaseOver t0).rd MC Reg.MC.HW_LEFT = 0 := by
  rw [Dev.phaseOver, rd_reg_same, Nat.zero_mod]

theorem phaseOver_sw (d : Dev) (t0 : Nat) : (d.phaseOver t0).is MC Reg.MC.SW = d.is MC Reg.MC.SW := by
  refine congrArg (· != 0) ?_
  rw [Dev.phaseOver, rd_reg_ne _ _ (by decide), rd_reg_ne _ _ (by decide), rd_of_regs (disarm_regs ..), reach_rd]

theorem phaseOver_deadline (d : Dev) (t0 : Nat) : (d.phaseOver t0).deadline .faultPhase = none := by
  rw [Dev.phaseOver, deadline_of_timers (reg_timers ..), deadline_of_timers (reg_timers ..)]
  exact deadline_disarm_same ..

theorem phaseOver_sameRegs (d : Dev) (t0 : Nat) {rs : List Ref} (hphase : Reg.MC.HW_PHASE.at MC ∈ rs) (hleft : Reg.MC.HW_LEFT.at MC ∈ rs) :
    SameRegs d (d.phaseOver t0) rs := by
  rw [Dev.phaseOver, sameRegs_reg hleft, sameRegs_reg hphase, sameRegs_of_regs (disarm_regs ..), sameRegs_reach]
  exact sameRegs_refl _ _

/-- The end of the hardware phase: the pin follows SW again. -/
theorem run_faultPhaseEnd {d : Dev} {t0 : Nat} (ht : d.deadline .faultPhase = some t0) :
    (onExpiry .faultPhase (seqs [putB MC Reg.MC.HW_PHASE false, put MC Reg.MC.HW_LEFT 0, followSw])).run d =
      (d.phaseOver t0).apply (.reg (Reg.MC.PIN.at MC) (b2n (d.is MC Reg.MC.SW))) := by
  rw [run_onExpiry_some _ ht, run_seqs_cons, run_seqs_cons, run_seqs_cons, run_seqs_nil]
  show followSw.run (d.phaseOver t0) = _
  rw [run_followSw, is_eq_false (phaseOver_phase d t0), phaseOver_sw, Bool.false_or]

/-- Settles O16: the two timers stop at their deadlines, and the pin takes the level of SW unless the hardware phase holds it. -/
theorem graceAndFaultPin : Obligations.GraceAndFaultPin := by
  unfold Obligations.GraceAndFaultPin
  refine ⟨fun s u t0 h ht => ?grace, fun s t0 h ht => ?phase, fun s v be h hv => ⟨?sw, fun hbe => ?rejected⟩⟩
  case grace =>
    refine does_of (p := onExpiry (.grace u) (seqs [putB u Reg.HDR.TIMER_RUN false, escalate u])) rfl h
      (((s.dev.reach t0).apply (.disarm (Timer.grace u).code)).apply (.reg (Reg.HDR.TIMER_RUN.at u) 0)) ?_ ⟨rd_reg_same .., ?_, rfl, ?_, ?_⟩
    · rw [run_onExpiry_some _ ht]
      simp only [run_seqs_cons, run_seqs_nil, run_reach, run_stopTimer, run_putB, b2n_false]
    · exact (deadline_of_timers (reg_timers ..) _).trans (deadline_disarm_same ..)
    · simp
    · rw [sameRegs_reg (List.mem_singleton_self _), sameRegs_of_regs (disarm_regs ..), sameRegs_reach]
      exact sameRegs_refl _ _
  case phase =>
    refine does_of (p := onExpiry .faultPhase (seqs [putB MC Reg.MC.HW_PHASE false, put MC Reg.MC.HW_LEFT 0, followSw])) rfl h
      ((s.dev.phaseOver t0).apply (.reg (Reg.MC.PIN.at MC) (b2n (s.dev.is MC Reg.MC.SW)))) (run_faultPhaseEnd ht) ⟨?_, ?_, ?_, ?_, rfl, ?_⟩
    · rw [rd_reg_ne _ _ (by decide), phaseOver_phase]
    · rw [rd_reg_ne _ _ (by decide), phaseOver_left]
    · exact (rd_reg_same ..).trans (b2n_mod _ (by decide))
    · rw [deadline_of_timers (reg_timers ..), phaseOver_deadline]
    · exact (sameRegs_reg (by simp) _).mpr (phaseOver_sameRegs s.dev t0 (by simp) (by simp))
  case sw =>
    refine does_of (p := writeReg MC 0x144 v 15 plainRule followSw) rfl h ((s.dev.swSet v).apply
      (.reg (Reg.MC.PIN.at MC) (b2n (s.dev.is MC Reg.MC.HW_PHASE || v.testBit Reg.MC.SW.lo)))) (run_writeFaultPin s.dev v) ⟨?_, ?_, ?_⟩
    · rw [rd_reg_ne _ _ (by decide), swSet_sw]
    · exact (rd_reg_same ..).trans (b2n_mod _ (by decide))
    · rw [onlyRegs_reg (by simp), Dev.swSet, onlyRegs_reg (by simp)]
      exact onlyRegs_refl _ _
  case rejected =>
    refine does_of (p := writeReg MC 0x144 v be plainRule followSw) rfl h _ ?_ (rejectWrite_rejects s.dev MC (by decide) (by decide))
    exact run_writeReg_rejected _ (present_mc _) (by simp [hostFields_faultPin]) (judgeWrite_partial _ _ _ _ _ hbe)

end Sys2Proof.Machine

namespace Sys2Proof.Machine

/-! ### A block at rest

What follows any command, on a block without sections whose registers hold their reset values but for one word: the word of ERR_OVF of
CS.HA, which none of the rules reads or writes there. -/

/-- A block out of reset that has nothing but its register file. -/
def idleWith (regs : Bank Nat) : Dev := { porst := false, variant := { consistent := false }, regs := regs }

/-- The address of the word that the block may hold other than at reset. -/
def ovfWord : Nat := HA * 0x8000 + Reg.HDR.ERR_OVF.off

/-- Every field outside the word holds its reset value. -/
def Dev.Idle (d : Dev) : Prop := (∃ regs, d = idleWith regs) ∧ ∀ r : Ref, r.key / 32 ≠ ovfWord → d.get r = r.rst

/-- The script leaves a block at rest at rest, and its ERR_OVF as it was. -/
def LeavesIdle (p : Script) : Prop := ∀ d : Dev, d.Idle → (p.run d).Idle ∧ (p.run d).rd HA Reg.HDR.ERR_OVF = d.rd HA Reg.HDR.ERR_OVF

/-- The address of a field's word. -/
theorem key_at_div (f : Fld) (u i j : Nat) (hlo : f.lo < 32) : (f.at u i j).key / 32 = u * 0x8000 + (f.off + f.stride * i + f.stride2 * j) := by
  show ((u * 0x8000 + (f.off + f.stride * i + f.stride2 * j)) * 32 + f.lo) / 32 = u * 0x8000 + (f.off + f.stride * i + f.stride2 * j)
  omega

/-- A field outside the word reads its reset value. -/
theorem Dev.Idle.rd {d : Dev} (h : d.Idle) {u i j : Nat} {f : Fld} (hlo : f.lo < 32)
    (hk : u * 0x8000 + (f.off + f.stride * i + f.stride2 * j) ≠ ovfWord) : d.rd u f i j = f.rsts.getD i f.rst :=
  h.2 _ fun he => hk (by rw [← he, key_at_div f u i j hlo])

theorem leavesIdle_seqs {ps : List Script} (h : ∀ p ∈ ps, LeavesIdle p) : LeavesIdle (seqs ps) := by
  induction ps with
  | nil => exact fun d hd => ⟨hd, rfl⟩
  | cons p ps ih =>
    intro d hd
    obtain ⟨hidle, hovf⟩ := h p (List.mem_cons_self ..) d hd
    obtain ⟨hidle', hovf'⟩ := ih (fun q hq => h q (List.mem_cons_of_mem _ hq)) _ hidle
    rw [run_seqs_cons]
    exact ⟨hidle', hovf'.trans hovf⟩

theorem leavesIdle_withDev {k : Dev → Script} (h : ∀ d : Dev, d.Idle → LeavesIdle (k d)) : LeavesIdle (withDev k) :=
  fun d hd => h d hd d hd

/-- A script that does nothing at rest. -/
theorem leavesIdle_of_run {p : Script} (h : ∀ d : Dev, d.Idle → p.run d = d) : LeavesIdle p := fun d hd => by
  rw [h d hd]
  exact ⟨hd, rfl⟩

/-- A script that does nothing whatever the registers hold. -/
theorem leavesIdle_of_regs {p : Script} (h : ∀ regs, p.run (idleWith regs) = idleWith regs) : LeavesIdle p :=
  leavesIdle_of_run fun d hd => by
    obtain ⟨⟨regs, rfl⟩, -⟩ := hd
    exact h regs

/-- A script that does nothing while a flag at rest is clear. -/
theorem leavesIdle_of_flag {p : Script} (u : Nat) (f : Fld) (hlo : f.lo < 32) (hk : u * 0x8000 + (f.off + f.stride * 0 + f.stride2 * 0) ≠ ovfWord)
    (hrst : f.rsts.getD 0 f.rst = 0) (h : ∀ regs, (idleWith regs).is u f = false → p.run (idleWith regs) = idleWith regs) : LeavesIdle p :=
  leavesIdle_of_run fun d hd => by
    have hclear : d.is u f = false := is_eq_false ((hd.rd hlo hk).trans hrst)
    obtain ⟨⟨regs, rfl⟩, -⟩ := hd
    exact h regs hclear

theorem leavesIdle_skip : LeavesIdle skip := fun _ hd => ⟨hd, rfl⟩

theorem leavesIdle_when_false {p : Script} : LeavesIdle (when false p) := leavesIdle_skip

/-- A field outside the word takes its reset value. -/
theorem leavesIdle_put {u v i : Nat} {f : Fld} (hk : (f.at u i).key / 32 ≠ ovfWord) (hv : v % 2 ^ f.width = f.rsts.getD i f.rst) :
    LeavesIdle (put u f v i) := by
  intro d hd
  obtain ⟨⟨regs, rfl⟩, hrst⟩ := hd
  have hput : regs.put (f.at u i).rst (f.at u i).key (v % 2 ^ f.width) = bankErase regs (f.at u i).key := if_pos hv
  refine ⟨⟨⟨_, rfl⟩, fun r hr => ?_⟩, rd_reg_ne _ _ fun hne => hk (by rw [← hne]; rfl)⟩
  by_cases hkey : r.key = (f.at u i).key
  · rw [hkey] at hr
    show (regs.put (f.at u i).rst (f.at u i).key (v % 2 ^ f.width)).get r.rst r.key = r.rst
    rw [hput, hkey]
    exact bankGet_erase_same ..
  · exact (get_reg_ne _ _ hkey).trans (hrst r hr)

/-! #### What follows any command -/

/-- At rest the device is in Cold. -/
theorem Dev.Idle.mode {d : Dev} (h : d.Idle) : d.mode = .cold := by
  rw [Dev.mode, h.rd (by decide) (by decide)]
  rfl

theorem answerLoss_leavesIdle : LeavesIdle answerLoss :=
  leavesIdle_of_flag EV Reg.EV.P1_DIVERT (by decide) (by decide) rfl fun regs hclear => by
    rw [answerLoss, run_withDev, hclear]
    rfl

theorem showDevMute_leavesIdle : LeavesIdle showDevMute :=
  leavesIdle_of_flag MC Reg.MC.EMBER_DEV_MUTE (by decide) (by decide) rfl fun regs hclear => by
    rw [showDevMute, run_withDev]
    simp only [hclear]
    rfl

theorem answerEmber_leavesIdle : LeavesIdle answerEmber := by
  refine leavesIdle_of_run fun d hd => ?_
  have hmode := hd.mode
  obtain ⟨⟨regs, rfl⟩, -⟩ := hd
  have hseen : (idleWith regs).mc.emberSeen = 0 := rfl
  have hops : (idleWith regs).cc.ops = [] := rfl
  simp [answerEmber, Dev.emberNow, hmode, hseen, hops]

theorem answerBackoff_leavesIdle : LeavesIdle answerBackoff := by
  refine leavesIdle_withDev fun d hd => ?_
  have hmode := hd.mode
  obtain ⟨⟨regs, rfl⟩, -⟩ := hd
  rw [hmode]
  refine leavesIdle_seqs ?_
  simp only [List.forall_mem_cons, List.not_mem_nil, false_imp_iff, implies_true, and_true]
  refine ⟨leavesIdle_put (by decide) rfl, leavesIdle_put (by decide) rfl, leavesIdle_put (by decide) rfl, leavesIdle_when_false,
    leavesIdle_withDev fun e he => ?_⟩
  have hmode' := he.mode
  obtain ⟨⟨regs', rfl⟩, -⟩ := he
  rw [hmode']
  refine leavesIdle_seqs ?_
  simp only [List.forall_mem_cons, List.not_mem_nil, false_imp_iff, implies_true, and_true]
  exact ⟨leavesIdle_skip, leavesIdle_put (by decide) rfl⟩

theorem answerLockout_leavesIdle : LeavesIdle answerLockout :=
  leavesIdle_of_flag MC Reg.MC.LOCKOUT (by decide) (by decide) rfl fun regs hclear => by
    rw [answerLockout, run_withDev]
    simp only [hclear]
    rfl

/-- At rest no tap is open. -/
theorem Dev.Idle.openTaps {d : Dev} (h : d.Idle) : d.openTaps = [] := by
  refine List.filter_eq_nil_iff.mpr fun t ht => ?_
  have ht64 := List.mem_range.mp ht
  have hstate : d.rd HP Reg.HP.TAP_STATE t = 0 := h.rd (by decide) (by simp only [HP, HA, ovfWord, Reg.HP.TAP_STATE, Reg.HDR.ERR_OVF]; omega)
  simp [Dev.tapOpen, hstate]

theorem refreshTaps_leavesIdle : LeavesIdle refreshTaps := by
  refine leavesIdle_withDev fun d hd => ?_
  have hused : d.rd HP Reg.HP.USED = 0 := hd.rd (by decide) (by decide)
  have hlimit : d.rd HP Reg.HP.LIMIT = 0 := hd.rd (by decide) (by decide)
  have hlink : d.is HP Reg.HP.LINK_UP = false := is_eq_false (hd.rd (by decide) (by decide))
  have hnone : d.tapLimit = 0 := by
    rw [Dev.tapLimit, hlink]
    rfl
  have hzero : ceilDiv 0 10 = 0 := rfl
  dsimp only
  rw [hd.openTaps, List.map_nil, List.foldl_nil, hzero, hused, hlimit, hnone]
  refine leavesIdle_seqs ?_
  simp only [List.forall_mem_cons, List.not_mem_nil, false_imp_iff, implies_true, and_true]
  exact ⟨leavesIdle_when_false, leavesIdle_when_false, leavesIdle_skip⟩

theorem answerRecorder_leavesIdle : LeavesIdle answerRecorder := by
  refine leavesIdle_of_run fun d hd => ?_
  have hdone : d.is CY Reg.CY.ID_DONE = false := is_eq_false (hd.rd (by decide) (by decide))
  have hready : d.is WS Reg.WS.READY = false := is_eq_false (hd.rd (by decide) (by decide))
  obtain ⟨⟨regs, rfl⟩, -⟩ := hd
  rw [answerRecorder, run_withDev]
  dsimp only
  rw [hdone, hready]
  rfl

theorem showDirty_leavesIdle : LeavesIdle showDirty :=
  leavesIdle_of_flag CE Reg.CE.DIRTY (by decide) (by decide) rfl fun regs hclear => by
    rw [showDirty, run_withDev]
    simp only [hclear]
    rfl

theorem showTimers_leavesIdle : LeavesIdle showTimers := by
  refine leavesIdle_withDev fun d hd => ?_
  have hphase : d.is MC Reg.MC.HW_PHASE = false := is_eq_false (hd.rd (by decide) (by decide))
  obtain ⟨⟨regs, rfl⟩, -⟩ := hd
  dsimp only
  rw [hphase]
  refine leavesIdle_seqs ?_
  simp only [List.forall_mem_cons, List.not_mem_nil, false_imp_iff, implies_true, and_true]
  exact ⟨leavesIdle_put (by decide) rfl, leavesIdle_put (by decide) rfl, leavesIdle_put (by decide) rfl, leavesIdle_put (by decide) rfl,
    leavesIdle_put (by decide) rfl⟩

theorem noteControls_leavesIdle : LeavesIdle noteControls := by
  refine leavesIdle_of_run fun d hd => ?_
  have happ : d.applied = false := by simp [Dev.applied, Dev.configured, Dev.modeIn, hd.mode]
  obtain ⟨⟨regs, rfl⟩, -⟩ := hd
  rw [noteControls, run_withDev, happ]
  rfl

/-- At rest no unit asserts its interrupt. -/
theorem Dev.Idle.irqSum {d : Dev} (h : d.Idle) (n : Nat) : d.irqSum n = 0 := by
  have hirq (us : List Nat) : us.filter d.interrupt = [] := by
    refine List.filter_eq_nil_iff.mpr fun u _ => ?_
    have hen : d.is u Reg.HDR.IRQ_EN = false :=
      is_eq_false (h.rd (by decide) (by simp only [HA, ovfWord, Reg.HDR.IRQ_EN, Reg.HDR.ERR_OVF]; omega))
    simp [Dev.interrupt, hen]
  simp only [Dev.irqSum, hirq]
  rfl

theorem refreshIrq_leavesIdle : LeavesIdle refreshIrq := by
  refine leavesIdle_withDev fun d hd => leavesIdle_seqs fun p hp => ?_
  obtain ⟨n, hn, rfl⟩ := List.mem_map.mp hp
  have hshown : d.rd HP Reg.HP.IRQ_SUM n = 0 := by
    have hn5 := List.mem_range.mp hn
    exact hd.rd (by decide) (by simp only [HP, HA, ovfWord, Reg.HP.IRQ_SUM, Reg.HDR.ERR_OVF]; omega)
  dsimp only
  rw [hshown, hd.irqSum]
  exact leavesIdle_when_false

/-- What follows any command keeps a block at rest at rest. -/
theorem settle_leavesIdle : LeavesIdle settle := by
  refine leavesIdle_seqs ?_
  simp only [List.forall_mem_cons, List.not_mem_nil, false_imp_iff, implies_true, and_true, answerLoss_leavesIdle, showDevMute_leavesIdle,
    answerEmber_leavesIdle, answerBackoff_leavesIdle, answerLockout_leavesIdle, refreshTaps_leavesIdle, answerRecorder_leavesIdle,
    showDirty_leavesIdle, showTimers_leavesIdle, noteControls_leavesIdle, refreshIrq_leavesIdle, true_and]
  and_intros
  all_goals exact leavesIdle_of_regs fun _ => rfl

/-! ### A W1C field that holds more than its width -/

/-- A block at rest whose ERR_OVF, a field of one bit, holds 2. -/
def ovfPastField : State := { dev := idleWith [((Reg.HDR.ERR_OVF.at HA).key, 2)] }

/-- A write that clears nothing stores the field's one bit. -/
theorem registerWrite_ovfPastField : (registerWrite HA 0x018 0 15).run ovfPastField.dev = idleWith [] := by decide +kernel

/-- What the access code W1C would keep of it. -/
theorem written_ovfPastField : ovfPastField.dev.written HA 0 (Reg.HDR.ERR_OVF, 0, 0) = 2 := by decide +kernel

/-- Nothing of its own follows a write of the word. -/
theorem registerEffect_ovf (before : Bool × Bool) : registerEffect HA 0x018 before = skip := rfl

theorem idle_reset : (idleWith []).Idle := ⟨⟨[], rfl⟩, fun _ _ => rfl⟩

/-- The block, and any that differs from it in the word alone, is at rest. -/
theorem idle_of_onlyRegs {d : Dev} {rs : List Ref} (h : OnlyRegs ovfPastField.dev d rs) (hrs : ∀ r ∈ rs, r.key / 32 = ovfWord) : d.Idle := by
  obtain ⟨hsame, hdev⟩ := h
  refine ⟨⟨d.regs, hdev⟩, fun r hr => (hsame r fun x hx hk => hr (hk ▸ hrs x hx)).trans ?_⟩
  exact if_neg fun hk => hr (congrArg (· / 32) hk.symm)

/-- A host write of a word: what it says, and what follows any command. -/
theorem exec_registerWrite_runs (u off v be : Nat) {s : State} (h : s.runs) :
    exec (.registerWrite u off v be) s = .next { s with dev := settle.run ((registerWrite u off v be).run s.dev) } :=
  performSettled_runs _ h

/-- Refutes O15: nothing there says that a stored value fits its field. Where a W1C field holds more, a write that clears nothing keeps
only the field's bits, and no rule that follows the write brings the others back. -/
theorem not_headerWrites : ¬ Obligations.HeaderWrites := by
  unfold Obligations.HeaderWrites
  rintro ⟨hwrite, -⟩
  obtain ⟨haccepted, -⟩ := hwrite ovfPastField HA 0x018 0 rfl rfl (by decide) (by decide) (by decide) (by decide)
  obtain ⟨d, hexec, hwritten, honly⟩ := haccepted (by decide +kernel) (by decide +kernel)
  rw [registerEffect_ovf, run_skip] at hexec
  have hidle : d.Idle := idle_of_onlyRegs honly (by decide +kernel)
  have hovf : d.rd HA Reg.HDR.ERR_OVF = 2 := (hwritten (Reg.HDR.ERR_OVF, 0, 0) (by decide +kernel)).trans written_ovfPastField
  have hrun := exec_registerWrite_runs HA 0x018 0 15 (s := ovfPastField) rfl
  rw [registerWrite_ovfPastField, hexec] at hrun
  obtain ⟨-, hdev⟩ := State.mk.inj (Host.Outcome.next.inj hrun)
  have hlost := (settle_leavesIdle _ idle_reset).2
  rw [← hdev, (settle_leavesIdle d hidle).2, hovf] at hlost
  exact absurd hlost (by decide)

end Sys2Proof.Machine

namespace Sys2Proof.Machine

/-! ### Cells behind their registers -/

theorem cellAt_cell_ne (d : Dev) {k k' : Nat} (v : Cell) (h : k' ≠ k) : (d.apply (.cell k v)).cellAt k' = d.cellAt k' :=
  Bank.get_put_ne _ _ _ _ h

@[simp] theorem cellAt_reg (d : Dev) (r : Ref) (v k : Nat) : (d.apply (.reg r v)).cellAt k = d.cellAt k := rfl
@[simp] theorem cellAt_wide (d : Dev) (w v k : Nat) : (d.apply (.wide w v)).cellAt k = d.cellAt k := rfl

/-! ### Live 64-bit values -/

@[simp] theorem rd_wide (d : Dev) (w v u i j : Nat) (f : Fld) : (d.apply (.wide w v)).rd u f i j = d.rd u f i j := rfl
@[simp] theorem live_reg (d : Dev) (r : Ref) (v u i j : Nat) (f : Fld) : (d.apply (.reg r v)).live u f i j = d.live u f i j := rfl
@[simp] theorem live_wide_same (d : Dev) (u i j v : Nat) (f : Fld) :
    (d.apply (.wide (f.at u i j).key v)).live u f i j = v % 2 ^ 64 := Bank.get_put_same ..

@[simp] theorem run_putLive (d : Dev) (u i j v : Nat) (f : Fld) : (putLive u f v i j).run d =
    (d.apply (.wide (f.at u i j).key v)).apply (.reg (f.at u i j) (v % 2 ^ 32)) := rfl

/-! ### A sync event on one cell -/

/-- A cell as a sync event at `ts` leaves it: on its new grid, its averages and block count started over. -/
def Dev.syncedCell (d : Dev) (c ts : Nat) : Cell := { d.cellAt c with
  tg := some (if d.evenGrid c then ts + ts % 2 else ts)
  settleEnd := ts + d.settling c, agc := [], traffic := [], blocks := 0
  syncMute := (d.cellAt c).syncMute || (d.mode == .service && d.live? c) }

/-- The block once a sync event has met the cell's grid, block count and stamp. -/
def Dev.syncStamped (d : Dev) (c ts : Nat) : Dev :=
  (((d.apply (.cell c (d.syncedCell c ts))).apply (.reg (Reg.BC.BLK_CNT.at c) 0)).apply
    (.wide (Reg.BC.SYNC_DT_LO.at c).key ts)).apply (.reg (Reg.BC.SYNC_DT_LO.at c) (ts % 2 ^ 32))

theorem syncStamped_blkCnt (d : Dev) (c ts : Nat) : (d.syncStamped c ts).rd c Reg.BC.BLK_CNT = 0 := by
  simp (disch := decide) only [Dev.syncStamped, rd_reg_sibling, rd_wide, rd_reg_same, Nat.zero_mod]

theorem syncStamped_syncCnt (d : Dev) (c ts : Nat) : (d.syncStamped c ts).rd c Reg.BC.SYNC_CNT = d.rd c Reg.BC.SYNC_CNT := by
  simp (disch := decide) only [Dev.syncStamped, rd_reg_sibling, rd_wide, rd_cell]

/-- The block once the sync event has counted too, before its record is made. -/
def Dev.synced (d : Dev) (c ts : Nat) : Dev := (inc c Reg.BC.SYNC_CNT).run (d.syncStamped c ts)

theorem synced_cellAt (d : Dev) (c ts : Nat) : (d.synced c ts).cellAt c = d.syncedCell c ts := by
  simp only [Dev.synced, Dev.syncStamped, run_inc, cellAt_reg, cellAt_wide, cellAt_cell_same]

theorem synced_cellAt_ne (d : Dev) {c c' : Nat} (ts : Nat) (h : c' ≠ c) : (d.synced c ts).cellAt c' = d.cellAt c' := by
  simp only [Dev.synced, Dev.syncStamped, run_inc, cellAt_reg, cellAt_wide, cellAt_cell_ne _ _ h]

theorem synced_blkCnt (d : Dev) (c ts : Nat) : (d.synced c ts).rd c Reg.BC.BLK_CNT = 0 := by
  simp (disch := decide) only [Dev.synced, run_inc, rd_reg_sibling, syncStamped_blkCnt]

theorem synced_stamp (d : Dev) (c ts : Nat) : (d.synced c ts).live c Reg.BC.SYNC_DT_LO = ts % 2 ^ 64 := by
  rw [Dev.synced, Dev.syncStamped, run_inc, live_reg, live_reg, live_wide_same]

theorem synced_counts (d : Dev) (c ts : Nat) : Counts d (d.synced c ts) c Reg.BC.SYNC_CNT := by
  rw [Counts, Dev.synced, rd_inc, syncStamped_syncCnt]

/-- A sync event on a cell: its grid, stamp and counters, then what follows the event. -/
theorem run_syncCell (c ts : Nat) (d : Dev) : (syncCell c ts).run d =
    (seqs [noteRec c 0x41 (leBytes 8 ts), putB c Reg.BC.SETTLING true, startTimerAt (.settle c) (ts + d.settling c), respSwitch c ts,
      floorProbe c, setGate c (!d.is c Reg.BC.SQ_EN)]).run (d.synced c ts) := by
  rw [syncCell, run_withDev, run_seqs_cons, run_seqs_cons, run_seqs_cons, run_seqs_cons, run_modCell, run_put, run_putLive]
  rfl

/-! ### The end of a settling interval -/

/-- The block once the settling interval of the cell has ended at `t0`. -/
def Dev.settled (d : Dev) (c t0 : Nat) : Dev :=
  let x := ((d.reach t0).apply (.disarm (Timer.settle c).code)).apply (.reg (Reg.BC.SETTLING.at c) 0)
  x.apply (.cell c { x.cellAt c with syncMute := false })

theorem run_settlingEnd {d : Dev} {c t0 : Nat} (ht : d.deadline (.settle c) = some t0) :
    (onExpiry (.settle c) (settlingEnd c)).run d = d.settled c t0 := by
  rw [run_onExpiry_some _ ht, settlingEnd, run_seqs_cons, run_seqs_cons, run_seqs_nil]
  rfl

theorem settled_settling (d : Dev) (c t0 : Nat) : (d.settled c t0).rd c Reg.BC.SETTLING = 0 := by
  rw [Dev.settled, rd_cell, rd_reg_same, Nat.zero_mod]

theorem settled_syncMute (d : Dev) (c t0 : Nat) : ((d.settled c t0).cellAt c).syncMute = false :=
  congrArg Cell.syncMute (cellAt_cell_same ..)

theorem settled_deadline (d : Dev) (c t0 : Nat) : (d.settled c t0).deadline (.settle c) = none :=
  (deadline_of_timers rfl _).trans (deadline_disarm_same ..)

theorem settled_sameRegs (d : Dev) (c t0 : Nat) : SameRegs d (d.settled c t0) [Reg.BC.SETTLING.at c] := by
  rw [Dev.settled, sameRegs_cell, sameRegs_reg (List.mem_singleton_self _), sameRegs_of_regs (disarm_regs ..), sameRegs_reach]
  exact sameRegs_refl _ _

/-! ### Sync commands and edges -/

/-- No mode both takes sync events and ignores them. -/
theorem not_ignores_of_takesSync {d : Dev} (h : d.modeIn [.kindling, .banked, .ember, .service] = true) :
    d.modeIn [.survey, .carry, .backoff] = false := by
  unfold Dev.modeIn at *
  revert h
  cases d.mode <;> decide

/-- Settles O20: a command or an edge is judged by the mode, alignment and its tag, and a sync event or the end of its settling
interval is one block of changes with what follows. -/
theorem syncRequests : Obligations.SyncRequests := by
  unfold Obligations.SyncRequests
  refine ⟨fun s tag c h hc => ⟨fun hmode => ?mode, fun hmode => ⟨fun hal => ?waits, fun hal => ?refused⟩⟩, fun s tag t1 t2 h hw => ?timeout,
    fun s t h hlock => ⟨fun hmode => ?taken, fun hmode => ?ignored⟩, fun d c ts _ => ?cell, fun d ts hlast => ?oneEvent,
    fun s c t0 h ht => ?settled⟩
  case mode =>
    exact does_of (p := syncDecimators tag) rfl h s.dev (by simp only [syncDecimators, run_withDev, hc, hmode, if_true]) rfl
  case waits =>
    refine does_of (p := syncDecimators tag) rfl h (s.dev.apply (.base { s.dev.base with
      syncWait := s.dev.base.syncWait ++ [(tag, s.dev.dt + 64, s.dev.dt + 2 * s.dev.rd TB Reg.TB.SYSREF_PERIOD)] })) ?_ rfl
    rw [ignoresBase_takeUp]
    simp only [syncDecimators, run_withDev, hc, hmode, is_eq_true hal, Bool.not_true, Bool.false_eq_true, if_false, run_seqs_cons,
      run_seqs_nil, run_modBase, (ignoresBase_takeUp tag).run_base]
  case refused =>
    refine does_of (p := syncDecimators tag) rfl h s.dev ?_ rfl
    simp only [syncDecimators, run_withDev, hc, hmode, is_eq_false hal, Bool.not_false, Bool.false_eq_true, if_false, if_true]
  case timeout =>
    refine does_of (p := syncTimeout tag) rfl h ((s.dev.reach t2).apply (.base { s.dev.base with
      syncWait := s.dev.base.syncWait.filter fun w => w.1 != tag })) ?_ rfl
    simp only [syncTimeout, run_withDev, hw, run_seqs_cons, run_seqs_nil, run_reach, run_modBase, reach_base]
  case taken =>
    have hset := is_eq_true (show s.dev.rd CK Reg.CK.ROOT_LOCK ≠ 0 by rw [hlock]; decide)
    have htakes : s.dev.takesSync = true := hmode
    refine does_clock (p := syncInEdge t) rfl h (s.dev.reach (t + 3)) ?_ rfl
    simp only [syncInEdge, run_withDev, hset, run_when_true, not_ignores_of_takesSync hmode, htakes, Bool.false_eq_true, if_false,
      run_seqs_cons, run_seqs_nil, run_reach]
  case ignored =>
    have hset := is_eq_true (show s.dev.rd CK Reg.CK.ROOT_LOCK ≠ 0 by rw [hlock]; decide)
    refine does_clock (p := syncInEdge t) rfl h (s.dev.reach (t + 3)) ?_ rfl
    simp only [syncInEdge, run_withDev, hset, run_when_true, hmode, if_true, run_seqs_cons, run_seqs_nil, run_reach]
  case cell =>
    refine ⟨d.synced c ts, run_syncCell c ts d, ?_, ?_, rfl, ?_, synced_blkCnt .., synced_stamp .., synced_counts ..,
      fun c' hne => synced_cellAt_ne d ts hne⟩
    all_goals rw [synced_cellAt]; rfl
  case oneEvent =>
    simp only [syncEvent, run_withDev, hlast, bne_self_eq_false, run_when_false]
  case settled =>
    refine does_of (p := onExpiry (.settle c) (settlingEnd c)) rfl h (s.dev.settled c t0) (run_settlingEnd ht)
      ⟨settled_settling .., settled_syncMute .., settled_deadline .., rfl, settled_sameRegs s.dev c t0⟩

end Sys2Proof.Machine

namespace Sys2Proof.Machine

/-! ### A block of a cell ends -/

@[simp] theorem rd_plane (d : Dev) (pl : Plane) (u i j : Nat) (f : Fld) : (d.apply (.plane pl)).rd u f i j = d.rd u f i j := rfl
@[simp] theorem cellAt_plane (d : Dev) (pl : Plane) (k : Nat) : (d.apply (.plane pl)).cellAt k = d.cellAt k := rfl
@[simp] theorem sameRegs_plane {d d' : Dev} {rs : List Ref} (pl : Plane) : SameRegs d (d'.apply (.plane pl)) rs ↔ SameRegs d d' rs :=
  sameRegs_of_regs rfl

/-- The completed blocks of the grid from `tg` on that are still to be taken up. -/
def Dev.blocksDone (d : Dev) (c tg : Nat) : List BlockSum :=
  (d.plane.cells.get {} c).done.filter fun b => decide (tg ≤ b.g)

/-- The plane without the block that is taken up: `rest` of the cell's blocks is left. -/
def Plane.leaving (pl : Plane) (c : Nat) (rest : List BlockSum) : Plane :=
  { pl with cells := pl.cells.put {} c { pl.cells.get {} c with done := rest } }

theorem leaving_done (pl : Plane) (c : Nat) (rest : List BlockSum) : ((pl.leaving c rest).cells.get {} c).done = rest :=
  congrArg CellSig.done (Bank.get_put_same ..)

/-- A cell once the block has ended: the block counts, and its stamps are those of its first sample at the ADC and at the DAC. -/
def Dev.stampedCell (d : Dev) (c : Nat) (b : BlockSum) : Cell := { d.cellAt c with
  blocks := b.num + 1
  stampRx := b.g - d.rd (d.rxlOf c) Reg.RXL.PATH_DT
  stampTx := b.g + d.rxChain c + d.core c + d.txChain c + d.rd (d.txlOf c) Reg.TXL.PATH_DT }

/-- The block once a cell's block has been taken up, counted and stamped, before its measurements. -/
def Dev.stamped (d : Dev) (c : Nat) (b : BlockSum) (rest : List BlockSum) : Dev :=
  ((d.apply (.plane (d.plane.leaving c rest))).apply (.reg (Reg.BC.BLK_CNT.at c) ((b.num % 2 ^ 32 + 1) % 2 ^ 32))).apply
    (.cell c (d.stampedCell c b))

theorem stamped_blkCnt (d : Dev) (c : Nat) (b : BlockSum) (rest : List BlockSum) :
    (d.stamped c b rest).rd c Reg.BC.BLK_CNT = (b.num % 2 ^ 32 + 1) % 2 ^ 32 := by
  rw [Dev.stamped, rd_cell, rd_reg_same]
  exact Nat.mod_mod _ _

theorem stamped_cellAt (d : Dev) (c : Nat) (b : BlockSum) (rest : List BlockSum) : (d.stamped c b rest).cellAt c = d.stampedCell c b :=
  cellAt_cell_same ..

theorem stamped_cellAt_ne (d : Dev) {c x : Nat} (b : BlockSum) (rest : List BlockSum) (h : x ≠ c) :
    (d.stamped c b rest).cellAt x = d.cellAt x := by
  rw [Dev.stamped, cellAt_cell_ne _ _ h, cellAt_reg, cellAt_plane]

theorem stamped_sameRegs (d : Dev) (c : Nat) (b : BlockSum) (rest : List BlockSum) :
    SameRegs d (d.stamped c b rest) [Reg.BC.BLK_CNT.at c] := by
  rw [Dev.stamped, sameRegs_cell, sameRegs_reg (List.mem_singleton_self _), sameRegs_plane]
  exact sameRegs_refl _ _

/-- What follows the count and the stamps of a cell's block: its powers, spectra, AGC, probe, detectors and deliveries. -/
def measureBlock (c : Nat) (b : BlockSum) (flag : Bool) (tadc : Nat) : Script := seqs [
  powerBlock c (b.num % 2 ^ 32) (energy b.raw, energy b.xin, energy b.out, normMax b.out) flag,
  when (!flag) (seqs [spectrumBlock c b.g (spectrum b.xin.reverse) (spectrum b.out.reverse), agcBlock c b.eqE, calBlock c b.xin]),
  probeBlock c b.traffic, spectralBlock c (energy b.out) (spectrum b.out.reverse) flag, noiseBlock c tadc (energy b.xin), takeTaps c,
  deliverLoop c, refreshUplink c]

theorem run_takeBlock_nil {d : Dev} {c tg : Nat} (h : d.blocksDone c tg = []) : (takeBlock c tg).run d = d := by
  unfold Dev.blocksDone at h
  rw [takeBlock, run_withDev]
  dsimp only
  rw [h, run_skip]

theorem run_takeBlock_cons {d : Dev} {c tg : Nat} {b : BlockSum} {rest : List BlockSum} (h : d.blocksDone c tg = b :: rest) :
    (takeBlock c tg).run d =
      (measureBlock c b (d.settles c b.g) (b.g - d.rd (d.rxlOf c) Reg.RXL.PATH_DT)).run (d.stamped c b rest) := by
  unfold Dev.blocksDone at h
  rw [takeBlock, run_withDev]
  dsimp only
  rw [h, run_seqs_cons, run_seqs_cons, run_seqs_nil, run_modPlane, finishBlock, run_withDev, run_seqs_cons, run_seqs_cons, run_put,
    run_modCell]
  rfl

/-- A cell that is on and has a grid takes up a block at its instant. -/
theorem run_blockEnd {d : Dev} {c tg : Nat} (feed : Feed) (hon : d.cellOn c = true) (htg : (d.cellAt c).tg = some tg) :
    (blockEnd c feed).run d = (takeBlock c tg).run ((runPlane feed).run (d.reach (d.blockDue c tg))) := by
  rw [blockEnd, run_withDev, htg]
  dsimp only
  rw [hon, run_when_true, run_seqs_cons, run_seqs_cons, run_seqs_cons, run_seqs_nil, run_reach]

theorem run_blockEnd_idle {d : Dev} {c : Nat} (feed : Feed) (h : d.cellOn c = false ∨ (d.cellAt c).tg = none) :
    (blockEnd c feed).run d = d := by
  rw [blockEnd, run_withDev]
  rcases h with hoff | hnone
  · cases (d.cellAt c).tg with
    | none => rfl
    | some tg => exact congrArg (fun on => (when on _).run d) hoff
  · rw [hnone, run_skip]

/-- Settles O48: the block ends where the plane has followed to its instant, and its measurements follow its count and stamps. -/
theorem blocksEndOnTheGrid : Obligations.BlocksEndOnTheGrid := by
  unfold Obligations.BlocksEndOnTheGrid
  refine ⟨fun s c tg feed h _ hon htg => ?_, fun s c feed h hidle => ?idle⟩
  · intro e done
    have hrun : (blockEnd c feed).run s.dev = (takeBlock c tg).run e := run_blockEnd feed hon htg
    refine ⟨fun hnone => ?none, fun b rest hdone => ?block⟩
    case none =>
      exact does_of (p := blockEnd c feed) rfl h e (hrun.trans (run_takeBlock_nil hnone)) rfl
    case block =>
      refine does_of (p := blockEnd c feed) rfl h (e.stamped c b rest) (hrun.trans (run_takeBlock_cons hdone))
        ⟨rfl, stamped_blkCnt .., ?_, ?_, ?_, leaving_done .., fun x hx => stamped_cellAt_ne e b rest hx, stamped_sameRegs e c b rest⟩
      all_goals rw [stamped_cellAt]; rfl
  case idle =>
    exact does_of (p := blockEnd c feed) rfl h s.dev (run_blockEnd_idle feed hidle) rfl

end Sys2Proof.Machine

namespace Sys2Proof.Machine

/-! ### Events at multiples of Device Time -/

/-- The block at the event of kind `k` at `t`: Device Time has reached it, and the event is noted. -/
def Dev.ticked (d : Dev) (k t : Nat) : Dev := (d.reach t).apply (.ticks k (t + 1))

/-- An event of kind `k` is due at `t`: Device Time counts, has not passed `t`, a multiple of the period, and the event has not
taken place there. -/
def Dev.multipleDue (d : Dev) (k per t : Nat) : Prop := d.base.counting = true ∧ d.dt ≤ t ∧ t % per = 0 ∧ d.ticksAt k ≤ t

section
variable (d : Dev) (k t : Nat)

/-- The clock and the note of the event change, and nothing else. -/
theorem ticked_eq : d.ticked k t = { d with clock := (d.reach t).clock, ticks := d.ticks.put 0 k (t + 1) } := by
  rw [Dev.ticked, reach_eq']
  rfl

theorem ticked_clock : (d.ticked k t).clock = (d.reach t).clock := rfl
theorem ticked_regs : (d.ticked k t).regs = d.regs := reach_regs d t
theorem ticked_ticksAt : (d.ticked k t).ticksAt k = t + 1 := Bank.get_put_same (d.reach t).ticks 0 k (t + 1)
theorem ticked_cellAt (c : Nat) : (d.ticked k t).cellAt c = d.cellAt c := by rw [ticked_eq]; rfl
theorem ticked_applied : (d.ticked k t).applied = d.applied := by rw [ticked_eq]; rfl
theorem ticked_sections : (d.ticked k t).sections = d.sections := by rw [ticked_eq]; rfl
theorem ticked_allCells : (d.ticked k t).allCells = d.allCells := by rw [ticked_eq]; rfl
theorem ticked_period (c : Nat) : (d.ticked k t).period c = d.period c := by rw [ticked_eq]; rfl
theorem ticked_chainSegs (c : Nat) : (d.ticked k t).chainSegs c = d.chainSegs c := by rw [ticked_eq]; rfl
theorem ticked_isUplink (c : Nat) : (d.ticked k t).isUplink c = d.isUplink c := by rw [ticked_eq]; rfl

end

/-- The guard of `onMultiple` is that the event is due. -/
theorem onMultiple_guard (d : Dev) (k per t : Nat) :
    (t % per == 0 && decide (d.dt ≤ t) && decide (d.ticksAt k ≤ t) && d.base.counting) = true ↔ d.multipleDue k per t := by
  simp only [Dev.multipleDue, Bool.and_eq_true, beq_iff_eq, decide_eq_true_eq]
  exact ⟨fun ⟨⟨⟨hper, hdt⟩, htick⟩, hcount⟩ => ⟨hcount, hdt, hper, htick⟩,
    fun ⟨hcount, hdt, hper, htick⟩ => ⟨⟨⟨hper, hdt⟩, htick⟩, hcount⟩⟩

/-- A due event notes itself at its time, and its script follows. -/
theorem run_onMultiple_due {d : Dev} {k per t : Nat} (p : Script) (h : d.multipleDue k per t) :
    (onMultiple k per t p).run d = p.run (d.ticked k t) := by
  rw [onMultiple, run_withDev, (onMultiple_guard d k per t).mpr h]
  simp only [run_when_true, run_seqs_cons, run_seqs_nil, run_reach, run_upd, Dev.ticked]

/-- An event that is not due does nothing. -/
theorem run_onMultiple_not_due {d : Dev} {k per t : Nat} (p : Script) (h : ¬d.multipleDue k per t) :
    (onMultiple k per t p).run d = d := by
  rw [onMultiple, run_withDev, Bool.eq_false_iff.mpr (mt (onMultiple_guard d k per t).mp h), run_when_false]

/-! ### Checks at multiples of Device Time, once a configuration is applied -/

/-- A periodic check: its script follows where a configuration is applied. -/
def periodicCheck (k per t : Nat) (q : Dev → Script) : Script :=
  onMultiple k per t (withDev fun d => when d.applied (q d))

section
variable {i : Instr} {s : State} {k per t : Nat} {q : Dev → Script}

/-- A check that is not due does nothing. -/
theorem does_periodicCheck_not_due (he : exec i s = performSettled (periodicCheck k per t q) s) (h : s.runs)
    (hdue : ¬s.dev.multipleDue k per t) : Does i s fun d => d = s.dev :=
  does_of he h s.dev (run_onMultiple_not_due _ hdue) rfl

/-- A due check with no configuration applied notes its time alone. -/
theorem does_periodicCheck_unapplied (he : exec i s = performSettled (periodicCheck k per t q) s) (h : s.runs)
    (hdue : s.dev.multipleDue k per t) (happ : s.dev.applied = false) :
    Does i s fun d => d.clock = (s.dev.reach t).clock ∧ d.ticksAt k = t + 1 ∧ d.regs = s.dev.regs := by
  refine does_of he h (s.dev.ticked k t) ?_ ⟨ticked_clock .., ticked_ticksAt .., ticked_regs ..⟩
  rw [periodicCheck, run_onMultiple_due _ hdue, run_withDev, ticked_applied, happ, run_when_false, run_skip]

/-- A due check of an applied configuration: its script follows the note of its time. `q'` is that script, read from the block before. -/
theorem does_periodicCheck_applied {q' : Script} (he : exec i s = performSettled (periodicCheck k per t q) s) (h : s.runs)
    (hdue : s.dev.multipleDue k per t) (happ : s.dev.applied = true) (hq : q (s.dev.ticked k t) = q') :
    Does i s (fun d => d.clock = (s.dev.reach t).clock ∧ d.ticksAt k = t + 1 ∧ d.regs = s.dev.regs) q' := by
  refine does_of he h (s.dev.ticked k t) ?_ ⟨ticked_clock .., ticked_ticksAt .., ticked_regs ..⟩
  rw [periodicCheck, run_onMultiple_due _ hdue, run_withDev, ticked_applied, happ, run_when_true, hq]

end

/-! ### Growth windows (R218) -/

/-- A growth window of cell `c` ends at `t` and is to be judged. -/
def Dev.growthDue (d : Dev) (c t : Nat) : Prop :=
  d.guarded c = true ∧ t % growWindow = 0 ∧ d.dt ≤ t ∧ d.ticksAt (0x30000 + c) ≤ t

/-- The row of growth windows, newest first, with the one that ends at `t`: `n` samples and the sum of their powers. -/
def Dev.growthRow (d : Dev) (c t n sum : Nat) : List (Nat × Nat) :=
  if d.live? c && d.mode != .survey && (d.cellAt c).liveFrom.any fun f => decide (f + growWindow ≤ t) then
    ((sum, n) :: if d.ticksAt (0x30000 + c) + growWindow = t + 1 then (d.cellAt c).grow else []).take (d.rd (peOf c) Reg.PE.GROW_N + 1)
  else []

/-- The row trips: it is full and rises throughout, and its newest window has the correlation and the floor. -/
def Dev.growthTrips (d : Dev) (c t n sum : Nat) (re im : Int) : Bool :=
  decide ((d.growthRow c t n sum).length = d.rd (peOf c) Reg.PE.GROW_N + 1) &&
    rises (d.rd (peOf c) Reg.PE.GROW_DB) (d.growthRow c t n sum) && rhoAtLeast (d.rd (peOf c) Reg.PE.GROW_RHO) sum re im &&
    decide (0 < n) && powAtMost 1000 (d.rdS (peOf c) Reg.PE.GROW_FLOOR) sum (n * 2 ^ 46)

/-- The cell with its row as the window leaves it: a trip starts it over. -/
def Dev.grownCell (d : Dev) (c t n sum : Nat) (re im : Int) : Cell :=
  { d.cellAt c with grow := if d.growthTrips c t n sum re im then [] else d.growthRow c t n sum }

theorem growthWindow_guard (d : Dev) (c t : Nat) :
    (d.guarded c && t % growWindow == 0 && decide (d.dt ≤ t) && decide (d.ticksAt (0x30000 + c) ≤ t)) = true ↔ d.growthDue c t := by
  simp only [Dev.growthDue, Bool.and_eq_true, beq_iff_eq, decide_eq_true_eq, and_assoc]

/-- A due window joins the cell's row, and a trip follows. -/
theorem run_growthWindow_due {d : Dev} {c t : Nat} (n sum : Nat) (re im : Int) (h : d.growthDue c t) :
    (growthWindow c t n sum re im).run d =
      (when (d.growthTrips c t n sum re im) (growthTrip c [cdbOpen sum (n * 2 ^ 46), rhoCode sum re im])).run
        ((d.ticked (0x30000 + c) t).apply (.cell c (d.grownCell c t n sum re im))) := by
  rw [growthWindow, run_withDev]
  dsimp only
  rw [(growthWindow_guard d c t).mpr h, run_when_true, run_seqs_cons, run_seqs_cons, run_seqs_cons, run_seqs_cons, run_seqs_nil,
    run_reach, run_upd, run_modCell, ← Dev.ticked, ticked_cellAt]
  rfl

/-- A window that is not due does nothing. -/
theorem run_growthWindow_not_due {d : Dev} {c t : Nat} (n sum : Nat) (re im : Int) (h : ¬d.growthDue c t) :
    (growthWindow c t n sum re im).run d = d := by
  rw [growthWindow, run_withDev]
  dsimp only
  rw [Bool.eq_false_iff.mpr (mt (growthWindow_guard d c t).mp h), run_when_false]

/-! ### The allow-list (R228) -/

/-- The recheck of a cell that Kindling held within a range. -/
theorem run_allowCell {d : Dev} {c lo hi : Nat} (hr : (d.cellAt c).range = some (lo, hi)) : (allowCell c).run d =
    (when ((decide ((d.rfBand c).1 < (lo : Int)) || decide ((d.rfBand c).2 > (hi : Int))) && !d.muteCause c mcAllow)
      (seqs [markCause c mcAllow, condStart (peOf c) 9 (idxOf c) (cellScope c) []])).run d := by
  rw [allowCell, run_withDev, hr]

/-- A band within its range changes nothing. -/
theorem run_allowCell_inside {d : Dev} {c lo hi : Nat} (hr : (d.cellAt c).range = some (lo, hi)) (hlo : (lo : Int) ≤ (d.rfBand c).1)
    (hhi : (d.rfBand c).2 ≤ hi) : (allowCell c).run d = d := by
  rw [run_allowCell hr, decide_eq_false (Int.not_lt.mpr hlo), decide_eq_false (Int.not_lt.mpr hhi), Bool.false_or, Bool.false_and,
    run_when_false]

/-- A band that has left its range mutes the cell, which is not muted for it yet. -/
theorem run_allowCell_outside {d : Dev} {c lo hi : Nat} (hr : (d.cellAt c).range = some (lo, hi))
    (hout : (d.rfBand c).1 < (lo : Int) ∨ (hi : Int) < (d.rfBand c).2) (hfree : d.muteCause c mcAllow = false) : (allowCell c).run d =
      (seqs [markCause c mcAllow, condStart (peOf c) 9 (idxOf c) (cellScope c) []]).run d := by
  have hguard : (decide ((d.rfBand c).1 < (lo : Int)) || decide ((d.rfBand c).2 > (hi : Int))) = true := by
    rwa [Bool.or_eq_true, decide_eq_true_eq, decide_eq_true_eq]
  rw [run_allowCell hr, hguard, hfree, Bool.not_false, Bool.and_self, run_when_true]

/-- Settles O52: a growth window joins its cell's row, the four checks are periodic checks of an applied configuration, and the
allow-list is judged by the two edges of the band. -/
theorem protectionChecksRun : Obligations.ProtectionChecksRun := by
  unfold Obligations.ProtectionChecksRun
  refine ⟨fun s c t n sum re im h => ⟨fun hno => ?noWindow, fun hdue => ?window⟩, fun s t sums h => ?gates,
    fun s t h hcount hdt happ => ⟨fun hper htick => ?average, fun sums hper htick => ?fast, fun hper htick => ?duty,
      fun hper htick => ?allow⟩,
    fun d c lo hi hr => ⟨run_allowCell_inside hr, run_allowCell_outside hr⟩⟩
  case noWindow =>
    exact does_of (p := growthWindow c t n sum re im) rfl h s.dev (run_growthWindow_not_due n sum re im hno) rfl
  case window =>
    exact does_of (p := growthWindow c t n sum re im) rfl h _ (run_growthWindow_due n sum re im hdue)
      ⟨rfl, ticked_regs s.dev (0x30000 + c) t, ticked_ticksAt s.dev (0x30000 + c) t, cellAt_cell_same ..⟩
  case gates =>
    have gates {i : Instr} {k per : Nat} {q : Dev → Script} (he : exec i s = performSettled (periodicCheck k per t q) s) :
        (¬s.dev.multipleDue k per t → Does i s fun d => d = s.dev) ∧ (s.dev.multipleDue k per t → s.dev.applied = false →
          Does i s fun d => d.clock = (s.dev.reach t).clock ∧ d.ticksAt k = t + 1 ∧ d.regs = s.dev.regs) :=
      ⟨does_periodicCheck_not_due he h, does_periodicCheck_unapplied he h⟩
    exact List.forall_mem_cons.mpr ⟨gates rfl, List.forall_mem_cons.mpr ⟨gates rfl, List.forall_mem_cons.mpr ⟨gates rfl,
      List.forall_mem_singleton.mpr (gates rfl)⟩⟩⟩
  case average =>
    exact does_periodicCheck_applied (per := 4096) rfl h ⟨hcount, hdt, hper, htick⟩ happ (by rw [ticked_allCells, ticked_sections])
  case fast =>
    exact does_periodicCheck_applied (per := 256) rfl h ⟨hcount, hdt, hper, htick⟩ happ
      (by simp only [ticked_allCells, ticked_sections, ticked_period, ticked_chainSegs])
  case duty =>
    exact does_periodicCheck_applied (per := 491520) rfl h ⟨hcount, hdt, hper, htick⟩ happ
      (by simp only [ticked_allCells, ticked_isUplink])
  case allow =>
    exact does_periodicCheck_applied (per := 491520) rfl h ⟨hcount, hdt, hper, htick⟩ happ (by rw [ticked_allCells])

end Sys2Proof.Machine

namespace Sys2Proof.Machine

/-! ### Host writes of a word, field by field -/

/-- The stored field that an entry of a word names. -/
def wordRef (u : Nat) (x : Fld × Nat × Nat) : Ref := x.1.at u x.2.1 x.2.2

/-- Fields that differ in their lowest bits stand at different keys wherever they meet in a word. -/
theorem wordRef_key_ne {t off u : Nat} {x y : Fld × Nat × Nat} (hx : x ∈ wordFields t off) (hy : y ∈ wordFields t off)
    (hlo : x.1.lo ≠ y.1.lo) : (wordRef u x).key ≠ (wordRef u y).key := by
  refine regKey_ne_of_field ?_
  rw [wordFields_offset hx, wordFields_offset hy]
  omega

/-- A field that takes a write takes one value of its own, or ignores it (R51). -/
theorem run_writeField_cases (u v : Nat) (x : Fld × Nat × Nat) (d : Dev) :
    (writeField u v x).run d = d ∨ ∃ w, (writeField u v x).run d = d.apply (.reg (wordRef u x) w) := by
  rw [writeField, run_withDev]
  cases x.1.acc with
  | rw => exact .inr ⟨_, rfl⟩
  | w1c =>
    dsimp only
    rw [run_when]
    split
    · exact .inr ⟨_, rfl⟩
    · exact .inl rfl
  | _ => exact .inl rfl

/-- An RW field but the interrupt enables takes the value written (R51). -/
theorem run_writeField_rw {u v : Nat} {x : Fld × Nat × Nat} (hrw : x.1.acc = .rw) (hlo : x.1 ≠ Reg.HDR.IEN)
    (hhi : x.1 ≠ Reg.HDR.IEN_HI) (d : Dev) : (writeField u v x).run d = d.apply (.reg (wordRef u x) (x.1.of v)) := by
  rw [writeField, run_withDev, hrw]
  simp only [beq_eq_false_iff_ne.mpr hlo, beq_eq_false_iff_ne.mpr hhi, Bool.or_self, Bool.false_eq_true, if_false, run_put, wordRef]

section
variable {u v : Nat} {xs : List (Fld × Nat × Nat)}

/-- A field that the word does not hold stays. -/
theorem get_forEach_writeField_ne {q : Ref} (h : ∀ x ∈ xs, q.key ≠ (wordRef u x).key) (d : Dev) :
    ((forEach xs (writeField u v)).run d).get q = d.get q := by
  induction xs generalizing d with
  | nil => rfl
  | cons x xs ih =>
    rw [run_forEach_cons, ih fun y hy => h y (List.mem_cons_of_mem _ hy)]
    obtain hid | ⟨w, hw⟩ := run_writeField_cases u v x d
    · rw [hid]
    · rw [hw, get_reg_ne _ _ (h x (List.mem_cons_self ..))]

/-- A write of listed fields changes nothing beside the list. -/
theorem onlyRegs_forEach_writeField {d d' : Dev} {rs : List Ref} (h : ∀ x ∈ xs, wordRef u x ∈ rs) (hd : OnlyRegs d d' rs) :
    OnlyRegs d ((forEach xs (writeField u v)).run d') rs := by
  induction xs generalizing d' with
  | nil => exact hd
  | cons x xs ih =>
    rw [run_forEach_cons]
    refine ih (fun y hy => h y (List.mem_cons_of_mem _ hy)) ?_
    obtain hid | ⟨w, hw⟩ := run_writeField_cases u v x d'
    · rwa [hid]
    · rwa [hw, onlyRegs_reg (h x (List.mem_cons_self ..))]

/-- An RW field of a word takes the value written, whatever the other fields of the word do. -/
theorem get_forEach_writeField_rw (hdist : xs.Pairwise fun x y => (wordRef u x).key ≠ (wordRef u y).key)
    {x : Fld × Nat × Nat} (hx : x ∈ xs) (hrw : x.1.acc = .rw) (hlo : x.1 ≠ Reg.HDR.IEN) (hhi : x.1 ≠ Reg.HDR.IEN_HI) (d : Dev) :
    ((forEach xs (writeField u v)).run d).get (wordRef u x) = x.1.of v := by
  induction xs generalizing d with
  | nil => cases hx
  | cons y ys ih =>
    obtain ⟨hy, hys⟩ := List.pairwise_cons.mp hdist
    rw [run_forEach_cons]
    obtain rfl | hx := List.mem_cons.mp hx
    · rw [get_forEach_writeField_ne hy, run_writeField_rw hrw hlo hhi, get_reg_same]
      exact Nat.mod_mod _ _
    · exact ih hys hx _

end

/-- The fields of a word can be told apart, and none is an interrupt enable. -/
def plainWord (xs : List (Fld × Nat × Nat)) : Prop :=
  (xs.Pairwise fun x y => x.1.lo ≠ y.1.lo) ∧ ∀ x ∈ xs, x.1 ≠ Reg.HDR.IEN ∧ x.1 ≠ Reg.HDR.IEN_HI

/-- The fields of such a word take an accepted write (R51). -/
theorem takesWrite_of_plainWord {d : Dev} {u off : Nat} (v : Nat) (h : plainWord (d.hostFields u off)) :
    TakesWrite d ((forEach (d.hostFields u off) (writeField u v)).run d) u off v := by
  obtain ⟨hlos, hien⟩ := h
  have hdist : (d.hostFields u off).Pairwise fun x y => (wordRef u x).key ≠ (wordRef u y).key :=
    hlos.imp_of_mem fun hx hy hlo => wordRef_key_ne hx hy hlo
  refine ⟨fun x hx hrw => ?_, onlyRegs_forEach_writeField (fun x hx => List.mem_map_of_mem hx) (onlyRegs_refl ..)⟩
  obtain ⟨hlo, hhi⟩ := hien x hx
  exact get_forEach_writeField_rw hdist hx hrw hlo hhi d

/-- A command that is a host write of one plain word does what R49 to R55 say of the write. -/
theorem writesWord_of_plainWord {i : Instr} {s : State} {u off v be : Nat} {rule : Dev → WriteRule} {after : Script}
    (he : exec i s = performSettled (writeReg u off v be rule after) s) (h : s.runs) (hoff : off < 2 ^ 12)
    (hword : plainWord (s.dev.hostFields u off)) : WritesWord i s u off v be rule after := by
  refine ⟨fun habsent => ?absent, fun hp => ⟨fun hfs => ?reserved, fun hfs => ⟨fun cause hj => ?rejected, fun hj => ?accepted⟩⟩⟩
  case absent => exact does_of he h _ (run_writeReg_absent off v be rule after habsent) (unmapped_counts s.dev)
  case reserved => exact does_of he h s.dev (by simp [writeReg, hp, hfs]) rfl
  case rejected => exact does_of he h _ (run_writeReg_rejected after hp hfs hj) (rejectWrite_rejects s.dev u hoff (judgeWrite_lt hj))
  case accepted => exact does_of he h _ (run_writeReg_accepted after hp hfs hj) (takesWrite_of_plainWord v hword)

end Sys2Proof.Machine

namespace Sys2Proof.Machine

/-! ### The registers of a Slice -/

theorem typeOf_dsU (n : Nat) : typeOf (dsU n) = 0x04 := by
  unfold typeOf dsU unitAddr
  omega

/-- Outside the path window a word of a Slice is held at its own offset (R202). -/
theorem hostFields_dsU (d : Dev) (n : Nat) {off : Nat} (h : off < 0x184) : d.hostFields (dsU n) off = wordFields 0x04 off := by
  have hout : ¬(typeOf (dsU n) = 0x04 ∧ 0x184 ≤ off ∧ off ≤ 0x1BC) := by omega
  rw [Dev.hostFields, Dev.hostOffset, if_neg hout, typeOf_dsU]

theorem plainWord_zeroAll : plainWord (wordFields 0x04 0x11C) := by
  have hword : wordFields 0x04 0x11C = [(Reg.DS.ZERO_ALL, 0, 0), (Reg.DS.SURVEY_ZERO, 0, 0)] := by decide
  rw [hword]
  unfold plainWord
  decide

theorem plainWord_pathSel : plainWord (wordFields 0x04 0x180) := by
  have hword : wordFields 0x04 0x180 = [(Reg.DS.PATH_SEL, 0, 0)] := by decide
  rw [hword]
  unfold plainWord
  decide

/-! ### Paths behind their registers -/

@[simp] theorem rd_path (d : Dev) (k : Nat) (x : Path) (u i j : Nat) (f : Fld) : (d.apply (.path k x)).rd u f i j = d.rd u f i j := rfl
@[simp] theorem rd_draw (d : Dev) (u i j : Nat) (f : Fld) : (d.apply .draw).rd u f i j = d.rd u f i j := rfl
@[simp] theorem pathAt_draw (d : Dev) (n p : Nat) : (d.apply .draw).pathAt' n p = d.pathAt' n p := rfl
@[simp] theorem pathAt_reg (d : Dev) (r : Ref) (v n p : Nat) : (d.apply (.reg r v)).pathAt' n p = d.pathAt' n p := rfl
theorem pathAt_path_same (d : Dev) (n p : Nat) (x : Path) : (d.apply (.path (n * 256 + p) x)).pathAt' n p = x :=
  Bank.get_put_same ..
theorem run_modP (n p : Nat) (f : Path → Path) (d : Dev) :
    (modP n p f).run d = d.apply (.path (n * 256 + p) (f (d.pathAt' n p))) := rfl

/-! ### The end of a hop (R182, R188, R189) -/

/-- When hop `h` of a path ends: its last sample has reached the sum of its receiving cell `c`. -/
def Dev.hopInstant (d : Dev) (c tg h : Nat) : Nat := d.inputAt c tg (32 * h + 31)

/-- A hop of path `p` that ends at `te` is to be taken up. -/
def Dev.hopDue (d : Dev) (n p te : Nat) : Prop :=
  d.pathOn n p = true ∧ d.ticksAt (0x40000 + n * 256 + p) ≤ te ∧ d.dt ≤ te

/-- The block at the end of a hop: the hop is noted, and the plane has followed to it. -/
def Dev.hopReached (d : Dev) (n p te : Nat) (feed : Feed) : Dev := (runPlane feed).run (d.ticked (0x40000 + n * 256 + p) te)

/-- The means of the interval with one more hop in them. -/
def Dev.hopPath (d : Dev) (n p tg h : Nat) (eps : List Cx) : Path := { d.pathAt' n p with
  hops := (d.pathAt' n p).hops + 1, eps := (d.pathAt' n p).eps + energy eps
  probe := (d.pathAt' n p).probe + d.hopProbe n p tg h }

/-- The block with the hop counted. -/
def Dev.hopCounted (d : Dev) (n p tg h : Nat) (eps : List Cx) : Dev := d.apply (.path (n * 256 + p) (d.hopPath n p tg h eps))

/-- R188 and R189 let the hop update its path: no zeroed sample is in it, a group listened over it, the throttle does not skip it
and the path is not frozen. -/
def Dev.hopUsed (d : Dev) (n p tg h : Nat) : Bool :=
  let c := d.rcvOf n p
  let t0 := tg + 32 * h * d.period c - d.rd (d.rxlOf c) Reg.RXL.PATH_DT
  !d.hopZeroed c tg h && ((d.rxGroup n (d.rd c Reg.BC.RXL)).any fun k => d.listened n k t0 (t0 + 31 * d.period c)) &&
    !d.skips h && !d.pathFrozen n p

theorem run_takeHop_none {d : Dev} {n p h : Nat} (tg : Nat) (residue : Bool) (hno : d.hopEps (d.rcvOf n p) h = none) :
    (takeHop n p tg h residue).run d = d := by
  rw [takeHop, run_withDev]
  dsimp only
  rw [hno, run_skip]

section
variable {d : Dev} {n p tg h : Nat} {eps : List Cx}

/-- A hop whose samples are there counts, whatever follows. -/
theorem run_takeHop_some (residue : Bool) (hsome : d.hopEps (d.rcvOf n p) h = some eps) : (takeHop n p tg h residue).run d =
    Script.run (if residue then fireEvent (dsU n) 6 (d.pathScope n p) []
      else when (d.hopUsed n p tg h) (seqs [calHop n p tg h eps, useHop n p tg h eps])) (d.hopCounted n p tg h eps) := by
  rw [takeHop, run_withDev]
  dsimp only
  rw [hsome, run_seqs_cons, run_seqs_cons, run_seqs_nil, run_modP]
  rfl

/-- A residue failure discards the hop (R477). -/
theorem run_takeHop_discarded (hsome : d.hopEps (d.rcvOf n p) h = some eps) : (takeHop n p tg h true).run d =
    (fireEvent (dsU n) 6 (d.pathScope n p) []).run (d.hopCounted n p tg h eps) := by
  rw [run_takeHop_some true hsome, if_pos rfl]

/-- A used hop enters the calibration runs and updates its path. -/
theorem run_takeHop_used (hsome : d.hopEps (d.rcvOf n p) h = some eps) (hused : d.hopUsed n p tg h = true) :
    (takeHop n p tg h false).run d =
      (seqs [calHop n p tg h eps, useHop n p tg h eps]).run (d.hopCounted n p tg h eps) := by
  rw [run_takeHop_some false hsome, if_neg Bool.false_ne_true, hused, run_when_true]

/-- A hop that is not used counts and does no more. -/
theorem run_takeHop_unused (hsome : d.hopEps (d.rcvOf n p) h = some eps) (hused : d.hopUsed n p tg h = false) :
    (takeHop n p tg h false).run d = d.hopCounted n p tg h eps := by
  rw [run_takeHop_some false hsome, if_neg Bool.false_ne_true, hused, run_when_false]

end

/-- The guard of a hop is that it is due. -/
theorem damperHop_guard (d : Dev) (n p te : Nat) :
    (d.pathOn n p && decide (d.ticksAt (0x40000 + n * 256 + p) ≤ te) && decide (d.dt ≤ te)) = true ↔ d.hopDue n p te := by
  simp only [Dev.hopDue, Bool.and_eq_true, decide_eq_true_eq, and_assoc]

section
variable {d : Dev} {n p tg h : Nat}

/-- A due hop is taken up where the plane has followed to its end. -/
theorem run_damperHop_due (feed : Feed) (residue : Bool) (htg : (d.cellAt (d.rcvOf n p)).tg = some tg)
    (hdue : d.hopDue n p (d.hopInstant (d.rcvOf n p) tg h)) : (damperHop n p h feed residue).run d =
      (takeHop n p tg h residue).run (d.hopReached n p (d.hopInstant (d.rcvOf n p) tg h) feed) := by
  unfold Dev.hopInstant at *
  rw [damperHop, run_withDev]
  dsimp only
  rw [htg]
  dsimp only
  rw [(damperHop_guard ..).mpr hdue, run_when_true, run_seqs_cons, run_seqs_cons, run_seqs_cons, run_seqs_cons, run_seqs_nil, run_reach,
    run_upd]
  rfl

/-- A hop that is not due does nothing. -/
theorem run_damperHop_not_due (feed : Feed) (residue : Bool) (htg : (d.cellAt (d.rcvOf n p)).tg = some tg)
    (hdue : ¬d.hopDue n p (d.hopInstant (d.rcvOf n p) tg h)) : (damperHop n p h feed residue).run d = d := by
  unfold Dev.hopInstant at *
  rw [damperHop, run_withDev]
  dsimp only
  rw [htg]
  dsimp only
  rw [Bool.eq_false_iff.mpr (mt (damperHop_guard ..).mp hdue), run_when_false]

/-- A receiving cell without a grid has no hops. -/
theorem run_damperHop_no_grid (feed : Feed) (residue : Bool) (htg : (d.cellAt (d.rcvOf n p)).tg = none) :
    (damperHop n p h feed residue).run d = d := by
  rw [damperHop, run_withDev]
  dsimp only
  rw [htg, run_skip]

end

/-! ### The update of a used hop (R183) -/

/-- The probe gradients of a path's own taps, without the lags around them. -/
def Dev.ownGrads (d : Dev) (n p tg h : Nat) (eps : List Cx) : List (Option Cx) :=
  ((d.probeGrads n p tg h eps).drop (d.below n p)).take (d.taps n p)

/-- Every lag of the path's taps was measured, so the update counts. -/
def Dev.updateCounts (d : Dev) (n p tg h : Nat) (eps : List Cx) : Bool := (d.ownGrads n p tg h eps).all (·.isSome)

/-- A path with its taps, lags and spectra moved by the hop. -/
def Dev.updatePath (d : Dev) (n p tg h : Nat) (eps : List Cx) (y : Path) : Path :=
  let g := if d.rd (dsU n) Reg.DS.P_ADAPT_STATE p = asRefine then (d.signalGrads n p tg h eps).1
    else (d.ownGrads n p tg h eps).map (·.getD (0, 0))
  { y with
    w := if d.updateCounts n p tg h eps then
        stepTaps d.drawn (d.taps n p) (d.tAdapt n p) (d.cellRate (d.rcvOf n p)) (d.pathAt' n p).w g else (d.pathAt' n p).w
    m := stepLags (d.drawn + 1) (d.tRes n) (d.cellRate (d.rcvOf n p)) (d.pathAt' n p).m (d.probeGrads n p tg h eps)
    spec := (d.signalGrads n p tg h eps).2, used := y.used + 1 }

/-- The block with P_FROZEN cleared by a used hop, its first free rounding drawn. -/
def Dev.thawed (d : Dev) (n p : Nat) : Dev := (d.apply .draw).apply (.reg (Reg.DS.P_FROZEN.at (dsU n) p) (b2n false))

/-- The block with the update counted, where it counts. -/
def Dev.updateCounted (d : Dev) (n p : Nat) (counts : Bool) : Dev :=
  (when counts (incWrap (dsU n) Reg.DS.P_UPDATES p)).run (d.thawed n p)

theorem updateCounted_pathAt (d : Dev) (n p : Nat) (counts : Bool) : (d.updateCounted n p counts).pathAt' n p = d.pathAt' n p := by
  cases counts <;> rfl

/-- A used hop clears P_FROZEN, counts its update where it counts, and moves the path, with a draw before and after. -/
theorem run_useHop (d : Dev) (n p tg h : Nat) (eps : List Cx) : (useHop n p tg h eps).run d =
    ((d.updateCounted n p (d.updateCounts n p tg h eps)).apply
      (.path (n * 256 + p) (d.updatePath n p tg h eps (d.pathAt' n p)))).apply .draw := by
  rw [← updateCounted_pathAt d n p (d.updateCounts n p tg h eps), useHop, run_withDev, run_seqs_cons, run_seqs_cons, run_seqs_cons,
    run_seqs_cons, run_seqs_cons, run_seqs_nil, run_upd, run_putB, run_modP, run_upd]
  rfl

theorem useHop_pathAt (d : Dev) (n p tg h : Nat) (eps : List Cx) :
    ((useHop n p tg h eps).run d).pathAt' n p = d.updatePath n p tg h eps (d.pathAt' n p) := by
  rw [run_useHop, pathAt_draw, pathAt_path_same]

theorem updateCounted_frozen (d : Dev) (n p : Nat) (counts : Bool) :
    (d.updateCounted n p counts).rd (dsU n) Reg.DS.P_FROZEN p = 0 := by
  cases counts with
  | false => exact rd_reg_same ..
  | true =>
    simp (disch := decide) only [Dev.updateCounted, run_when_true, run_incWrap, rd_reg_sibling]
    exact rd_reg_same ..

theorem updateCounted_updates (d : Dev) (n p : Nat) (counts : Bool) :
    (d.updateCounted n p counts).rd (dsU n) Reg.DS.P_UPDATES p = (if counts = true then
      (d.rd (dsU n) Reg.DS.P_UPDATES p + 1) % 2 ^ Reg.DS.P_UPDATES.width else d.rd (dsU n) Reg.DS.P_UPDATES p) := by
  have hkept : (d.thawed n p).rd (dsU n) Reg.DS.P_UPDATES p = d.rd (dsU n) Reg.DS.P_UPDATES p := by
    simp (disch := decide) only [Dev.thawed, rd_reg_sibling, rd_draw]
  cases counts with
  | false => exact hkept
  | true => rw [Dev.updateCounted, run_when_true, run_incWrap, rd_reg_same, hkept, if_pos rfl]

/-! ### A suspension ends (R187) -/

/-- The block once the refinement hold of a path has run out at `t0`. -/
def Dev.holdEnded (d : Dev) (n p t0 : Nat) : Dev := (d.reach t0).apply (.disarm (Timer.refineHold (dsU n) p).code)

theorem holdEnded_regs (d : Dev) (n p t0 : Nat) : (d.holdEnded n p t0).regs = d.regs := reach_regs d t0

theorem holdEnded_adaptState (d : Dev) (n p t0 : Nat) :
    (d.holdEnded n p t0).rd (dsU n) Reg.DS.P_ADAPT_STATE p = d.rd (dsU n) Reg.DS.P_ADAPT_STATE p :=
  rd_of_regs (holdEnded_regs d n p t0) ..

section
variable {d : Dev} {n p t0 : Nat}

theorem run_refineHold_suspended (ht : d.deadline (.refineHold (dsU n) p) = some t0)
    (hst : d.rd (dsU n) Reg.DS.P_ADAPT_STATE p = asSuspended) : (onExpiry (.refineHold (dsU n) p) (refineEnd n p)).run d =
      (d.holdEnded n p t0).apply (.reg (Reg.DS.P_ADAPT_STATE.at (dsU n) p) asProbe) := by
  rw [run_onExpiry_some _ ht, run_reach, run_stopTimer, ← Dev.holdEnded, refineEnd, run_withDev, holdEnded_adaptState, hst,
    beq_self_eq_true, run_when_true, run_put]

theorem run_refineHold_other (ht : d.deadline (.refineHold (dsU n) p) = some t0)
    (hst : d.rd (dsU n) Reg.DS.P_ADAPT_STATE p ≠ asSuspended) :
    (onExpiry (.refineHold (dsU n) p) (refineEnd n p)).run d = d.holdEnded n p t0 := by
  rw [run_onExpiry_some _ ht, run_reach, run_stopTimer, ← Dev.holdEnded, refineEnd, run_withDev, holdEnded_adaptState,
    beq_eq_false_iff_ne.mpr hst, run_when_false]

end

/-- Settles O50: a hop is taken up where the plane has followed to its end, a used one updates its path once, the measurements are an
event at multiples of Device Time, and the two host writes are writes of plain words. -/
theorem pathsAreUpdatedAndMeasured : Obligations.PathsAreUpdatedAndMeasured := by
  unfold Obligations.PathsAreUpdatedAndMeasured
  refine ⟨fun s n p h feed residue hs => ⟨fun tg htg => ?hop, fun htg => ?noGrid⟩, fun d n p tg h eps => ?update,
    fun s t hs => ⟨fun hdue => ?measure, fun hno => ?noMeasure⟩, fun s n p hs => ⟨fun t0 ht => ?hold, fun ht => ?noHold⟩,
    fun s n v be hs => ⟨?zeroAll, ?pathSel⟩⟩
  case hop =>
    intro te e due rcv t0 hears used
    have hexec : exec (.damperHop n p h feed residue) s = performSettled (damperHop n p h feed residue) s := rfl
    have htaken (hdue : due) : (damperHop n p h feed residue).run s.dev = (takeHop n p tg h residue).run e :=
      run_damperHop_due feed residue htg hdue
    refine ⟨fun hdue hnone => ?missing, fun eps hdue hsome => ?there, fun hno => ?notDue⟩
    case missing => exact does_of hexec hs e ((htaken hdue).trans (run_takeHop_none tg residue hnone)) rfl
    case notDue => exact does_of hexec hs s.dev (run_damperHop_not_due feed residue htg hno) rfl
    case there =>
      intro counted
      have hcounted : counted (e.hopCounted n p tg h eps) := ⟨rfl, rfl, pathAt_path_same ..⟩
      have htook {q : Script} (hq : (takeHop n p tg h residue).run e = q.run (e.hopCounted n p tg h eps)) :
          Does (.damperHop n p h feed residue) s counted q := does_of hexec hs _ ((htaken hdue).trans hq) hcounted
      refine ⟨fun hres => htook ?discarded, fun hres hused => htook ?used, fun hres hused => htook ?unused⟩ <;> rw [hres]
      case discarded => exact run_takeHop_discarded hsome
      case used => exact run_takeHop_used hsome hused
      case unused => exact run_takeHop_unused hsome hused
  case noGrid =>
    exact does_of (p := damperHop n p h feed residue) rfl hs s.dev (run_damperHop_no_grid feed residue htg) rfl
  case update =>
    intro x own full g
    have hpath : x.pathAt' n p = d.updatePath n p tg h eps (d.pathAt' n p) := useHop_pathAt ..
    have hrun := run_useHop d n p tg h eps
    refine ⟨?frozen, congrArg Path.used hpath, congrArg Path.w hpath, congrArg Path.m hpath, ?updates⟩
    case frozen => exact (congrArg (·.rd (dsU n) Reg.DS.P_FROZEN p) hrun).trans (updateCounted_frozen ..)
    case updates => exact (congrArg (·.rd (dsU n) Reg.DS.P_UPDATES p) hrun).trans (updateCounted_updates ..)
  case measure =>
    obtain ⟨hcount, hper, hdt, htick⟩ := hdue
    refine does_of (p := measureAll t) rfl hs (s.dev.ticked 2 t) ?_ ⟨ticked_clock .., ticked_ticksAt .., ticked_regs ..⟩
    rw [measureAll, run_onMultiple_due _ ⟨hcount, hdt, hper, htick⟩, run_withDev, ticked_applied, ticked_sections]
  case noMeasure =>
    refine does_of (p := measureAll t) rfl hs s.dev (run_onMultiple_not_due _ fun hdue => hno ?_) rfl
    obtain ⟨hcount, hdt, hper, htick⟩ := hdue
    exact ⟨hcount, hper, hdt, htick⟩
  case hold =>
    have hregs := holdEnded_regs s.dev n p t0
    by_cases hst : s.dev.rd (dsU n) Reg.DS.P_ADAPT_STATE p = asSuspended
    · exact does_of rfl hs _ (run_refineHold_suspended ht hst) ⟨fun _ => rd_reg_same .., fun hne => absurd hst hne, rfl,
        (sameRegs_reg (List.mem_singleton_self _) _).mpr ((sameRegs_of_regs hregs).mpr (sameRegs_refl _ _))⟩
    · exact does_of rfl hs _ (run_refineHold_other ht hst) ⟨fun he => absurd he hst, fun _ => hregs, rfl,
        (sameRegs_of_regs hregs).mpr (sameRegs_refl _ _)⟩
  case noHold =>
    exact does_of (p := onExpiry (.refineHold (dsU n) p) (refineEnd n p)) rfl hs s.dev (run_onExpiry_none _ ht) rfl
  case zeroAll =>
    exact writesWord_of_plainWord rfl hs (by decide) (by rw [hostFields_dsU _ _ (by decide)]; exact plainWord_zeroAll)
  case pathSel =>
    exact writesWord_of_plainWord rfl hs (by decide) (by rw [hostFields_dsU _ _ (by decide)]; exact plainWord_pathSel)

end Sys2Proof.Machine

namespace Sys2Proof.Machine

/-! ### Records leave the fields of other units -/

section
variable {u i : Nat} {f : Fld} (hu : u ≠ EV) (ho : f.off + f.stride * i + f.stride2 * 0 < 0x8000) (hl : f.lo < 32)
include hu ho hl

/-- A write of a field of the recorder leaves a field of another unit. -/
theorem putEv_keeps_rd (g : Fld) (w : Nat) (hg : g.off + g.stride * 0 + g.stride2 * 0 < 0x8000 ∧ g.lo < 32) :
    Keeps (fun d : Dev => d.rd u f i) (put EV g w) := put_keeps_rd (regKey_ne_of_unit hu ho hg.1 hl hg.2) w

theorem incEv_keeps_rd (g : Fld) (hg : g.off + g.stride * 0 + g.stride2 * 0 < 0x8000 ∧ g.lo < 32) :
    Keeps (fun d : Dev => d.rd u f i) (inc EV g) := fun d => putEv_keeps_rd hu ho hl g _ hg d

theorem putLiveEv_keeps_rd (g : Fld) (w : Nat) (hg : g.off + g.stride * 0 + g.stride2 * 0 < 0x8000 ∧ g.lo < 32) :
    Keeps (fun d : Dev => d.rd u f i) (putLive EV g w) := fun _ => putEv_keeps_rd hu ho hl g _ hg _

theorem setEv_keeps_rd (g : Recorder → Recorder) : Keeps (fun d : Dev => d.rd u f i) (setEv g) := by
  refine keeps_withDev fun _ => keeps_seqs ?_
  simp only [List.forall_mem_cons, List.not_mem_nil, false_imp_iff, implies_true, and_true]
  exact ⟨fun _ => rfl, putEv_keeps_rd hu ho hl _ _ (by decide), putEv_keeps_rd hu ho hl _ _ (by decide),
    putEv_keeps_rd hu ho hl _ _ (by decide), putEv_keeps_rd hu ho hl _ _ (by decide), putLiveEv_keeps_rd hu ho hl _ _ (by decide),
    putLiveEv_keeps_rd hu ho hl _ _ (by decide), putEv_keeps_rd hu ho hl _ _ (by decide)⟩

theorem loseEvent_keeps_rd (r : Rec) : Keeps (fun d : Dev => d.rd u f i) (loseEvent r) := by
  refine keeps_withDev fun _ => keeps_seqs ?_
  simp only [List.forall_mem_cons, List.not_mem_nil, false_imp_iff, implies_true, and_true]
  exact ⟨keeps_ite (incEv_keeps_rd hu ho hl _ (by decide)) (incEv_keeps_rd hu ho hl _ (by decide)), fun _ => rfl⟩

/-- A record joins an open one, takes a slot, or is lost: each writes fields of the recorder alone. -/
theorem enqueue_keeps_rd (r : Rec) : Keeps (fun d : Dev => d.rd u f i) (enqueue r) := by
  refine keeps_withDev fun d => ?_
  dsimp only
  split
  case h_1 =>
    refine keeps_seqs ?_
    simp only [List.forall_mem_cons, List.not_mem_nil, false_imp_iff, implies_true, and_true]
    exact ⟨setEv_keeps_rd hu ho hl _, incEv_keeps_rd hu ho hl _ (by decide)⟩
  case h_2 =>
    refine keeps_ite (keeps_seqs ?_) (loseEvent_keeps_rd hu ho hl _)
    simp only [List.forall_mem_cons, List.not_mem_nil, false_imp_iff, implies_true, and_true]
    exact ⟨keeps_when (incEv_keeps_rd hu ho hl _ (by decide)), setEv_keeps_rd hu ho hl _, trigger_keeps_rd hu ho hl _ _ _ _⟩

/-- A new record changes no field of another unit than the recorder. -/
theorem createRec_keeps_rd (r : Rec) : Keeps (fun d : Dev => d.rd u f i) (createRec r) := by
  have flag (g : Fld) (hg : g.off + g.stride * 0 + g.stride2 * 0 < 0x8000 ∧ g.lo < 32) :
      Keeps (fun d : Dev => d.rd u f i) (putB EV g true) := putEv_keeps_rd hu ho hl g _ hg
  have enq (r : Rec) := enqueue_keeps_rd hu ho hl r
  refine keeps_withDev fun d => keeps_ite keeps_skip (keeps_ite (enq r) (keeps_ite (enq _) (keeps_ite (keeps_seqs ?_)
    (keeps_ite (keeps_seqs ?_) (enq r)))))
  all_goals simp only [List.forall_mem_cons, List.not_mem_nil, false_imp_iff, implies_true, and_true]
  · exact ⟨keeps_when (enq _), flag _ (by decide), enq _⟩
  · exact ⟨enq _, flag _ (by decide), flag _ (by decide), enq _⟩

end

/-! ### How often a field stands in the register file -/

theorem bankErase_sublist {V : Type} (b : List (Nat × V)) (k : Nat) : (bankErase b k).Sublist b := by
  induction b with
  | nil => exact List.Sublist.refl _
  | cons e b ih =>
    obtain ⟨k', v⟩ := e
    unfold bankErase
    split
    · exact ih.cons _
    · exact ih.cons_cons _

theorem bankInsert_perm {V : Type} (b : List (Nat × V)) (k : Nat) (v : V) : (bankInsert b k v).Perm ((k, v) :: b) := by
  induction b with
  | nil => exact List.Perm.refl _
  | cons e b ih =>
    obtain ⟨k', v'⟩ := e
    unfold bankInsert
    split
    · exact List.Perm.refl _
    · exact (ih.cons _).trans (List.Perm.swap ..)

/-- The entries of the register file at a key. -/
def Dev.entriesAt (d : Dev) (key : RegKey) : Nat := d.regs.countP fun e => e.1 == key

/-- A write of a field leaves one entry of it at most, whatever stood there. -/
theorem entriesAt_reg_same (d : Dev) (r : Ref) (v : Nat) : (d.apply (.reg r v)).entriesAt r.key ≤ 1 := by
  have hnone : (bankErase d.regs r.key).countP (fun e => e.1 == r.key) = 0 :=
    List.countP_eq_zero.mpr fun e he => by simpa using (mem_bankErase he).2
  simp only [Dev.entriesAt, Dev.apply, Bank.put]
  split
  · omega
  · rw [(bankInsert_perm _ _ _).countP_eq, List.countP_cons, hnone]
    split <;> omega

/-- A write of another field leaves no more entries than there were. -/
theorem entriesAt_reg_ne (d : Dev) {r : Ref} {key : RegKey} (v : Nat) (h : r.key ≠ key) :
    (d.apply (.reg r v)).entriesAt key ≤ d.entriesAt key := by
  have herase : (bankErase d.regs r.key).countP (fun e => e.1 == key) ≤ d.entriesAt key := (bankErase_sublist ..).countP_le
  simp only [Dev.entriesAt, Dev.apply, Bank.put]
  split
  · exact herase
  · rw [(bankInsert_perm _ _ _).countP_eq, List.countP_cons_of_neg (by simpa using h)]
    exact herase

/-- Nothing that the block does makes a second entry of a field. -/
theorem apply_entriesAt (key : RegKey) (d : Dev) (u : Upd) (h : d.entriesAt key ≤ 1) : (d.apply u).entriesAt key ≤ 1 := by
  cases u
  case reg r v =>
    by_cases hk : r.key = key
    · exact hk ▸ entriesAt_reg_same d r v
    · exact Nat.le_trans (entriesAt_reg_ne d v hk) h
  case clearRegs u lo hi => exact Nat.le_trans List.filter_sublist.countP_le h
  all_goals exact h

/-- The onset of a mute cause writes the cell's field. -/
theorem markCause_entriesAt {d : Dev} {c b : Nat} (h : d.muteCause c b = false) :
    ((markCause c b).run d).entriesAt (Reg.PE.C_MUTE_CAUSE.at (peOf c) (idxOf c)).key ≤ 1 := by
  rw [run_markCause h]
  exact run_keeps (apply_entriesAt _) _ _ (entriesAt_reg_same ..)

/-- The record of a lost carrier changes no mute cause. -/
theorem donorRecord_keeps_muteCause (n k c b : Nat) (isPresent : Bool) :
    Keeps (fun d : Dev => d.muteCause c b) (donorRecord n k isPresent) :=
  fun d => congrArg (Nat.testBit · b) (createRec_keeps_rd (peU_ne_ev _) (muteCause_offset c) (by decide) _ d)

/-- A cell that a lost carrier mutes has its mute causes written, whatever follows. -/
theorem donorLoss_entriesAt {d : Dev} {c : Nat} (n k : Nat) (q : Script) (h : d.muteCause c mcDonor = false) :
    (settle.run ((seqs [donorRecord n k false, forEach [c] fun c => markCause c mcDonor, q]).run d)).entriesAt
      (Reg.PE.C_MUTE_CAUSE.at (peOf c) (idxOf c)).key ≤ 1 := by
  rw [run_seqs_cons, run_seqs_cons, run_forEach_cons]
  exact run_keeps (apply_entriesAt _) _ _ (run_keeps (apply_entriesAt _) _ _
    (markCause_entriesAt ((donorRecord_keeps_muteCause n k c mcDonor false d).trans h)))

/-! ### A carrier index beyond the eight carriers -/

/-- SS1.BC0, a configured uplink cell. -/
def strayCell : Nat := bcU 1 0

/-- The index at which PRESENT of SS0.PE stands where PARTNER of the cell stands. -/
def strayCarrier : Nat := ((strayCell - peU 0) * 0x8000 + Reg.BC.PARTNER.off - Reg.PE.PRESENT.off) / Reg.PE.PRESENT.stride

/-- The cell's mute causes. -/
def strayMute : RegKey := (Reg.PE.C_MUTE_CAUSE.at (peOf strayCell) (idxOf strayCell)).key

/-- A block in which the cell's partner is 1, whose donor is the stray carrier, with DONOR_HOLD of that carrier run out. The cell's mute
causes stand twice in the register file, which shows afterwards whether they have been written. -/
def strayDonor : State := { dev := {
  porst := false
  timers := [((Timer.donorHold (peU 0) strayCarrier).code, 1)]
  regs := [((Reg.PE.C_DONOR_EN.at (peU 0) 1).key, 1), ((Reg.PE.C_DONOR_SS.at (peU 0) 1).key, strayCarrier / 8),
    ((Reg.BC.ENABLE.at strayCell).key, 1), ((Reg.BC.DIR.at strayCell).key, 1), ((Reg.BC.PARTNER.at strayCell).key, 1),
    (strayMute, 0), (strayMute, 0)] } }

theorem strayDonor_cells : strayDonor.dev.cellsOfDonor (0 * 8 + strayCarrier) = [strayCell] := by decide +kernel

/-- The block once that carrier is lost, before what follows any command. -/
def strayLost : Dev := (onExpiry (.donorHold (peU 0) strayCarrier) (donorLost 0 strayCarrier)).run strayDonor.dev

theorem exec_strayDonor : exec (.donorHoldExpiry 0 strayCarrier) strayDonor = .next { strayDonor with dev := settle.run strayLost } :=
  performSettled_runs _ rfl

/-- PRESENT taken as 0, the cell's partner is 0, which has no donor: nothing is muted. -/
theorem strayLost_unmuted : (settle.run strayLost).entriesAt strayMute = 2 := by decide +kernel

/-- Refutes O51: the carrier index has no bound there. PRESENT of an index far beyond the eight carriers stands where the PARTNER of a
cell stands, so the carrier's loss changes which cells rely on it before they are muted, and the cell that relied on it is not muted.
Where the command mutes it, its mute causes stand once from then on; they still stand twice. -/
theorem not_protectionHoldsEnd : ¬ Obligations.ProtectionHoldsEnd := by
  unfold Obligations.ProtectionHoldsEnd
  rintro ⟨-, -, -, hlost, -⟩
  obtain ⟨d, hexec, -, -, hsame⟩ := hlost strayDonor 0 strayCarrier 0 rfl (by decide +kernel) (by decide +kernel)
  rw [strayDonor_cells] at hexec
  have hfree : d.muteCause strayCell mcDonor = false := by
    rw [Dev.muteCause, Dev.peRd, Dev.rd, hsame _ (by decide +kernel)]
    decide +kernel
  obtain ⟨-, hdev⟩ := State.mk.inj (Host.Outcome.next.inj (hexec.symm.trans exec_strayDonor))
  have honce : (settle.run strayLost).entriesAt strayMute ≤ 1 := by
    rw [← hdev]
    exact donorLoss_entriesAt 0 strayCarrier _ hfree
  rw [strayLost_unmuted] at honce
  exact absurd honce (by decide)

end Sys2Proof.Machine

namespace Sys2Proof.Machine

/-! ### Carriers behind their registers -/

theorem carrierAt_carrier_same (d : Dev) (k : Nat) (x : Carrier) : (d.apply (.carrier k x)).carrierAt k = x := Bank.get_put_same ..
@[simp] theorem carrierAt_reg (d : Dev) (r : Ref) (v k : Nat) : (d.apply (.reg r v)).carrierAt k = d.carrierAt k := rfl
@[simp] theorem carrierAt_ce (d : Dev) (c : CalEngine) (k : Nat) : (d.apply (.ce c)).carrierAt k = d.carrierAt k := rfl
theorem reach_carrierAt (d : Dev) (t k : Nat) : (d.reach t).carrierAt k = d.carrierAt k := by
  rw [Dev.carrierAt, reach_carrier, ← Dev.carrierAt]
@[simp] theorem ce_regs (d : Dev) (c : CalEngine) : (d.apply (.ce c)).regs = d.regs := rfl
@[simp] theorem rd_carrier (d : Dev) (k : Nat) (x : Carrier) (u i j : Nat) (f : Fld) :
    (d.apply (.carrier k x)).rd u f i j = d.rd u f i j := rfl
@[simp] theorem rd_ce (d : Dev) (c : CalEngine) (u i j : Nat) (f : Fld) : (d.apply (.ce c)).rd u f i j = d.rd u f i j := rfl
@[simp] theorem sameRegs_carrier {d d' : Dev} {rs : List Ref} (k : Nat) (x : Carrier) :
    SameRegs d (d'.apply (.carrier k x)) rs ↔ SameRegs d d' rs := sameRegs_of_regs rfl
@[simp] theorem sameRegs_ce {d d' : Dev} {rs : List Ref} (c : CalEngine) : SameRegs d (d'.apply (.ce c)) rs ↔ SameRegs d d' rs :=
  sameRegs_of_regs rfl

theorem run_modCar (n k : Nat) (f : Carrier → Carrier) (d : Dev) :
    (modCar n k f).run d = d.apply (.carrier (n * 8 + k) (f (d.carrierAt (n * 8 + k)))) := rfl

/-! ### A detection inside its span (R242, R245) -/

/-- The phase advances that K_CFO averages, with the detection's own. -/
def Dev.advances (d : Dev) (n k : Nat) (x : Detection) : List Int := (x.adv :: (d.carrierAt (n * 8 + k)).cfos).take 16

/-- The carrier with the detection noted. -/
def Dev.detectedCarrier (d : Dev) (n k : Nat) (x : Detection) : Carrier :=
  { d.carrierAt (n * 8 + k) with det := some x.tdet, cfos := d.advances n k x, fixed := true }

/-- The block with the detection noted, its values shown, and the detection counted. -/
def Dev.detectionShown (d : Dev) (n k : Nat) (x : Detection) : Dev :=
  let u := sdU n
  (incWrap u Reg.SD.K_DET_CNT k).run (((((d.apply (.carrier (n * 8 + k) (d.detectedCarrier n k x))).apply
    (.reg (Reg.SD.K_NID2_FOUND.at u k) x.nid2)).apply
    (.reg (Reg.SD.K_PEAK.at u k) x.rho)).apply
    (.reg (Reg.SD.K_PSS_PWR.at u k) (codeOf Reg.SD.K_PSS_PWR.width x.pwr))).apply
    (.reg (Reg.SD.K_CFO.at u k) (codeOf Reg.SD.K_CFO.width (d.cfoOf n k (d.advances n k x)))))

/-- The carrier is the one that the reference is compared with (R289). -/
def Dev.isReference (d : Dev) (n k : Nat) : Bool :=
  d.is CE Reg.CE.REF_EN && d.rd CE Reg.CE.REF_SS == n && d.rd CE Reg.CE.REF_CAR == k

/-- The block once a detection has been taken: the reference carrier's goes to the Calibration Engine too. -/
def Dev.detectionTaken (d : Dev) (n k : Nat) (x : Detection) : Dev :=
  (when (d.isReference n k) (modCe fun e => { e with refDet := (d.dt, x.adv) :: e.refDet })).run (d.detectionShown n k x)

section
variable (d : Dev) (n k : Nat) (x : Detection)

theorem isReference_iff : d.isReference n k = true ↔
    d.rd CE Reg.CE.REF_EN ≠ 0 ∧ d.rd CE Reg.CE.REF_SS = n ∧ d.rd CE Reg.CE.REF_CAR = k := by
  simp only [Dev.isReference, Dev.is, Bool.and_eq_true, bne_iff_ne, beq_iff_eq, and_assoc]

theorem detectionShown_carrierAt : (d.detectionShown n k x).carrierAt (n * 8 + k) = d.detectedCarrier n k x := by
  simp only [Dev.detectionShown, run_incWrap, carrierAt_reg, carrierAt_carrier_same]

theorem detectionShown_ce : (d.detectionShown n k x).ce = d.ce := rfl

theorem detectionShown_sameRegs : SameRegs d (d.detectionShown n k x) [Reg.SD.K_NID2_FOUND.at (sdU n) k, Reg.SD.K_PEAK.at (sdU n) k,
    Reg.SD.K_PSS_PWR.at (sdU n) k, Reg.SD.K_CFO.at (sdU n) k, Reg.SD.K_DET_CNT.at (sdU n) k] := by
  simp [Dev.detectionShown]

theorem detectionShown_nid2 :
    (d.detectionShown n k x).rd (sdU n) Reg.SD.K_NID2_FOUND k = x.nid2 % 2 ^ Reg.SD.K_NID2_FOUND.width := by
  simp (disch := decide) only [Dev.detectionShown, run_incWrap, rd_reg_sibling, rd_reg_same]

theorem detectionShown_peak : (d.detectionShown n k x).rd (sdU n) Reg.SD.K_PEAK k = x.rho % 2 ^ Reg.SD.K_PEAK.width := by
  simp (disch := decide) only [Dev.detectionShown, run_incWrap, rd_reg_sibling, rd_reg_same]

theorem detectionShown_pssPwr :
    (d.detectionShown n k x).rd (sdU n) Reg.SD.K_PSS_PWR k = codeOf 16 x.pwr % 2 ^ Reg.SD.K_PSS_PWR.width := by
  simp (disch := decide) only [Dev.detectionShown, run_incWrap, rd_reg_sibling, rd_reg_same]
  rfl

theorem detectionShown_detCnt : (d.detectionShown n k x).rd (sdU n) Reg.SD.K_DET_CNT k =
    (d.rd (sdU n) Reg.SD.K_DET_CNT k + 1) % 2 ^ Reg.SD.K_DET_CNT.width := by
  simp (disch := decide) only [Dev.detectionShown, run_incWrap, rd_reg_sibling, rd_reg_same, rd_carrier]

theorem detectionTaken_of_reference (h : d.isReference n k = true) : d.detectionTaken n k x =
    (d.detectionShown n k x).apply (.ce { d.ce with refDet := (d.dt, x.adv) :: d.ce.refDet }) := by
  rw [Dev.detectionTaken, h, run_when_true, run_modCe, detectionShown_ce]

theorem detectionTaken_of_other (h : d.isReference n k = false) : d.detectionTaken n k x = d.detectionShown n k x := by
  rw [Dev.detectionTaken, h, run_when_false]

/-- What the Calibration Engine is told leaves every register. -/
theorem detectionTaken_regs : (d.detectionTaken n k x).regs = (d.detectionShown n k x).regs := by
  cases h : d.isReference n k with
  | true => rw [detectionTaken_of_reference d n k x h, ce_regs]
  | false => rw [detectionTaken_of_other d n k x h]

theorem detectionTaken_carrierAt : (d.detectionTaken n k x).carrierAt (n * 8 + k) = d.detectedCarrier n k x := by
  cases h : d.isReference n k with
  | true => rw [detectionTaken_of_reference d n k x h, carrierAt_ce, detectionShown_carrierAt]
  | false => rw [detectionTaken_of_other d n k x h, detectionShown_carrierAt]

end

section
variable {d : Dev} {n k : Nat} {x : Detection}

/-- Outside the search span a peak is no detection (R243). -/
theorem run_detection_outside (residue : Bool) (hspan : d.inSpan n k x.tdet = false) : (detection n k x residue).run d = d := by
  rw [detection, run_withDev, hspan]
  rfl

/-- A residue failure discards the detection (R477). -/
theorem run_detection_discarded (hspan : d.inSpan n k x.tdet = true) : (detection n k x true).run d =
    (fireEvent (sdU n) 1 (setScope (sdU n) k (d.cellsOfDonor (n * 8 + k))) []).run d := by
  rw [detection, run_withDev, hspan]
  rfl

/-- A detection is taken, and reaches the engine at or above DONOR_MIN. -/
theorem run_detection_taken (hspan : d.inSpan n k x.tdet = true) : (detection n k x false).run d =
    (when (decide (x.pwr ≥ d.rdS (peU n) Reg.PE.DONOR_MIN k)) (validDetection n k x.pwr)).run (d.detectionTaken n k x) := by
  rw [detection, run_withDev]
  dsimp only
  rw [hspan, run_when_true, if_neg Bool.false_ne_true, run_seqs_cons, run_seqs_cons, run_seqs_cons, run_seqs_cons, run_seqs_cons,
    run_seqs_cons, run_seqs_cons, run_seqs_cons, run_seqs_nil, run_modCar, run_put, run_put, run_putS, run_putS,
    ← Dev.isReference, ← Dev.advances, ← Dev.detectedCarrier, ← Dev.detectionShown, ← Dev.detectionTaken]

end

section
variable {d : Dev} {n k t : Nat} {feed : Feed} {residue : Bool}

theorem run_detect_off (hoff : d.carrierOn n k = false) : (detect n k t feed residue).run d = d := by
  rw [detect, run_withDev, hoff, run_when_false]

/-- A tracked carrier's correlator is looked at where the plane has followed to the instant. -/
theorem run_detect_none (hon : d.carrierOn n k = true) (hno : ((runPlane feed).run (d.reach t)).detected n k = none) :
    (detect n k t feed residue).run d = (runPlane feed).run (d.reach t) := by
  rw [detect, run_withDev, hon, run_when_true, run_seqs_cons, run_seqs_cons, run_seqs_cons, run_seqs_nil, run_reach, run_withDev, hno,
    run_skip]

theorem run_detect_some {x : Detection} (hon : d.carrierOn n k = true)
    (hx : ((runPlane feed).run (d.reach t)).detected n k = some x) :
    (detect n k t feed residue).run d = (detection n k x residue).run ((runPlane feed).run (d.reach t)) := by
  rw [detect, run_withDev, hon, run_when_true, run_seqs_cons, run_seqs_cons, run_seqs_cons, run_seqs_nil, run_reach, run_withDev, hx]

end

/-! ### The flywheel (R243) -/

section
variable {d : Dev} {n k : Nat}

/-- The period of a carrier's PSS occurrences in 2^−16 dt. -/
def Dev.occurrenceStep (d : Dev) (n k : Nat) : Int := ((d.pssPeriod (n * 8 + k) * 65536 : Nat) : Int)

/-- Without lock a detection gives the prediction, at rate 0. -/
theorem flywheel_found {t : Nat} (hdet : (d.carrierAt (n * 8 + k)).det = some t) (hlock : d.locked n k = false) :
    (d.flywheel n k).tp = (t : Int) * 65536 + d.occurrenceStep n k ∧ (d.flywheel n k).rate = 0 := by
  simp [Dev.flywheel, hdet, hlock, Dev.occurrenceStep]

/-- Without lock a missed span starts the row of detections over. -/
theorem flywheel_searching (hdet : (d.carrierAt (n * 8 + k)).det = none) (hlock : d.locked n k = false) :
    (d.flywheel n k).good = 0 ∧ (d.flywheel n k).lost = false ∧
      (0 < d.rd (sdU n) Reg.SD.K_LOCK_N k → (d.flywheel n k).gained = false) := by
  simp [Dev.flywheel, hdet, hlock, Nat.pos_iff_ne_zero]

/-- With lock a missed span counts, and the timeline runs on at its rate. -/
theorem flywheel_missed (hdet : (d.carrierAt (n * 8 + k)).det = none) (hlock : d.locked n k = true) :
    (d.flywheel n k).miss = (d.carrierAt (n * 8 + k)).miss + 1 ∧ (d.flywheel n k).rate = d.rdS (sdU n) Reg.SD.K_RATE k ∧
      (d.flywheel n k).tp = (d.carrierAt (n * 8 + k)).tp + d.occurrenceStep n k + (d.flywheel n k).rate ∧
      (d.flywheel n k).gained = false ∧
      (d.flywheel n k).lost = decide (d.rd (sdU n) Reg.SD.K_UNLOCK_N k ≤ (d.carrierAt (n * 8 + k)).miss + 1) := by
  simp [Dev.flywheel, hdet, hlock, Dev.occurrenceStep]

/-- With lock a near detection moves the timeline by the fraction 2^−TRACK_SH of its error. -/
theorem flywheel_tracked {t : Nat} (hdet : (d.carrierAt (n * 8 + k)).det = some t) (hlock : d.locked n k = true)
    (hnear : ((t : Int) * 65536 - (d.carrierAt (n * 8 + k)).tp).natAbs ≤ d.rd (sdU n) Reg.SD.K_LOCK_TOL k * 65536) :
    (d.flywheel n k).miss = 0 ∧ (d.flywheel n k).tp = (d.carrierAt (n * 8 + k)).tp +
      roundHalf ((t : Int) * 65536 - (d.carrierAt (n * 8 + k)).tp) (65536 * 2 ^ d.rd (sdU n) Reg.SD.K_TRACK_SH k) * 65536 +
      d.occurrenceStep n k + (d.flywheel n k).rate := by
  simp [Dev.flywheel, hdet, hlock, hnear, Dev.occurrenceStep]

end

/-! ### The end of a search span (R243) -/

/-- The search span of a tracked carrier has ended by `t`. -/
def Dev.spanDue (d : Dev) (n k t : Nat) : Prop := d.carrierOn n k = true ∧ d.dt ≤ t ∧ d.spanEnd n k ≤ (t : Int) * 65536

/-- A carrier as the flywheel's step leaves it. -/
def Dev.steppedCarrier (d : Dev) (n k : Nat) : Carrier := { d.carrierAt (n * 8 + k) with
  tp := (d.flywheel n k).tp, good := if (d.flywheel n k).lost then 0 else (d.flywheel n k).good
  miss := (d.flywheel n k).miss, det := none }

/-- The block once the span has ended: the prediction, the rows and the rate have taken the flywheel's step. -/
def Dev.spanEnded (d : Dev) (n k t : Nat) : Dev :=
  ((d.reach t).apply (.carrier (n * 8 + k) (d.steppedCarrier n k))).apply
    (.reg (Reg.SD.K_RATE.at (sdU n) k) (codeOf Reg.SD.K_RATE.width (d.flywheel n k).rate))

/-- What follows the step: the error shown, a misplaced detection counted, and lock gained, lost or kept. -/
def afterSpan (n k : Nat) (f : Flywheel) (locked : Bool) : Script := seqs [
  match f.err with
  | some e => showTimeErr n k e
  | none => skip,
  when (locked && !f.near && f.err.isSome) (inc (sdU n) Reg.SD.K_MISS_CNT k),
  followLock n k f]

theorem searchEnd_guard (d : Dev) (n k t : Nat) :
    (d.carrierOn n k && decide (d.dt ≤ t) && decide (d.spanEnd n k ≤ (t : Int) * 65536)) = true ↔ d.spanDue n k t := by
  simp only [Dev.spanDue, Bool.and_eq_true, decide_eq_true_eq, and_assoc]

theorem run_searchEnd_due {d : Dev} {n k t : Nat} (h : d.spanDue n k t) :
    (searchEnd n k t).run d = (afterSpan n k (d.flywheel n k) (d.locked n k)).run (d.spanEnded n k t) := by
  rw [searchEnd, run_withDev]
  dsimp only
  rw [(searchEnd_guard d n k t).mpr h, run_when_true, run_seqs_cons, run_seqs_cons, run_seqs_cons, run_reach, run_modCar,
    reach_carrierAt, run_putS]
  rfl

theorem run_searchEnd_not_due {d : Dev} {n k t : Nat} (h : ¬d.spanDue n k t) : (searchEnd n k t).run d = d := by
  rw [searchEnd, run_withDev]
  dsimp only
  rw [Bool.eq_false_iff.mpr (mt (searchEnd_guard d n k t).mp h), run_when_false]

theorem spanEnded_rate (d : Dev) (n k t : Nat) : (d.spanEnded n k t).rdS (sdU n) Reg.SD.K_RATE k =
    signed 32 (codeOf 32 (d.flywheel n k).rate % 2 ^ Reg.SD.K_RATE.width) := by
  rw [Dev.spanEnded, Dev.rdS, rd_reg_same]
  rfl

theorem spanEnded_carrierAt (d : Dev) (n k t : Nat) : (d.spanEnded n k t).carrierAt (n * 8 + k) = d.steppedCarrier n k := by
  rw [Dev.spanEnded, carrierAt_reg, carrierAt_carrier_same]

/-! ### Marks (R244) and the adoption of a timeline (R246) -/

/-- The block once the next mark of a carrier is stamped. -/
def Dev.marked (d : Dev) (n k : Nat) : Dev :=
  (putLive (sdU n) Reg.SD.K_MARK_LO (d.nextMark n k) k).run ((d.reach (d.nextMark n k)).apply
    (.carrier (n * 8 + k) { d.carrierAt (n * 8 + k) with mark := d.nextMark n k }))

section
variable {d : Dev} {n k : Nat}

theorem run_frameMark_due (hon : d.carrierOn n k = true) (hmarks : d.hasMarks (n * 8 + k) = true) :
    (frameMark n k).run d = d.marked n k := by
  rw [frameMark, run_withDev]
  dsimp only
  rw [hon, hmarks, Bool.and_self, run_when_true, run_seqs_cons, run_seqs_cons, run_seqs_cons, run_seqs_nil, run_reach, run_modCar,
    reach_carrierAt]
  rfl

theorem run_frameMark_idle (h : d.carrierOn n k = false ∨ d.hasMarks (n * 8 + k) = false) : (frameMark n k).run d = d := by
  rw [frameMark, run_withDev]
  dsimp only
  rw [Bool.and_eq_false_iff.mpr h, run_when_false]

theorem marked_mark : ((d.marked n k).carrierAt (n * 8 + k)).mark = d.nextMark n k :=
  congrArg Carrier.mark (carrierAt_carrier_same ..)

theorem marked_live : (d.marked n k).live (sdU n) Reg.SD.K_MARK_LO k = d.nextMark n k % 2 ^ 64 := by
  rw [Dev.marked, run_putLive, live_reg, live_wide_same]

/-- The guard of the adoption is that no group of the carrier is in Send or Switch. -/
theorem groupsOn_guard (car : Nat) : ((d.groupsOn car).all fun g => !d.busyTx g.1 g.2) = true ↔
    ∀ g ∈ d.groupsOn car, d.busyTx g.1 g.2 = false := by
  simp only [List.all_eq_true, Bool.not_eq_true']

/-- A timeline waits for its adoption without one of its causes. -/
theorem run_adoptJump_waits (h : (d.carrierAt (n * 8 + k)).next = none ∨ d.carrierOn n k = false ∨
    ∃ g ∈ d.groupsOn (n * 8 + k), d.busyTx g.1 g.2 = true) : (adoptJump n k).run d = d := by
  rw [adoptJump, run_withDev]
  dsimp only
  cases hnext : (d.carrierAt (n * 8 + k)).next with
  | none => rfl
  | some x =>
    have hguard : (d.carrierOn n k && (d.groupsOn (n * 8 + k)).all fun g => !d.busyTx g.1 g.2) = false := by
      refine Bool.and_eq_false_iff.mpr ((h.resolve_left (by simp [hnext])).imp_right fun ⟨g, hg, hbusy⟩ => ?_)
      exact Bool.eq_false_iff.mpr fun hall => by simp [(groupsOn_guard _).mp hall g hg] at hbusy
    dsimp only
    rw [hguard, run_when_false]

/-- The block once the carrier's new timeline no longer waits. -/
def Dev.adopting (d : Dev) (n k : Nat) : Dev := d.apply (.carrier (n * 8 + k) { d.carrierAt (n * 8 + k) with next := none })

/-- What the adoption of timeline `x` does beside: the marks follow it, held requests are cancelled, and the jump is counted and noted. -/
def adopted (d : Dev) (n k : Nat) (x : Int) : Script := seqs [takeTimeline n k x,
  forEach (d.groupsOn (n * 8 + k)) fun g => seqs [
    modGrp g.1 g.2 fun y => { y with held := none }, putB (rcU g.1) Reg.RC.G_SYN_WAIT false g.2, restAgain g.1 g.2],
  inc (sdU n) Reg.SD.K_JUMP_CNT k,
  noteRec (sdU n) 0x40 (leBytes 1 k ++ leBytes 4 (codeOf 32
    (wrapDiff (d.pssPeriod (n * 8 + k) * 65536) (x - (d.carrierAt (n * 8 + k)).fly) / 65536)))]

theorem run_adoptJump_taken {x : Int} (hon : d.carrierOn n k = true) (hnext : (d.carrierAt (n * 8 + k)).next = some x)
    (hfree : ∀ g ∈ d.groupsOn (n * 8 + k), d.busyTx g.1 g.2 = false) :
    (adoptJump n k).run d = (adopted d n k x).run (d.adopting n k) := by
  rw [adoptJump, run_withDev]
  dsimp only
  rw [hnext]
  dsimp only
  rw [hon, (groupsOn_guard _).mpr hfree, Bool.and_self, run_when_true, run_seqs_cons, run_modCar]
  rfl

end

/-- Settles O53: a peak is judged where the plane has followed to it, the end of a due span takes the flywheel's step, and a mark and
the adoption of a timeline are one block of changes each, with what follows. -/
theorem syncDetectorsTrack : Obligations.SyncDetectorsTrack := by
  unfold Obligations.SyncDetectorsTrack
  refine ⟨fun s n k t feed residue h => ⟨fun hoff => ?off, fun hon => ⟨fun hno => ?none, fun x hx => ⟨fun hspan => ?outside,
      fun hspan hres => ?discarded, fun hspan hres => ?taken⟩⟩⟩,
    fun s n k t h => ⟨fun hno => ?notDue, fun hno => ?noMark, fun hno => ?noJump⟩, fun s n k t h hon hdt hend => ?span,
    fun d n k => ⟨fun t => flywheel_found, flywheel_searching, flywheel_missed, fun t => flywheel_tracked⟩,
    fun s n k h hon => ⟨fun hmarks => ?mark, fun x hnext hfree => ?jump⟩⟩
  case off => exact does_of (p := detect n k t feed residue) rfl h s.dev (run_detect_off hoff) rfl
  case none => exact does_of (p := detect n k t feed residue) rfl h _ (run_detect_none hon hno) rfl
  case outside =>
    exact does_of (p := detect n k t feed residue) rfl h _ ((run_detect_some hon hx).trans (run_detection_outside residue hspan)) rfl
  case discarded =>
    subst hres
    exact does_of (p := detect n k t feed true) rfl h _ ((run_detect_some hon hx).trans (run_detection_discarded hspan)) rfl
  case taken =>
    subst hres
    have hregs := detectionTaken_regs ((runPlane feed).run (s.dev.reach t)) n k x
    refine does_of (p := detect n k t feed false) rfl h _ ((run_detect_some hon hx).trans (run_detection_taken hspan))
      ⟨detectionTaken_carrierAt .., ?_, ?_, ?_, ?_, fun href => ?_, fun hother => ?_,
        (sameRegs_of_regs hregs).mpr (detectionShown_sameRegs _ n k x)⟩
    · exact (rd_of_regs hregs ..).trans (detectionShown_nid2 ..)
    · exact (rd_of_regs hregs ..).trans (detectionShown_peak ..)
    · exact (rd_of_regs hregs ..).trans (detectionShown_pssPwr ..)
    · exact (rd_of_regs hregs ..).trans (detectionShown_detCnt ..)
    · rw [detectionTaken_of_reference _ n k x ((isReference_iff ..).mpr href)]
      rfl
    · rw [detectionTaken_of_other _ n k x (Bool.eq_false_iff.mpr (mt (isReference_iff ..).mp hother)), detectionShown_ce]
  case notDue =>
    refine does_of (p := searchEnd n k t) rfl h s.dev (run_searchEnd_not_due fun ⟨hon, hdt, hend⟩ => ?_) rfl
    rcases hno with hoff | hlate | hearly
    · simp [hon] at hoff
    · omega
    · omega
  case noMark => exact does_of (p := frameMark n k) rfl h s.dev (run_frameMark_idle hno) rfl
  case noJump => exact does_of (p := adoptJump n k) rfl h s.dev (run_adoptJump_waits hno) rfl
  case span =>
    exact ⟨_, does_of (p := searchEnd n k t) rfl h _ (run_searchEnd_due ⟨hon, hdt, hend⟩)
      ⟨rfl, spanEnded_rate .., spanEnded_carrierAt ..⟩, rfl⟩
  case mark =>
    exact does_of (p := frameMark n k) rfl h _ (run_frameMark_due hon hmarks) ⟨rfl, marked_mark, marked_live⟩
  case jump =>
    exact does_of (p := adoptJump n k) rfl h _ (run_adoptJump_taken hon hnext hfree) ⟨carrierAt_carrier_same .., rfl⟩

end Sys2Proof.Machine

namespace Sys2Proof.Machine

/-! ### Commands that only change the block -/

/-- A settled command whose script leads to `d`, with nothing named to follow. -/
theorem does_at {i : Instr} {s : State} {P : Dev → Prop} {p : Script} {d : Dev} (he : exec i s = performSettled p s) (h : s.runs)
    (hp : p.run s.dev = d) (hP : P d) : Does i s P :=
  does_of he h d hp hP

/-- A settled command whose script has no effect. -/
theorem does_nothing {i : Instr} {s : State} {p : Script} (he : exec i s = performSettled p s) (h : s.runs) (hp : p.run s.dev = s.dev) :
    Does i s fun d => d = s.dev :=
  does_at he h hp rfl

/-! ### Antenna groups behind their registers -/

@[simp] theorem run_modGrp (n k : Nat) (f : Group → Group) (d : Dev) :
    (modGrp n k f).run d = d.apply (.group (grpKey n k) (f (d.grp n k))) := rfl
@[simp] theorem run_putGState (n k v : Nat) (d : Dev) : (putGState n k v).run d = d.apply (.reg (Reg.RC.G_STATE.at (rcU n) k) v) := rfl
@[simp] theorem grp_group_same (d : Dev) (n k : Nat) (x : Group) : (d.apply (.group (grpKey n k) x)).grp n k = x := Bank.get_put_same ..
theorem grp_of_group {d d' : Dev} (h : d'.group = d.group) (n k : Nat) : d'.grp n k = d.grp n k := by
  rw [Dev.grp, Dev.groupAt, h, ← Dev.groupAt, ← Dev.grp]
@[simp] theorem grp_reg (d : Dev) (r : Ref) (v n k : Nat) : (d.apply (.reg r v)).grp n k = d.grp n k := grp_of_group (reg_group ..) n k
@[simp] theorem grp_arm (d : Dev) (c t n k : Nat) : (d.apply (.arm c t)).grp n k = d.grp n k := grp_of_group (arm_group ..) n k
@[simp] theorem grp_disarm (d : Dev) (c n k : Nat) : (d.apply (.disarm c)).grp n k = d.grp n k := grp_of_group (disarm_group ..) n k
@[simp] theorem reach_grp (d : Dev) (t n k : Nat) : (d.reach t).grp n k = d.grp n k := grp_of_group (reach_group d t) n k

theorem gState_of_regs {d d' : Dev} (h : d'.regs = d.regs) (n k : Nat) : d'.gState n k = d.gState n k := rd_of_regs h ..
@[simp] theorem gState_group (d : Dev) (c : Nat) (x : Group) (n k : Nat) : (d.apply (.group c x)).gState n k = d.gState n k :=
  gState_of_regs rfl n k
@[simp] theorem gState_arm (d : Dev) (c t n k : Nat) : (d.apply (.arm c t)).gState n k = d.gState n k := gState_of_regs (arm_regs ..) n k
@[simp] theorem reach_gState (d : Dev) (t n k : Nat) : (d.reach t).gState n k = d.gState n k := gState_of_regs (reach_regs d t) n k

/-- A state code fits its field (R248). -/
theorem gState_put (d : Dev) (n k : Nat) {v : Nat} (hv : v < 8) : (d.apply (.reg (Reg.RC.G_STATE.at (rcU n) k) v)).gState n k = v :=
  (rd_reg_same ..).trans (Nat.mod_eq_of_lt hv)

/-- The other fields of a group leave its state. -/
theorem gState_put_other (d : Dev) (n k v : Nat) {f : Fld} (hs : f.stride = 64) (hs2 : f.stride2 = 0) (h : 0x114 * 32 ≠ f.off * 32 + f.lo) :
    (d.apply (.reg (f.at (rcU n) k) v)).gState n k = d.gState n k :=
  rd_reg_sibling d v hs.symm hs2.symm h

theorem sendState_lt (d : Dev) (n k : Nat) : d.sendState n k < 8 := by
  unfold Dev.sendState
  split <;> decide

theorem listenState_lt (d : Dev) (n k : Nat) : d.listenState n k < 8 := by
  unfold Dev.listenState
  split <;> decide

theorem restState_lt (d : Dev) (n k : Nat) : d.restState n k < 8 := by
  unfold Dev.restState
  split
  · exact listenState_lt d n k
  · decide

/-- A group whose carrier has marks rests where its table and REST_LISTEN say (R253). -/
theorem restState_of_marks {d : Dev} {n k : Nat} (htdd : d.grpTdd n k = true) (hmarks : d.hasMarks (d.grpCarrier n k) = true) :
    d.restState n k = if d.rd (rcU n) Reg.RC.G_REST_LISTEN k ≠ 0 ∨ (d.grp n k).listening = true then d.listenState n k else gsRest := by
  simp only [Dev.restState, htdd, hmarks, Bool.and_self, Bool.true_and, Dev.is, Bool.or_eq_true, bne_iff_ne]

/-! ### A group moves to another state -/

/-- The block with group `k` in state `v`, and `g` behind its registers. -/
def Dev.moved (d : Dev) (n k v : Nat) (g : Group) : Dev :=
  (d.apply (.reg (Reg.RC.G_STATE.at (rcU n) k) v)).apply (.group (grpKey n k) g)

/-- The block with the group so moved, and its next timed step due in `lead` dt. -/
def Dev.movedFor (d : Dev) (n k v : Nat) (g : Group) (lead : Nat) : Dev := (startTimer (.groupStep n k) lead).run (d.moved n k v g)

section
variable (d : Dev) (n k v : Nat) (g : Group) (lead : Nat)

theorem moved_grp : (d.moved n k v g).grp n k = g := grp_group_same ..
theorem moved_gState (hv : v < 8) : (d.moved n k v g).gState n k = v := (gState_group ..).trans (gState_put d n k hv)
theorem movedFor_grp : (d.movedFor n k v g lead).grp n k = g := (grp_arm ..).trans (moved_grp ..)
theorem movedFor_gState (hv : v < 8) : (d.movedFor n k v g lead).gState n k = v := (gState_arm ..).trans (moved_gState d n k v g hv)
theorem movedFor_deadline : (d.movedFor n k v g lead).deadline (.groupStep n k) = some (d.dt + lead) := startTimer_deadline ..

theorem run_move (f : Group → Group) :
    (seqs [putGState n k v, modGrp n k f]).run d = d.moved n k v (f (d.grp n k)) := by
  rw [run_seqs_cons, run_seqs_cons, run_seqs_nil, run_putGState, run_modGrp, grp_reg, Dev.moved]

theorem run_moveFor (f : Group → Group) :
    (seqs [putGState n k v, modGrp n k f, startTimer (.groupStep n k) lead]).run d = d.movedFor n k v (f (d.grp n k)) lead := by
  rw [run_seqs_cons, run_seqs_cons, run_seqs_cons, run_seqs_nil, run_putGState, run_modGrp, grp_reg, Dev.movedFor, Dev.moved]

end

/-! ### A timer has run out -/

/-- The block once a timer has run out at `t0`, before what follows from it. -/
def Dev.expired (d : Dev) (x : Timer) (t0 : Nat) : Dev := (d.reach t0).apply (.disarm x.code)

section
variable (d : Dev) (x : Timer) (t0 : Nat)

/-- The clock and the timers change, and nothing else. -/
theorem expired_eq : d.expired x t0 = { d with clock := (d.reach t0).clock, timers := d.timers.put 0 x.code 0 } := by
  rw [Dev.expired, reach_eq']
  rfl

@[simp] theorem expired_clock : (d.expired x t0).clock = (d.reach t0).clock := rfl
@[simp] theorem expired_regs : (d.expired x t0).regs = d.regs := reach_regs d t0
@[simp] theorem expired_deadline : (d.expired x t0).deadline x = none := deadline_disarm_same _ x
@[simp] theorem expired_grp (n k : Nat) : (d.expired x t0).grp n k = d.grp n k := (grp_disarm ..).trans (reach_grp ..)
@[simp] theorem expired_gState (n k : Nat) : (d.expired x t0).gState n k = d.gState n k :=
  gState_of_regs (expired_regs d x t0) n k
@[simp] theorem expired_grpReady (n k : Nat) : (d.expired x t0).grpReady n k = d.grpReady n k := by rw [expired_eq]; rfl
@[simp] theorem expired_settleBudget (n k : Nat) : (d.expired x t0).settleBudget n k = d.settleBudget n k := by rw [expired_eq]; rfl
@[simp] theorem expired_synthsOf (n k : Nat) : (d.expired x t0).synthsOf n k = d.synthsOf n k := by rw [expired_eq]; rfl

variable {d x t0}

theorem run_onExpiry_expired (p : Script) (h : d.deadline x = some t0) : (onExpiry x p).run d = p.run (d.expired x t0) :=
  run_onExpiry_some p h

end

end Sys2Proof.Machine

namespace Sys2Proof.Machine

/-! ### Power-up (R252) -/

/-- The group with its supply asserted. -/
def Dev.poweredGroup (d : Dev) (n k : Nat) : Group :=
  { d.grp n k with vddAt := some d.dt, bias := false, down := .none, forRecal := false, listening := d.inListen n k }

/-- The state in which a group waits for its first Send. -/
def Dev.powerUpState (d : Dev) (n k : Nat) : Nat :=
  if d.grpReady n k = false then gsSettle
  else if d.grpTdd n k = true ∧ d.hasMarks (d.grpCarrier n k) = true ∧
    (d.rd (rcU n) Reg.RC.G_REST_LISTEN k ≠ 0 ∨ d.inListen n k = true) then d.listenState n k else gsRest

/-- The block with a group powered up: an FDD group waits for the end of VDD_EN's lead. -/
def Dev.poweredUp (d : Dev) (n k : Nat) : Dev :=
  (when (!d.grpTdd n k) (startTimer (.groupStep n k) vddLead)).run (d.moved n k (d.powerUpState n k) (d.poweredGroup n k))

section
variable {d : Dev} {n k : Nat}

theorem restState_poweredGroup : (d.apply (.group (grpKey n k) (d.poweredGroup n k))).restState n k =
    if d.grpTdd n k = true ∧ d.hasMarks (d.grpCarrier n k) = true ∧
      (d.rd (rcU n) Reg.RC.G_REST_LISTEN k ≠ 0 ∨ d.inListen n k = true) then d.listenState n k else gsRest := by
  simp only [Dev.restState, grp_group_same, Dev.poweredGroup, Bool.and_eq_true, Bool.or_eq_true, and_assoc]
  simp only [Dev.is, bne_iff_ne]
  rfl

theorem powerUpState_lt : d.powerUpState n k < 8 := by
  unfold Dev.powerUpState
  split
  · decide
  · split
    · exact listenState_lt d n k
    · decide

theorem run_groupPowerUp : (groupPowerUp n k).run d = (groupRecord n k 0).run (d.poweredUp n k) := by
  have hstate : (if !(d.apply (.group (grpKey n k) (d.poweredGroup n k))).grpReady n k then gsSettle
      else (d.apply (.group (grpKey n k) (d.poweredGroup n k))).restState n k) = d.powerUpState n k := by
    rw [restState_poweredGroup, Dev.powerUpState]
    simp only [Bool.not_eq_true']
    rfl
  rw [Dev.poweredUp, ← hstate]
  simp only [groupPowerUp, run_withDev, run_seqs_cons, run_seqs_nil, run_modGrp, run_putGState]
  rfl

theorem poweredUp_gState : (d.poweredUp n k).gState n k = d.powerUpState n k := by
  rw [Dev.poweredUp, run_when]
  split
  · exact (gState_arm ..).trans (moved_gState _ n k _ _ powerUpState_lt)
  · exact moved_gState _ n k _ _ powerUpState_lt

theorem poweredUp_grp : (d.poweredUp n k).grp n k = d.poweredGroup n k := by
  rw [Dev.poweredUp, run_when]
  split
  · exact (grp_arm ..).trans (moved_grp ..)
  · exact moved_grp ..

theorem poweredUp_deadline (hfdd : d.grpTdd n k = false) : (d.poweredUp n k).deadline (.groupStep n k) = some (d.dt + 24576) := by
  rw [Dev.poweredUp, hfdd]
  exact startTimer_deadline ..

end

/-! ### The bias lead of a Send state (R252, R262) -/

section
variable (d : Dev) (n k st e : Nat)

theorem startBias_gState : ((startBias n k st e).run d).gState n k = gsSwitch := by
  simp only [startBias, run_seqs_cons, run_seqs_nil, run_putGState, run_put, run_putB, run_modGrp, gState_group]
  rw [gState_put_other _ n k _ rfl rfl (by decide), gState_put_other _ n k _ rfl rfl (by decide), gState_put _ n k (by decide)]

theorem startBias_grp : ((startBias n k st e).run d).grp n k = { d.grp n k with
    bias := true, held := none, nextS := some st, sendEnd := if e = 0 then none else some e } := by
  simp only [startBias, run_seqs_cons, run_seqs_nil, run_putGState, run_put, run_putB, run_modGrp, grp_group_same, grp_reg]

theorem startBias_clock : ((startBias n k st e).run d).clock = d.clock := rfl

theorem startBias_deadline (x : Timer) : ((startBias n k st e).run d).deadline x = d.deadline x := rfl

end

/-- The block with the transmit request of an FDD group held for its synthesisers, to come again at S + SETTLE_BUDGET (R262, log entry
118). -/
def Dev.requestHeld (d : Dev) (n k st : Nat) : Dev :=
  ((d.apply (.group (grpKey n k) { d.grp n k with held := some (st, 0) })).apply (.reg (Reg.RC.G_SYN_WAIT.at (rcU n) k) 1)).apply
    (.arm (Timer.fddRepeat n k).code (st + d.settleBudget n k + 1))

section
variable {d : Dev} {n k : Nat}

theorem requestHeld_grp (st : Nat) : (d.requestHeld n k st).grp n k = { d.grp n k with held := some (st, 0) } := by
  simp only [Dev.requestHeld, grp_arm, grp_reg, grp_group_same]

theorem requestHeld_synWait (st : Nat) : (d.requestHeld n k st).rd (rcU n) Reg.RC.G_SYN_WAIT k = 1 :=
  (rd_of_regs (arm_regs ..) ..).trans (rd_reg_same ..)

theorem requestHeld_deadline (st : Nat) :
    (d.requestHeld n k st).deadline (.fddRepeat n k) = some (st + d.settleBudget n k) :=
  deadline_arm_same ..

theorem requests_guard : (d.gState n k == gsRest || d.gState n k == gsSettle) = true ↔
    d.gState n k = gsRest ∨ d.gState n k = gsSettle := by
  simp only [Bool.or_eq_true, beq_iff_eq]

theorem run_fddRequest_ready (hst : d.gState n k = gsRest ∨ d.gState n k = gsSettle) (hready : d.grpReady n k = true) :
    (fddRequest n k).run d = (startBias n k (d.dt + biasLead) 0).run d := by
  rw [fddRequest, run_withDev]
  dsimp only
  rw [requests_guard.mpr hst, run_when_true, if_pos hready]

theorem run_fddRequest_held (hst : d.gState n k = gsRest ∨ d.gState n k = gsSettle) (hready : d.grpReady n k = false) :
    (fddRequest n k).run d = d.requestHeld n k (d.dt + biasLead) := by
  rw [fddRequest, run_withDev]
  dsimp only
  rw [requests_guard.mpr hst, run_when_true, hready, if_neg Bool.false_ne_true]
  simp only [run_seqs_cons, run_seqs_nil, run_modGrp, run_putB, run_startTimerAt]
  rfl

end

/-! ### The windows of a TDD group (R250, R252, R253) -/

section
variable {d : Dev} {n k e m : Nat}

/-- SEND entry `e` can be met: the group waits for it, and its bias lead lies ahead, past the lead of VDD_EN. -/
def Dev.leadDue (d : Dev) (n k e m : Nat) : Prop :=
  let a := (d.entrySpan n k e m).1
  d.entryAt n k e m kindSend = true ∧
    (d.gState n k = gsRest ∨ d.gState n k = gsListenDL ∨ d.gState n k = gsListenUL ∨ d.gState n k = gsSettle) ∧
    (d.grp n k).down = .none ∧ (d.dt : Int) + 492 ≤ a ∧ ∃ v, (d.grp n k).vddAt = some v ∧ v + 24576 ≤ (a - 492).toNat

/-- What a request at a bias lead that starts brings: one held until then is skipped, and the new one starts or is held
(log entry 118). -/
def leadRequest (n k a b : Nat) (d : Dev) : Script := seqs [
  when (d.grp n k).held.isSome (skipBurst n k),
  if d.grpReady n k && d.gState n k != gsSettle then startBias n k a b
  else seqs [modGrp n k fun g => { g with held := some (a, b) }, putB (rcU n) Reg.RC.G_SYN_WAIT true k]]

theorem run_biasLeadStart_due (h : d.leadDue n k e m) : (biasLeadStart n k e m).run d =
    (leadRequest n k (d.entrySpan n k e m).1.toNat (d.entrySpan n k e m).2.toNat d).run
      (d.reach ((d.entrySpan n k e m).1 - 492).toNat) := by
  obtain ⟨hentry, hst, hdown, hdt, v, hvdd, hv⟩ := h
  have hguard : (d.entryAt n k e m kindSend && (d.gState n k == gsRest || d.gState n k == gsListenDL || d.gState n k == gsListenUL ||
      d.gState n k == gsSettle) && (d.grp n k).down == .none && decide ((d.dt : Int) + tddLead ≤ (d.entrySpan n k e m).1) &&
      (d.grp n k).vddAt.any fun v => decide (v + vddLead ≤ ((d.entrySpan n k e m).1 - (tddLead : Int)).toNat)) = true := by
    simp only [Bool.and_eq_true, Bool.or_eq_true, beq_iff_eq, decide_eq_true_eq, hvdd, Option.any_some, or_assoc]
    simp only [tddLead, vddLead, Int.cast_ofNat_Int]
    exact ⟨⟨⟨⟨hentry, hst⟩, hdown⟩, hdt⟩, hv⟩
  rw [biasLeadStart, run_withDev]
  dsimp only
  rw [hguard, run_when_true, run_seqs_cons, run_reach]
  simp only [tddLead, Int.cast_ofNat_Int]
  rfl

theorem run_biasLeadStart_no_entry (h : d.entryAt n k e m kindSend = false) : (biasLeadStart n k e m).run d = d := by
  rw [biasLeadStart, run_withDev]
  dsimp only
  rw [h]
  rfl

end

section
variable {d : Dev} {n k e : Nat}

/-- The group at the start of its Send state. -/
def Dev.sendGroup (d : Dev) (n k st : Nat) : Group :=
  { d.grp n k with nextS := none, sendFrom := some (max d.dt st), sentAt := some (max d.dt st) }

/-- The first Send state since an entry to Carry lets the gains rise from the end of its ramp on (R82). -/
def releaseGains (n k st : Nat) (d : Dev) : Script :=
  forEach (d.cellsOfGroup n k) fun c => when (d.cellAt c).rampHold (seqs [
    modCell c fun x => { x with rampHold := false },
    startTimerAt (.gainSlew c) (max d.dt st + d.rampLen n k + d.slewStep c)])

theorem run_sendStart_due {st : Nat} (hnext : (d.grp n k).nextS = some st) (hst : d.gState n k = gsSwitch)
    (hdown : (d.grp n k).down = .none) : (sendStart n k).run d =
      (releaseGains n k st d).run ((d.reach st).moved n k (d.sendState n k) (d.sendGroup n k st)) := by
  rw [sendStart, run_withDev, hnext]
  dsimp only
  rw [hst, hdown, beq_self_eq_true, beq_self_eq_true, Bool.and_self, run_when_true, run_seqs_cons, run_seqs_cons, run_seqs_cons,
    run_seqs_cons, run_seqs_nil, run_reach, run_putGState, run_modGrp, grp_reg, reach_grp]
  rfl

theorem run_sendStart_not_due (h : (d.grp n k).nextS = none ∨ d.gState n k ≠ gsSwitch ∨ (d.grp n k).down ≠ .none) :
    (sendStart n k).run d = d := by
  rw [sendStart, run_withDev]
  cases hnext : (d.grp n k).nextS with
  | none => rfl
  | some st =>
    have hguard : (d.gState n k == gsSwitch && (d.grp n k).down == .none) = false := by
      simpa only [Bool.and_eq_false_iff, beq_eq_false_iff_ne] using h.resolve_left (by simp [hnext])
    dsimp only
    rw [hguard, run_when_false]

theorem run_sendStop_window (hend : (d.grp n k).sendEnd = some e) (hsend : d.sending n k = true) (hdown : (d.grp n k).down = .none) :
    (sendStop n k).run d = (d.reach e).moved n k gsSwitch { d.grp n k with bias := false, sendFrom := none } := by
  rw [sendStop, run_withDev, hend]
  dsimp only
  rw [hsend, run_when_true, if_pos (beq_iff_eq.mpr hdown), run_seqs_cons, run_reach, run_seqs_cons, run_seqs_nil, run_move, reach_grp]

/-- The end of a SEND entry goes on with an orderly power-down that has begun: the supply is next (R254, log entry 123). -/
theorem run_sendStop_down (hend : (d.grp n k).sendEnd = some e) (hsend : d.sending n k = true) (hdown : (d.grp n k).down ≠ .none) :
    (sendStop n k).run d = (d.reach e).movedFor n k gsRest
      { d.grp n k with bias := false, sendFrom := none, sendEnd := none, down := .supply } vddHold := by
  rw [sendStop, run_withDev, hend]
  dsimp only
  rw [hsend, run_when_true, beq_eq_false_iff_ne.mpr hdown, if_neg Bool.false_ne_true, run_seqs_cons, run_reach, run_seqs_cons,
    run_seqs_nil, run_moveFor, reach_grp]

theorem run_sendStop_not_due (h : (d.grp n k).sendEnd = none ∨ d.sending n k = false) : (sendStop n k).run d = d := by
  rw [sendStop, run_withDev]
  cases hend : (d.grp n k).sendEnd with
  | none => rfl
  | some e =>
    dsimp only
    rw [h.resolve_left (by simp [hend]), run_when_false]

theorem run_switchStop_due (hend : (d.grp n k).sendEnd = some e) (hst : d.gState n k = gsSwitch) (hbias : (d.grp n k).bias = false) :
    (switchStop n k).run d = (d.reach (e + d.rd (rcU n) Reg.RC.G_SWITCH_DT k)).moved n k (d.restState n k)
      { d.grp n k with sendEnd := none } := by
  have hguard : (d.gState n k == gsSwitch && !(d.grp n k).bias) = true := by simp [hst, hbias]
  rw [switchStop, run_withDev, hend]
  dsimp only
  rw [hguard, run_when_true, run_seqs_cons, run_reach, run_move, reach_grp]

theorem run_switchStop_not_due (h : (d.grp n k).sendEnd = none ∨ d.gState n k ≠ gsSwitch ∨ (d.grp n k).bias = true) :
    (switchStop n k).run d = d := by
  rw [switchStop, run_withDev]
  cases hend : (d.grp n k).sendEnd with
  | none => rfl
  | some e =>
    have hguard : (d.gState n k == gsSwitch && !(d.grp n k).bias) = false := by
      simpa only [Bool.and_eq_false_iff, beq_eq_false_iff_ne, Bool.not_eq_false'] using h.resolve_left (by simp [hend])
    dsimp only
    rw [hguard, run_when_false]

end

/-! ### LISTEN entries (R250, R253) -/

/-- An entry of a group's table exists only where the group is TDD and its carrier has marks. -/
theorem marks_of_entryAt {d : Dev} {n k e m kind : Nat} (h : d.entryAt n k e m kind = true) :
    d.grpTdd n k = true ∧ d.hasMarks (d.grpCarrier n k) = true := by
  simp only [Dev.entryAt, Dev.entryOk, Bool.and_eq_true] at h
  obtain ⟨⟨⟨⟨⟨-, htdd⟩, hmarks⟩, -⟩, -⟩, -⟩ := h
  exact ⟨htdd, hmarks⟩

/-- The group is free to follow its table: it rests or listens, and no orderly stop runs. -/
def Dev.followsTable (d : Dev) (n k : Nat) : Bool := d.resting n k && (d.grp n k).down == .none

/-- The block at an edge of a LISTEN entry. -/
def Dev.listenTurned (d : Dev) (n k t : Nat) (starts : Bool) : Dev :=
  (d.reach t).apply (.group (grpKey n k) { d.grp n k with listening := starts })

section
variable {d : Dev} {n k t : Nat} {starts : Bool}

theorem listenTurned_grp : (d.listenTurned n k t starts).grp n k = { d.grp n k with listening := starts } := grp_group_same ..
theorem listenTurned_gState : (d.listenTurned n k t starts).gState n k = d.gState n k := (gState_group ..).trans (reach_gState ..)

theorem listenTurned_followsTable : (d.listenTurned n k t starts).followsTable n k = d.followsTable n k := by
  simp only [Dev.followsTable, Dev.resting, listenTurned_gState, listenTurned_grp]

theorem listenTurned_restState (htdd : d.grpTdd n k = true) (hmarks : d.hasMarks (d.grpCarrier n k) = true) :
    (d.listenTurned n k t starts).restState n k =
      if d.rd (rcU n) Reg.RC.G_REST_LISTEN k ≠ 0 ∨ starts = true then d.listenState n k else gsRest := by
  have hsame : d.listenTurned n k t starts = { d with
      clock := (d.reach t).clock, group := (d.listenTurned n k t starts).group } := by
    rw [Dev.listenTurned, reach_eq']
    rfl
  rw [restState_of_marks (by rw [hsame]; exact htdd) (by rw [hsame]; exact hmarks), listenTurned_grp, hsame]
  rfl

/-- The block with the group's state in line after the edge, where it follows its table. -/
def Dev.listenEdged (d : Dev) (n k t : Nat) (starts : Bool) : Dev :=
  (when (d.followsTable n k) (putGState n k ((d.listenTurned n k t starts).restState n k))).run (d.listenTurned n k t starts)

theorem run_listenEdge {t : Int} (ht : (d.dt : Int) ≤ t) : (listenEdge n k t starts).run d = d.listenEdged n k t.toNat starts := by
  rw [Dev.listenEdged, listenEdge, run_withDev, decide_eq_true ht, run_when_true, run_seqs_cons, run_seqs_cons, run_seqs_cons,
    run_seqs_nil, run_reach, run_modGrp, reach_grp, run_withDev, ← listenTurned_followsTable (t := t.toNat) (starts := starts)]
  rfl

theorem listenEdged_clock : (d.listenEdged n k t starts).clock = (d.reach t).clock := by
  rw [Dev.listenEdged, run_when]
  split <;> rfl

theorem listenEdged_grp : (d.listenEdged n k t starts).grp n k = { d.grp n k with listening := starts } := by
  rw [Dev.listenEdged, run_when]
  split
  · exact (grp_reg ..).trans listenTurned_grp
  · exact listenTurned_grp

theorem listenEdged_gState (htdd : d.grpTdd n k = true) (hmarks : d.hasMarks (d.grpCarrier n k) = true) :
    (d.listenEdged n k t starts).gState n k = if d.followsTable n k then
      (if d.rd (rcU n) Reg.RC.G_REST_LISTEN k ≠ 0 ∨ starts = true then d.listenState n k else gsRest) else d.gState n k := by
  rw [Dev.listenEdged, run_when]
  split
  · exact (gState_put _ n k (restState_lt ..)).trans (listenTurned_restState htdd hmarks)
  · exact listenTurned_gState

end

/-- The script of LISTEN_START and LISTEN_END: the edge of entry `e` that `side` picks. -/
def listenAt (n k e m : Nat) (side : Int × Int → Int) (starts : Bool) : Script :=
  withDev fun d => when (d.entryAt n k e m kindListen) (listenEdge n k (side (d.entrySpan n k e m)) starts)

section
variable {d : Dev} {n k e m : Nat} {side : Int × Int → Int} {starts : Bool}

theorem run_listenAt (hentry : d.entryAt n k e m kindListen = true) (ht : (d.dt : Int) ≤ side (d.entrySpan n k e m)) :
    (listenAt n k e m side starts).run d = d.listenEdged n k (side (d.entrySpan n k e m)).toNat starts := by
  rw [listenAt, run_withDev, hentry, run_when_true, run_listenEdge ht]

theorem run_listenAt_no_entry (hentry : d.entryAt n k e m kindListen = false) : (listenAt n k e m side starts).run d = d := by
  rw [listenAt, run_withDev, hentry, run_when_false]

end

end Sys2Proof.Machine

namespace Sys2Proof.Machine

/-! ### The orderly power-down (R254, R259) -/

/-- The script of POWER_DOWN_STEP. -/
def powerDownStep (n k : Nat) : Script :=
  withDev fun d => when ((d.grp n k).down != .none) (onExpiry (.groupStep n k) (powerStep n k))

/-- The script of FDD_SEND_START. -/
def fddStart (n k : Nat) : Script :=
  withDev fun d => when (d.grpOn n k && !d.grpTdd n k && (d.grp n k).down == .none) (onExpiry (.groupStep n k) (fddRequest n k))

section
variable {d : Dev} {n k t0 : Nat}

theorem run_powerDownStep_due (hdown : (d.grp n k).down ≠ .none) (ht : d.deadline (.groupStep n k) = some t0) :
    (powerDownStep n k).run d = (powerStep n k).run (d.expired (.groupStep n k) t0) := by
  rw [powerDownStep, run_withDev, bne_iff_ne.mpr hdown, run_when_true, run_onExpiry_expired _ ht]

theorem run_powerDownStep_idle (h : (d.grp n k).down = .none ∨ d.deadline (.groupStep n k) = none) :
    (powerDownStep n k).run d = d := by
  rw [powerDownStep, run_withDev, run_when]
  split
  · rename_i hdown
    exact run_onExpiry_none _ (h.resolve_left (bne_iff_ne.mp hdown))
  · rfl

theorem run_fddStart_due (hon : d.grpOn n k = true) (hfdd : d.grpTdd n k = false) (hdown : (d.grp n k).down = .none)
    (ht : d.deadline (.groupStep n k) = some t0) : (fddStart n k).run d = (fddRequest n k).run (d.expired (.groupStep n k) t0) := by
  rw [fddStart, run_withDev, hon, hfdd, hdown, beq_self_eq_true, Bool.not_false, Bool.and_self, Bool.and_self, run_when_true,
    run_onExpiry_expired _ ht]

theorem run_fddStart_idle (h : d.grpOn n k = false ∨ d.grpTdd n k = true ∨ (d.grp n k).down ≠ .none ∨
    d.deadline (.groupStep n k) = none) : (fddStart n k).run d = d := by
  rw [fddStart, run_withDev, run_when]
  split
  · rename_i hguard
    simp only [Bool.and_eq_true, Bool.not_eq_true', beq_iff_eq] at hguard
    obtain ⟨⟨hon, hfdd⟩, hdown⟩ := hguard
    exact run_onExpiry_none _ (by simpa [hon, hfdd, hdown] using h)
  · rfl

/-- The digital ramp of an OFF_REQ is over: the bias is next. -/
theorem run_powerStep_ramp (hdown : (d.grp n k).down = .ramp) (hoff : (d.grp n k).forRecal = false) : (powerStep n k).run d =
    d.movedFor n k gsSwitch { d.grp n k with down := .bias, sendFrom := none, sendEnd := none } biasLead := by
  rw [powerStep, run_withDev]
  dsimp only
  rw [hdown]
  dsimp only
  rw [if_neg (Bool.eq_false_iff.mp hoff), run_moveFor]

/-- The digital ramp of a stop for a RECAL is over: the bias is released, the group rests, and its synthesisers may start (R259, log
entry 116). -/
theorem run_powerStep_recal (hdown : (d.grp n k).down = .ramp) (hrecal : (d.grp n k).forRecal = true) : (powerStep n k).run d =
    (forEach (d.synthsOf n k) (startWanted n)).run (d.moved n k gsRest
      { d.grp n k with down := .none, forRecal := false, bias := false, sendFrom := none, sendEnd := none }) := by
  rw [powerStep, run_withDev]
  dsimp only
  rw [hdown]
  dsimp only
  rw [if_pos hrecal, run_seqs_cons, run_seqs_cons, run_seqs_cons, run_seqs_nil, run_putGState, run_modGrp, grp_reg, Dev.moved]

/-- The bias is released: the supply is next. -/
theorem run_powerStep_bias (hdown : (d.grp n k).down = .bias) : (powerStep n k).run d =
    d.movedFor n k gsRest { d.grp n k with down := .supply, bias := false } vddHold := by
  rw [powerStep, run_withDev]
  dsimp only
  rw [hdown]
  exact run_moveFor ..

theorem run_powerStep_supply (hdown : (d.grp n k).down = .supply) : (powerStep n k).run d = (groupOff n k).run d := by
  rw [powerStep, run_withDev]
  dsimp only
  rw [hdown]

end

/-! ### The registers of Radio Control -/

theorem typeOf_rcU (n : Nat) : typeOf (rcU n) = 0x06 := by
  unfold typeOf rcU unitAddr
  omega

theorem hostFields_rcU (d : Dev) (n off : Nat) : d.hostFields (rcU n) off = wordFields 0x06 off := by
  have hne : typeOf (rcU n) ≠ 0x04 := by rw [typeOf_rcU]; decide
  rw [hostFields_of_type_ne d hne, typeOf_rcU]

/-- A word of one field that is no interrupt enable is plain. -/
theorem plainWord_singleton {x : Fld × Nat × Nat} (hlo : x.1 ≠ Reg.HDR.IEN) (hhi : x.1 ≠ Reg.HDR.IEN_HI) : plainWord [x] :=
  ⟨List.pairwise_singleton .., fun _ hy => List.mem_singleton.mp hy ▸ ⟨hlo, hhi⟩⟩

theorem plainWord_offReq {k : Nat} (hk : k < 4) : plainWord (wordFields 0x06 (0x110 + 0x40 * k)) := by
  have hword : wordFields 0x06 (0x110 + 0x40 * k) = [(Reg.RC.G_OFF_REQ, k, 0)] := by
    match k, hk with
    | 0, _ | 1, _ | 2, _ | 3, _ => decide
  have hien : Reg.RC.G_OFF_REQ ≠ Reg.HDR.IEN ∧ Reg.RC.G_OFF_REQ ≠ Reg.HDR.IEN_HI := by decide
  rw [hword]
  exact plainWord_singleton hien.1 hien.2

end Sys2Proof.Machine

namespace Sys2Proof.Machine

/-- Settles O54: every command on a group is one move of its state with the group behind its registers, from the instant that its
timer, its table or its mark gives. -/
theorem groupsFollowTheirWindows : Obligations.GroupsFollowTheirWindows := by
  unfold Obligations.GroupsFollowTheirWindows
  refine ⟨fun s n k h hop hoff => ?powerUp,
    fun s n k h => ⟨fun hno => ?noPowerUp, fun hno => ?noFddStart, fun e m hno => ?noLead,
      fun e m hno => ⟨?noListenStart, ?noListenEnd⟩, fun hno => ?noSendStart, fun hno => ?noSendEnd, fun hno => ?noSwitchEnd,
      fun hno => ?noPowerDown⟩,
    fun s n k t0 h hon hfdd hdown ht hst => ⟨fun hready => ?fddReady, fun hready => ?fddHeld⟩,
    fun s n k e m v h hentry hst hdown hdt hvdd hv => ?lead,
    fun d n k st e => ⟨startBias_gState d n k st e, startBias_grp d n k st e⟩,
    fun s n k st h hnext hst hdown => ?sendStart,
    fun s n k e h hend => ⟨fun hsend hdown => ?sendEnd, fun hsend hdown => ?sendEndDown, fun hst hbias => ?switchEnd⟩,
    fun s n k e m h hentry => ⟨fun ha => ?listenStart, fun hb => ?listenEnd⟩,
    fun s n k v be h hn hk => ?offReq,
    fun s n k t0 h ht => ⟨fun hdown hoff => ?ramp, fun hdown hrecal => ?recal, fun hdown => ?bias, fun hdown => ?supply⟩⟩
  case powerUp =>
    refine does_of (p := withDev fun d => when (d.radioOp n k && d.gState n k == gsOff) (groupPowerUp n k)) rfl h (s.dev.poweredUp n k)
      ?_ ⟨poweredUp_gState, ?_, ?_, poweredUp_deadline⟩
    · rw [run_withDev, hop, beq_iff_eq.mpr hoff, Bool.and_self, run_when_true, run_groupPowerUp]
    · rw [poweredUp_grp, Dev.poweredGroup]
    · rw [poweredUp_grp, Dev.poweredGroup]
  case noPowerUp =>
    refine does_nothing (p := withDev fun d => when (d.radioOp n k && d.gState n k == gsOff) (groupPowerUp n k)) rfl h ?_
    rw [run_withDev, Bool.and_eq_false_iff.mpr (hno.imp_right beq_eq_false_iff_ne.mpr), run_when_false]
  case noFddStart => exact does_nothing (p := fddStart n k) rfl h (run_fddStart_idle hno)
  case noLead => exact does_nothing (p := biasLeadStart n k e m) rfl h (run_biasLeadStart_no_entry hno)
  case noListenStart =>
    exact does_nothing (p := listenAt n k e m (fun x => x.1) true) rfl h (run_listenAt_no_entry hno)
  case noListenEnd =>
    exact does_nothing (p := listenAt n k e m (fun x => x.2) false) rfl h (run_listenAt_no_entry hno)
  case noSendStart => exact does_nothing (p := sendStart n k) rfl h (run_sendStart_not_due hno)
  case noSendEnd => exact does_nothing (p := sendStop n k) rfl h (run_sendStop_not_due hno)
  case noSwitchEnd => exact does_nothing (p := switchStop n k) rfl h (run_switchStop_not_due hno)
  case noPowerDown => exact does_nothing (p := powerDownStep n k) rfl h (run_powerDownStep_idle hno)
  case fddReady =>
    refine does_at (p := fddStart n k) rfl h ((run_fddStart_due hon hfdd hdown ht).trans
      (run_fddRequest_ready (by rwa [expired_gState]) (by rwa [expired_grpReady]))) ⟨startBias_gState .., ?_, ?_, startBias_clock ..⟩
    · rw [startBias_grp]
    · rw [startBias_grp]
      rfl
  case fddHeld =>
    refine does_at (p := fddStart n k) rfl h ((run_fddStart_due hon hfdd hdown ht).trans
      (run_fddRequest_held (by rwa [expired_gState]) (by rwa [expired_grpReady]))) ⟨?_, requestHeld_synWait _, ?_, rfl⟩
    · rw [requestHeld_grp]
      rfl
    · rw [requestHeld_deadline, expired_settleBudget]
      rfl
  case lead =>
    exact does_of (p := biasLeadStart n k e m) rfl h _ (run_biasLeadStart_due ⟨hentry, hst, hdown, hdt, v, hvdd, hv⟩)
      ⟨rfl, reach_regs ..⟩
  case sendStart =>
    refine ⟨_, does_of (p := sendStart n k) rfl h _ (run_sendStart_due hnext hst hdown)
      ⟨moved_gState _ n k _ _ (sendState_lt ..), rfl, ?_, ?_⟩, rfl⟩
    · rw [moved_grp, Dev.sendGroup]
    · rw [moved_grp, Dev.sendGroup]
  case sendEnd =>
    refine does_at (p := sendStop n k) rfl h (run_sendStop_window hend hsend hdown)
      ⟨moved_gState _ n k _ _ (by decide), ?_, rfl⟩
    rw [moved_grp]
  case sendEndDown =>
    refine does_at (p := sendStop n k) rfl h (run_sendStop_down hend hsend hdown)
      ⟨movedFor_gState _ n k _ _ _ (by decide), ?_, ?_, movedFor_deadline .., rfl⟩
    · rw [movedFor_grp]
    · rw [movedFor_grp]
  case switchEnd =>
    refine does_at (p := switchStop n k) rfl h (run_switchStop_due hend hst hbias)
      ⟨moved_gState _ n k _ _ (restState_lt ..), ?_, rfl⟩
    rw [moved_grp]
  case listenStart =>
    obtain ⟨htdd, hmarks⟩ := marks_of_entryAt hentry
    refine does_at (p := listenAt n k e m (fun x => x.1) true) rfl h (run_listenAt hentry ha) ⟨?_, listenEdged_clock, ?_⟩
    · rw [listenEdged_grp]
    · exact (listenEdged_gState htdd hmarks).trans (by simp only [or_true, if_true]; rfl)
  case listenEnd =>
    obtain ⟨htdd, hmarks⟩ := marks_of_entryAt hentry
    refine does_at (p := listenAt n k e m (fun x => x.2) false) rfl h (run_listenAt hentry hb) ⟨?_, listenEdged_clock, ?_⟩
    · rw [listenEdged_grp]
    · exact (listenEdged_gState htdd hmarks).trans (by simp only [Bool.false_eq_true, or_false]; rfl)
  case offReq =>
    have hoff : 0x110 + 0x40 * k < 2 ^ 12 := by omega
    refine writesWord_of_plainWord rfl h hoff ?_
    rw [hostFields_rcU]
    exact plainWord_offReq hk
  case ramp =>
    refine does_at (p := powerDownStep n k) rfl h ((run_powerDownStep_due (by rw [hdown]; decide) ht).trans
      (run_powerStep_ramp (by rwa [expired_grp]) (by rwa [expired_grp])))
      ⟨movedFor_gState _ n k _ _ _ (by decide), ?_, ?_, movedFor_deadline ..⟩
    · rw [movedFor_grp]
    · rw [movedFor_grp]
  case recal =>
    refine does_of (p := powerDownStep n k) rfl h _ ((run_powerDownStep_due (by rw [hdown]; decide) ht).trans
      ((run_powerStep_recal (by rwa [expired_grp]) (by rwa [expired_grp])).trans (by rw [expired_synthsOf])))
      ⟨moved_gState _ n k _ _ (by decide), ?_, ?_⟩
    · rw [moved_grp]
    · rw [moved_grp]
  case bias =>
    refine does_at (p := powerDownStep n k) rfl h ((run_powerDownStep_due (by rw [hdown]; decide) ht).trans
      (run_powerStep_bias (by rwa [expired_grp])))
      ⟨movedFor_gState _ n k _ _ _ (by decide), ?_, ?_, movedFor_deadline ..⟩
    · rw [movedFor_grp]
    · rw [movedFor_grp]
  case supply =>
    exact does_of (p := powerDownStep n k) rfl h _ ((run_powerDownStep_due (by rw [hdown]; decide) ht).trans
      (run_powerStep_supply (by rwa [expired_grp]))) ⟨expired_deadline .., expired_clock .., expired_regs ..⟩

end Sys2Proof.Machine

namespace Sys2Proof.Machine

/-! ### PA_ALARM inputs (R256) -/

/-- The condition that a PA_ALARM level sets, and the mute of the pin's group while one of its inputs is active. -/
def alarmFollows (n p : Nat) (level : Bool) (d : Dev) : Script :=
  let k := d.rd (rcU n) Reg.RC.PIN_GROUP p
  seqs [condSet (level != d.is (rcU n) Reg.RC.PIN_POL p) (rcU n) 3 p (setScope (rcU n) k (d.cellsOfGroup n k)) [],
    withDev fun x =>
      let up := (List.range 16).any fun j =>
        x.rd (rcU n) Reg.RC.PIN_FUNC j == 9 && x.rd (rcU n) Reg.RC.PIN_GROUP j == k && x.holdsFor (rcU n) 3 j
      modGrp n k fun g => { g with alarm := up }]

section
variable {d : Dev} {n p : Nat} {level : Bool}

theorem alarm_guard : (d.sectionOn n && decide (p < 16) && d.rd (rcU n) Reg.RC.PIN_FUNC p == 9) = true ↔
    d.sectionOn n = true ∧ p < 16 ∧ d.rd (rcU n) Reg.RC.PIN_FUNC p = 9 := by
  simp only [Bool.and_eq_true, decide_eq_true_eq, beq_iff_eq, and_assoc]

theorem run_alarmInput_taken (h : d.sectionOn n = true ∧ p < 16 ∧ d.rd (rcU n) Reg.RC.PIN_FUNC p = 9) : (alarmInput n p level).run d =
    (alarmFollows n p level d).run (d.apply (.reg (Reg.RC.PIN_LEVEL.at (rcU n) p) (b2n level))) := by
  rw [alarmInput, run_withDev]
  dsimp only
  rw [alarm_guard.mpr h, run_when_true, run_seqs_cons, run_putB]
  rfl

theorem run_alarmInput_ignored (h : ¬(d.sectionOn n = true ∧ p < 16 ∧ d.rd (rcU n) Reg.RC.PIN_FUNC p = 9)) :
    (alarmInput n p level).run d = d := by
  rw [alarmInput, run_withDev]
  dsimp only
  rw [Bool.eq_false_iff.mpr (mt alarm_guard.mp h), run_when_false]

end

/-! ### The mismatch hold (R266) -/

/-- The mismatch mute of a group ends. -/
def mmHoldEnd (n k : Nat) : Script := seqs [
  putB (rcU n) Reg.RC.G_MM_MUTE false k, condEnd (rcU n) 5 k, modGrp n k fun g => { g with muteRun := 0 }]

/-- The block with the mismatch mute ended, before its condition ends. -/
def Dev.mmReleased (d : Dev) (n k t0 : Nat) : Dev := (d.expired (.mmHold n k) t0).apply (.reg (Reg.RC.G_MM_MUTE.at (rcU n) k) 0)

section
variable {d : Dev} {n k t0 : Nat}

theorem run_mmHold_due (ht : d.deadline (.mmHold n k) = some t0) : (onExpiry (.mmHold n k) (mmHoldEnd n k)).run d =
    (seqs [condEnd (rcU n) 5 k, modGrp n k fun g => { g with muteRun := 0 }]).run (d.mmReleased n k t0) := by
  rw [run_onExpiry_expired _ ht, mmHoldEnd, run_seqs_cons, run_putB, b2n_false, Dev.mmReleased]

theorem mmReleased_mute : (d.mmReleased n k t0).rd (rcU n) Reg.RC.G_MM_MUTE k = 0 := rd_reg_same ..

theorem mmReleased_deadline : (d.mmReleased n k t0).deadline (.mmHold n k) = none :=
  (deadline_of_timers (reg_timers ..) _).trans (expired_deadline ..)

theorem mmReleased_sameRegs : SameRegs d (d.mmReleased n k t0) [Reg.RC.G_MM_MUTE.at (rcU n) k] :=
  (sameRegs_reg (List.mem_singleton_self _) 0).mpr ((sameRegs_of_regs (expired_regs ..)).mpr (sameRegs_refl d _))

end

/-! ### The start of a tuner search (R267) -/

/-- Where the note of a group's last search stands. -/
def tuneKey (n k : Nat) : Nat := 0x50000 + grpKey n k

/-- A search may start at `t`: the group and its tuner let it, and TUNE_PERIOD is over since the last started (R267, log entry 122). -/
def Dev.tuneDue (d : Dev) (n k t : Nat) : Prop :=
  d.grpOn n k = true ∧ (d.mode = .carry ∨ d.mode = .backoff) ∧ d.rd (rcU n) Reg.RC.G_TUNE_EN k ≠ 0 ∧
    (d.rd (rcU n) Reg.RC.AX_EN k 0 ≠ 0 ∨ d.rd (rcU n) Reg.RC.AX_EN k 1 ≠ 0) ∧ d.gState n k ≠ gsOff ∧
    d.rd (rcU n) Reg.RC.G_MM_MUTE k = 0 ∧ d.rd (rcU n) Reg.RC.G_OPEN_SHORT k = 0 ∧ d.dt ≤ t ∧ (d.grp n k).tune = none ∧
    (d.ticksAt (tuneKey n k) = 0 ∨ d.ticksAt (tuneKey n k) - 1 + dtOfMs (d.rd (rcU n) Reg.RC.G_TUNE_PERIOD k) ≤ t)

/-- The block with a search started at `t`. -/
def Dev.tuneStarted (d : Dev) (n k t : Nat) : Dev :=
  (d.ticked (tuneKey n k) t).apply (.group (grpKey n k) { d.grp n k with tune := some {} })

section
variable {d : Dev} {n k t : Nat}

theorem modeIn_pair (a b : Mode) : d.modeIn [a, b] = true ↔ d.mode = a ∨ d.mode = b := by
  simp only [Dev.modeIn, List.contains_cons, List.contains_nil, Bool.or_false, Bool.or_eq_true, beq_iff_eq]

theorem startTune_guard : (d.grpOn n k && d.modeIn [.carry, .backoff] && d.is (rcU n) Reg.RC.G_TUNE_EN k &&
    (d.is (rcU n) Reg.RC.AX_EN k 0 || d.is (rcU n) Reg.RC.AX_EN k 1) && d.gState n k != gsOff && !d.is (rcU n) Reg.RC.G_MM_MUTE k &&
    !d.is (rcU n) Reg.RC.G_OPEN_SHORT k && decide (d.dt ≤ t) && (d.grp n k).tune.isNone &&
    (d.ticksAt (tuneKey n k) == 0 ||
      decide (d.ticksAt (tuneKey n k) - 1 + dtOfMs (d.rd (rcU n) Reg.RC.G_TUNE_PERIOD k) ≤ t))) = true ↔ d.tuneDue n k t := by
  simp only [Bool.and_eq_true, Bool.or_eq_true, modeIn_pair, Dev.is, bne_iff_ne, Bool.not_eq_true', bne_eq_false_iff_eq, beq_iff_eq,
    decide_eq_true_eq, Option.isNone_iff_eq_none, Dev.tuneDue, and_assoc]

theorem run_startTune_due (h : d.tuneDue n k t) : (startTune n k t).run d = d.tuneStarted n k t := by
  have hgrp : (d.ticked (tuneKey n k) t).grp n k = d.grp n k := grp_of_group (by rw [ticked_eq]) n k
  rw [Dev.tuneStarted, ← hgrp, startTune, run_withDev]
  dsimp only
  rw [← tuneKey, startTune_guard.mpr h, run_when_true, run_seqs_cons, run_seqs_cons, run_seqs_cons, run_seqs_nil, run_modGrp]
  rfl

theorem run_startTune_not_due (h : ¬d.tuneDue n k t) : (startTune n k t).run d = d := by
  rw [startTune, run_withDev]
  dsimp only
  rw [← tuneKey, Bool.eq_false_iff.mpr (mt startTune_guard.mp h), run_when_false]

theorem tuneStarted_grp : (d.tuneStarted n k t).grp n k = { d.grp n k with tune := some {} } := grp_group_same ..

theorem tuneStarted_ticksAt : (d.tuneStarted n k t).ticksAt (tuneKey n k) = t + 1 := ticked_ticksAt ..

theorem tuneStarted_regs : (d.tuneStarted n k t).regs = d.regs := ticked_regs d (tuneKey n k) t

end

/-- Settles O56: a level of a PA_ALARM pin is shown and judged, the mute ends with its hold, and a search starts exactly when it is due. -/
theorem alarmMismatchAndTuning : Obligations.AlarmMismatchAndTuning := by
  unfold Obligations.AlarmMismatchAndTuning
  refine ⟨fun s n p level h hon hp hfunc => ?alarm, fun s n p level h hno => ?noAlarm,
    fun s n k h => ⟨fun t0 ht => ?holdEnds, fun ht => ?noHold⟩,
    fun s n k t h => ⟨fun hdue => ?tune, fun hno => ?noTune⟩⟩
  case alarm =>
    refine ⟨_, does_of (p := alarmInput n p level) rfl h _ (run_alarmInput_taken ⟨hon, hp, hfunc⟩) ⟨?_, ?_⟩, rfl⟩
    · rw [rd_reg_same]
      exact b2n_mod level (by decide)
    · rw [onlyRegs_reg (List.mem_singleton_self _)]
      exact onlyRegs_refl ..
  case noAlarm =>
    refine does_nothing (p := alarmInput n p level) rfl h (run_alarmInput_ignored fun ⟨hon, hp, hfunc⟩ => ?_)
    rcases hno with hoff | hlarge | hother
    · exact Bool.false_ne_true (hoff.symm.trans hon)
    · omega
    · exact hother hfunc
  case holdEnds =>
    exact does_of (p := onExpiry (.mmHold n k) (mmHoldEnd n k)) rfl h _ (run_mmHold_due ht)
      ⟨mmReleased_mute, mmReleased_deadline, rfl, mmReleased_sameRegs⟩
  case noHold => exact does_nothing (p := onExpiry (.mmHold n k) (mmHoldEnd n k)) rfl h (run_onExpiry_none _ ht)
  case tune =>
    refine does_at (p := startTune n k t) rfl h (run_startTune_due hdue) ⟨?_, tuneStarted_ticksAt, rfl, tuneStarted_regs⟩
    rw [tuneStarted_grp]
  case noTune => exact does_nothing (p := startTune n k t) rfl h (run_startTune_not_due hno)

end Sys2Proof.Machine

namespace Sys2Proof.Machine

/-! ### Synthesisers and masters behind their registers -/

@[simp] theorem run_modSyn (n y : Nat) (f : Synth → Synth) (d : Dev) :
    (modSyn n y f).run d = d.apply (.synth (n * 8 + y) (f (d.syn n y))) := rfl
@[simp] theorem run_modMaster (n i : Nat) (f : Bus → Bus) (d : Dev) :
    (modMaster n i f).run d = d.apply (.bus (n * 4 + i) (f (d.master n i))) := rfl
theorem syn_synth_same (d : Dev) (n y : Nat) (x : Synth) : (d.apply (.synth (n * 8 + y) x)).syn n y = x := Bank.get_put_same ..
theorem master_bus_same (d : Dev) (n i : Nat) (x : Bus) : (d.apply (.bus (n * 4 + i) x)).master n i = x := Bank.get_put_same ..
theorem syn_of_synth {d d' : Dev} (h : d'.synth = d.synth) (n y : Nat) : d'.syn n y = d.syn n y := by
  rw [Dev.syn, Dev.synthAt, h, ← Dev.synthAt, ← Dev.syn]
theorem master_of_bus {d d' : Dev} (h : d'.bus = d.bus) (n i : Nat) : d'.master n i = d.master n i := by
  rw [Dev.master, Dev.busAt, h, ← Dev.busAt, ← Dev.master]
theorem syn_reg (d : Dev) (r : Ref) (v n y : Nat) : (d.apply (.reg r v)).syn n y = d.syn n y := syn_of_synth (reg_synth ..) n y
theorem master_reg (d : Dev) (r : Ref) (v n i : Nat) : (d.apply (.reg r v)).master n i = d.master n i := master_of_bus (reg_bus ..) n i
theorem rd_synth (d : Dev) (c : Nat) (x : Synth) (u i j : Nat) (f : Fld) : (d.apply (.synth c x)).rd u f i j = d.rd u f i j :=
  rd_of_regs rfl ..

theorem expired_syn (d : Dev) (x : Timer) (t0 n y : Nat) : (d.expired x t0).syn n y = d.syn n y :=
  syn_of_synth (by rw [expired_eq]) n y

/-! ### Sequences (R259, R260) -/

/-- The synthesiser is declared and runs no sequence. -/
def Dev.synIdle (d : Dev) (n y : Nat) : Prop := d.synOn n y = true ∧ (d.syn n y).run = none

/-- A group that depends on the synthesiser is in Switch or Send. -/
def Dev.synInUse (d : Dev) (n y : Nat) : Bool := (d.groupsOfSynth n y).any (d.busyTx n)

section
variable {d : Dev} {n y : Nat}

/-- Kindling's PROG comes before whatever else waits. -/
theorem wanted_prog (h : (d.syn n y).prog = true) : d.wanted n y = some .prog := by
  rw [Dev.wanted, if_pos h]

theorem synIdle_guard : (d.synOn n y && (d.syn n y).run.isNone) = true ↔ d.synIdle n y := by
  simp only [Bool.and_eq_true, Option.isNone_iff_eq_none, Dev.synIdle]

/-- A RECAL starts at once where no dependent group is in Switch or Send (log entry 119). -/
theorem run_startWanted_starts {kind : SeqKind} (hidle : d.synIdle n y) (hwant : d.wanted n y = some kind)
    (hfree : kind ≠ .recal ∨ d.synInUse n y = false) :
    (startWanted n y).run d = (synthReady n y).run ((startSeq n y kind).run d) := by
  rw [startWanted, run_withDev, synIdle_guard.mpr hidle, run_when_true, hwant]
  cases kind with
  | recal =>
    have huse : (d.groupsOfSynth n y).any (d.busyTx n) = false := hfree.resolve_left (by simp)
    dsimp only
    rw [huse, if_neg Bool.false_ne_true, run_seqs_cons, run_seqs_cons, run_seqs_nil]
  | _ => rw [run_seqs_cons, run_seqs_cons, run_seqs_nil]

/-- A RECAL waits for the groups in Switch or Send; those that are FDD stop for it. -/
theorem run_startWanted_waits (hidle : d.synIdle n y) (hwant : d.wanted n y = some .recal) (huse : d.synInUse n y = true) :
    (startWanted n y).run d = (forEach (d.groupsOfSynth n y) (stopForRecal n)).run
      (d.apply (.synth (n * 8 + y) { d.syn n y with want := some .recal })) := by
  rw [startWanted, run_withDev, synIdle_guard.mpr hidle, run_when_true, hwant]
  dsimp only
  rw [← Dev.synInUse, huse, if_pos rfl, run_seqs_cons, run_seqs_cons, run_seqs_nil, run_modSyn]

theorem run_startWanted_nothing (h : ¬d.synIdle n y ∨ d.wanted n y = none) : (startWanted n y).run d = d := by
  rw [startWanted, run_withDev, run_when]
  split
  · rename_i hidle
    rw [h.resolve_left (not_not_intro (synIdle_guard.mp hidle))]
    rfl
  · rfl

/-- The script of SETTLE_TIMER_EXPIRY once the timer has run out. -/
def settleEnd (n y : Nat) : Script := seqs [
  putB (rcU n) Reg.RC.SYN_SETTLING false y, modSyn n y (fun x => { x with settled := true }), synthReady n y]

/-- The block with a synthesiser's settle time over. -/
def Dev.synSettled (d : Dev) (n y t0 : Nat) : Dev :=
  ((d.expired (.synSettle n y) t0).apply (.reg (Reg.RC.SYN_SETTLING.at (rcU n) y) 0)).apply
    (.synth (n * 8 + y) { d.syn n y with settled := true })

theorem run_settleEnd_due {t0 : Nat} (ht : d.deadline (.synSettle n y) = some t0) :
    (onExpiry (.synSettle n y) (settleEnd n y)).run d = (synthReady n y).run (d.synSettled n y t0) := by
  rw [run_onExpiry_expired _ ht, settleEnd, run_seqs_cons, run_seqs_cons, run_seqs_cons, run_seqs_nil, run_putB, b2n_false, run_modSyn,
    syn_reg, expired_syn, Dev.synSettled]

theorem synSettled_settling (t0 : Nat) : (d.synSettled n y t0).rd (rcU n) Reg.RC.SYN_SETTLING y = 0 :=
  (rd_synth ..).trans (rd_reg_same ..)

theorem synSettled_syn (t0 : Nat) : (d.synSettled n y t0).syn n y = { d.syn n y with settled := true } := syn_synth_same ..

end

end Sys2Proof.Machine

namespace Sys2Proof.Machine

/-! ### CSPI frames (R258) -/

/-- The block with a master's transfer taken off it. -/
def Dev.masterFreed (d : Dev) (n i : Nat) : Dev := d.apply (.bus (n * 4 + i) { d.master n i with cur := none })

section
variable {d : Dev} {n m miso : Nat}

theorem masterFreed_master (i : Nat) : (d.masterFreed n i).master n i = { d.master n i with cur := none } := master_bus_same ..

theorem run_cspiDone_idle (h : (d.master n m).cur = none) : (cspiDone n m miso).run d = d := by
  rw [cspiDone, run_withDev, h]
  rfl

/-- A frame of a sequence: the sequence goes on, then the master. -/
theorem run_cspiDone_seq {y : Nat} (h : (d.master n m).cur = some (.cspiSeq y)) :
    (cspiDone n m miso).run d = (seqs [seqDone n y true, busNext n m]).run (d.masterFreed n m) := by
  rw [cspiDone, run_withDev, h]
  exact run_seqs_cons ..

/-- A host frame that captures MISO: it stands in XFER_DATA (R272). -/
theorem run_cspiDone_read {cs x len : Nat} (h : (d.master n m).cur = some (.cspiHost true cs x len)) :
    (cspiDone n m miso).run d =
      (busNext n m).run ((d.masterFreed n m).apply (.reg (Reg.RC.XFER_DATA.at (rcU n)) (miso % 2 ^ len))) := by
  rw [cspiDone, run_withDev, h]
  dsimp only
  rw [run_seqs_cons, run_seqs_cons, run_seqs_cons, run_seqs_nil, run_put, run_modMaster, Dev.masterFreed]

/-- Any other frame frees the master for its next transfer. -/
theorem run_cspiDone_other {op : BusOp} (h : (d.master n m).cur = some op) (hseq : ∀ y, op ≠ .cspiSeq y)
    (hread : ∀ cs x len, op ≠ .cspiHost true cs x len) : (cspiDone n m miso).run d = (busNext n m).run (d.masterFreed n m) := by
  rw [cspiDone, run_withDev, h]
  have hfree (q : Script) (hq : q = skip) : (seqs [modMaster n m fun b => { b with cur := none }, q, busNext n m]).run d =
      (busNext n m).run (d.masterFreed n m) := by
    rw [hq, run_seqs_cons, run_seqs_cons, run_seqs_cons, run_seqs_nil, run_skip, run_modMaster, Dev.masterFreed]
  cases op with
  | cspiSeq y => exact absurd rfl (hseq y)
  | cspiHost read cs x len =>
    cases read with
    | true => exact absurd rfl (hread cs x len)
    | false => exact hfree _ rfl
  | rffeSeq y => exact hfree _ rfl
  | tuner k w => exact hfree _ rfl

end

/-! ### Lock and its loss (R260, R261) -/

/-- Taking a bit out of a number clears it. -/
theorem testBit_sub_and_two_pow (v b : Nat) : (v - (v &&& 2 ^ b)).testBit b = false := by
  have hand (i : Nat) : (v &&& 2 ^ b).testBit i = (v.testBit b && decide (b = i)) := by
    rw [Nat.testBit_and, Nat.testBit_two_pow]
    by_cases hi : b = i
    · rw [hi]
    · rw [decide_eq_false hi, Bool.and_false, Bool.and_false]
  cases hb : v.testBit b with
  | false =>
    have hzero : v &&& 2 ^ b = 0 := Nat.eq_of_testBit_eq fun i => by rw [hand, hb, Bool.false_and, Nat.zero_testBit]
    rw [hzero, Nat.sub_zero, hb]
  | true =>
    have hbit : v &&& 2 ^ b = 2 ^ b := Nat.eq_of_testBit_eq fun i => by rw [hand, hb, Bool.true_and, Nat.testBit_two_pow]
    rw [hbit, testBit_sub_two_pow hb]

section
variable {d : Dev} {n y : Nat}

theorem showLd_high (hld : d.rd (rcU n) Reg.RC.SYN_LD y < 4) :
    (((showLd n y true).run d).rd (rcU n) Reg.RC.LD_LEVEL).testBit (d.rd (rcU n) Reg.RC.SYN_LD y) = true := by
  rw [showLd, run_withDev]
  dsimp only
  rw [if_pos rfl, run_put, rd_reg_same, Nat.testBit_mod_two_pow, Nat.testBit_or, Nat.testBit_two_pow_self, Bool.or_true, Bool.and_true]
  exact decide_eq_true hld

theorem showLd_low : (((showLd n y false).run d).rd (rcU n) Reg.RC.LD_LEVEL).testBit (d.rd (rcU n) Reg.RC.SYN_LD y) = false := by
  rw [showLd, run_withDev]
  dsimp only
  rw [if_neg Bool.false_ne_true, run_put, rd_reg_same, Nat.testBit_mod_two_pow, testBit_sub_and_two_pow, Bool.and_false]

theorem showLd_syn (high : Bool) : ((showLd n y high).run d).syn n y = d.syn n y := syn_reg ..

/-- LD_LEVEL stands apart from the status words of the eight synthesisers. -/
theorem ldLevel_apart {f : Fld} (hf : f.off = 0x2A0) (hs : f.stride = 4) (hs2 : f.stride2 = 0) (hlo : f.lo < 32) (hy : y < 8) :
    (f.off + f.stride * y + f.stride2 * 0) * 32 + f.lo ≠
      (Reg.RC.LD_LEVEL.off + Reg.RC.LD_LEVEL.stride * 0 + Reg.RC.LD_LEVEL.stride2 * 0) * 32 + Reg.RC.LD_LEVEL.lo := by
  rw [hf, hs, hs2, show Reg.RC.LD_LEVEL.off = 0x340 from rfl, show Reg.RC.LD_LEVEL.lo = 0 from rfl]
  omega

theorem showLd_lossCnt (high : Bool) (hy : y < 8) :
    ((showLd n y high).run d).rd (rcU n) Reg.RC.SYN_LD_LOSS_CNT y = d.rd (rcU n) Reg.RC.SYN_LD_LOSS_CNT y :=
  rd_reg_field_ne d _ (ldLevel_apart rfl rfl rfl (by decide) hy)

theorem synOn_lt (h : d.synOn n y = true) : y < 8 := by
  simp only [Dev.synOn, Bool.and_eq_true, decide_eq_true_eq] at h
  obtain ⟨⟨⟨-, hy⟩, -⟩, -⟩ := h
  exact hy

/-- The script of LD_QUALIFIED. -/
def ldQualify (n y : Nat) : Script := withDev fun d => when (d.synOn n y) (seqs [
  showLd n y true, modSyn n y (fun x => { x with locked := true }), synthReady n y])

/-- The block with LD shown at a level, and the synthesiser's lock with it. -/
def Dev.ldShown (d : Dev) (n y : Nat) (high : Bool) : Dev :=
  ((showLd n y high).run d).apply (.synth (n * 8 + y) { d.syn n y with locked := high })

theorem run_ldQualify_on (hon : d.synOn n y = true) : (ldQualify n y).run d = (synthReady n y).run (d.ldShown n y true) := by
  rw [ldQualify, run_withDev, hon, run_when_true, run_seqs_cons, run_seqs_cons, run_seqs_cons, run_seqs_nil, run_modSyn, showLd_syn,
    Dev.ldShown]

theorem run_ldQualify_off (hoff : d.synOn n y = false) : (ldQualify n y).run d = d := by
  rw [ldQualify, run_withDev, hoff, run_when_false]

/-- An LD that falls is a loss of lock: no sequence runs, and lock was confirmed or the settle timer does not run (log entry 117). -/
def Dev.ldIsLoss (d : Dev) (n y : Nat) : Prop :=
  (d.syn n y).run = none ∧ ((d.syn n y).locked = true ∨ d.rd (rcU n) Reg.RC.SYN_SETTLING y = 0)

/-- The block with a loss of lock counted: the mute holds and RECOVER waits. -/
def Dev.lockLost (d : Dev) (n y : Nat) : Dev :=
  (((inc (rcU n) Reg.RC.SYN_LD_LOSS_CNT y).run (d.ldShown n y false)).apply (.reg (Reg.RC.SYN_READY.at (rcU n) y) 0)).apply
    (.synth (n * 8 + y) { d.syn n y with locked := false, lossMute := true, want := some .recover })

theorem ldIsLoss_guard : ((d.syn n y).run.isNone && ((d.syn n y).locked || !d.is (rcU n) Reg.RC.SYN_SETTLING y)) = true ↔
    d.ldIsLoss n y := by
  simp only [Bool.and_eq_true, Bool.or_eq_true, Option.isNone_iff_eq_none, Dev.is, Bool.not_eq_true', bne_eq_false_iff_eq, Dev.ldIsLoss]

theorem run_lossOfLock_lost (hon : d.synOn n y = true) (hlost : d.ldIsLoss n y) : (lossOfLock n y).run d =
    (seqs [fireEvent (rcU n) 0 (setScope (rcU n) y (d.cellsOfSynth n y)) [], startWanted n y]).run (d.lockLost n y) := by
  rw [lossOfLock, run_withDev]
  dsimp only
  rw [hon, run_when_true, ldIsLoss_guard.mpr hlost, run_seqs_cons, run_seqs_cons, run_seqs_cons, run_seqs_nil, run_modSyn, showLd_syn,
    run_when_true, run_seqs_cons, run_seqs_cons, run_seqs_cons, run_putB, b2n_false, run_modSyn, syn_reg, run_inc, syn_reg,
    syn_synth_same]
  rfl

theorem run_lossOfLock_shown (hon : d.synOn n y = true) (hlost : ¬d.ldIsLoss n y) : (lossOfLock n y).run d = d.ldShown n y false := by
  rw [lossOfLock, run_withDev]
  dsimp only
  rw [hon, run_when_true, Bool.eq_false_iff.mpr (mt ldIsLoss_guard.mp hlost), run_seqs_cons, run_seqs_cons, run_seqs_cons, run_seqs_nil,
    run_when_false, run_modSyn, showLd_syn, Dev.ldShown]

theorem run_lossOfLock_off (hoff : d.synOn n y = false) : (lossOfLock n y).run d = d := by
  rw [lossOfLock, run_withDev]
  dsimp only
  rw [hoff, run_when_false]

theorem ldShown_syn (high : Bool) : (d.ldShown n y high).syn n y = { d.syn n y with locked := high } := syn_synth_same ..

theorem ldShown_level_high (hld : d.rd (rcU n) Reg.RC.SYN_LD y < 4) :
    ((d.ldShown n y true).rd (rcU n) Reg.RC.LD_LEVEL).testBit (d.rd (rcU n) Reg.RC.SYN_LD y) = true := by
  rw [Dev.ldShown, rd_synth, showLd_high hld]

theorem ldShown_level_low : ((d.ldShown n y false).rd (rcU n) Reg.RC.LD_LEVEL).testBit (d.rd (rcU n) Reg.RC.SYN_LD y) = false := by
  rw [Dev.ldShown, rd_synth, showLd_low]

theorem lockLost_syn : (d.lockLost n y).syn n y = { d.syn n y with locked := false, lossMute := true, want := some .recover } :=
  syn_synth_same ..

theorem lockLost_ready : (d.lockLost n y).rd (rcU n) Reg.RC.SYN_READY y = 0 := (rd_synth ..).trans (rd_reg_same ..)

theorem lockLost_level (hy : y < 8) :
    ((d.lockLost n y).rd (rcU n) Reg.RC.LD_LEVEL).testBit (d.rd (rcU n) Reg.RC.SYN_LD y) = false := by
  rw [Dev.lockLost, rd_synth, rd_reg_field_ne _ _ (ldLevel_apart rfl rfl rfl (by decide) hy).symm, run_inc,
    rd_reg_field_ne _ _ (ldLevel_apart rfl rfl rfl (by decide) hy).symm, ldShown_level_low]

theorem lockLost_counts (hy : y < 8) : Counts d (d.lockLost n y) (rcU n) Reg.RC.SYN_LD_LOSS_CNT y := by
  rw [Counts, Dev.lockLost, rd_synth, rd_reg_sibling (f := Reg.RC.SYN_LD_LOSS_CNT) (g := Reg.RC.SYN_READY) _ _ rfl rfl (by decide),
    rd_inc, Dev.ldShown, rd_synth, showLd_lossCnt _ hy]

end

end Sys2Proof.Machine

namespace Sys2Proof.Machine

/-! ### Held requests (R262) -/

section
variable {d : Dev} {n k st e : Nat}

/-- A held request may proceed: its synthesisers are ready, and the group rests or listens with no orderly stop. -/
def Dev.mayProceed (d : Dev) (n k : Nat) : Prop :=
  d.grpReady n k = true ∧ d.resting n k = true ∧ (d.grp n k).down = .none

theorem mayProceed_guard : (d.grpReady n k && d.resting n k && (d.grp n k).down == .none) = true ↔ d.mayProceed n k := by
  simp only [Bool.and_eq_true, beq_iff_eq, Dev.mayProceed, and_assoc]

theorem run_proceed_skips (hheld : (d.grp n k).held = some (st, e)) (hmay : d.mayProceed n k)
    (hno : d.boundary n k st e d.dt = none) : (proceed n k).run d = (skipBurst n k).run d := by
  rw [proceed, run_withDev, hheld]
  dsimp only
  rw [mayProceed_guard.mpr hmay, run_when_true, hno]

theorem run_proceed_starts {b : Nat} (hheld : (d.grp n k).held = some (st, e)) (hmay : d.mayProceed n k)
    (hb : d.boundary n k st e d.dt = some b) :
    (proceed n k).run d = (startBias n k b e).run (d.expired (.fddRepeat n k) (b - 492)) := by
  rw [proceed, run_withDev, hheld]
  dsimp only
  rw [mayProceed_guard.mpr hmay, run_when_true, hb]
  dsimp only
  rw [run_seqs_cons, run_seqs_cons, run_seqs_cons, run_seqs_nil, run_reach, run_stopTimer, tddLead, Dev.expired]

theorem run_proceed_waits (h : (d.grp n k).held = none ∨ ¬d.mayProceed n k) : (proceed n k).run d = d := by
  rw [proceed, run_withDev]
  cases hheld : (d.grp n k).held with
  | none => rfl
  | some x =>
    dsimp only
    rw [Bool.eq_false_iff.mpr (mt mayProceed_guard.mp (h.resolve_left (by simp [hheld]))), run_when_false]

/-- A request still held when it comes again is a skipped burst. -/
theorem run_repeatRequest_held (hheld : (d.grp n k).held = some (st, e)) :
    (repeatRequest n k).run d = (seqs [skipBurst n k, stopTimer (.fddRepeat n k), fddRequest n k]).run d := by
  rw [repeatRequest, run_withDev, hheld, Option.isSome_some, when, if_pos rfl]

theorem run_repeatRequest_free (hheld : (d.grp n k).held = none) :
    (repeatRequest n k).run d = (seqs [stopTimer (.fddRepeat n k), fddRequest n k]).run d := by
  rw [repeatRequest, run_withDev, hheld, Option.isSome_none, run_seqs_cons, run_when_false]

end

end Sys2Proof.Machine

namespace Sys2Proof.Machine

/-! ### RFFE transfers (R264) -/

/-- The master when a transfer has ended for good. -/
def Bus.ended (b : Bus) : Bus := { b with cur := none, retried := false, reading := false }

/-- The block with that transfer ended. -/
def Dev.transferEnded (d : Dev) (n i : Nat) : Dev := d.apply (.bus (n * 4 + i) (d.master n i).ended)

/-- What follows a failed tuner write: its source, and the end of the transfer. -/
def writeFails (n m k : Nat) (w : TuneWrite) (d : Dev) : Script := seqs [
  fireEvent (rcU n) 7 (setScope (rcU n) k (d.cellsOfGroup n k)) [],
  modMaster n (2 + m) Bus.ended, rffeEnd n (.tuner k w), busNext n (2 + m)]

section
variable {d : Dev} {n m got : Nat} {parityOk : Bool}

theorem run_rffeDone_idle (h : (d.master n (2 + m)).cur = none) : (rffeDone n m parityOk got).run d = d := by
  rw [rffeDone, run_withDev]
  dsimp only
  rw [h]
  rfl

/-- A transfer that is no tuner write is not read back. -/
theorem run_rffeDone_other {op : BusOp} (h : (d.master n (2 + m)).cur = some op) (hop : ∀ k w, op ≠ .tuner k w) :
    (rffeDone n m parityOk got).run d = (seqs [rffeEnd n op, busNext n (2 + m)]).run (d.transferEnded n (2 + m)) := by
  rw [rffeDone, run_withDev]
  dsimp only
  rw [h]
  cases op with
  | tuner k w => exact absurd rfl (hop k w)
  | cspiSeq y => exact run_seqs_cons ..
  | cspiHost read cs x len => exact run_seqs_cons ..
  | rffeSeq y => exact run_seqs_cons ..

variable {k : Nat} {w : TuneWrite}

/-- A tuner write is read back. -/
theorem run_rffeDone_written (h : (d.master n (2 + m)).cur = some (.tuner k w)) (hread : (d.master n (2 + m)).reading = false) :
    (rffeDone n m parityOk got).run d = (sendOp n (2 + m) (.tuner k w)).run
      (d.apply (.bus (n * 4 + (2 + m)) { d.master n (2 + m) with reading := true })) := by
  rw [rffeDone, run_withDev]
  dsimp only
  rw [h]
  dsimp only
  rw [hread, Bool.not_false, if_pos rfl, run_seqs_cons, run_seqs_cons, run_seqs_nil, run_modMaster, h]

/-- The read-back has right parity and gives the code written. -/
theorem run_rffeDone_verified (h : (d.master n (2 + m)).cur = some (.tuner k w)) (hread : (d.master n (2 + m)).reading = true)
    (hok : parityOk = true ∧ got = w.code) : (rffeDone n m parityOk got).run d =
      (seqs [rffeEnd n (.tuner k w), busNext n (2 + m)]).run (d.transferEnded n (2 + m)) := by
  rw [rffeDone, run_withDev]
  dsimp only
  rw [h]
  dsimp only
  rw [hread, Bool.not_true, if_neg Bool.false_ne_true, if_pos hok, run_seqs_cons]
  rfl

/-- The first read-back that fails sends the write again, as a whole (log entry 170). -/
theorem run_rffeDone_retries (h : (d.master n (2 + m)).cur = some (.tuner k w)) (hread : (d.master n (2 + m)).reading = true)
    (hbad : ¬(parityOk = true ∧ got = w.code)) (hfirst : (d.master n (2 + m)).retried = false) :
    (rffeDone n m parityOk got).run d = (sendOp n (2 + m) (.tuner k w)).run
      (d.apply (.bus (n * 4 + (2 + m)) { d.master n (2 + m) with retried := true, reading := false })) := by
  rw [rffeDone, run_withDev]
  dsimp only
  rw [h]
  dsimp only
  rw [hread, Bool.not_true, if_neg Bool.false_ne_true, if_neg hbad, hfirst, Bool.not_false, if_pos rfl, run_seqs_cons, run_seqs_cons,
    run_seqs_nil, run_modMaster, h]

/-- The second one counts. -/
theorem run_rffeDone_fails (h : (d.master n (2 + m)).cur = some (.tuner k w)) (hread : (d.master n (2 + m)).reading = true)
    (hbad : ¬(parityOk = true ∧ got = w.code)) (hsecond : (d.master n (2 + m)).retried = true) :
    (rffeDone n m parityOk got).run d = (writeFails n m k w d).run ((inc (rcU n) (rffeErr m)).run d) := by
  rw [rffeDone, run_withDev]
  dsimp only
  rw [h]
  dsimp only
  rw [hread, Bool.not_true, if_neg Bool.false_ne_true, if_neg hbad, hsecond, Bool.not_true, if_neg Bool.false_ne_true]
  simp only [writeFails, run_seqs_cons, run_seqs_nil]
  rfl

end

end Sys2Proof.Machine

namespace Sys2Proof.Machine

/-! ### The words that start a RECAL and a host frame (R272) -/

theorem plainWord_synCtrl : plainWord (wordFields 0x06 0x2C0) := by
  have hword : wordFields 0x06 0x2C0 = [(Reg.RC.SYN_CTRL_RECAL, 0, 0)] := by decide
  rw [hword]
  exact plainWord_singleton (by decide) (by decide)

theorem plainWord_xfer : plainWord (wordFields 0x06 0x380) := by
  have hword : wordFields 0x06 0x380 =
      [(Reg.RC.XFER_GO, 0, 0), (Reg.RC.XFER_READ, 0, 0), (Reg.RC.XFER_MASTER, 0, 0), (Reg.RC.XFER_CS, 0, 0)] := by decide
  rw [hword]
  unfold plainWord
  decide

theorem rffeErr_counts (d : Dev) (n m : Nat) : Counts d ((inc (rcU n) (rffeErr m)).run d) (rcU n) (rffeErr m) := rd_inc ..

/-- Settles O55: every command on a synthesiser or a master is one change of what stands behind the registers, or of one field, and
hands on to the next entry, the next transfer or the readiness of the synthesiser. -/
theorem synthesisersRunTheirSequences : Obligations.SynthesisersRunTheirSequences := by
  unfold Obligations.SynthesisersRunTheirSequences
  refine ⟨fun s n y h => ⟨fun kind hidle hwant hfree => ?starts, fun hidle hwant huse => ?waits, wanted_prog, fun hno => ?noStart⟩,
    fun s n v be h => ⟨?recalWrite, ?hostGo⟩,
    fun s n m miso y h => ⟨fun hno => ?noFrame, fun hno => ?noWait, fun hno => ?noSettle, fun hoff => ⟨?noLd, ?noLoss⟩,
      fun hno => ?noRepeat, fun hno => ?noProceed⟩,
    fun s n m miso op h hcur => ⟨fun y hop => ?frame, fun cs x len hop => ?capture, fun hseq hread => ?otherFrame⟩,
    fun s n y t0 h => ⟨fun ht => ?waited, fun ht => ?settled⟩,
    fun s n y h hon hld => ⟨?locked, fun hlost => ?lost, fun hno => ?low⟩,
    fun s n k st e t0 h hheld => ⟨fun hready hrest hdown => ⟨fun hno => ?skipped, fun b hb => ?proceeds⟩, fun ht => ?heldAgain⟩,
    fun s n k t0 h hheld ht => ?again,
    fun s n m got parityOk h => ⟨fun hno => ?noTransfer, fun k w hcur => ⟨fun hread => ?written, fun hread hpar hgot => ?verified,
      fun hread hbad => ⟨fun hfirst => ?retried, fun hsecond => ?failed⟩⟩, fun op hcur hop => ?otherTransfer⟩⟩
  case starts => exact does_of (p := startWanted n y) rfl h _ (run_startWanted_starts hidle hwant hfree) rfl
  case waits =>
    exact does_of (p := startWanted n y) rfl h _ (run_startWanted_waits hidle hwant huse) ⟨syn_synth_same .., rfl⟩
  case noStart => exact does_nothing (p := startWanted n y) rfl h (run_startWanted_nothing hno)
  case recalWrite =>
    refine writesWord_of_plainWord rfl h (by decide) ?_
    rw [hostFields_rcU]
    exact plainWord_synCtrl
  case hostGo =>
    refine writesWord_of_plainWord rfl h (by decide) ?_
    rw [hostFields_rcU]
    exact plainWord_xfer
  case noFrame => exact does_nothing (p := cspiDone n m miso) rfl h (run_cspiDone_idle hno)
  case noWait => exact does_nothing (p := onExpiry (.seqWait n y) (seqDone n y false)) rfl h (run_onExpiry_none _ hno)
  case noSettle => exact does_nothing (p := onExpiry (.synSettle n y) (settleEnd n y)) rfl h (run_onExpiry_none _ hno)
  case noLd => exact does_nothing (p := ldQualify n y) rfl h (run_ldQualify_off hoff)
  case noLoss => exact does_nothing (p := lossOfLock n y) rfl h (run_lossOfLock_off hoff)
  case noRepeat => exact does_nothing (p := onExpiry (.fddRepeat n y) (repeatRequest n y)) rfl h (run_onExpiry_none _ hno)
  case noProceed =>
    refine does_nothing (p := proceed n y) rfl h (run_proceed_waits (hno.imp_right fun hno ⟨hready, hrest, hdown⟩ => ?_))
    simp [hready, hrest, hdown] at hno
  case frame =>
    subst hop
    exact does_of (p := cspiDone n m miso) rfl h _ (run_cspiDone_seq hcur) ⟨masterFreed_master m, rfl⟩
  case capture =>
    subst hop
    exact does_of (p := cspiDone n m miso) rfl h _ (run_cspiDone_read hcur)
      ⟨(master_reg ..).trans (masterFreed_master m), rd_reg_same ..,
        (sameRegs_reg (List.mem_singleton_self _) _).mpr ((sameRegs_of_regs rfl).mpr (sameRegs_refl s.dev _))⟩
  case otherFrame =>
    exact does_of (p := cspiDone n m miso) rfl h _ (run_cspiDone_other hcur hseq hread) ⟨masterFreed_master m, rfl⟩
  case waited =>
    exact does_of (p := onExpiry (.seqWait n y) (seqDone n y false)) rfl h _ (run_onExpiry_expired _ ht)
      ⟨expired_deadline .., expired_clock .., expired_regs ..⟩
  case settled =>
    refine does_of (p := onExpiry (.synSettle n y) (settleEnd n y)) rfl h _ (run_settleEnd_due ht) ⟨synSettled_settling t0, ?_, rfl⟩
    rw [synSettled_syn]
  case locked =>
    exact does_of (p := ldQualify n y) rfl h _ (run_ldQualify_on hon) ⟨ldShown_level_high hld, ldShown_syn true⟩
  case lost =>
    have hy := synOn_lt hon
    exact does_of (p := lossOfLock n y) rfl h _ (run_lossOfLock_lost hon hlost)
      ⟨lockLost_level hy, lockLost_counts hy, lockLost_ready, lockLost_syn⟩
  case low =>
    exact does_at (p := lossOfLock n y) rfl h (run_lossOfLock_shown hon hno) ⟨ldShown_level_low, ldShown_syn false⟩
  case skipped =>
    exact does_of (p := proceed n k) rfl h s.dev (run_proceed_skips hheld ⟨hready, hrest, hdown⟩ hno) rfl
  case proceeds =>
    refine does_at (p := proceed n k) rfl h (run_proceed_starts hheld ⟨hready, hrest, hdown⟩ hb)
      ⟨startBias_gState .., ?_, ?_, ?_, (startBias_deadline ..).trans (expired_deadline ..), startBias_clock ..⟩
    all_goals rw [startBias_grp]
  case heldAgain =>
    refine does_of (p := onExpiry (.fddRepeat n k) (repeatRequest n k)) rfl h _ ((run_onExpiry_expired _ ht).trans
      (run_repeatRequest_held (st := st) (e := e) ?_)) ⟨expired_deadline .., expired_clock .., expired_regs ..⟩
    rwa [expired_grp]
  case again =>
    refine does_of (p := onExpiry (.fddRepeat n k) (repeatRequest n k)) rfl h _ ((run_onExpiry_expired _ ht).trans
      (run_repeatRequest_free ?_)) ⟨expired_deadline .., expired_clock .., expired_regs ..⟩
    rwa [expired_grp]
  case noTransfer => exact does_nothing (p := rffeDone n m parityOk got) rfl h (run_rffeDone_idle hno)
  case written =>
    exact does_of (p := rffeDone n m parityOk got) rfl h _ (run_rffeDone_written hcur hread) ⟨master_bus_same .., rfl⟩
  case verified =>
    exact does_of (p := rffeDone n m parityOk got) rfl h _ (run_rffeDone_verified hcur hread ⟨hpar, hgot⟩) ⟨master_bus_same .., rfl⟩
  case retried =>
    exact does_of (p := rffeDone n m parityOk got) rfl h _ (run_rffeDone_retries hcur hread hbad hfirst) ⟨master_bus_same .., rfl⟩
  case failed =>
    exact does_of (p := rffeDone n m parityOk got) rfl h _ (run_rffeDone_fails hcur hread hbad hsecond)
      ⟨rffeErr_counts .., (onlyRegs_reg (List.mem_singleton_self _) _).mpr (onlyRegs_refl ..)⟩
  case otherTransfer =>
    exact does_of (p := rffeDone n m parityOk got) rfl h _ (run_rffeDone_other hcur hop) ⟨master_bus_same .., rfl⟩

end Sys2Proof.Machine

namespace Sys2Proof.Machine

/-! ### Commands that the Calibration Engine takes up -/

/-- What neither a register nor the list of commands shows, a change of the outstanding commands leaves alone. -/
theorem setCmds_keeps {α : Type} {f : Dev → α} (hreg : ∀ d r v, f (d.apply (.reg r v)) = f d)
    (hcmds : ∀ d cs, f (d.apply (.cmds cs)) = f d) (g : List Cmd → List Cmd) : Keeps f (setCmds g) := by
  refine keeps_withDev fun d => ?_
  dsimp only
  refine keeps_andThen (fun e => hcmds e _) (keeps_andThen (fun e => hreg e _ _) (keeps_andThen (keeps_forEach fun q => ?_) keeps_skip))
  exact keeps_when fun e => hreg e _ _

theorem takeUp_keeps_ce (tag : Nat) : Keeps Dev.ce (takeUp tag) := setCmds_keeps reg_ce (fun _ _ => rfl) _
theorem takeUp_keeps_clock (tag : Nat) : Keeps Dev.clock (takeUp tag) := setCmds_keeps reg_clock (fun _ _ => rfl) _

/-! ### Runs start (R278, R279) -/

section
variable {d : Dev} {k kind u ms : Nat} {noApply auto : Bool} {tag : Option Nat}

theorem halfDt_eq (r : CalRun) : r.halfDt = 491520 * r.runMs / 2 := by rw [CalRun.halfDt, dtOfMs, Nat.mul_comm]

theorem freeRun_of_ce {e : Dev} (h : e.ce = d.ce) : e.freeRun = d.freeRun := by rw [Dev.freeRun, h, ← Dev.freeRun]

/-- A run that is not refused finds a free slot. -/
theorem exists_freeRun (h : d.runRefusal kind u = none) : ∃ k, d.freeRun = some k := by
  cases hk : d.freeRun with
  | some k => exact ⟨k, rfl⟩
  | none =>
    rw [Dev.runRefusal, hk, Option.isNone_none, Bool.or_true, if_pos rfl] at h
    split at h
    · cases h
    · split at h <;> cases h

variable (d kind u ms noApply auto tag) in
/-- The run that starts. -/
def Dev.newRun : CalRun :=
  { kind := kind, target := u, runMs := ms, noApply := noApply, auto := auto, tag := tag
    runId := d.ce.nextRun, acc := { since := d.dt }, live0 := (d.calLive kind (linkL u)).headD (0, 0) }

/-- The slot shows a run in half A (R298). -/
def showStarted (k : Nat) (r : CalRun) : Script := seqs [
  put CE Reg.CE.SLOT_TARGET r.target k, put CE Reg.CE.SLOT_KIND r.kind k, putB CE Reg.CE.SLOT_NO_APPLY r.noApply k,
  putB CE Reg.CE.SLOT_AUTO r.auto k, put CE Reg.CE.SLOT_PHASE 1 k, put CE Reg.CE.SLOT_REASON caRunning k,
  put CE Reg.CE.SLOT_RUN_ID r.runId k]

theorem run_showStarted (r : CalRun) : (showStarted k r).run d =
    (((((((d.apply (.reg (Reg.CE.SLOT_TARGET.at CE k) r.target)).apply (.reg (Reg.CE.SLOT_KIND.at CE k) r.kind)).apply
      (.reg (Reg.CE.SLOT_NO_APPLY.at CE k) (b2n r.noApply))).apply (.reg (Reg.CE.SLOT_AUTO.at CE k) (b2n r.auto))).apply
      (.reg (Reg.CE.SLOT_PHASE.at CE k) 1)).apply (.reg (Reg.CE.SLOT_REASON.at CE k) caRunning)).apply
      (.reg (Reg.CE.SLOT_RUN_ID.at CE k) r.runId)) := by
  simp only [showStarted, run_seqs_cons, run_seqs_nil, run_put, run_putB]

/-- The block with a run in slot `k` at the start of half A. -/
def Dev.runStarted (d : Dev) (k : Nat) (r : CalRun) : Dev := (startTimer (.calHalf k) r.halfDt).run
  ((showStarted k r).run (d.apply (.ce { d.ce with runs := d.ce.runs ++ [(k, r)], nextRun := (d.ce.nextRun + 1) % 2 ^ 32 })))

theorem run_startRun (hk : d.freeRun = some k) : (startRun kind u ms noApply auto tag).run d =
    d.runStarted k (d.newRun kind u ms noApply auto tag) := by
  rw [startRun, run_withDev, hk]
  dsimp only
  rw [← Dev.newRun, Dev.runStarted, showStarted]
  simp only [run_seqs_cons]
  rw [run_seqs_nil, run_seqs_nil, run_modCe]
  rfl

variable (r : CalRun)

theorem runStarted_runs : (d.runStarted k r).ce.runs = d.ce.runs ++ [(k, r)] := by
  rw [Dev.runStarted, run_showStarted]
  rfl

theorem runStarted_target : (d.runStarted k r).rd CE Reg.CE.SLOT_TARGET k = r.target % 2 ^ Reg.CE.SLOT_TARGET.width := by
  rw [Dev.runStarted, run_startTimer, rd_of_regs (arm_regs ..), run_showStarted]
  simp (disch := decide) only [rd_reg_sibling, rd_reg_same]

theorem runStarted_kind : (d.runStarted k r).rd CE Reg.CE.SLOT_KIND k = r.kind % 2 ^ Reg.CE.SLOT_KIND.width := by
  rw [Dev.runStarted, run_startTimer, rd_of_regs (arm_regs ..), run_showStarted]
  simp (disch := decide) only [rd_reg_sibling, rd_reg_same]

theorem runStarted_phase : (d.runStarted k r).rd CE Reg.CE.SLOT_PHASE k = 1 := by
  rw [Dev.runStarted, run_startTimer, rd_of_regs (arm_regs ..), run_showStarted]
  simp (disch := decide) only [rd_reg_sibling, rd_reg_same]
  rfl

theorem runStarted_deadline : (d.runStarted k r).deadline (.calHalf k) = some (d.dt + 491520 * r.runMs / 2) := by
  rw [← halfDt_eq]
  exact startTimer_deadline ..

end

/-! ### CAL-RUN -/

section
variable {d : Dev} {tag : Nat}

theorem run_calRun_absent (h : d.passed tag 0x0A = none) : (calRun tag).run d = d := by
  rw [calRun, run_withDev, h, run_skip]

variable {c : Cmd} (h : d.passed tag 0x0A = some c)
include h

theorem run_calRun_refused {r : Nat} (hr : d.runRefusal (c.par 24 1) (c.par 26 2) = some r) :
    (calRun tag).run d = (complete tag (calStatus r) r 0).run d := by
  rw [calRun, run_withDev, h]
  dsimp only
  rw [hr]

theorem run_calRun_starts (hr : d.runRefusal (c.par 24 1) (c.par 26 2) = none) : (calRun tag).run d =
    (startRun (c.par 24 1) (c.par 26 2) (c.par 28 4) ((c.par 32 1).testBit 0) false (some tag)).run ((takeUp tag).run d) := by
  rw [calRun, run_withDev, h]
  dsimp only
  rw [hr]
  simp only [run_seqs_cons, run_seqs_nil]

end

/-! ### Automatic runs (R278) -/

section
variable (d : Dev) (x : Timer) (t0 : Nat)

theorem expired_rd (u i j : Nat) (f : Fld) : (d.expired x t0).rd u f i j = d.rd u f i j :=
  rd_of_regs (expired_regs ..) ..
theorem expired_ce : (d.expired x t0).ce = d.ce := reach_ce d t0
theorem expired_autoTargets : (d.expired x t0).autoTargets = d.autoTargets := by rw [expired_eq]; rfl

end

/-- The block whose next automatic runs are due AUTO_MIN minutes on. -/
def Dev.autosTimed (d : Dev) : Dev := (startTimer .autoCal (dtOfS (60 * d.rd CE Reg.CE.AUTO_MIN))).run d

/-- The block `e` where the targets of `d` wait for their turn, if automatic runs are enabled. -/
def Dev.autosQueued (d e : Dev) : Dev := e.apply
  (.ce { e.ce with autoQ := if d.rd CE Reg.CE.AUTO_EN = 0 then e.ce.autoQ else d.autoTargets })

theorem run_queueAutos (d e : Dev) :
    (when (d.is CE Reg.CE.AUTO_EN) (seqs [modCe fun x => { x with autoQ := d.autoTargets }, startAutos])).run e =
      (when (d.rd CE Reg.CE.AUTO_EN != 0) startAutos).run (d.autosQueued e) := by
  by_cases hen : d.rd CE Reg.CE.AUTO_EN = 0
  · rw [Dev.autosQueued, if_pos hen, is_eq_false hen, hen, bne_self_eq_false, run_when_false, run_when_false]
    rfl
  · rw [Dev.autosQueued, if_neg hen, is_eq_true hen, bne_iff_ne.mpr hen, run_when_true, run_when_true, run_seqs_cons, run_seqs_cons,
      run_seqs_nil, run_modCe]

theorem run_autoStart (d : Dev) :
    autoStart.run d = (when (d.rd CE Reg.CE.AUTO_EN != 0) startAutos).run (d.autosQueued d.autosTimed) := by
  rw [autoStart, run_withDev, run_seqs_cons, run_seqs_cons, run_seqs_nil, ← Dev.autosTimed, run_queueAutos]

section
variable (d e : Dev)

theorem autosTimed_regs : d.autosTimed.regs = d.regs := by rw [Dev.autosTimed, run_startTimer, arm_regs]
theorem autosTimed_ce : d.autosTimed.ce = d.ce := by rw [Dev.autosTimed, run_startTimer, arm_ce]
theorem autosTimed_deadline : d.autosTimed.deadline .autoCal = some (d.dt + 491520000 * (60 * d.rd CE Reg.CE.AUTO_MIN)) := by
  rw [Dev.autosTimed, startTimer_deadline, dtOfS, Nat.mul_comm 491520000]

theorem autosQueued_regs : (d.autosQueued e).regs = e.regs := rfl
theorem autosQueued_timers : (d.autosQueued e).timers = e.timers := rfl
theorem autosQueued_autoQ :
    (d.autosQueued e).ce.autoQ = if d.rd CE Reg.CE.AUTO_EN = 0 then e.ce.autoQ else d.autoTargets := rfl

end

/-! ### A half ends (R280) -/

/-- The command that ends the half of slot `k` in phase `p`: the plane runs up to it, and `q` follows. -/
def endPhase (k p : Nat) (feed : Feed) (q : Script) : Script := withDev fun d =>
  when (d.rd CE Reg.CE.SLOT_PHASE k == p) (onExpiry (.calHalf k) (seqs [runPlane feed, q]))

/-- The block at the end of a half, its plane run. -/
def Dev.halfOver (d : Dev) (k t0 : Nat) (feed : Feed) : Dev := (runPlane feed).run (d.expired (.calHalf k) t0)

section
variable {d : Dev} {k p t0 : Nat} {feed : Feed} {q : Script}

theorem run_endPhase_due (ht : d.deadline (.calHalf k) = some t0) (hp : d.rd CE Reg.CE.SLOT_PHASE k = p) :
    (endPhase k p feed q).run d = q.run (d.halfOver k t0 feed) := by
  rw [endPhase, run_withDev, beq_iff_eq.mpr hp, run_when_true, run_onExpiry_expired _ ht, run_seqs_cons, run_seqs_cons, run_seqs_nil,
    Dev.halfOver]

theorem run_endPhase_other (hp : d.rd CE Reg.CE.SLOT_PHASE k ≠ p) : (endPhase k p feed q).run d = d := by
  rw [endPhase, run_withDev, beq_eq_false_iff_ne.mpr hp, run_when_false]

theorem run_endPhase_idle (ht : d.deadline (.calHalf k) = none) : (endPhase k p feed q).run d = d := by
  rw [endPhase, run_withDev, run_when, run_onExpiry_none _ ht, ite_self]

end

/-- The run in slot `k`. -/
def Dev.runAt (d : Dev) (k : Nat) : Option (Nat × CalRun) := d.ce.runs.find? fun x => x.1 == k

theorem runAt_slot {d : Dev} {k : Nat} {x : Nat × CalRun} (h : d.runAt k = some x) : x.1 = k :=
  beq_iff_eq.mp (List.find?_some (p := fun y : Nat × CalRun => y.1 == k) h)

/-- A run whose image accumulator passed its parity check, or that has none, is not lost. -/
theorem not_parityLost {r : CalRun} {parity : Bool} (h : r.kind ≠ 3 ∨ parity = false) : ¬(r.kind = 3 ∧ parity = true) :=
  fun ⟨hkind, hpar⟩ => h.elim (fun hne => hne hkind) fun hoff => Bool.false_ne_true (hoff.symm.trans hpar)

/-- The run with half A behind it and half B begun. -/
def Dev.inHalfB (d : Dev) (r : CalRun) (x : CalRun) : CalRun :=
  { x with half := some (d.calHalf r), acc := { since := d.dt }, coup := d.calCoupling r, model := d.modelOk r }

/-- The block once half B of the run in slot `k` has begun. -/
def Dev.halfChanged (d : Dev) (k : Nat) (r : CalRun) : Dev := (startTimer (.calHalf k) r.halfDt).run
  ((d.apply (.ce { d.ce with runs := d.ce.runs.map fun x => if x.1 == k then (k, d.inHalfB r x.2) else x })).apply
    (.reg (Reg.CE.SLOT_PHASE.at CE k) 2))

section
variable {d : Dev} {k : Nat} {r : CalRun} {parity : Bool}

theorem run_halfEnd_none (h : d.runAt k = none) : (halfEnd k parity).run d = d := by
  rw [halfEnd, run_withDev, ← Dev.runAt, h, run_skip]

theorem run_halfEnd_lost (h : d.runAt k = some (k, r)) (hkind : r.kind = 3) : (halfEnd k true).run d = (parityLost k r).run d := by
  rw [halfEnd, run_withDev, ← Dev.runAt, h]
  dsimp only
  rw [if_pos ⟨hkind, rfl⟩]

theorem run_halfEnd_passes (h : d.runAt k = some (k, r)) (hok : r.kind ≠ 3 ∨ parity = false) :
    (halfEnd k parity).run d = d.halfChanged k r := by
  rw [halfEnd, run_withDev, ← Dev.runAt, h]
  dsimp only
  rw [if_neg (not_parityLost hok), run_seqs_cons, run_seqs_cons, run_seqs_cons, run_seqs_nil, run_modCe, run_put, Dev.halfChanged]
  rfl

variable (d k r)

theorem halfChanged_phase : (d.halfChanged k r).rd CE Reg.CE.SLOT_PHASE k = 2 :=
  (rd_of_regs (arm_regs ..) ..).trans (rd_reg_same ..)
theorem halfChanged_deadline : (d.halfChanged k r).deadline (.calHalf k) = some (d.dt + 491520 * r.runMs / 2) := by
  rw [← halfDt_eq]
  exact startTimer_deadline ..
theorem halfChanged_sameRegs : SameRegs d (d.halfChanged k r) [Reg.CE.SLOT_PHASE.at CE k] :=
  (sameRegs_of_regs (arm_regs ..)).mpr ((sameRegs_reg (List.mem_singleton_self _) 2).mpr ((sameRegs_of_regs rfl).mpr (sameRegs_refl d _)))

end

/-! ### A run is judged (R280, R281) -/

/-- The result of a run from its two halves, as its record carries it. -/
def runResult (r : CalRun) (ha hb : HalfStat) : List Byte :=
  if r.kind = 6 then (detMean ha hb).flatMap fun m => leBytes 2 (codeOf 16 (roundOpen m.2.1 m.2.2))
  else calPayload r.kind 0 (calMean (calTotal r ha) (calTotal r hb))

/-- The reason for which the run is not accepted, at the end of half B. -/
def Dev.endReason (d : Dev) (r : CalRun) (ha : HalfStat) : Option Nat :=
  d.calReason r ha (d.calHalf r) (d.calCoupling r) (d.modelOk r)

/-- What follows from the judgement of the run. -/
def judgeRun (d : Dev) (k : Nat) (r : CalRun) (ha : HalfStat) : Script :=
  match d.endReason r ha with
  | some c => endRun k c (if c = 0x18 then runResult r ha (d.calHalf r) else [])
  | none =>
    if r.noApply then endRun k caEstimated (runResult r ha (d.calHalf r))
    else seqs [acceptRun r ha (d.calHalf r), endRun k caAccepted (runResult r ha (d.calHalf r))]

section
variable {d : Dev} {k : Nat} {r : CalRun} {ha : HalfStat} {parity : Bool}

theorem judgeRun_rejects {c : Nat} (hc : d.endReason r ha = some c) :
    judgeRun d k r ha = endRun k c (if c = 0x18 then runResult r ha (d.calHalf r) else []) := by
  rw [judgeRun, hc]

theorem judgeRun_estimates (hc : d.endReason r ha = none) (hna : r.noApply = true) :
    judgeRun d k r ha = endRun k caEstimated (runResult r ha (d.calHalf r)) := by
  rw [judgeRun, hc, if_pos hna]

theorem judgeRun_accepts (hc : d.endReason r ha = none) (hna : r.noApply = false) :
    judgeRun d k r ha = seqs [acceptRun r ha (d.calHalf r), endRun k caAccepted (runResult r ha (d.calHalf r))] := by
  rw [judgeRun, hc, hna, if_neg Bool.false_ne_true]

theorem run_runEnd_none (h : ∀ r ha, d.runAt k = some (k, r) → r.half ≠ some ha) : (runEnd k parity).run d = d := by
  rw [runEnd, run_withDev, ← Dev.runAt]
  cases hrun : d.runAt k with
  | none => rfl
  | some x =>
    obtain ⟨j, r⟩ := x
    obtain rfl : j = k := runAt_slot hrun
    dsimp only
    cases hhalf : r.half with
    | none => rfl
    | some ha => exact absurd hhalf (h r ha hrun)

/-- A run in half B is lost to its accumulator's parity, or judged. -/
theorem run_runEnd (h : d.runAt k = some (k, r)) (hhalf : r.half = some ha) : (runEnd k parity).run d =
    Script.run (if r.kind = 3 ∧ parity = true then parityLost k r else judgeRun d k r ha) d := by
  rw [runEnd, run_withDev, ← Dev.runAt, h]
  dsimp only
  rw [hhalf]
  rfl

end

/-- Settles O44: a start, a change of halves and an end are each one equation of the command's script, by the phase that the slot
shows and the run that it holds. -/
theorem calibrationRuns : Obligations.CalibrationRuns := by
  unfold Obligations.CalibrationRuns
  refine ⟨fun s tag c h hc => ⟨fun r hr => ?refused, fun hr => ?starts⟩, fun s tag h hno => ?noCommand,
    fun s h => ⟨fun t0 ht => ?autos, fun hno => ?noAutos⟩,
    fun s k t0 feed parity h _ ht => ⟨fun hA => ⟨fun r hrun => ⟨fun hok => ?halfB, fun hkind hpar => ?lostA⟩, fun hno => ?noRunA, ?notEnd⟩,
      fun hB => ⟨fun r ha hrun hhalf => ⟨fun hkind hpar => ?lostB, fun hok => ?judged⟩, fun hno => ?noRunB, ?notHalf⟩⟩,
    fun s k feed parity h hno => ⟨?noHalf, ?noEnd⟩⟩
  case refused => exact does_of (p := calRun tag) rfl h s.dev (run_calRun_refused hc hr) rfl
  case starts =>
    obtain ⟨k, hk⟩ := exists_freeRun hr
    have hfree : ((takeUp tag).run s.dev).freeRun = some k := (freeRun_of_ce (takeUp_keeps_ce tag s.dev)).trans hk
    rw [← takeUp_keeps_ce tag s.dev]
    have hrun := (run_calRun_starts hc hr).trans (run_startRun hfree)
    refine ⟨k, hk, does_at (p := calRun tag) rfl h hrun ⟨⟨_, runStarted_runs .., ?_⟩,
      runStarted_target _, runStarted_kind _, runStarted_phase _, (runStarted_deadline _).trans ?_⟩⟩
    · exact ⟨rfl, rfl, rfl, rfl, rfl⟩
    · rw [Dev.dt, takeUp_keeps_clock]
      rfl
  case noCommand => exact does_nothing (p := calRun tag) rfl h (run_calRun_absent hno)
  case autos =>
    have hrun := (run_onExpiry_expired autoStart ht).trans (run_autoStart _)
    rw [expired_rd] at hrun
    refine does_of (p := onExpiry .autoCal autoStart) rfl h _ hrun ⟨?_, ?_, ?_⟩
    · rw [deadline_of_timers (autosQueued_timers ..), autosTimed_deadline, expired_rd, Dev.dt, expired_clock]
    · rw [autosQueued_autoQ, autosTimed_ce, expired_ce, expired_rd, expired_autoTargets]
    · rw [autosQueued_regs, autosTimed_regs, expired_regs]
  case noAutos => exact does_nothing (p := onExpiry .autoCal autoStart) rfl h (run_onExpiry_none _ hno)
  case halfB =>
    exact does_at (p := endPhase k 1 feed (halfEnd k parity)) rfl h ((run_endPhase_due ht hA).trans (run_halfEnd_passes hrun hok))
      ⟨halfChanged_phase .., halfChanged_deadline .., rfl, rfl, halfChanged_sameRegs _ _ _⟩
  case lostA =>
    subst hpar
    exact does_of (p := endPhase k 1 feed (halfEnd k true)) rfl h _ ((run_endPhase_due ht hA).trans (run_halfEnd_lost hrun hkind)) rfl
  case noRunA =>
    exact does_at (p := endPhase k 1 feed (halfEnd k parity)) rfl h ((run_endPhase_due ht hA).trans (run_halfEnd_none hno)) rfl
  case notEnd =>
    exact does_nothing (p := endPhase k 2 feed (runEnd k parity)) rfl h (run_endPhase_other (by rw [hA]; decide))
  case lostB =>
    have hend := (run_endPhase_due ht hB).trans (run_runEnd (parity := parity) hrun hhalf)
    rw [if_pos ⟨hkind, hpar⟩] at hend
    exact does_of (p := endPhase k 2 feed (runEnd k parity)) rfl h _ hend rfl
  case judged =>
    have hend := (run_endPhase_due ht hB).trans (run_runEnd (parity := parity) hrun hhalf)
    rw [if_neg (not_parityLost hok)] at hend
    refine ⟨fun c hc => ?_, fun hc => ⟨fun hna => ?_, fun hna => ?_⟩⟩
    · rw [judgeRun_rejects (d := s.dev.halfOver k t0 feed) hc] at hend
      exact does_of (p := endPhase k 2 feed (runEnd k parity)) rfl h _ hend rfl
    · rw [judgeRun_estimates (d := s.dev.halfOver k t0 feed) hc hna] at hend
      exact does_of (p := endPhase k 2 feed (runEnd k parity)) rfl h _ hend rfl
    · rw [judgeRun_accepts (d := s.dev.halfOver k t0 feed) hc hna] at hend
      exact does_of (p := endPhase k 2 feed (runEnd k parity)) rfl h _ hend rfl
  case noRunB =>
    exact does_at (p := endPhase k 2 feed (runEnd k parity)) rfl h ((run_endPhase_due ht hB).trans (run_runEnd_none hno)) rfl
  case notHalf =>
    exact does_nothing (p := endPhase k 1 feed (halfEnd k parity)) rfl h (run_endPhase_other (by rw [hB]; decide))
  case noHalf => exact does_nothing (p := endPhase k 1 feed (halfEnd k parity)) rfl h (run_endPhase_idle hno)
  case noEnd => exact does_nothing (p := endPhase k 2 feed (runEnd k parity)) rfl h (run_endPhase_idle hno)

end Sys2Proof.Machine

namespace Sys2Proof.Machine

/-! ### The Calibration Engine at multiples of Device Time -/

section
variable (d : Dev) (k t : Nat)

theorem ticked_ce : (d.ticked k t).ce = d.ce := by rw [ticked_eq]
theorem ticked_rd (u i j : Nat) (f : Fld) : (d.ticked k t).rd u f i j = d.rd u f i j := rd_of_regs (ticked_regs ..) ..
theorem ticked_configured : (d.ticked k t).configured = d.configured := by rw [ticked_eq]; rfl
theorem ticked_refHalf (x : Nat) : (d.ticked k t).refHalf x = d.refHalf x := by rw [ticked_eq]; rfl
theorem ticked_refScale : (d.ticked k t).refScale = d.refScale := by rw [ticked_eq]; rfl
theorem ticked_secondOk (a b : RefHalf) : (d.ticked k t).secondOk a b = d.secondOk a b := by rw [ticked_eq]; rfl

end

/-! ### The Steep (R285) -/

theorem run_steepTick_due {d : Dev} {t : Nat} (hdue : d.multipleDue 0 491520 t) :
    (steepTick t).run d = (when d.configured (forEach d.ce.ramps tickRamp)).run (d.ticked 0 t) := by
  rw [steepTick, run_onMultiple_due _ hdue, run_withDev, ticked_configured, ticked_ce]

/-! ### A second of the reference (R288, R289) -/

/-- The block once the detections of the second that ends at `t` are counted off. -/
def Dev.secondOver (d : Dev) (t : Nat) : Dev :=
  (d.ticked 1 t).apply (.ce { d.ce with refDet := d.ce.refDet.filter fun y => decide (t < y.1) })

/-- The same, the row of accepted seconds broken. -/
def Dev.rowBroken (d : Dev) (t : Nat) : Dev := (d.secondOver t).apply (.ce { (d.secondOver t).ce with inRow := 0 })

/-- What follows the end of a second, where the reference is used. -/
def followReference (d : Dev) (a b : RefHalf) : Script := seqs [
  if d.secondOk a b then secondAccepted (-((a.sum * b.n + b.sum * a.n) * 1000000)) (2 * a.n * b.n * d.refScale)
  else modCe fun x => { x with inRow := 0 },
  holdTarget, refCommit]

section
variable {d : Dev} {t : Nat}

theorem run_refSecond_due (hdue : d.multipleDue 1 491520000 t) : (refSecond t).run d =
    (when (d.configured && d.is CE Reg.CE.REF_EN) (followReference d (d.refHalf (t - 245760000)) (d.refHalf t))).run (d.secondOver t) := by
  rw [refSecond, run_onMultiple_due _ hdue, run_withDev]
  dsimp only
  rw [run_seqs_cons, run_seqs_cons, run_seqs_nil, run_modCe, ticked_ce, ticked_refHalf, ticked_refHalf, ticked_secondOk, ticked_refScale,
    ticked_configured, Dev.is, ticked_rd, ← Dev.is, Dev.secondOver, followReference]

theorem run_refSecond_used (hdue : d.multipleDue 1 491520000 t) (hconf : d.configured = true) (hen : d.rd CE Reg.CE.REF_EN ≠ 0) :
    (refSecond t).run d = (followReference d (d.refHalf (t - 245760000)) (d.refHalf t)).run (d.secondOver t) := by
  rw [run_refSecond_due hdue, hconf, is_eq_true hen, Bool.and_self, run_when_true]

theorem run_refSecond_unused (hdue : d.multipleDue 1 491520000 t) (hno : d.configured = false ∨ d.rd CE Reg.CE.REF_EN = 0) :
    (refSecond t).run d = d.secondOver t := by
  have hoff : (d.configured && d.is CE Reg.CE.REF_EN) = false := Bool.and_eq_false_iff.mpr (hno.imp_right is_eq_false)
  rw [run_refSecond_due hdue, hoff, run_when_false]

variable {a b : RefHalf}

theorem followReference_accepted (hok : d.secondOk a b = true) : followReference d a b =
    seqs [secondAccepted (-((a.sum * b.n + b.sum * a.n) * 1000000)) (2 * a.n * b.n * d.refScale), holdTarget, refCommit] := by
  rw [followReference, if_pos hok]

theorem run_followReference_broken (hok : d.secondOk a b = false) :
    (followReference d a b).run (d.secondOver t) = (seqs [holdTarget, refCommit]).run (d.rowBroken t) := by
  rw [followReference, hok, if_neg Bool.false_ne_true, run_seqs_cons, run_modCe, Dev.rowBroken]

end

section
variable (d : Dev) (t : Nat)

/-- What the end of a second notes of Device Time, and that it leaves the registers. -/
theorem secondOver_ticked :
    (d.secondOver t).clock = (d.reach t).clock ∧ (d.secondOver t).ticksAt 1 = t + 1 ∧ (d.secondOver t).regs = d.regs :=
  ⟨rfl, ticked_ticksAt d 1 t, ticked_regs d 1 t⟩

theorem rowBroken_ticked :
    (d.rowBroken t).clock = (d.reach t).clock ∧ (d.rowBroken t).ticksAt 1 = t + 1 ∧ (d.rowBroken t).regs = d.regs :=
  secondOver_ticked d t

end

/-- A second is accepted only with 8 detections in each half and frame lock of the carrier (R288). -/
theorem secondOk_enough {d : Dev} {a b : RefHalf} (h : d.secondOk a b = true) : 8 ≤ a.n ∧ 8 ≤ b.n ∧
    d.rd (sdU (d.rd CE Reg.CE.REF_SS)) Reg.SD.K_FRAME_LOCK (d.rd CE Reg.CE.REF_CAR) ≠ 0 := by
  simp only [Dev.secondOk, Bool.and_eq_true, decide_eq_true_eq] at h
  obtain ⟨⟨⟨⟨⟨ha, hb, -⟩, -⟩, hlock⟩, -⟩, -⟩ := h
  exact ⟨ha, hb, bne_iff_ne.mp hlock⟩

/-! ### No second has been accepted for DISC_HOLD (R289) -/

section
variable {d : Dev}

theorem run_refHoldEntry_disc (hen : d.rd CE Reg.CE.REF_EN ≠ 0) (hst : d.rd CE Reg.CE.REF_STATE = 1) :
    refHoldEntry.run d = (setRefState 2).run (d.apply (.ce { d.ce with inRow := 0 })) := by
  rw [refHoldEntry, run_withDev, is_eq_true hen, hst, beq_self_eq_true, Bool.and_self, run_when_true, run_seqs_cons, run_seqs_cons,
    run_seqs_nil, run_modCe]

theorem run_refHoldEntry_other (h : d.rd CE Reg.CE.REF_EN = 0 ∨ d.rd CE Reg.CE.REF_STATE ≠ 1) : refHoldEntry.run d = d := by
  have hoff : (d.is CE Reg.CE.REF_EN && d.rd CE Reg.CE.REF_STATE == 1) = false :=
    Bool.and_eq_false_iff.mpr (h.imp is_eq_false beq_eq_false_iff_ne.mpr)
  rw [refHoldEntry, run_withDev, hoff, run_when_false]

end

/-! ### Commits of the calibration set (R293, R294) -/

/-- The set that a commit writes. -/
def Dev.nextSet (d : Dev) : CalSet :=
  { seq := (if d.is CE Reg.CE.SET_VALID then d.live CE Reg.CE.SET_SEQ_LO else 0) + 1
    dt := d.dt, wall := d.clock.wall, epoch := d.clock.epoch, entries := d.refEntries }

/-- The current set stands in CAL_A, so that the next one goes to CAL_B. -/
def Dev.nextIsB (d : Dev) : Bool := d.is CE Reg.CE.SET_VALID && !d.is CE Reg.CE.SET_SLOT

theorem nextIsB_iff (d : Dev) : d.nextIsB = true ↔ d.rd CE Reg.CE.SET_VALID ≠ 0 ∧ d.rd CE Reg.CE.SET_SLOT = 0 := by
  simp only [Dev.nextIsB, Dev.is, Bool.and_eq_true, bne_iff_ne, Bool.not_eq_true', bne_eq_false_iff_eq]

theorem nextSet_seq (d : Dev) :
    d.nextSet.seq = (if d.rd CE Reg.CE.SET_VALID = 0 then 0 else d.live CE Reg.CE.SET_SEQ_LO) + 1 := by
  by_cases hv : d.rd CE Reg.CE.SET_VALID = 0
  · simp only [Dev.nextSet, is_eq_false hv, if_pos hv, if_neg Bool.false_ne_true]
  · simp only [Dev.nextSet, is_eq_true hv, if_neg hv, if_true]

/-- The block once a commit has started: its set is being written, and the marker of the slot that it goes to is zero. -/
def Dev.commitStarted (d : Dev) : Dev :=
  ((d.apply (.ce { d.ce with due := false, committing := some d.nextSet, entries := d.refEntries, discAt := d.dt })).apply
    (.disarm Timer.calRetry.code)).apply (.p0 (if d.nextIsB then { d.p0 with calB := none } else { d.p0 with calA := none }))

theorem run_startCommit (d : Dev) : startCommit.run d = d.commitStarted := by
  rw [startCommit, run_withDev]
  dsimp only
  rw [run_seqs_cons, run_seqs_cons, run_seqs_cons, run_seqs_nil, run_modCe, run_stopTimer, run_modP0]
  rfl

/-- CAL_SET_COMMIT (R294). -/
def commitIfDue : Script := withDev fun d =>
  when (d.ce.due && d.ce.committing.isNone && d.configured && d.writesUp && !d.running .calRetry) startCommit

/-- A commit can start. -/
def Dev.commitDue (d : Dev) : Prop :=
  d.ce.due = true ∧ d.ce.committing = none ∧ d.configured = true ∧ d.writesUp = true ∧ d.deadline .calRetry = none

theorem commitDue_guard (d : Dev) :
    (d.ce.due && d.ce.committing.isNone && d.configured && d.writesUp && !d.running .calRetry) = true ↔ d.commitDue := by
  simp only [Dev.commitDue, Dev.running, Bool.and_eq_true, Option.isNone_iff_eq_none, Bool.not_eq_true', Option.isSome_eq_false_iff,
    and_assoc]

theorem run_commitIfDue {d : Dev} (h : d.commitDue) : commitIfDue.run d = d.commitStarted := by
  rw [commitIfDue, run_withDev, (commitDue_guard d).mpr h, run_when_true, run_startCommit]

theorem run_commitIfDue_not {d : Dev} (h : ¬d.commitDue) : commitIfDue.run d = d := by
  rw [commitIfDue, run_withDev, Bool.eq_false_iff.mpr (mt (commitDue_guard d).mp h), run_when_false]

/-- CAL_COMMIT_RETRY (R294), once its timer has run out. -/
def retryCommit : Script := withDev fun d => when d.ce.committing.isNone startCommit

theorem run_retryCommit {d : Dev} (h : d.ce.committing = none) : retryCommit.run d = startCommit.run d := by
  rw [retryCommit, run_withDev, h, Option.isNone_none, run_when_true]

theorem run_retryCommit_busy {d : Dev} (h : d.ce.committing ≠ none) : retryCommit.run d = d := by
  rw [retryCommit, run_withDev, Bool.eq_false_iff.mpr (mt Option.isNone_iff_eq_none.mp h), run_when_false]

/-! ### A commit ends (R293, R296) -/

/-- The parcel when a commit of `x` has ended well: the other slot is zero. -/
def Dev.committedP0 (d : Dev) (x : CalSet) : Parcel :=
  if d.nextIsB then { d.p0 with calA := none, calB := some x } else { d.p0 with calA := some x, calB := none }

/-- The block when a commit of `x` has ended well, before its registers show it. -/
def Dev.setStored (d : Dev) (x : CalSet) : Dev :=
  (d.apply (.ce { d.ce with committing := none, stored := x.entries })).apply (.p0 (d.committedP0 x))

/-- The block when a commit has failed, before its source and its retry. -/
def Dev.commitFailed (d : Dev) : Dev := (inc CE Reg.CE.STORE_FAIL).run
  ((d.apply (.ce { d.ce with committing := none })).apply (.reg (Reg.CE.STORE_ERR.at CE) 1))

section
variable {d : Dev} {x : CalSet}

theorem run_finishCommit_idle {ok : Bool} (h : d.ce.committing = none) : (finishCommit ok).run d = d := by
  rw [finishCommit, run_withDev, h, run_skip]

theorem run_finishCommit_stored (h : d.ce.committing = some x) :
    (finishCommit true).run d = (showSet x d.nextIsB).run (d.setStored x) := by
  rw [finishCommit, run_withDev, h]
  dsimp only
  simp only [if_true]
  rw [run_seqs_cons, run_seqs_cons, run_seqs_nil, run_seqs_cons, run_seqs_cons, run_seqs_nil, run_modCe, run_modP0]
  rfl

theorem run_finishCommit_failed (h : d.ce.committing = some x) : (finishCommit false).run d =
    (seqs [fireEvent CE 0 noScope [], startTimer .calRetry 491520000]).run d.commitFailed := by
  rw [finishCommit, run_withDev, h]
  dsimp only
  simp only [Bool.false_eq_true, if_false]
  rw [run_seqs_cons, run_seqs_cons, run_seqs_nil, run_seqs_cons, run_seqs_cons, run_modCe, run_putB, dtOfS, Nat.one_mul, Dev.commitFailed, b2n_true]

theorem commitFailed_err : d.commitFailed.rd CE Reg.CE.STORE_ERR = 1 := by
  rw [Dev.commitFailed, run_inc, rd_reg_field_ne _ _ (by decide), rd_reg_same]
  rfl

theorem commitFailed_counts : Counts d d.commitFailed CE Reg.CE.STORE_FAIL := by
  rw [Counts, Dev.commitFailed, rd_inc, rd_reg_field_ne _ _ (by decide)]
  rfl

end

/-- The digest of the set, as its sixteen fields show it. -/
def showDigest (x : CalSet) : Script := forEach (List.range 16) fun i =>
  upd (.reg (Reg.CE.SET_DIGEST.at CE i) (num (digest64 x.bytes) (4 * i) 4))

/-- The fields of the set in force beside its digest. -/
def Dev.setShown (d : Dev) (x : CalSet) (slotB : Bool) : Dev :=
  (((d.apply (.reg (Reg.CE.SET_VALID.at CE) 1)).apply (.reg (Reg.CE.SET_SLOT.at CE) (b2n slotB))).apply
    (.wide (Reg.CE.SET_SEQ_LO.at CE).key x.seq)).apply (.reg (Reg.CE.SET_SEQ_LO.at CE) (x.seq % 2 ^ 32))

section
variable (x : CalSet) (slotB : Bool) (d : Dev)

theorem run_showSet : (showSet x slotB).run d = (showDigest x).run (d.setShown x slotB) := by
  rw [showSet, run_seqs_cons, run_seqs_cons, run_seqs_cons, run_seqs_cons, run_seqs_nil, run_putB, run_putB, run_putLive, b2n_true,
    ← Dev.setShown]
  rfl

theorem showDigest_frame : (showDigest x).run d = { d with regs := ((showDigest x).run d).regs } := run_forEach_reg ..

/-- Showing a set changes the register file, and the live value of its SEQ. -/
theorem showSet_frame : (showSet x slotB).run d =
    { d with regs := ((showSet x slotB).run d).regs, wide := (d.setShown x slotB).wide } := by
  rw [run_showSet]
  exact showDigest_frame x (d.setShown x slotB)

theorem setShown_seq : (d.setShown x slotB).live CE Reg.CE.SET_SEQ_LO = x.seq % 2 ^ 64 := by
  rw [Dev.setShown, live_reg, live_wide_same]

theorem showSet_wide : ((showSet x slotB).run d).wide = (d.setShown x slotB).wide := by rw [showSet_frame]

theorem showSet_seq : ((showSet x slotB).run d).live CE Reg.CE.SET_SEQ_LO = x.seq % 2 ^ 64 := by
  rw [Dev.live, showSet_wide, ← Dev.live, setShown_seq]

theorem showSet_valid : ((showSet x slotB).run d).rd CE Reg.CE.SET_VALID = 1 := by
  rw [run_showSet, showDigest, Dev.rd, get_forEach_reg_ne (by decide), ← Dev.rd, Dev.setShown]
  simp (disch := decide) only [rd_reg_sibling, rd_wide, rd_reg_same]
  rfl

end

/-- Settles O45: the Steep and the reference are events at multiples of Device Time, and every end of a commit is one change of what
stands behind the registers. -/
theorem steepReferenceAndCommits : Obligations.SteepReferenceAndCommits := by
  unfold Obligations.SteepReferenceAndCommits
  refine ⟨fun s t h => ⟨fun hdue => ?tick, fun hno => ?noTick, fun hdue hconf hen => ⟨fun hok => ?accepted, fun hok => ?broken⟩,
      fun hdue hno => ?unused, fun hno => ?noSecond⟩,
    fun d a b => secondOk_enough, fun s h => ⟨fun t0 ht => ⟨fun hen hst => ?toHold, fun hno => ?noHold⟩, fun hno => ?noTimer⟩,
    fun s h hdue hfree hconf hup htimer => ?commits, fun s h hno => ?noCommit, fun s ok h hno => ?noEnd,
    fun s x h hset => ⟨?stored, ?failed⟩, fun s t0 h ht hfree => ?retries,
    fun s h => ⟨fun t0 ht hbusy => ?busy, fun hno => ?noRetry⟩⟩
  case tick =>
    exact does_of (p := steepTick t) rfl h _ (run_steepTick_due hdue)
      ⟨⟨ticked_clock .., ticked_ticksAt .., ticked_regs ..⟩, ticked_ce ..⟩
  case noTick => exact does_nothing (p := steepTick t) rfl h (run_onMultiple_not_due _ hno)
  case accepted =>
    have hrun := run_refSecond_used hdue hconf hen
    rw [followReference_accepted hok] at hrun
    exact does_of (p := refSecond t) rfl h _ hrun ⟨secondOver_ticked .., rfl⟩
  case broken =>
    exact does_of (p := refSecond t) rfl h _ ((run_refSecond_used hdue hconf hen).trans (run_followReference_broken hok))
      ⟨rowBroken_ticked .., rfl⟩
  case unused => exact does_at (p := refSecond t) rfl h (run_refSecond_unused hdue hno) ⟨secondOver_ticked .., rfl⟩
  case noSecond => exact does_nothing (p := refSecond t) rfl h (run_onMultiple_not_due _ hno)
  case toHold =>
    refine does_of (p := onExpiry .refHold refHoldEntry) rfl h _ ((run_onExpiry_expired _ ht).trans (run_refHoldEntry_disc ?_ ?_))
      ⟨?_, expired_deadline s.dev .refHold t0, rfl⟩
    · rwa [expired_rd]
    · rwa [expired_rd]
    · rw [expired_ce]
      rfl
  case noHold =>
    refine does_at (p := onExpiry .refHold refHoldEntry) rfl h ((run_onExpiry_expired _ ht).trans (run_refHoldEntry_other ?_))
      ⟨expired_ce .., expired_deadline .., expired_clock .., expired_regs ..⟩
    rwa [expired_rd, expired_rd]
  case noTimer => exact does_nothing (p := onExpiry .refHold refHoldEntry) rfl h (run_onExpiry_none _ hno)
  case commits =>
    refine does_at (p := commitIfDue) rfl h (run_commitIfDue ⟨hdue, hfree, hconf, hup, htimer⟩)
      ⟨rfl, ⟨s.dev.nextSet, rfl, rfl, rfl, nextSet_seq _⟩, ?_⟩
    simp only [← nextIsB_iff]
    rfl
  case noCommit =>
    refine does_nothing (p := commitIfDue) rfl h (run_commitIfDue_not fun ⟨hdue, hfree, hconf, hup, htimer⟩ => ?_)
    simp [hdue, hfree, hconf, hup, htimer] at hno
  case noEnd => exact does_nothing (p := finishCommit ok) rfl h (run_finishCommit_idle hno)
  case stored =>
    refine does_at (p := finishCommit true) rfl h (run_finishCommit_stored hset) ⟨?_, showSet_valid .., showSet_seq .., ?_⟩
    · rw [showSet_frame]
      rfl
    · rw [showSet_frame]
      simp only [← nextIsB_iff]
      rfl
  case failed =>
    exact does_of (p := finishCommit false) rfl h _ (run_finishCommit_failed hset) ⟨rfl, rfl, commitFailed_err, commitFailed_counts⟩
  case retries =>
    refine does_of (p := onExpiry .calRetry retryCommit) rfl h _ ((run_onExpiry_expired _ ht).trans (run_retryCommit ?_))
      ⟨expired_deadline .., expired_clock .., expired_regs ..⟩
    rwa [expired_ce]
  case busy =>
    refine does_at (p := onExpiry .calRetry retryCommit) rfl h ((run_onExpiry_expired _ ht).trans (run_retryCommit_busy ?_))
      ⟨expired_deadline .., expired_clock .., expired_regs .., reach_p0 ..⟩
    rwa [expired_ce]
  case noRetry => exact does_nothing (p := onExpiry .calRetry retryCommit) rfl h (run_onExpiry_none _ hno)

end Sys2Proof.Machine

namespace Sys2Proof.Machine

/-! ### What a record leaves alone -/

section
variable {α : Type} {f : Dev → α} (hreg : ∀ d r v, f (d.apply (.reg r v)) = f d) (hev : ∀ d x, f (d.apply (.ev x)) = f d)
include hreg hev

theorem setEv_keeps (hwide : ∀ d k v, f (d.apply (.wide k v)) = f d) (g : Recorder → Recorder) : Keeps f (setEv g) := by
  refine keeps_withDev fun _ => keeps_seqs ?_
  simp only [List.forall_mem_cons, List.not_mem_nil, false_imp_iff, implies_true, and_true]
  have field (h : Fld) (w : Nat) : Keeps f (put EV h w) := fun d => hreg d _ _
  have live (h : Fld) (w : Nat) : Keeps f (putLive EV h w) := keeps_andThen (fun d => hwide d _ _) (keeps_andThen (field _ _) keeps_skip)
  exact ⟨fun d => hev d _, field _ _, field _ _, field _ _, field _ _, live _ _, live _ _, field _ _⟩

/-- The captures that a trigger starts change the recorder, its registers, the signals that captures gather and their timers. -/
theorem trigger_keeps (hplane : ∀ d x, f (d.apply (.plane x)) = f d) (htimer : ∀ d c, f (d.apply (.disarm c)) = f d)
    (kind u code t : Nat) : Keeps f (trigger kind u code t) := by
  refine keeps_withDev fun d => keeps_when (keeps_seqs ?_)
  simp only [List.forall_mem_cons, List.not_mem_nil, false_imp_iff, implies_true, and_true]
  refine ⟨keeps_forEach fun c => keeps_withDev fun x => keeps_seqs ?_, keeps_withDev fun x => keeps_when (keeps_seqs ?_)⟩
  all_goals simp only [List.forall_mem_cons, List.not_mem_nil, false_imp_iff, implies_true, and_true]
  · exact ⟨fun d => hev d _, fun d => hplane d _, fun d => hreg d _ _, fun d => hreg d _ _, fun d => htimer d _⟩
  · exact ⟨fun d => hev d _, fun d => hreg d _ _, fun d => hreg d _ _⟩

variable (hwide : ∀ d k v, f (d.apply (.wide k v)) = f d) (hplane : ∀ d x, f (d.apply (.plane x)) = f d)
  (htimer : ∀ d c, f (d.apply (.disarm c)) = f d)
include hwide hplane htimer

theorem enqueue_keeps (r : Rec) : Keeps f (enqueue r) := by
  refine keeps_withDev fun d => ?_
  dsimp only
  split
  case h_1 => exact keeps_andThen (setEv_keeps hreg hev hwide _) (keeps_andThen (fun d => hreg d _ _) keeps_skip)
  case h_2 =>
    refine keeps_ite (keeps_seqs ?taken) (keeps_withDev fun x => keeps_seqs ?lost)
    all_goals simp only [List.forall_mem_cons, List.not_mem_nil, false_imp_iff, implies_true, and_true]
    case taken =>
      exact ⟨keeps_when fun d => hreg d _ _, setEv_keeps hreg hev hwide _, trigger_keeps hreg hev hplane htimer _ _ _ _⟩
    case lost => exact ⟨keeps_ite (fun d => hreg d _ _) (fun d => hreg d _ _), fun d => hev d _⟩

theorem createRec_keeps (r : Rec) : Keeps f (createRec r) := by
  have flag (g : Fld) : Keeps f (putB EV g true) := fun d => hreg d _ _
  have enq (r : Rec) : Keeps f (enqueue r) := enqueue_keeps hreg hev hwide hplane htimer r
  refine keeps_withDev fun d => keeps_ite keeps_skip (keeps_ite (enq r) (keeps_ite (enq _) (keeps_ite (keeps_seqs ?_)
    (keeps_ite (keeps_seqs ?_) (enq r)))))
  all_goals simp only [List.forall_mem_cons, List.not_mem_nil, false_imp_iff, implies_true, and_true]
  · exact ⟨keeps_when (enq _), flag _, enq _⟩
  · exact ⟨enq _, flag _, flag _, enq _⟩

/-- Showing a validation's result changes registers, and a failed one makes a record. -/
theorem showValidation_keeps (v : Option ValErr) (kindling : Bool) : Keeps f (showValidation v kindling) := by
  refine keeps_seqs ?_
  simp only [List.forall_mem_cons, List.not_mem_nil, false_imp_iff, implies_true, and_true]
  have field (g : Fld) (w : Nat) : Keeps f (put CC g w) := fun d => hreg d _ _
  exact ⟨field _ _, field _ _, field _ _, field _ _, field _ _, field _ _, field _ _, field _ _, field _ _,
    keeps_when (createRec_keeps hreg hev hwide hplane htimer _)⟩

end

theorem showValidation_keeps_p0 (v : Option ValErr) (kindling : Bool) : Keeps Dev.p0 (showValidation v kindling) :=
  showValidation_keeps reg_p0 (fun _ _ => rfl) (fun _ _ _ => rfl) (fun _ _ => rfl) disarm_p0 v kindling
theorem showValidation_keeps_cc (v : Option ValErr) (kindling : Bool) : Keeps Dev.cc (showValidation v kindling) :=
  showValidation_keeps reg_cc (fun _ _ => rfl) (fun _ _ _ => rfl) (fun _ _ => rfl) disarm_cc v kindling

/-- PASSED shows whether the validation found no error (R321). -/
theorem showValidation_passed (v : Option ValErr) (kindling : Bool) (d : Dev) :
    ((showValidation v kindling).run d).rd CC Reg.CC.PASSED = b2n v.isNone := by
  have hrec (p : List Byte) (e : Dev) :
      ((when v.isSome (auditRec CC 0x41 p)).run e).rd CC Reg.CC.PASSED = e.rd CC Reg.CC.PASSED :=
    keeps_when (f := fun e : Dev => e.rd CC Reg.CC.PASSED) (createRec_keeps_rd (by decide) (by decide) (by decide) _) e
  simp only [showValidation, run_seqs_cons, run_seqs_nil]
  rw [hrec]
  simp (disch := decide) only [run_put, run_putB, rd_reg_sibling, rd_reg_same, b2n_mod]

end Sys2Proof.Machine

namespace Sys2Proof.Machine

/-! ### Commands that the Config Controller takes up -/

theorem takeUp_keeps_p0 (tag : Nat) : Keeps Dev.p0 (takeUp tag) := setCmds_keeps reg_p0 (fun _ _ => rfl) _
theorem takeUp_keeps_cc (tag : Nat) : Keeps Dev.cc (takeUp tag) := setCmds_keeps reg_cc (fun _ _ => rfl) _

theorem dirNow_of_p0 {d e : Dev} (h : e.p0 = d.p0) : e.dirNow = d.dirNow := by rw [Dev.dirNow, h, ← Dev.dirNow]

/-- The block with an operation's directory write asked for. -/
def Dev.dirAsked (d : Dev) (op : DirOp) : Dev := d.apply (.cc { d.cc with ops := d.cc.ops ++ [op] })

theorem rd_dirAsked (d : Dev) (op : DirOp) (u i j : Nat) (f : Fld) : (d.dirAsked op).rd u f i j = d.rd u f i j := rfl

theorem run_requestDir (op : DirOp) (d : Dev) : (requestDir op).run d = d.dirAsked op := rfl

/-- The block when the command of a tag is taken up and its operation asked for. -/
def Dev.takenFor (d : Dev) (tag : Nat) (op : DirOp) : Dev := ((takeUp tag).run d).dirAsked op

/-- The same for one that leads to a transition, in progress from now on (R80). -/
def Dev.transitionFor (d : Dev) (tag : Nat) (op : DirOp) : Dev :=
  (((takeUp tag).run d).apply (.reg (Reg.MC.TRANSITION.at MC) 1)).dirAsked op

section
variable {d : Dev} {tag : Nat} {op : DirOp}

theorem takenFor_cc (hops : d.cc.ops = []) : (d.takenFor tag op).cc = { d.cc with ops := [op] } := by
  calc (d.takenFor tag op).cc
      = { ((takeUp tag).run d).cc with ops := ((takeUp tag).run d).cc.ops ++ [op] } := rfl
    _ = { d.cc with ops := [op] } := by rw [takeUp_keeps_cc, hops, List.nil_append]

theorem takenFor_p0 : (d.takenFor tag op).p0 = d.p0 := takeUp_keeps_p0 tag d

theorem transitionFor_cc (hops : d.cc.ops = []) : (d.transitionFor tag op).cc = { d.cc with ops := [op] } :=
  takenFor_cc (tag := tag) hops

theorem transitionFor_p0 : (d.transitionFor tag op).p0 = d.p0 := takeUp_keeps_p0 tag d

theorem transitionFor_shown : (d.transitionFor tag op).rd MC Reg.MC.TRANSITION = 1 := (rd_dirAsked ..).trans (rd_reg_same ..)

end

/-! ### The bytes of a slot -/

/-- The parcel with the bytes of one slot changed. -/
def Parcel.withSlot (p : Parcel) (i : Nat) (bs : List Byte) : Parcel :=
  if i = 0 then { p with slot0 := bs } else if i = 1 then { p with slot1 := bs } else { p with slot2 := bs }

theorem run_setSlotBytes (i : Nat) (bs : List Byte) (d : Dev) : (setSlotBytes i bs).run d = d.apply (.p0 (d.p0.withSlot i bs)) := rfl

theorem slotBytes_withSlot_same (p : Parcel) (i : Nat) (bs : List Byte) : (p.withSlot i bs).slotBytes i = bs := by
  by_cases h0 : i = 0
  · simp only [Parcel.withSlot, Parcel.slotBytes, if_pos h0]
  · by_cases h1 : i = 1
    · simp only [Parcel.withSlot, Parcel.slotBytes, if_neg h0, if_pos h1]
    · simp only [Parcel.withSlot, Parcel.slotBytes, if_neg h0, if_neg h1]

theorem slotBytes_withSlot_ne (p : Parcel) {i k : Nat} (bs : List Byte) (hi : i < 3) (hk : k < 3) (h : k ≠ i) :
    (p.withSlot i bs).slotBytes k = p.slotBytes k := by
  obtain rfl | rfl | rfl : i = 0 ∨ i = 1 ∨ i = 2 := by omega
  · simp only [Parcel.withSlot, Parcel.slotBytes, if_true, if_neg h]
  · simp only [Parcel.withSlot, Parcel.slotBytes, Nat.one_ne_zero, if_true, if_false, if_neg h]
  · obtain rfl | rfl : k = 0 ∨ k = 1 := by omega
    · rfl
    · rfl

end Sys2Proof.Machine

namespace Sys2Proof.Machine

/-! ### STAGE (R311) -/

/-- STAGE is allowed in this mode. -/
def Dev.stageMode (d : Dev) : Prop :=
  d.modeIn [.banked, .carry, .backoff, .ember, .service] = true ∨ (d.mode = .cold ∧ d.rd WS Reg.WS.READY ≠ 0)

/-- The data of a STAGE follow what is staged, and fit the slot. -/
def Dev.stageFollows (d : Dev) (off n : Nat) : Prop := (off = 0 ∨ off = d.rd CC Reg.CC.STAGE_BYTES) ∧ off + n ≤ 4194304

theorem stageMode_guard (d : Dev) :
    (!d.modeIn [.cold, .banked, .carry, .backoff, .ember, .service] || (d.mode == .cold && !d.is WS Reg.WS.READY)) = true ↔
      ¬d.stageMode := by
  by_cases hcold : d.mode = .cold
  · simp [Dev.stageMode, Dev.modeIn, Dev.is, hcold]
  · simp [Dev.stageMode, Dev.modeIn, hcold]

theorem stageFollows_guard (d : Dev) (off n : Nat) :
    ((off ≠ 0 ∧ off ≠ d.rd CC Reg.CC.STAGE_BYTES) ∨ off + n > 4194304) ↔ ¬d.stageFollows off n := by
  rw [Dev.stageFollows, Classical.not_and_iff_not_or_not, not_or, Nat.not_le]

section
variable {d : Dev} {tag : Nat} {data : List Byte} {ok : Bool}

theorem run_stage_absent (h : (∀ c, d.passed tag 0x01 = some c → data.length ≠ c.len) ∨ d.cc.ops ≠ []) :
    (stage tag data ok).run d = d := by
  rw [stage, run_withDev]
  split
  case h_1 => rfl
  case h_2 c hc =>
    have hoff : (data.length == c.len && d.cc.ops.isEmpty) = false := by
      rcases h with hlen | hops
      · rw [beq_eq_false_iff_ne.mpr (hlen c hc), Bool.false_and]
      · rw [List.isEmpty_eq_false_iff.mpr hops, Bool.and_false]
    dsimp only
    rw [hoff, run_when_false]

variable {c : Cmd} (h : d.passed tag 0x01 = some c) (hlen : data.length = c.len) (hops : d.cc.ops = [])
include h hlen hops

/-- The checks of a STAGE that is there, in their order. -/
theorem run_stage_passed : (stage tag data ok).run d = Script.run
    (if !d.modeIn [.cold, .banked, .carry, .backoff, .ember, .service] || (d.mode == .cold && !d.is WS Reg.WS.READY) then
      ccComplete tag ccMode 0
    else if (c.par 24 4 ≠ 0 ∧ c.par 24 4 ≠ d.rd CC Reg.CC.STAGE_BYTES) ∨ c.par 24 4 + data.length > 4194304 then
      ccComplete tag ccSequence 0
    else if d.cc.validating.isSome then ccComplete tag ccBusy 0
    else when d.writesUp (seqs [takeUp tag,
      if c.par 24 4 = 0 then requestDir (.stageBegin tag data ((c.par 28 1).testBit 0) ok)
      else stageData tag (c.par 24 4) data ((c.par 28 1).testBit 0) ok])) d := by
  rw [stage, run_withDev, h]
  dsimp only
  rw [hlen, beq_self_eq_true, hops, List.isEmpty_nil, Bool.and_self, run_when_true]

theorem run_stage_mode (hmode : ¬d.stageMode) : (stage tag data ok).run d = (ccComplete tag ccMode 0).run d := by
  rw [run_stage_passed h hlen hops, if_pos ((stageMode_guard d).mpr hmode)]

variable (hmode : d.stageMode)
include hmode

theorem run_stage_sequence (hseq : ¬d.stageFollows (c.par 24 4) data.length) :
    (stage tag data ok).run d = (ccComplete tag ccSequence 0).run d := by
  rw [run_stage_passed h hlen hops, if_neg (mt (stageMode_guard d).mp (not_not_intro hmode)),
    if_pos ((stageFollows_guard ..).mpr hseq)]

variable (hseq : d.stageFollows (c.par 24 4) data.length)
include hseq

theorem run_stage_busy (hval : d.cc.validating ≠ none) : (stage tag data ok).run d = (ccComplete tag ccBusy 0).run d := by
  rw [run_stage_passed h hlen hops, if_neg (mt (stageMode_guard d).mp (not_not_intro hmode)),
    if_neg (mt (stageFollows_guard ..).mp (not_not_intro hseq)), if_pos (Option.isSome_iff_ne_none.mpr hval)]

variable (hval : d.cc.validating = none)
include hval

theorem run_stage_free : (stage tag data ok).run d = (when d.writesUp (seqs [takeUp tag,
    if c.par 24 4 = 0 then requestDir (.stageBegin tag data ((c.par 28 1).testBit 0) ok)
    else stageData tag (c.par 24 4) data ((c.par 28 1).testBit 0) ok])).run d := by
  rw [run_stage_passed h hlen hops, if_neg (mt (stageMode_guard d).mp (not_not_intro hmode)),
    if_neg (mt (stageFollows_guard ..).mp (not_not_intro hseq)), hval, Option.isSome_none, if_neg Bool.false_ne_true]

theorem run_stage_waits (hup : d.writesUp = false) : (stage tag data ok).run d = d := by
  rw [run_stage_free h hlen hops hmode hseq hval, hup, run_when_false]

variable (hup : d.writesUp = true)
include hup

theorem run_stage_first (hoff : c.par 24 4 = 0) :
    (stage tag data ok).run d = d.takenFor tag (.stageBegin tag data ((c.par 28 1).testBit 0) ok) := by
  rw [run_stage_free h hlen hops hmode hseq hval, hup, run_when_true, if_pos hoff, run_seqs_cons, run_seqs_cons, run_seqs_nil,
    run_requestDir, Dev.takenFor]

theorem run_stage_later (hoff : c.par 24 4 ≠ 0) : (stage tag data ok).run d =
    (stageData tag (c.par 24 4) data ((c.par 28 1).testBit 0) ok).run ((takeUp tag).run d) := by
  rw [run_stage_free h hlen hops hmode hseq hval, hup, run_when_true, if_neg hoff, run_seqs_cons, run_seqs_cons, run_seqs_nil]

end

/-! ### Data reach the staged slot (R311) -/

/-- The block with data at an offset of the staged slot, and its registers showing so. -/
def Dev.dataStaged (d : Dev) (off : Nat) (data : List Byte) (final : Bool) : Dev :=
  ((d.apply (.p0 (d.p0.withSlot d.dirNow.stg (stagedBytes (d.p0.slotBytes d.dirNow.stg) off data)))).apply
    (.reg (Reg.CC.STAGE_BYTES.at CC) (off + data.length))).apply (.reg (Reg.CC.STAGE_STATE.at CC) (if final then 2 else 1))

section
variable {d : Dev} {tag off : Nat} {data : List Byte} {final : Bool}

theorem run_stageData_fails : (stageData tag off data final false).run d = (ccComplete tag ccMedia 0).run d := rfl

theorem run_stageData_stored : (stageData tag off data final true).run d =
    Script.run (if final then seqs [modCc fun c => { c with validating := some tag }, requestSign .container]
      else ccComplete tag 0 (off + data.length)) (d.dataStaged off data final) := by
  rw [stageData, run_withDev]
  dsimp only
  rw [Bool.not_true, if_neg Bool.false_ne_true, run_seqs_cons, run_seqs_cons, run_seqs_cons, run_seqs_cons, run_seqs_nil,
    run_setSlotBytes, run_put, run_put, Dev.dataStaged]

theorem dataStaged_slot :
    (d.dataStaged off data final).p0.slotBytes d.dirNow.stg = stagedBytes (d.p0.slotBytes d.dirNow.stg) off data :=
  slotBytes_withSlot_same ..

theorem dataStaged_other {k : Nat} (hi : d.dirNow.stg < 3) (hk : k < 3) (hne : k ≠ d.dirNow.stg) :
    (d.dataStaged off data final).p0.slotBytes k = d.p0.slotBytes k :=
  slotBytes_withSlot_ne _ _ hi hk hne

theorem dataStaged_bytes (hfit : off + data.length ≤ 4194304) :
    (d.dataStaged off data final).rd CC Reg.CC.STAGE_BYTES = off + data.length := by
  have hwidth : off + data.length < 2 ^ Reg.CC.STAGE_BYTES.width := Nat.lt_of_le_of_lt hfit (by decide)
  rw [Dev.dataStaged, rd_reg_field_ne _ _ (by decide), rd_reg_same, Nat.mod_eq_of_lt hwidth]

theorem dataStaged_state : (d.dataStaged off data final).rd CC Reg.CC.STAGE_STATE = if final then 2 else 1 := by
  rw [Dev.dataStaged, rd_reg_same]
  cases final <;> rfl

end

end Sys2Proof.Machine

namespace Sys2Proof.Machine

/-! ### The validation ends (R311) -/

/-- What the validation of the staged slot finds (R307). -/
def Dev.stagedError (d : Dev) : Option ValErr := d.validate (d.p0.slotBytes d.dirNow.stg) (d.rd CC Reg.CC.STAGE_BYTES)

/-- The block when the validation of the staged slot has ended with `v`. -/
def Dev.stageJudged (d : Dev) (tag : Nat) (v : Option ValErr) : Dev :=
  (((showValidation v false).run d).apply (.reg (Reg.CC.STAGE_STATE.at CC) (if v.isNone then 3 else 4))).dirAsked
    (.stageEnd tag v.isNone)

section
variable {d : Dev} {tag : Nat}

theorem run_stageValidated_ends (hval : d.cc.validating = some tag) (hend : d.stageEnding = false) (hcheck : d.checking = false) :
    stageValidated.run d = d.stageJudged tag d.stagedError := by
  rw [stageValidated, run_withDev, hval]
  dsimp only
  rw [hend, hcheck, Bool.not_false, Bool.and_self, run_when_true, run_seqs_cons, run_seqs_cons, run_seqs_cons, run_seqs_nil, run_put,
    run_requestDir, ← Dev.stagedError, Dev.stageJudged]

theorem run_stageValidated_waits (h : d.cc.validating = none ∨ d.stageEnding = true ∨ d.checking = true) :
    stageValidated.run d = d := by
  rw [stageValidated, run_withDev]
  split
  case h_1 => rfl
  case h_2 hval =>
    have hoff : (!d.stageEnding && !d.checking) = false := by
      rcases h with hnone | hend | hcheck
      · rw [hval] at hnone
        cases hnone
      · rw [hend, Bool.not_true, Bool.false_and]
      · rw [hcheck, Bool.not_true, Bool.and_false]
    rw [hoff, run_when_false]

variable {v : Option ValErr}

theorem stageJudged_state : (d.stageJudged tag v).rd CC Reg.CC.STAGE_STATE = if v = none then 3 else 4 := by
  rw [Dev.stageJudged, rd_dirAsked, rd_reg_same]
  cases v <;> rfl

theorem stageJudged_passed : (d.stageJudged tag v).rd CC Reg.CC.PASSED = b2n v.isNone := by
  rw [Dev.stageJudged, rd_dirAsked, rd_reg_field_ne _ _ (by decide), showValidation_passed]

theorem stageJudged_p0 : (d.stageJudged tag v).p0 = d.p0 := showValidation_keeps_p0 v false d

theorem stageJudged_cc : (d.stageJudged tag v).cc = { d.cc with ops := d.cc.ops ++ [.stageEnd tag v.isNone] } := by
  calc (d.stageJudged tag v).cc
      = { ((showValidation v false).run d).cc with ops := ((showValidation v false).run d).cc.ops ++ [.stageEnd tag v.isNone] } := rfl
    _ = _ := by rw [showValidation_keeps_cc]

end

/-! ### COMMIT, CONFIRM and REVERT (R311, R315) -/

section
variable {d : Dev} {tag : Nat}

theorem run_commit_waits (h : d.passed tag 0x02 = none ∨ d.cc.ops ≠ []) : (commit tag).run d = d := by
  rw [commit, run_withDev]
  split
  case h_1 => rfl
  case h_2 hc => rw [List.isEmpty_eq_false_iff.mpr (h.resolve_left (hc ▸ Option.some_ne_none _)), run_when_false]

theorem run_confirm_waits (h : d.passed tag 0x03 = none ∨ (d.cc.ops ≠ [] ∧ d.autoReverting = false)) : (confirm tag).run d = d := by
  rw [confirm, run_withDev]
  split
  case h_1 => rfl
  case h_2 hc =>
    obtain ⟨hops, hauto⟩ := h.resolve_left (hc ▸ Option.some_ne_none _)
    rw [List.isEmpty_eq_false_iff.mpr hops, hauto, Bool.or_self, run_when_false]

theorem run_revert_waits (h : d.passed tag 0x04 = none ∨ d.cc.ops ≠ []) : (revert tag).run d = d := by
  rw [revert, run_withDev]
  dsimp only
  split
  case h_1 => rfl
  case h_2 hc => rw [List.isEmpty_eq_false_iff.mpr (h.resolve_left (hc ▸ Option.some_ne_none _)), run_when_false]

variable {c : Cmd}

/-- The checks of a COMMIT that is there, in their order. -/
theorem run_commit_passed (h : d.passed tag 0x02 = some c) (hops : d.cc.ops = []) : (commit tag).run d =
    if d.mode ≠ .banked then (ccComplete tag ccMode 0).run d
    else if d.dirNow.probation = true then (ccComplete tag ccProbation 0).run d
    else if d.dirNow.stateOf (some d.dirNow.stg) ≠ 2 then (ccComplete tag ccNoStaged 0).run d
    else d.transitionFor tag (.commit tag) := by
  rw [commit, run_withDev, h]
  dsimp only
  rw [hops, List.isEmpty_nil, run_when_true, run_ite, run_ite, run_ite, run_seqs_cons, run_seqs_cons, run_seqs_cons, run_seqs_nil,
    run_putB, run_requestDir, b2n_true, ← Dev.transitionFor]

/-- The checks of a CONFIRM that is there, in their order. -/
theorem run_confirm_passed (h : d.passed tag 0x03 = some c) (hops : d.cc.ops = [] ∨ d.autoReverting = true) : (confirm tag).run d =
    if d.modeIn [.banked, .survey, .carry, .backoff, .ember, .service] = false then (ccComplete tag ccMode 0).run d
    else if d.dirNow.probation = false then (ccComplete tag ccNotOnProbation 0).run d
    else if d.autoReverting = true then (ccComplete tag ccBusy 0).run d
    else d.takenFor tag (.confirm tag) := by
  have hon : (d.cc.ops.isEmpty || d.autoReverting) = true := Bool.or_eq_true_iff.mpr (hops.imp_left List.isEmpty_iff.mpr)
  rw [confirm, run_withDev, h]
  dsimp only
  rw [hon, run_when_true, run_ite, run_ite, run_ite, run_seqs_cons, run_seqs_cons, run_seqs_nil, run_requestDir, ← Dev.takenFor]
  simp only [Bool.not_eq_true']

/-- The checks of a REVERT that is there, in their order. -/
theorem run_revert_passed (h : d.passed tag 0x04 = some c) (hops : d.cc.ops = []) : (revert tag).run d =
    if d.mode ≠ .banked then (ccComplete tag ccMode 0).run d
    else if d.dirNow.stateOf d.dirNow.prev ≠ 3 then (ccComplete tag ccNoPrevious 0).run d
    else if (d.dirNow.prev.any fun i => decide ((d.dirNow.slot i).secVer < d.floor)) = true then (ccComplete tag ccFloor 0).run d
    else d.transitionFor tag (.revert tag) := by
  rw [revert, run_withDev]
  dsimp only
  rw [h]
  dsimp only
  rw [hops, List.isEmpty_nil, run_when_true, run_ite, run_ite, run_ite, run_seqs_cons, run_seqs_cons, run_seqs_cons, run_seqs_nil,
    run_putB, run_requestDir, b2n_true, ← Dev.transitionFor]

end

/-- Settles O40: a STAGE makes its checks in order and then waits, asks, or writes; its validation and the three slot commands end in one
change of the block with their operation asked for. -/
theorem stagingAndSlotCommands : Obligations.StagingAndSlotCommands := by
  unfold Obligations.StagingAndSlotCommands
  refine ⟨fun s tag data ok c h hc hlen hops => ⟨fun hmode => ?stageMode, fun hmode hseq => ?stageSequence,
      fun hmode hseq hval => ?stageBusy, fun hmode hseq hval hup => ?stageWaits,
      fun hmode hseq hval hup => ⟨fun hoff => ?first, fun hoff hok => ?laterFails, fun hoff hok hi => ?later⟩⟩,
    fun s tag data ok h hno => ?noStage, fun s tag h hval hend hcheck => ?validated, fun s h hno => ?noValidation,
    fun s tag c h => ⟨fun hc hops => ⟨fun hmode => ?commitMode, fun hmode hprob => ?commitProbation, fun hmode hprob hst => ?commitNoStaged,
        fun hmode hprob hst => ?commits⟩,
      fun hc hops => ⟨fun hmode => ?confirmMode, fun hmode hprob => ?confirmNone, fun hmode hprob hauto => ?confirmBusy,
        fun hmode hprob hauto => ?confirms⟩,
      fun hc hops => ⟨fun hmode => ?revertMode, fun hmode hst => ?revertNoPrevious, fun hmode hst hlow => ?revertFloor,
        fun hmode hst hlow => ?reverts⟩,
      fun hno => ?noCommit, fun hno => ?noConfirm, fun hno => ?noRevert⟩⟩
  case stageMode => exact does_of (p := stage tag data ok) rfl h _ (run_stage_mode hc hlen hops hmode) rfl
  case stageSequence => exact does_of (p := stage tag data ok) rfl h _ (run_stage_sequence hc hlen hops hmode hseq) rfl
  case stageBusy => exact does_of (p := stage tag data ok) rfl h _ (run_stage_busy hc hlen hops hmode hseq hval) rfl
  case stageWaits => exact does_nothing (p := stage tag data ok) rfl h (run_stage_waits hc hlen hops hmode hseq hval hup)
  case first =>
    exact does_at (p := stage tag data ok) rfl h (run_stage_first hc hlen hops hmode hseq hval hup hoff)
      ⟨takenFor_cc hops, takenFor_p0, rfl⟩
  case laterFails =>
    subst hok
    exact does_of (p := stage tag data false) rfl h _ (run_stage_later hc hlen hops hmode hseq hval hup hoff) rfl
  case later =>
    subst hok
    have ⟨_, hfit⟩ := hseq
    have hp0 : ((takeUp tag).run s.dev).p0 = s.dev.p0 := takeUp_keeps_p0 tag s.dev
    have hdir : ((takeUp tag).run s.dev).dirNow = s.dev.dirNow := dirNow_of_p0 hp0
    refine does_of (p := stage tag data true) rfl h _
      ((run_stage_later hc hlen hops hmode hseq hval hup hoff).trans run_stageData_stored)
      ⟨?_, fun k hk hne => ?_, dataStaged_bytes hfit, dataStaged_state⟩
    · rw [← hdir, dataStaged_slot, hp0]
    · rw [← hdir] at hi hne
      rw [dataStaged_other hi hk hne, hp0]
  case noStage => exact does_nothing (p := stage tag data ok) rfl h (run_stage_absent hno)
  case validated =>
    exact does_at (p := stageValidated) rfl h (run_stageValidated_ends hval hend hcheck)
      ⟨stageJudged_state, stageJudged_passed, stageJudged_p0, stageJudged_cc⟩
  case noValidation => exact does_nothing (p := stageValidated) rfl h (run_stageValidated_waits hno)
  case commitMode => exact does_of (p := commit tag) rfl h _ ((run_commit_passed hc hops).trans (if_pos hmode)) rfl
  case commitProbation =>
    refine does_of (p := commit tag) rfl h _ ((run_commit_passed hc hops).trans ?_) rfl
    rw [if_neg (not_not_intro hmode), if_pos hprob]
  case commitNoStaged =>
    refine does_of (p := commit tag) rfl h _ ((run_commit_passed hc hops).trans ?_) rfl
    rw [if_neg (not_not_intro hmode), if_neg (Bool.eq_false_iff.mp hprob), if_pos hst]
  case commits =>
    refine does_at (p := commit tag) rfl h ((run_commit_passed hc hops).trans ?_)
      ⟨transitionFor_cc (tag := tag) hops, transitionFor_shown, transitionFor_p0⟩
    rw [if_neg (not_not_intro hmode), if_neg (Bool.eq_false_iff.mp hprob), if_neg (not_not_intro hst)]
  case confirmMode => exact does_of (p := confirm tag) rfl h _ ((run_confirm_passed hc hops).trans (if_pos hmode)) rfl
  case confirmNone =>
    refine does_of (p := confirm tag) rfl h _ ((run_confirm_passed hc hops).trans ?_) rfl
    rw [if_neg (Bool.ne_false_iff.mpr hmode), if_pos hprob]
  case confirmBusy =>
    refine does_of (p := confirm tag) rfl h _ ((run_confirm_passed hc hops).trans ?_) rfl
    rw [if_neg (Bool.ne_false_iff.mpr hmode), if_neg (Bool.ne_false_iff.mpr hprob), if_pos hauto]
  case confirms =>
    have hempty : s.dev.cc.ops = [] := hops.resolve_right (Bool.eq_false_iff.mp hauto)
    refine does_at (p := confirm tag) rfl h ((run_confirm_passed hc hops).trans ?_) ⟨takenFor_cc (tag := tag) hempty, takenFor_p0⟩
    rw [if_neg (Bool.ne_false_iff.mpr hmode), if_neg (Bool.ne_false_iff.mpr hprob), if_neg (Bool.eq_false_iff.mp hauto)]
  case revertMode => exact does_of (p := revert tag) rfl h _ ((run_revert_passed hc hops).trans (if_pos hmode)) rfl
  case revertNoPrevious =>
    refine does_of (p := revert tag) rfl h _ ((run_revert_passed hc hops).trans ?_) rfl
    rw [if_neg (not_not_intro hmode), if_pos hst]
  case revertFloor =>
    refine does_of (p := revert tag) rfl h _ ((run_revert_passed hc hops).trans ?_) rfl
    rw [if_neg (not_not_intro hmode), if_neg (not_not_intro hst), if_pos hlow]
  case reverts =>
    refine does_at (p := revert tag) rfl h ((run_revert_passed hc hops).trans ?_)
      ⟨transitionFor_cc (tag := tag) hops, transitionFor_shown, transitionFor_p0⟩
    rw [if_neg (not_not_intro hmode), if_neg (not_not_intro hst), if_neg (Bool.eq_false_iff.mp hlow)]
  case noCommit => exact does_nothing (p := commit tag) rfl h (run_commit_waits hno)
  case noConfirm => exact does_nothing (p := confirm tag) rfl h (run_confirm_waits hno)
  case noRevert => exact does_nothing (p := revert tag) rfl h (run_revert_waits hno)

end Sys2Proof.Machine

namespace Sys2Proof.Machine

/-! ### Directory writes (R308, R310) -/

/-- The directory that an operation's verified write puts into P0. -/
def Dev.nextDirectory (d : Dev) (op : DirOp) : Directory :=
  { op.result d.p0 d.dirNow with seq := d.dirNow.seq + 1, dt := d.dt, wall := d.clock.wall, epoch := d.clock.epoch }

/-- The parcel with a directory in the page that does not hold the one in force (R308). -/
def Dev.otherPage (d : Dev) (y : Directory) : Parcel :=
  if d.p0.directory.isSome = true ∧ d.p0.dirA = some d.dirNow then { d.p0 with dirB := some y } else { d.p0 with dirA := some y }

/-- The block when the first of the waiting operations leaves the queue. -/
def Dev.opTaken (d : Dev) (rest : List DirOp) : Dev := d.apply (.cc { d.cc with ops := rest })

/-- The block when the first of the waiting operations has its directory in force. -/
def Dev.dirInForce (d : Dev) (op : DirOp) (rest : List DirOp) : Dev :=
  (d.apply (.p0 (d.otherPage (d.nextDirectory op)))).apply (.cc { d.cc with ops := rest, dir := some (d.nextDirectory op) })

theorem run_writeDirectory (d : Dev) (op : DirOp) : (writeDirectory op).run d =
    (seqs [slotRecords op d.dirNow (d.nextDirectory op), showDirectory]).run
      ((d.apply (.p0 (d.otherPage (d.nextDirectory op)))).apply (.cc { d.cc with dir := some (d.nextDirectory op) })) := by
  rw [writeDirectory, run_withDev]
  dsimp only
  rw [run_seqs_cons, run_seqs_cons, run_modP0, run_modCc, Dev.otherPage, Dev.nextDirectory]
  simp only [Bool.and_eq_true, beq_iff_eq]
  rfl

section
variable {d : Dev} {ok okA okB : Bool} {op : DirOp} {rest : List DirOp}

theorem run_directoryWriteDone_waits (h : d.cc.ops = [] ∨ d.writesUp = false) : (directoryWriteDone ok okA okB).run d = d := by
  rw [directoryWriteDone, run_withDev]
  split
  case h_1 => rfl
  case h_2 hops =>
    have hup : d.writesUp = false := h.resolve_left (hops ▸ List.cons_ne_nil _ _)
    rw [hup, run_when_false]

variable (hops : d.cc.ops = op :: rest) (hup : d.writesUp = true)
include hops hup

theorem run_directoryWriteDone_verified : (directoryWriteDone true okA okB).run d =
    (seqs [slotRecords op d.dirNow (d.nextDirectory op), showDirectory, dirWritten op okA okB]).run (d.dirInForce op rest) := by
  rw [directoryWriteDone, run_withDev, hops]
  dsimp only
  rw [hup, run_when_true, run_seqs_cons, run_seqs_cons, run_seqs_nil, if_pos rfl, run_seqs_cons, run_writeDirectory, run_modCc]
  simp only [run_seqs_cons]
  rfl

theorem run_directoryWriteDone_failed : (directoryWriteDone false okA okB).run d =
    (seqs [fireEvent CC 6 devScope [], dirFailed op]).run (d.opTaken rest) := by
  rw [directoryWriteDone, run_withDev, hops]
  dsimp only
  rw [hup, run_when_true, run_seqs_cons, run_seqs_cons, run_seqs_nil, if_neg Bool.false_ne_true, run_modCc, Dev.opTaken]

end

/-! ### What an operation writes (R310) -/

/-- A commit puts the staged slot on probation as Current, and the old Previous is the slot to stage next. -/
theorem committed_roles (x : Directory) : x.committed.cur = some x.stg ∧ x.committed.prev = x.cur ∧ x.committed.probation = true ∧
    x.committed.bootTries = 0 ∧ ∀ i, x.prev = some i → x.committed.stg = i := by
  unfold Directory.committed
  dsimp only
  split
  case h_1 p hp =>
    refine ⟨rfl, rfl, rfl, rfl, fun i hi => ?_⟩
    exact Option.some.inj (hp.symm.trans hi)
  case h_2 hp =>
    refine ⟨rfl, rfl, rfl, rfl, fun i hi => ?_⟩
    rw [hp] at hi
    cases hi

theorem reverted_roles (x : Directory) :
    x.reverted.cur = x.prev ∧ x.reverted.prev = x.cur ∧ x.reverted.bootTries = 0 := ⟨rfl, rfl, rfl⟩

/-! ### Probation (R314) -/

section
variable (d : Dev) (x : Timer) (t0 : Nat)

theorem expired_cc : (d.expired x t0).cc = d.cc := reach_cc d t0
theorem expired_dirNow : (d.expired x t0).dirNow = d.dirNow := dirNow_of_p0 (reach_p0 d t0)
theorem expired_prevOk (y : Directory) : (d.expired x t0).prevOk y = d.prevOk y := by rw [expired_eq]; rfl
theorem expired_probCounts : (d.expired x t0).probCounts = d.probCounts := by rw [expired_eq]; rfl

end

/-- The block whose probation window has run out. -/
def Dev.windowOver (d : Dev) : Dev := d.apply (.cc { d.cc with probLeft := 0 })

theorem run_probationEnd (d : Dev) :
    probationEnd.run d = (when (d.prevOk d.dirNow) (requestDir .autoRevert)).run d.windowOver := by
  rw [probationEnd, run_withDev, run_seqs_cons, run_seqs_cons, run_seqs_nil, run_modCc, Dev.windowOver]

theorem run_retryRevert (d : Dev) : retryRevert.run d = (when d.dirNow.probation
    (if d.probCounts = true then requestDir .autoRevert else startTimer .revertRetry 491520000)).run d := by
  rw [retryRevert, run_withDev, dtOfS, Nat.one_mul]

/-- Settles O41: the operation that waits longest leaves the queue with its directory in the other page, or without a trace in P0; both
timers of probation ask for the same automatic revert. -/
theorem directoryWritesEnd : Obligations.DirectoryWritesEnd := by
  unfold Obligations.DirectoryWritesEnd
  refine ⟨fun s ok okA okB op rest h hops hup => ⟨fun hok => ?verified, fun hok => ?failed⟩, fun s ok okA okB h hno => ?noWrite,
    fun s t0 h => ⟨fun ht => ?windowEnds, fun ht => ?retries, fun ht => ?noWindow, fun ht => ?noRetry⟩,
    fun p x op => ⟨fun hop => ?committed, fun hop => ?reverted, fun t l hop => ?cleared⟩⟩
  case verified =>
    subst hok
    exact does_of (p := directoryWriteDone true okA okB) rfl h _ (run_directoryWriteDone_verified hops hup) ⟨rfl, rfl, rfl⟩
  case failed =>
    subst hok
    exact does_of (p := directoryWriteDone false okA okB) rfl h _ (run_directoryWriteDone_failed hops hup) ⟨rfl, rfl, rfl⟩
  case noWrite => exact does_nothing (p := directoryWriteDone ok okA okB) rfl h (run_directoryWriteDone_waits hno)
  case windowEnds =>
    have hrun := (run_onExpiry_expired probationEnd ht).trans (run_probationEnd _)
    rw [expired_prevOk, expired_dirNow] at hrun
    refine does_of (p := onExpiry .probation probationEnd) rfl h _ hrun ⟨?_, expired_deadline s.dev .probation t0, rfl⟩
    calc ((s.dev.expired .probation t0).windowOver).cc = { (s.dev.expired .probation t0).cc with probLeft := 0 } := rfl
      _ = { s.dev.cc with probLeft := 0 } := by rw [expired_cc]
  case retries =>
    have hrun := (run_onExpiry_expired retryRevert ht).trans (run_retryRevert _)
    rw [expired_dirNow, expired_probCounts] at hrun
    exact does_of (p := onExpiry .revertRetry retryRevert) rfl h _ hrun ⟨expired_cc .., expired_deadline .., expired_clock ..⟩
  case noWindow => exact does_nothing (p := onExpiry .probation probationEnd) rfl h (run_onExpiry_none _ ht)
  case noRetry => exact does_nothing (p := onExpiry .revertRetry retryRevert) rfl h (run_onExpiry_none _ ht)
  case committed =>
    obtain rfl | ⟨t, rfl⟩ := hop
    · exact committed_roles x
    · exact committed_roles x
  case reverted =>
    obtain rfl | ⟨t, rfl⟩ | ⟨c, rfl⟩ := hop
    · exact reverted_roles x
    · exact reverted_roles x
    · exact reverted_roles x
  case cleared =>
    rw [hop, DirOp.result]

end Sys2Proof.Machine
